-- ==== Sys2Proof/Word.lean ====
section
/-! DEFINITION. The byte and the numbered names (bays, slots, labels, lanes) of the TD12 (00_scope section 6, R1). -/

namespace Sys2Proof

/-- One byte of a frame, a sector or a label band (R1). -/
abbrev Byte := BitVec 8

/-- One sector of user data, in byte order (R1: 2,048 bytes). -/
abbrev Sector := List Byte

/-- Bays B0 to B11 (R1). -/
abbrev BayId := Fin 12

/-- Job slots 0 to 7 (R1). -/
abbrev JobSlot := Fin 8

/-- Image slots 0 to 3 (R1). -/
abbrev ImageId := Fin 4

/-- Labels 0 to 7 (R1). -/
abbrev LabelId := Fin 8

/-- Verify lanes 0 to 3 (05_verification 5.1). -/
abbrev LaneId := Fin 4

/-- Setting numbers 0 to 16 (11_settings 11.1). -/
abbrev SettingId := Fin 17

end Sys2Proof
end

