-- ==== Sys2Proof/Vocab.lean ====
section
/-! DEFINITION. The vocabulary that the commands and the state share: media classes, completion kinds, drive facts, sensor readings. -/

namespace Sys2Proof

/-- Media class of a disc or an image (02 section 2.2). -/
inductive MediaClass where
  | l | m | h
  deriving DecidableEq, Repr

/-- The five kinds of a drive's completion (03 section 3.2). -/
inductive CompletionKind where
  | ok | mediaError | underrun | refused | notReady
  deriving DecidableEq, Repr

/-- What a drive reports with IDENTIFY OK (03 section 3.1). -/
structure DriveFacts where
  discPresent : Bool
  media : MediaClass
  capacity : Nat
  blank : Bool
  rates : List Nat
  suspendSupported : Bool
  deriving DecidableEq, Repr

/-- The two input spindles (00_scope section 5). -/
inductive SpindleId where
  | a | b
  deriving DecidableEq, Repr

/-- The two stations a finished disc is dropped at (00_scope section 5). -/
inductive BinId where
  | out | reject
  deriving DecidableEq, Repr

/-- Every level the part reads from its sensors and straps (00_scope section 4). -/
structure Readings where
  /-- the count the BAYS pin code names (R191) -/
  baysCode : Nat
  printerStrap : Bool
  /-- spindle-empty sensors: true reads empty (R110) -/
  emptyA : Bool
  emptyB : Bool
  /-- full sensors of OUT and REJECT (R110) -/
  outFull : Bool
  rejectFull : Bool
  doorOpen : Bool
  /-- pick sensor: true reads a disc on the arm (06 section 6.2, "disc held") -/
  pick : Bool
  /-- printer tray sensor: true reads a disc (R146, R149) -/
  tray : Bool
  /-- ribbon sensor: true reads out (R147) -/
  ribbonOut : Bool
  ribbonLow : Bool
  /-- last head temperature reading in whole degrees (R147) -/
  headReading : Int
  deriving DecidableEq, Repr

end Sys2Proof
end

