-- ==== Sys2Proof/Syntax.lean ====
section
/-! DEFINITION. The commands of the TD12: one constructor per row of spec/opcode_table.json. A request row carries the fields of its payload as they arrive (R174); an event row carries what the event itself brings. -/

namespace Sys2Proof

/-- The fields of a JOB CREATE payload as they arrive (R13, R174). -/
structure JobFields where
  number : BitVec 16
  imageSlot : Byte
  label : Byte
  printOrder : Byte
  verifyMode : Byte
  verifyStop : Byte
  spindle : Byte
  copies : BitVec 16
  rejectLimit : Byte
  deriving DecidableEq, Repr

/-- The ninety commands. -/
inductive Instr where
  /-- POWER_ON (R192): what the sensors and straps read, and what the flash holds -/
  | powerOn (readings : Readings) (flash : List Byte)
  | restartBegin
  | startupInventoryEnd
  | startupReady
  /-- STRAP_CHANGE (R191): the readings after the change -/
  | strapChange (baysCode : Nat) (printer : Bool)
  | portEnumerated
  | portConfigured
  /-- LINK_RESET (R176): a detach, or else a bus reset -/
  | linkReset (detach : Bool)
  /-- FRAME_RECEIVED (R166): the bytes of the whole OUT transfer -/
  | frameReceived (bytes : List Byte)
  | inboundTake
  | inTransferComplete
  | ident
  | restart (mode : Byte)
  | settingGet (number : Byte)
  /-- SETTING_SET (R189): pairs of setting number and signed value -/
  | settingSet (pairs : List (Byte × BitVec 32))
  | settingsSave
  /-- SETTINGS_WRITE_END (R190): what the flash reads back -/
  | settingsWriteEnd (readBack : List Byte)
  | statusGet
  | statusClear
  | flagForce (flags : Byte)
  | flagRelease (flags : Byte)
  | eventMask (mask : BitVec 16)
  | eventAck (events : BitVec 16)
  | countersGet
  | countersClear
  | imageOpen (slot : Byte) (media : Byte) (needResident : Byte) (size : BitVec 32)
  | imageData (slot : Byte) (count : Byte) (offset : BitVec 32) (data : List Byte)
  | passClose (slot : Byte) (pass : BitVec 16)
  | imageRewind (slot : Byte)
  | imageRelease (slot : Byte)
  | imageQuery (slot : Byte)
  | labelOpen (label : Byte) (darkness : Byte) (width : BitVec 16) (lines : BitVec 16)
  | labelData (label : Byte) (band : Byte) (data : List Byte)
  | labelDrop (label : Byte)
  | labelQuery (label : Byte)
  | jobCreate (fields : JobFields)
  | jobHold (number : BitVec 16)
  | jobRelease (number : BitVec 16)
  | jobCancel (number : BitVec 16)
  | jobRemove (number : BitVec 16)
  | jobQuery (number : BitVec 16)
  | discResults
  | bayQuery (bay : Byte)
  | bayOffline (bay : Byte)
  | bayOnline (bay : Byte)
  | armHome
  | printerResume
  | towerPause
  | towerResume
  | towerDrain
  | dispatchEvaluation
  | orphanCreationGrant
  /-- IDENTIFY_COMPLETE (R56): request number, kind, and the facts an OK carries -/
  | identifyComplete (bay : BayId) (number : Byte) (kind : CompletionKind) (facts : DriveFacts)
  | identifyRetryTimerExpiry (bay : BayId)
  /-- WRITE_COMPLETE (R60): request number, kind, and the drive buffer an OK reports -/
  | writeComplete (bay : BayId) (number : Byte) (kind : CompletionKind) (buffer : Nat)
  | reserveTimerExpiry (bay : BayId)
  | speedComplete (bay : BayId) (number : Byte) (kind : CompletionKind)
  | suspendComplete (bay : BayId) (number : Byte) (kind : CompletionKind)
  | resumeComplete (bay : BayId) (number : Byte) (kind : CompletionKind)
  | unsolicitedUnderrun (bay : BayId)
  | closeComplete (bay : BayId) (number : Byte) (kind : CompletionKind)
  /-- READ_COMPLETE (R97): request number, kind, and the chunk index and data an OK carries -/
  | readComplete (bay : BayId) (number : Byte) (kind : CompletionKind) (index : Nat) (data : List Byte)
  | verifyLaneTake
  | trayOpenComplete (bay : BayId) (number : Byte) (kind : CompletionKind)
  | trayCloseComplete (bay : BayId) (number : Byte) (kind : CompletionKind)
  /-- DEADLINE_EXPIRY (R67): of the bay's outstanding SUSPEND, or else of its other request -/
  | deadlineExpiry (bay : BayId) (ofSuspend : Bool)
  | admissionEvaluation
  | grantEvaluation
  /-- ARRIVAL (R116): whether the sensor of the station reads a disc there (R123, R146) -/
  | arrival (discSeen : Bool)
  | moveTimerExpiry
  /-- PICK_CONFIRMED (R117): whether the thickness sensor reads two discs (R124) -/
  | pickConfirmed (two : Bool)
  | discSet
  | prnTrayConfirmed
  | dropConfirmed
  /-- ACK_TIMER_EXPIRY (R119): whether the pick sensor reads a disc on the arm (R121, R122) -/
  | ackTimerExpiry (held : Bool)
  | swapSecondLegStart
  | holdTimerExpiry
  /-- STRIP_CODE_CHANGE (R128): the step count at the change and the new strip code -/
  | stripCodeChange (steps : Nat) (code : Nat)
  | bottomReferenceReached
  | doorOpen
  | doorClose
  | spindleSensorChange (spindle : SpindleId) (empty : Bool)
  | binFullSensorChange (bin : BinId) (full : Bool)
  | printerLinePeriod
  | headTemperatureReading (reading : Int)
  | ribbonSensorChange (out : Bool)
  | ribbonLowSensorChange (low : Bool)
  | noticeOffer
  | gapTimerExpiry
  /-- OVERSIZE_HEADER_RECEIVED (R166): the eight header bytes -/
  | oversizeHeaderReceived (header : List Byte)
  deriving DecidableEq, Repr

end Sys2Proof
end

