-- ==== Sys2Proof/Config.lean ====
section
/-! DEFINITION. What the spec fixes for the part: capacities, timeouts, the settings table and the kind codes. The spec leaves no value open, so there is no free value here. -/

namespace Sys2Proof.Config

/-- Disc records (01 section 1.1). -/
def discRecords : Nat := 16
/-- Completion list entries (R8). -/
def completionEntries : Nat := 64
/-- Entries one DISC RESULTS returns (R9). -/
def resultsPerRequest : Nat := 16
/-- Largest disc number (R3). -/
def maxDiscNumber : Nat := 4294967295
/-- Bytes of a sector (R1). -/
def sectorBytes : Nat := 2048
/-- Sectors of a chunk (02 section 2.3). -/
def chunkSectors : Nat := 32
/-- Largest image (02 section 2.2). -/
def maxImageSectors : Nat := 4173824
/-- Digest entries (R31). -/
def digestEntries : Nat := 262144
/-- Label blocks and their bytes (07 section 7.1). -/
def labelBlocks : Nat := 4096
def blockBytes : Nat := 512
/-- Lines of a full band (R136). -/
def bandLines : Nat := 64
/-- Largest frame payload (R165). -/
def maxPayload : Nat := 65548
/-- Move requests (R113). -/
def moveRequests : Nat := 32
/-- Inbound entries and outbound replies (R168, R169). -/
def queueFrames : Nat := 4
/-- Largest drive buffer (R60). -/
def maxDriveBuffer : Nat := 4096
/-- Largest lead (R79). -/
def maxLead : Nat := 65535
def max16 : Nat := 65535
def max32 : Nat := 4294967295
def max8 : Nat := 255

/-- Sectors per segment of a segment size (R26). -/
def segmentSectors (size : Nat) : Nat := if size = 0 then 512 else 1024
/-- Segments in staging memory of a segment size (R26). -/
def totalSegments (size : Nat) : Nat := if size = 0 then 2048 else 1024

/-- Times in milliseconds (R55, R116, R172, R185, R190). -/
def identifyRetry : Nat := 500
def moveTime : Nat := 12000
def restartDelay : Nat := 1000
def gapTime : Nat := 20
def saveTime : Nat := 300

/-- Head temperatures (R143, R144, R147). -/
def headHot : Int := 65
def headCool : Int := 60
def headMin : Int := -10
def headMax : Int := 100

/-- Setting numbers by name (11 section 11.1). -/
def sSegmentSize : SettingId := 0
def sWindowCap : SettingId := 1
def sFeedBudget : SettingId := 2
def sCritical : SettingId := 3
def sLow : SettingId := 4
def sRecovery : SettingId := 5
def sStepUp : SettingId := 6
def sReservePeriod : SettingId := 7
def sGrantAck : SettingId := 8
def sHold : SettingId := 9
def sRetries : SettingId := 10
def sRejectLimit : SettingId := 11
def sLinePeriod : SettingId := 12
def sStrobeBase : SettingId := 13
def sAlertMask : SettingId := 14
def sWarnMask : SettingId := 15
def sEventMask : SettingId := 16

/-- Lowest value of each setting (11 section 11.1). -/
def settingMin : Vector Int 17 :=
  #v[0, 8, 1000, 100, 100, 100, 1, 50, 500, 1000, 1, 1, 1, 32, 0, 0, 0]
/-- Highest value of each setting (11 section 11.1). -/
def settingMax : Vector Int 17 :=
  #v[1, 2048, 60000, 60000, 60000, 60000, 50, 2000, 30000, 60000, 7, 20, 8, 1000, 0x7FFF, 0x7FFF, 0xFFFF]
/-- Default of each setting (11 section 11.1). -/
def settingDefault : Vector Int 17 :=
  #v[0, 256, 24000, 500, 2000, 6000, 5, 250, 4000, 10000, 3, 3, 6, 400, 0x2475, 0x7FFF, 0x0000]

/-- Bytes of the stored settings record: seventeen 4-byte values and a CRC-16 (R188). -/
def recordBytes : Nat := 70

/-- The bay count a BAYS pin code reads as: one that names none of 4, 8, 12 reads as 4 (R191). -/
def bayCount (code : Nat) : Nat := if code = 8 then 8 else if code = 12 then 12 else 4

/-- Kind codes of the request catalogue (R174). -/
def kIdent : Byte := 0x01
def kRestart : Byte := 0x02
def kSettingGet : Byte := 0x10
def kSettingSet : Byte := 0x11
def kSettingsSave : Byte := 0x12
def kStatusGet : Byte := 0x20
def kStatusClear : Byte := 0x21
def kFlagForce : Byte := 0x22
def kFlagRelease : Byte := 0x23
def kEventMask : Byte := 0x24
def kEventAck : Byte := 0x25
def kCountersGet : Byte := 0x26
def kCountersClear : Byte := 0x27
def kImageOpen : Byte := 0x30
def kImageData : Byte := 0x31
def kPassClose : Byte := 0x32
def kImageRewind : Byte := 0x33
def kImageRelease : Byte := 0x34
def kImageQuery : Byte := 0x35
def kLabelOpen : Byte := 0x40
def kLabelData : Byte := 0x41
def kLabelDrop : Byte := 0x42
def kLabelQuery : Byte := 0x43
def kJobCreate : Byte := 0x50
def kJobHold : Byte := 0x51
def kJobRelease : Byte := 0x52
def kJobCancel : Byte := 0x53
def kJobRemove : Byte := 0x54
def kJobQuery : Byte := 0x55
def kDiscResults : Byte := 0x56
def kBayQuery : Byte := 0x60
def kBayOffline : Byte := 0x61
def kBayOnline : Byte := 0x62
def kArmHome : Byte := 0x70
def kPrinterResume : Byte := 0x71
def kTowerPause : Byte := 0x72
def kTowerResume : Byte := 0x73
def kTowerDrain : Byte := 0x74
/-- Frame types (R165). -/
def typeRequest : Byte := 0x01
def typeReply : Byte := 0x02
def typeNotice : Byte := 0x03
/-- Kind code of a NOTICE (R165). -/
def kNotice : Byte := 0x80

/-- The catalogue: kind code, bytes of the fixed part, whether a variable part follows (R174). -/
def catalogue : List (Byte × Nat × Bool) :=
  [(kIdent, 0, false), (kRestart, 1, false), (kSettingGet, 1, false), (kSettingSet, 1, true),
   (kSettingsSave, 0, false), (kStatusGet, 0, false), (kStatusClear, 0, false), (kFlagForce, 1, false),
   (kFlagRelease, 1, false), (kEventMask, 2, false), (kEventAck, 2, false), (kCountersGet, 0, false),
   (kCountersClear, 0, false), (kImageOpen, 7, false), (kImageData, 6, true), (kPassClose, 3, false),
   (kImageRewind, 1, false), (kImageRelease, 1, false), (kImageQuery, 1, false), (kLabelOpen, 6, false),
   (kLabelData, 2, true), (kLabelDrop, 1, false), (kLabelQuery, 1, false), (kJobCreate, 11, false),
   (kJobHold, 2, false), (kJobRelease, 2, false), (kJobCancel, 2, false), (kJobRemove, 2, false),
   (kJobQuery, 2, false), (kDiscResults, 0, false), (kBayQuery, 1, false), (kBayOffline, 1, false),
   (kBayOnline, 1, false), (kArmHome, 0, false), (kPrinterResume, 0, false), (kTowerPause, 0, false),
   (kTowerResume, 0, false), (kTowerDrain, 0, false)]

end Sys2Proof.Config
end

