-- ==== Sys2Proof/Machine/State.lean ====
section
/-! DEFINITION. The state of the TD12, block by block (00_scope section 3), and the machine right after reset. -/

namespace Sys2Proof.Machine

/-! ## Disc records and jobs (01_disc_records_and_jobs) -/

/-- A place where a disc can be (00_scope section 5). -/
inductive Station where
  | spindle (s : SpindleId)
  | bin (b : BinId)
  | prn
  | bay (b : BayId)
  | arm
  deriving DecidableEq, Repr

/-- Stage of a disc record (01 section 1.1). -/
inductive DiscStage where
  | queued | onArm | inBay | inPrinter | toOut
  deriving DecidableEq, Repr

/-- Reject reasons (01 section 1.1). -/
inductive RejectReason where
  | notBlank | wrongMedia | shortMedia | writeError | underrun | driveTimeout | verifyMismatch
  | verifySequence | printFault | cancelled | doublePick | handling | orphan
  deriving DecidableEq, Repr

/-- Disposition, with the reason that is present only when it is REJECT (R6). -/
inductive Disposition where
  | pending | good | reject (reason : RejectReason)
  deriving DecidableEq, Repr

/-- A disc record in use (01 section 1.1). -/
structure Disc where
  number : Nat
  job : Option JobSlot
  location : Station
  stage : DiscStage
  target : Option BayId
  media : Option MediaClass
  burned : Bool
  verified : Bool
  printed : Bool
  disposition : Disposition
  stepDowns : Nat
  suspends : Nat
  mismatches : Nat
  deriving DecidableEq, Repr

/-- An entry of the completion list (R7). -/
structure Completion where
  number : Nat
  jobNumber : Option Nat
  disposition : Disposition
  target : Option BayId
  media : Option MediaClass
  stepDowns : Nat
  suspends : Nat
  mismatches : Nat
  burned : Bool
  verified : Bool
  printed : Bool
  deriving DecidableEq, Repr

/-- Who waits for an orphan record (R2, R57, R130, R149). -/
inductive OrphanAt where
  | bay (b : BayId) | prn | arm
  deriving DecidableEq, Repr

/-- The Disc Table (01 sections 1.1 and 1.2). -/
structure DiscTable where
  records : List Disc
  counter : Nat
  orphanWait : List OrphanAt
  completions : List Completion
  dropped : Nat
  deriving DecidableEq, Repr

inductive PrintOrder where
  | printFirst | burnFirst
  deriving DecidableEq, Repr

inductive VerifyMode where
  | none | digest | full
  deriving DecidableEq, Repr

inductive VerifyStop where
  | first | all
  deriving DecidableEq, Repr

/-- The spindle field of a job (01 section 1.3). -/
inductive SpindleChoice where
  | a | b | any
  deriving DecidableEq, Repr

inductive HoldCause where
  | host | rejectLimit
  deriving DecidableEq, Repr

/-- Job states, the hold cause present only in HELD (R10). -/
inductive JobState where
  | active | filled | held (cause : HoldCause) | complete | cancelling | cancelled
  deriving DecidableEq, Repr

/-- A job record (01 section 1.3). -/
structure Job where
  number : Nat
  imageSlot : ImageId
  label : Option LabelId
  printOrder : Option PrintOrder
  verifyMode : VerifyMode
  verifyStop : VerifyStop
  spindle : SpindleChoice
  copies : Nat
  rejectLimit : Nat
  started : Nat
  good : Nat
  rejected : Nat
  inFlight : Nat
  consecRejects : Nat
  state : JobState
  deriving DecidableEq, Repr

/-- Run mode (R158). -/
inductive RunMode where
  | run | paused | draining
  deriving DecidableEq, Repr

/-- The Job Table and Dispatcher (01 section 1.3, 08 section 8.2). -/
structure JobTable where
  slots : Vector (Option Job) 8
  order : List JobSlot
  runMode : RunMode
  deriving DecidableEq, Repr

/-! ## Staging memory (02_image_slots_and_staging_memory) -/

/-- One segment of staging memory: the sectors it holds, in order (R26, R30). -/
abbrev Segment := List Sector

inductive ImageState where
  | filling | complete | awaitRewind
  deriving DecidableEq, Repr

/-- Residency, with the two fields that are STREAMING only (02 section 2.2, R44). -/
inductive Residency where
  | resident
  | streaming (cap : Nat) (passClose : Bool)
  deriving DecidableEq, Repr

inductive Gate where
  | opened | closed
  deriving DecidableEq, Repr

/-- The record of an image slot that is not CLOSED (02 section 2.2). -/
structure Image where
  state : ImageState
  size : Nat
  media : MediaClass
  residency : Residency
  fill : Nat
  base : Nat
  window : List Segment
  pass : Nat
  gate : Gate
  consumers : List BayId
  digests : List (Option (BitVec 32))
  acc : BitVec 32
  differing : Nat
  stageFullRefused : Bool
  deriving DecidableEq, Repr

/-- Staging Memory; a slot that is none is CLOSED (02 sections 2.1 to 2.3). -/
structure Staging where
  segmentSize : Nat
  freeSegments : Nat
  freeDigests : Nat
  slots : Vector (Option Image) 4
  deriving DecidableEq, Repr

/-! ## Bays and the Feed Governor (03_bay_sequencer, 04_feed_governor) -/

inductive BayState where
  | offline | empty | awaitDisc | ident | admitWait | burning | suspended | closing | verifyWait
  | verifying | awaitUnload | fault
  deriving DecidableEq, Repr

/-- A drive request other than SUSPEND, with what it carries (R49). -/
inductive DriveReq where
  | identify
  | write (start count : Nat) (data : List Byte)
  | speed (step : Nat)
  | resume
  | close
  | read (chunk : Nat)
  | trayOpen
  | trayClose
  deriving DecidableEq, Repr

/-- The outstanding request of a bay (03 section 3.1). -/
structure Outstanding where
  req : DriveReq
  number : Byte
  deadline : Nat
  deriving DecidableEq, Repr

/-- The outstanding SUSPEND of a bay (03 section 3.1). -/
structure OutSuspend where
  number : Byte
  deadline : Nat
  deriving DecidableEq, Repr

/-- What the Governor keeps for a bay from admission to the end of its burn (R75, R81). -/
structure Burn where
  step : Nat
  rate : Nat
  stable : Nat
  deriving DecidableEq, Repr

/-- Where an unload goes (R68). -/
inductive UnloadDest where
  | reject | prn | out
  deriving DecidableEq, Repr

/-- A bay record (03 section 3.1). -/
structure Bay where
  state : BayState
  disc : Option Nat
  job : Option JobSlot
  imageSlot : Option ImageId
  facts : Option DriveFacts
  cursor : Option Nat
  buffer : Option Nat
  burn : Option Burn
  /-- running until this time (R80) -/
  reserveTimer : Option Nat
  requestNumber : Byte
  out : Option Outstanding
  susp : Option OutSuspend
  /-- running until this time (R55) -/
  retryTimer : Option Nat
  /-- deadline of the first IDENTIFY of the disc (R55) -/
  identDeadline : Option Nat
  /-- the IDENT is a survey (R57, R162) -/
  survey : Bool
  timeouts : Nat
  handoverFailures : Nat
  offlineAfter : Bool
  dest : Option UnloadDest
  deriving DecidableEq, Repr

/-- An entry of the admission queue; `admitting` holds the offered step while the flag is set (R87). -/
structure AdmEntry where
  bay : BayId
  admitting : Option Nat
  deriving DecidableEq, Repr

/-- The Feed Governor; its settings stand in the working copy (04 section 4.1). -/
structure Governor where
  queue : List AdmEntry
  sum : Nat
  deriving DecidableEq, Repr

/-! ## Verification (05_verification) -/

/-- The record of a BUSY lane (05 section 5.1). -/
structure Lane where
  bay : BayId
  disc : Nat
  mode : VerifyMode
  stop : VerifyStop
  imageSlot : ImageId
  chunks : Nat
  next : Nat
  mismatches : Nat
  readOut : Bool
  deriving DecidableEq, Repr

/-- The Verify Engine; a lane that is none is FREE (05 sections 5.1 and 5.5). -/
structure VerifyEngine where
  lanes : Vector (Option Lane) 4
  queue : List BayId
  chunksVerified : Nat
  mismatched : Nat
  repeats : Nat
  deriving DecidableEq, Repr

/-! ## Transport arm (06_transport_arm) -/

inductive SpindleState where
  | ready | empty | jammed
  deriving DecidableEq, Repr

/-- Stages of homing (R130): the descent, the wait for an orphan record, the carriage to REJECT. -/
inductive HomingStage where
  | descent | awaitRecord | carry
  deriving DecidableEq, Repr

inductive ArmState where
  | unhomed | homing (stage : HomingStage) | idle | granted | carrying | held | stopped | fault
  deriving DecidableEq, Repr

inductive FaultCause where
  | position | moveTimeout | handling
  deriving DecidableEq, Repr

inductive Leg where
  | first | second
  deriving DecidableEq, Repr

/-- The step reached in the hand-over in progress (R116), with the retake of R121. -/
inductive HandStep where
  | arrived | trayReady | discMoved | retake
  deriving DecidableEq, Repr

/-- What the arm was doing when its request was interrupted (R129, R131, R132). -/
inductive Resume where
  | granted | carrying | held
  deriving DecidableEq, Repr

inductive MoveKind where
  | load | printIn | unload | swap | printOut | clear
  deriving DecidableEq, Repr

inductive Requester where
  | bay (b : BayId) | printer
  deriving DecidableEq, Repr

/-- The second leg of a SWAP (R112); `dest` is the bay until the leg is diverted. -/
structure SecondLeg where
  spindle : SpindleId
  bay : BayId
  disc : Nat
  dest : Station
  deriving DecidableEq, Repr

/-- A move request (R112). -/
structure MoveReq where
  kind : MoveKind
  requester : Requester
  source : Station
  dest : Station
  disc : Nat
  second : Option SecondLeg
  retries : Nat
  granted : Bool
  interrupted : Bool
  deriving DecidableEq, Repr

/-- The Transport Controller. The grant is the queue's request with its granted mark, the interrupted request the one with its interrupted mark; disc held, the door and the bins are read from the sensors (06 section 6.2). -/
structure Transport where
  arm : ArmState
  faultCause : Option FaultCause
  leg : Leg
  handover : Option HandStep
  resume : Option Resume
  /-- step count s and strip code q, set together (R128, R130) -/
  pos : Option (Nat × Nat)
  moveTimer : Option Nat
  ackTimer : Option Nat
  holdTimer : Option Nat
  homingPending : Bool
  forcedReleases : Nat
  queue : List MoveReq
  /-- moves asked for whose requester still has a request in the queue, oldest first (R113, log 9) -/
  waiting : List MoveReq
  spindleA : SpindleState
  spindleB : SpindleState
  deriving DecidableEq, Repr

/-! ## Label printer (07_label_printer) -/

inductive LabelState where
  | loading | ready
  deriving DecidableEq, Repr

/-- A present label record; a block is the bytes it holds (07 section 7.1). -/
structure Label where
  width : Nat
  lines : Nat
  darkness : Int
  state : LabelState
  nextBand : Nat
  blocks : List (List Byte)
  deriving DecidableEq, Repr

/-- Label memory; a label that is none is absent (R135). -/
structure LabelMemory where
  freeBlocks : Nat
  slots : Vector (Option Label) 8
  deriving DecidableEq, Repr

inductive PrinterState where
  | idle | printing | cooling | awaitRemove | fault
  deriving DecidableEq, Repr

/-- A print in progress (07 section 7.3): label, band, line, the band's line period and on-time. -/
structure Print where
  label : LabelId
  band : Nat
  line : Nat
  period : Option Nat
  onTime : Option Nat
  deriving DecidableEq, Repr

/-- The printer record (07 section 7.3), and the dots that the head strobed last (log 25). -/
structure Printer where
  state : PrinterState
  trayDisc : Option Nat
  trayMove : Bool
  print : Option Print
  clampOpen : Bool
  dots : List Bool
  deriving DecidableEq, Repr

/-! ## Status and Event Unit (10_status_flags_and_event_notices) -/

/-- The fifteen conditions (10 section 10.1). -/
inductive Cond where
  | armFault | doorOpen | bayFault | spindleEmpty | outputFull | rejectFull | printerFault
  | ribbonLow | headHot | reserveLow | underrun | verifyFail | handling | settingsBad | strapChange
  deriving DecidableEq, Repr

/-- The sixteen event kinds (10 section 10.3). -/
inductive Event where
  | discDone | jobDone | jobHeld | imageStaged | passEnd | stageSpace | reserveLow | underrun
  | bayFault | arm | door | spindle | printer | verifyFail | drained | settings
  deriving DecidableEq, Repr

/-- Status and Event Unit: condition sets and event sets by bit number (10 sections 10.1 to 10.3). `live` holds the live values of the current conditions, the captured RESERVE_LOW and the latched conditions. -/
structure StatusUnit where
  live : BitVec 15
  shadow : BitVec 15
  forcedAlert : Bool
  forcedWarn : Bool
  pending : BitVec 16
  gate : Gate
  gapTimer : Option Nat
  deriving DecidableEq, Repr

/-! ## Settings and start-up (11_settings_straps_and_start_up) -/

inductive Stage where
  | starting | inventory | homing | ready
  deriving DecidableEq, Repr

inductive RestartMode where
  | keep | reload
  deriving DecidableEq, Repr

/-- A SETTINGS SAVE in progress: the values being written and when the write ends (R190). -/
structure Saving where
  values : Vector Int 17
  ends : Nat
  deriving DecidableEq, Repr

/-- Settings and Start-up (11 sections 11.1 to 11.3). -/
structure Settings where
  working : Vector Int 17
  /-- the values in the stored record as last loaded or saved (R189) -/
  stored : Vector Int 17
  storedValid : Bool
  flash : List Byte
  saving : Option Saving
  /-- straps as sampled (R191) -/
  fittedBays : Nat
  printerFitted : Bool
  stage : Stage
  /-- the start-up waits for a flash write to end before it reads the flash (R190) -/
  waiting : Bool
  deriving DecidableEq, Repr

/-! ## Message link (09_message_link_and_request_catalogue) -/

/-- Result codes (R171). -/
inductive Result where
  | ok | clamped | busy | badKind | malformed | badField | noSuch | state | inUse | stageFull
  | outOfOrder | digestFull | labelSpace | needsResident | budgetInUse | notFitted | truncated
  | padded | digestDiffers
  deriving DecidableEq, Repr

/-- The IDENT reply's fields (R175). -/
structure IdentData where
  product : Nat
  revision : Nat
  fittedBays : Nat
  printerFitted : Bool
  baysNow : Nat
  printerNow : Bool
  stage : Stage
  segmentSize : Nat
  totalSegments : Nat
  labelBlocks : Nat
  digestEntries : Nat
  inboundCapacity : Nat
  linkResets : Nat
  deriving DecidableEq, Repr

/-- A BUSY lane in a COUNTERS GET reply (R107). -/
structure LaneReport where
  bay : BayId
  disc : Nat
  mode : VerifyMode
  stop : VerifyStop
  next : Nat
  chunks : Nat
  mismatches : Nat
  readOut : Bool
  deriving DecidableEq, Repr

/-- One setting of a SETTING GET reply; a stored value that is not valid is none (R189, R190). -/
structure SettingReport where
  number : SettingId
  working : Int
  stored : Option Int
  default : Int
  deriving DecidableEq, Repr

/-- The Transport Controller's part of a STATUS GET reply (R133). -/
structure TransportReport where
  arm : ArmState
  faultCause : Option FaultCause
  homingPending : Bool
  discHeld : Bool
  pos : Option (Nat × Nat)
  forcedReleases : Nat
  spindleA : SpindleState
  spindleB : SpindleState
  outFull : Bool
  rejectFull : Bool
  doorOpen : Bool
  /-- each request with its class (R114) -/
  queue : List (MoveReq × Nat)
  holdLeft : Option Nat
  deriving DecidableEq, Repr

/-- The STATUS GET reply's data (R182). -/
structure StatusReport where
  live : BitVec 15
  shadow : BitVec 15
  alertMask : BitVec 15
  warnMask : BitVec 15
  forcedAlert : Bool
  forcedWarn : Bool
  pending : BitVec 16
  eventMask : BitVec 16
  unmasked : BitVec 16
  gate : Gate
  gapLeft : Option Nat
  transport : TransportReport
  deriving DecidableEq, Repr

/-- The figures every IMAGE QUERY reply carries (R47). -/
structure StagingFigures where
  freeSegments : Nat
  totalSegments : Nat
  sizeInEffect : Nat
  sizeWorking : Int
  sizeStored : Option Int
  freeDigests : Nat
  deriving DecidableEq, Repr

/-- The slot's part of an IMAGE QUERY reply (R47). -/
structure ImageReport where
  state : ImageState
  size : Nat
  media : MediaClass
  residency : Residency
  fill : Nat
  base : Nat
  windowLength : Nat
  waste : Nat
  pass : Nat
  gate : Gate
  /-- each consumer bay with its cursor -/
  consumers : List (BayId × Option Nat)
  digestsAllocated : Nat
  digestsPresent : Nat
  differing : Nat
  stageFullRefused : Bool
  deriving DecidableEq, Repr

/-- A present label in a LABEL QUERY reply (R141). -/
structure LabelReport where
  label : LabelId
  width : Nat
  lines : Nat
  darkness : Int
  lineBytes : Nat
  bandCount : Nat
  state : LabelState
  nextBand : Nat
  blocks : Nat
  deriving DecidableEq, Repr

/-- The printer's part of a LABEL QUERY reply (R141). -/
structure PrinterReport where
  freeBlocks : Nat
  state : PrinterState
  /-- in FAULT, whether the ribbon and the head sensor still read bad -/
  bad : Option (Bool × Bool)
  trayDisc : Option Nat
  trayMove : Bool
  /-- during a print: label, band, lines printed, line period, on-time -/
  print : Option (LabelId × Nat × Nat × Option Nat × Option Nat)
  headTemp : Option Int
  ribbonOut : Bool
  ribbonLow : Bool
  deriving DecidableEq, Repr

/-- A disc in a JOB QUERY reply (R18). -/
structure DiscReport where
  number : Nat
  location : Station
  stage : DiscStage
  target : Option BayId
  media : Option MediaClass
  burned : Bool
  verified : Bool
  disposition : Disposition
  deriving DecidableEq, Repr

/-- A job in the all-jobs reply (R18). -/
structure JobSummary where
  number : Nat
  slot : JobSlot
  state : JobState
  copies : Nat
  started : Nat
  good : Nat
  rejected : Nat
  inFlight : Nat
  deriving DecidableEq, Repr

/-- One bay of a BAY QUERY reply (R73, R92). -/
structure BayReport where
  bay : BayId
  state : BayState
  disc : Option Nat
  job : Option JobSlot
  imageSlot : Option ImageId
  facts : Option DriveFacts
  cursor : Option Nat
  buffer : Option Nat
  step : Option Nat
  stepRate : Option Nat
  allocated : Option Nat
  stable : Option Nat
  out : Option (DriveReq × Nat)
  suspLeft : Option Nat
  timeouts : Nat
  handoverFailures : Nat
  offlineAfter : Bool
  dest : Option UnloadDest
  lead : Option Nat
  /-- in ADMIT_WAIT: the place in the admission queue, head 1, and the offered step while admitting -/
  place : Option Nat
  offered : Option Nat
  deriving DecidableEq, Repr

/-- Reply data after the result code and the summary byte, by request (R165, R170). -/
inductive ReplyData where
  | none
  | ident (d : IdentData)
  | settings (l : List SettingReport) (segmentSizeInEffect : Option Nat)
  | settingsHeld (l : List (SettingId × Int))
  | status (r : StatusReport)
  | cleared (latched : BitVec 15) (shadows : BitVec 15)
  | events (pending : BitVec 16)
  | counters (verified mismatched repeats : Nat)
  | verify (verified mismatched repeats : Nat) (lanes : List (Option LaneReport)) (queue : List BayId)
  | imageOpened (resident : Bool) (segments : Nat) (cap : Option Nat) (digests : Nat)
  | imageData (fill : Nat) (firstDiffering : Option Nat)
  | pass (number : Nat)
  | image (r : Option ImageReport) (f : StagingFigures)
  | labelOpened (width lines : Nat) (darkness : Int) (lineBytes bands reserved free : Nat)
  | labelSpace (needed free : Nat)
  | band (expected received next : Nat) (state : LabelState)
  | labels (l : List (LabelId × Option LabelReport)) (p : PrinterReport)
  | jobSlot (slot : JobSlot)
  | cancelled (deleted rejected inFlight : Nat)
  | job (slot : JobSlot) (j : Job) (discs : List DiscReport)
  | jobs (l : List JobSummary) (mode : RunMode) (freeRecords orphans waiting : Nat)
  | results (entries : List Completion) (dropped left : Nat)
  | bay (r : BayReport)
  | bays (l : List BayReport) (sum budget : Nat) (queue : List BayId)
  | bayState (s : BayState)
  | printerBad (ribbon head : Bool)
  | printerState (s : PrinterState)
  | runMode (m : RunMode)
  deriving DecidableEq, Repr

/-- An outbound frame (R165, R184). -/
inductive Frame where
  | reply (kind : Byte) (tag : BitVec 16) (result : Result) (alert warn : Bool) (data : ReplyData)
  | notice (pending unmasked : BitVec 16) (alert warn : Bool)
  deriving DecidableEq, Repr

/-- A complete request frame (R167). -/
structure Request where
  kind : Byte
  tag : BitVec 16
  payload : List Byte
  deriving DecidableEq, Repr

/-- An inbound entry (R166 to R168). -/
inductive Entry where
  | request (r : Request)
  | refused (kind : Byte) (tag : BitVec 16) (result : Result)
  deriving DecidableEq, Repr

/-- The request with its owning block; `discard` after a link reset (R170, R176). -/
structure Owned where
  request : Request
  discard : Bool
  deriving DecidableEq, Repr

inductive Port where
  | detached | attached | configured
  deriving DecidableEq, Repr

/-- An accepted RESTART that has not begun (R172): its mode, the end of its 1,000 ms, whether it is already due. -/
structure RestartWait where
  mode : RestartMode
  limit : Nat
  due : Bool
  deriving DecidableEq, Repr

/-- The Message Link (09 sections 9.1 to 9.6). -/
structure Link where
  port : Port
  /-- the partial-frame assembly, as far as the rows show it: the header of an oversize transfer whose rest is being discarded, else empty (R166, log 13) -/
  assembly : List Byte
  /-- the transfers that the host has waiting for an inbound entry, oldest first, no packet of them accepted (R168, log 13) -/
  waiting : List (List Byte)
  inbound : List Entry
  owner : Option Owned
  outbound : List Frame
  linkResets : Nat
  restart : Option RestartWait
  deriving DecidableEq, Repr

/-! ## The machine -/

/-- The whole part, with the model's clock and the queue of commands waiting. -/
structure State where
  link : Link
  jobs : JobTable
  discs : DiscTable
  staging : Staging
  bays : Vector Bay 12
  governor : Governor
  verify : VerifyEngine
  trans : Transport
  labels : LabelMemory
  printer : Option Printer
  status : StatusUnit
  settings : Settings
  sensors : Readings
  /-- one of R19's triggers, or R16's release of a HELD job, has been taken, and the Dispatcher's evaluation has not yet followed it (log 1) -/
  dispatchWanted : Bool
  /-- the model's clock, in ms -/
  now : Nat
  /-- commands waiting, first in first out -/
  pending : List Instr
  deriving DecidableEq, Repr

/-- Why a command would stop the machine: the spec names no such case, every event has its effect, so no command raises a fault. -/
inductive Fault where
  deriving DecidableEq, Repr

/-- Why a command would be refused. -/
inductive Refusal where
  /-- Raised by exec's arm of a command that has no meaning yet; safe: the machine stops where the part goes on. -/
  | notModelled (mnemonic : String)
  deriving DecidableEq, Repr

/-! ## After reset -/

/-- A bay record as R74 leaves it. -/
def Bay.afterReset : Bay :=
  { state := .offline, disc := none, job := none, imageSlot := none, facts := none, cursor := none,
    buffer := none, burn := none, reserveTimer := none, requestNumber := 0, out := none,
    susp := none, retryTimer := none, identDeadline := none, survey := false, timeouts := 0,
    handoverFailures := 0, offlineAfter := false, dest := none }

/-- The Job Table as R25 leaves it. -/
def JobTable.afterReset : JobTable :=
  { slots := .replicate 8 none, order := [], runMode := .run }

/-- The Disc Table as R25 leaves it. -/
def DiscTable.afterReset : DiscTable :=
  { records := [], counter := 1, orphanWait := [], completions := [], dropped := 0 }

/-- Staging Memory as R48 leaves it, for a segment size in effect. -/
def Staging.afterReset (segmentSize : Nat) : Staging :=
  { segmentSize, freeSegments := Config.totalSegments segmentSize,
    freeDigests := Config.digestEntries, slots := .replicate 4 none }

/-- The Feed Governor as R76 leaves it. -/
def Governor.afterReset : Governor := { queue := [], sum := 0 }

/-- The Verify Engine as R109 leaves it. -/
def VerifyEngine.afterReset : VerifyEngine :=
  { lanes := .replicate 4 none, queue := [], chunksVerified := 0, mismatched := 0, repeats := 0 }

/-- The Transport Controller as R134 leaves it, the spindles as their sensors give them. -/
def Transport.afterReset (spindleA spindleB : SpindleState) : Transport :=
  { arm := .unhomed, faultCause := none, leg := .first, handover := none, resume := none,
    pos := none, moveTimer := none, ackTimer := none, holdTimer := none, homingPending := false,
    forcedReleases := 0, queue := [], waiting := [], spindleA, spindleB }

/-- Label memory as R151 leaves it. -/
def LabelMemory.afterReset : LabelMemory :=
  { freeBlocks := Config.labelBlocks, slots := .replicate 8 none }

/-- A fitted printer as R151 leaves it: IDLE, or FAULT when a fault sensor reads bad. -/
def Printer.afterReset (state : PrinterState) : Printer :=
  { state, trayDisc := none, trayMove := false, print := none, clampOpen := false, dots := [] }

/-- Status and Event Unit as R187 leaves it, before its owners report. -/
def StatusUnit.afterReset : StatusUnit :=
  { live := 0, shadow := 0, forcedAlert := false, forcedWarn := false, pending := 0,
    gate := .opened, gapTimer := none }

/-- The Message Link as R177 leaves it. -/
def Link.afterReset (port : Port) : Link :=
  { port, assembly := [], waiting := [], inbound := [], owner := none, outbound := [],
    linkResets := 0, restart := none }

/-- The flash record of the default settings (log 5, log 12): seventeen 4-byte values and their CRC-16 (R188). -/
def defaultRecord : List Byte :=
  [0, 0, 0, 0, 0, 1, 0, 0, 0xC0, 0x5D, 0, 0, 0xF4, 0x01, 0, 0, 0xD0, 0x07, 0, 0, 0x70, 0x17, 0, 0,
   5, 0, 0, 0, 0xFA, 0, 0, 0, 0xA0, 0x0F, 0, 0, 0x10, 0x27, 0, 0, 3, 0, 0, 0, 3, 0, 0, 0, 6, 0, 0, 0,
   0x90, 0x01, 0, 0, 0x75, 0x24, 0, 0, 0xFF, 0x7F, 0, 0, 0, 0, 0, 0] ++ [0xDB, 0xF1]

/-- Sensor levels of State.reset, which the spec leaves to the tower (DESIGN CHOICE, log 5). -/
def readingsAtReset : Readings :=
  { baysCode := 12, printerStrap := true, emptyA := false, emptyB := false, outFull := false,
    rejectFull := false, doorOpen := false, pick := false, tray := false, ribbonOut := false,
    ribbonLow := false, headReading := 25 }

/-- The machine right after reset: every block at its after-reset values, start-up at STARTING (R192). -/
def State.reset : State :=
  { link := .afterReset .detached
    jobs := .afterReset
    discs := .afterReset
    staging := .afterReset 0
    bays := .replicate 12 .afterReset
    governor := .afterReset
    verify := .afterReset
    trans := .afterReset .ready .ready
    labels := .afterReset
    printer := some (.afterReset .idle)
    status := .afterReset
    settings :=
      { working := Config.settingDefault, stored := Config.settingDefault, storedValid := true,
        flash := defaultRecord, saving := none, fittedBays := 12, printerFitted := true,
        stage := .starting, waiting := false }
    sensors := readingsAtReset
    dispatchWanted := false
    now := 0
    pending := [] }

end Sys2Proof.Machine
end

