-- ==== Sys2Proof/Machine/Ops.lean ====
section
/-! DEFINITION. The named operations over the state: arithmetic, bytes and CRCs, the accessors of every block, conditions and events. -/

namespace Sys2Proof.Machine

/-- What taking a command answers. -/
abbrev Effect := Host.Outcome State Fault Refusal

/-! ## Arithmetic (R1) -/

/-- One more, stopping at the limit (R1, "Saturating counters"). -/
def satInc (limit n : Nat) : Nat := if n < limit then n + 1 else limit

/-- The quotient rounded up (R1). -/
def ceilDiv (a b : Nat) : Nat := (a + b - 1) / b

/-- A value brought into a range (R1, "Clamping"). -/
def clamp (lo hi v : Int) : Int := if v < lo then lo else if hi < v then hi else v

/-! ## Bytes and CRCs -/

/-- Little-endian value of bytes (R1, R174). -/
def fromLE : List Byte → Nat
  | [] => 0
  | b :: r => b.toNat + 256 * fromLE r

/-- The low `k` bytes of a value, little-endian (R1). -/
def toLE : Nat → Nat → List Byte
  | 0, _ => []
  | k + 1, v => BitVec.ofNat 8 v :: toLE k (v / 256)

/-- One bit of the reflected CRC-32 (R32). -/
def crcBit32 (c : BitVec 32) : BitVec 32 :=
  if c.getLsbD 0 then (c >>> 1) ^^^ 0xEDB88320#32 else c >>> 1

/-- One byte of the reflected CRC-32, least significant bit first (R32). -/
def crcByte32 (c : BitVec 32) (b : Byte) : BitVec 32 :=
  let x := c ^^^ b.setWidth 32
  crcBit32 (crcBit32 (crcBit32 (crcBit32 (crcBit32 (crcBit32 (crcBit32 (crcBit32 x)))))))

/-- The CRC register before the first byte of a chunk (R32). -/
def crcInit32 : BitVec 32 := 0xFFFFFFFF#32

/-- The CRC register after bytes (R32). -/
def crcBytes32 (c : BitVec 32) (data : List Byte) : BitVec 32 := data.foldl crcByte32 c

/-- The digest of a chunk's bytes (R32). -/
def digestOf (data : List Byte) : BitVec 32 := ~~~ crcBytes32 crcInit32 data

/-- One bit of the settings record's CRC-16 (R188). -/
def crcBit16 (c : BitVec 16) : BitVec 16 :=
  if c.getLsbD 15 then (c <<< 1) ^^^ 0x1021#16 else c <<< 1

/-- One byte of the settings record's CRC-16 (R188). -/
def crcByte16 (c : BitVec 16) (b : Byte) : BitVec 16 :=
  let x := c ^^^ (b.setWidth 16 <<< 8)
  crcBit16 (crcBit16 (crcBit16 (crcBit16 (crcBit16 (crcBit16 (crcBit16 (crcBit16 x)))))))

/-- The settings record's CRC-16 (R188). -/
def crc16 (data : List Byte) : BitVec 16 := data.foldl crcByte16 0xFFFF#16

/-! ## Accessors -/

def State.bay (s : State) (b : BayId) : Bay := s.bays[b.val]
def State.setBay (s : State) (b : BayId) (r : Bay) : State := { s with bays := s.bays.set b.val r }
def State.modBay (s : State) (b : BayId) (f : Bay → Bay) : State := s.setBay b (f (s.bay b))

def State.job (s : State) (j : JobSlot) : Option Job := s.jobs.slots[j.val]
def State.setJob (s : State) (j : JobSlot) (r : Option Job) : State :=
  { s with jobs := { s.jobs with slots := s.jobs.slots.set j.val r } }

def State.image (s : State) (i : ImageId) : Option Image := s.staging.slots[i.val]
def State.setImage (s : State) (i : ImageId) (r : Option Image) : State :=
  { s with staging := { s.staging with slots := s.staging.slots.set i.val r } }

def State.label (s : State) (l : LabelId) : Option Label := s.labels.slots[l.val]
def State.setLabel (s : State) (l : LabelId) (r : Option Label) : State :=
  { s with labels := { s.labels with slots := s.labels.slots.set l.val r } }

def State.lane (s : State) (l : LaneId) : Option Lane := s.verify.lanes[l.val]
def State.setLane (s : State) (l : LaneId) (r : Option Lane) : State :=
  { s with verify := { s.verify with lanes := s.verify.lanes.set l.val r } }

/-- The record in use with a disc number. -/
def State.disc (s : State) (n : Nat) : Option Disc := s.discs.records.find? (·.number == n)

/-- A change of one disc record; a number with no record in use changes nothing (R5). -/
def State.modDisc (s : State) (n : Nat) (f : Disc → Disc) : State :=
  { s with discs := { s.discs with
      records := s.discs.records.map fun d => if d.number == n then f d else d } }

/-- The working value of a setting (11 section 11.1). -/
def State.setting (s : State) (n : SettingId) : Int := s.settings.working[n.val]
/-- The working value of a setting that is a count or a time. -/
def State.settingNat (s : State) (n : SettingId) : Nat := (s.setting n).toNat

/-- A bay that exists (00_scope section 5). -/
def State.fitted (s : State) (b : BayId) : Bool := b.val < s.settings.fittedBays

/-- The start-up stage is READY (R192). -/
def State.ready (s : State) : Bool := s.settings.stage == .ready

/-- The head temperature T: the last reading, absent when out of range (R147). -/
def headTemp (r : Readings) : Option Int :=
  if Config.headMin ≤ r.headReading ∧ r.headReading ≤ Config.headMax then some r.headReading
  else none

/-- The printer's fault condition: ribbon out, or the head sensor out of range (R147). -/
def printerBad (r : Readings) : Bool := r.ribbonOut || (headTemp r).isNone

def State.spindle (s : State) : SpindleId → SpindleState
  | .a => s.trans.spindleA
  | .b => s.trans.spindleB

/-- What the full sensor of a bin reads: the bin is FULL or READY by it (R110). -/
def State.binFull (s : State) : BinId → Bool
  | .out => s.sensors.outFull
  | .reject => s.sensors.rejectFull

/-- Milliseconds left to a time on the model's clock. -/
def State.left (s : State) (t : Nat) : Nat := t - s.now

/-- Sectors per segment of the size in effect (R26). -/
def State.segSectors (s : State) : Nat := Config.segmentSectors s.staging.segmentSize

/-! ## Conditions and events (R178, R183) -/

/-- Condition numbers (10 section 10.1). -/
def Cond.bit : Cond → Nat
  | .armFault => 0 | .doorOpen => 1 | .bayFault => 2 | .spindleEmpty => 3 | .outputFull => 4
  | .rejectFull => 5 | .printerFault => 6 | .ribbonLow => 7 | .headHot => 8 | .reserveLow => 9
  | .underrun => 10 | .verifyFail => 11 | .handling => 12 | .settingsBad => 13
  | .strapChange => 14

/-- Event numbers (10 section 10.3). -/
def Event.bit : Event → Nat
  | .discDone => 0 | .jobDone => 1 | .jobHeld => 2 | .imageStaged => 3 | .passEnd => 4
  | .stageSpace => 5 | .reserveLow => 6 | .underrun => 7 | .bayFault => 8 | .arm => 9
  | .door => 10 | .spindle => 11 | .printer => 12 | .verifyFail => 13 | .drained => 14
  | .settings => 15

/-- One bit of a condition set, put to a value. -/
def putBit {w : Nat} (v : BitVec w) (n : Nat) (b : Bool) : BitVec w :=
  if b then v ||| (1#w <<< n) else v &&& ~~~ (1#w <<< n)

/-- The ten conditions that have a latched shadow, and the five latched ones (10 section 10.1). -/
def shadowConds : BitVec 15 := 0x03FF#15
def latchedConds : BitVec 15 := 0x7C00#15
/-- The nine current conditions (10 section 10.1). -/
def currentConds : BitVec 15 := 0x01FF#15

/-- A condition is live: its reported, captured or latched value (R181). -/
def State.cond (s : State) (c : Cond) : Bool := s.status.live.getLsbD c.bit

/-- An owner reports a current condition, or the Governor sets RESERVE_LOW: the live value, and the shadow when it becomes true (R178, R180). -/
def State.report (s : State) (c : Cond) (v : Bool) : State :=
  { s with status := { s.status with
      live := putBit s.status.live c.bit v
      shadow := if v then putBit s.status.shadow c.bit true else s.status.shadow } }

/-- An owner latches a latched condition (R178). -/
def State.latch (s : State) (c : Cond) : State :=
  { s with status := { s.status with live := putBit s.status.live c.bit true } }

/-- An event kind joins the pending set (R183). -/
def State.raise (s : State) (e : Event) : State :=
  { s with status := { s.status with pending := putBit s.status.pending e.bit true } }

/-- An input spindle takes a state: a change raises SPINDLE and reports SPINDLE_EMPTY (R110). -/
def State.setSpindle (s : State) (i : SpindleId) (st : SpindleState) : State :=
  if s.spindle i = st then s
  else
    let trans : Transport := match i with
      | .a => { s.trans with spindleA := st }
      | .b => { s.trans with spindleB := st }
    ({ s with trans }.raise .spindle).report .spindleEmpty
      (trans.spindleA != SpindleState.ready || trans.spindleB != SpindleState.ready)

end Sys2Proof.Machine
end

