-- ==== Sys2Proof/Machine/Operands.lean ====
section
/-! DEFINITION. Frames and payloads: how a transfer is judged, how a request's fields are laid out, what its enumerated fields name (R166, R167, R174). -/

namespace Sys2Proof.Machine

/-! ## Fields (R174) -/

def byteAt (p : List Byte) (i : Nat) : Byte := p.getD i 0
def halfAt (p : List Byte) (i : Nat) : BitVec 16 := BitVec.ofNat 16 (fromLE ((p.drop i).take 2))
def wordAt (p : List Byte) (i : Nat) : BitVec 32 := BitVec.ofNat 32 (fromLE ((p.drop i).take 4))

/-- The pairs of a SETTING SET: number and signed value (R174). -/
def pairsOf : Nat → List Byte → List (Byte × BitVec 32)
  | 0, _ => []
  | n + 1, p => (byteAt p 0, wordAt p 1) :: pairsOf n (p.drop 5)

/-- The fields of JOB CREATE (R174). -/
def jobFieldsOf (p : List Byte) : JobFields :=
  { number := halfAt p 0, imageSlot := byteAt p 2, label := byteAt p 3, printOrder := byteAt p 4,
    verifyMode := byteAt p 5, verifyStop := byteAt p 6, spindle := byteAt p 7,
    copies := halfAt p 8, rejectLimit := byteAt p 10 }

/-- The command that a request hands to its owner, by its kind code (R174). -/
def Request.command (r : Request) : Option Instr :=
  let p := r.payload
  match r.kind.toNat with
  | 0x01 => some .ident
  | 0x02 => some (.restart (byteAt p 0))
  | 0x10 => some (.settingGet (byteAt p 0))
  | 0x11 => some (.settingSet (pairsOf (byteAt p 0).toNat (p.drop 1)))
  | 0x12 => some .settingsSave
  | 0x20 => some .statusGet
  | 0x21 => some .statusClear
  | 0x22 => some (.flagForce (byteAt p 0))
  | 0x23 => some (.flagRelease (byteAt p 0))
  | 0x24 => some (.eventMask (halfAt p 0))
  | 0x25 => some (.eventAck (halfAt p 0))
  | 0x26 => some .countersGet
  | 0x27 => some .countersClear
  | 0x30 => some (.imageOpen (byteAt p 0) (byteAt p 1) (byteAt p 2) (wordAt p 3))
  | 0x31 => some (.imageData (byteAt p 0) (byteAt p 1) (wordAt p 2) (p.drop 6))
  | 0x32 => some (.passClose (byteAt p 0) (halfAt p 1))
  | 0x33 => some (.imageRewind (byteAt p 0))
  | 0x34 => some (.imageRelease (byteAt p 0))
  | 0x35 => some (.imageQuery (byteAt p 0))
  | 0x40 => some (.labelOpen (byteAt p 0) (byteAt p 1) (halfAt p 2) (halfAt p 4))
  | 0x41 => some (.labelData (byteAt p 0) (byteAt p 1) (p.drop 2))
  | 0x42 => some (.labelDrop (byteAt p 0))
  | 0x43 => some (.labelQuery (byteAt p 0))
  | 0x50 => some (.jobCreate (jobFieldsOf p))
  | 0x51 => some (.jobHold (halfAt p 0))
  | 0x52 => some (.jobRelease (halfAt p 0))
  | 0x53 => some (.jobCancel (halfAt p 0))
  | 0x54 => some (.jobRemove (halfAt p 0))
  | 0x55 => some (.jobQuery (halfAt p 0))
  | 0x56 => some .discResults
  | 0x60 => some (.bayQuery (byteAt p 0))
  | 0x61 => some (.bayOffline (byteAt p 0))
  | 0x62 => some (.bayOnline (byteAt p 0))
  | 0x70 => some .armHome
  | 0x71 => some .printerResume
  | 0x72 => some .towerPause
  | 0x73 => some .towerResume
  | 0x74 => some .towerDrain
  | _ => none

/-! ## Judging a transfer (R166, R167) -/

/-- The fixed bytes of a kind and whether a variable part follows, if the catalogue has it (R174). -/
def catalogueEntry (kind : Byte) : Option (Nat × Bool) :=
  (Config.catalogue.find? fun e => e.1 == kind).map (·.2)

/-- A payload's length is what the catalogue gives its kind (R167). -/
def lengthFits (kind : Byte) (fixed : Nat) (variable_ : Bool) (p : List Byte) : Bool :=
  if kind = Config.kSettingSet then 1 ≤ p.length && p.length == 1 + 5 * (byteAt p 0).toNat
  else fixed ≤ p.length && (variable_ || p.length == fixed)

/-- A complete frame is checked against the catalogue (R167). -/
def checkFrame (kind : Byte) (tag : BitVec 16) (p : List Byte) : Entry :=
  match catalogueEntry kind with
  | none => .refused kind tag .badKind
  | some (fixed, variable_) =>
    if lengthFits kind fixed variable_ p then .request { kind, tag, payload := p }
    else .refused kind tag .malformed

/-- The refused entry of a MALFORMED transfer: tag 0 when fewer than 4 bytes arrived (R166). -/
def malformed (t : List Byte) : Entry :=
  .refused (byteAt t 0) (if t.length < 4 then 0 else halfAt t 2) .malformed

/-- A transfer is judged; none: it is ignored (R166). -/
def judge (t : List Byte) : Option Entry :=
  if t = [] then none
  else if t.length < 8 then some (malformed t)
  else
    let len := (wordAt t 4).toNat
    if Config.maxPayload < len then some (malformed t)
    else if byteAt t 1 ≠ Config.typeRequest then some (malformed t)
    else if t.length ≠ 8 + len then some (malformed t)
    else some (checkFrame (byteAt t 0) (halfAt t 2) (t.drop 8))

/-- An eight-byte header whose payload length is above the limit (R166). -/
def oversizeHeader (h : List Byte) : Bool :=
  8 ≤ h.length && Config.maxPayload < (wordAt h 4).toNat

/-- Free entries let the transfers that wait be judged, oldest first (R168). -/
def Link.refill (l : Link) : Link :=
  let free := Config.queueFrames - l.inbound.length
  { l with inbound := l.inbound ++ (l.waiting.take free).filterMap judge, waiting := l.waiting.drop free }

/-- The OUT pipe accepts packets: an entry is free, and no earlier transfer waits for it (R168). -/
def Link.accepts (l : Link) : Bool := l.inbound.length < Config.queueFrames && l.waiting == []

/-- A transfer is judged and takes an entry, or waits while the queue is full (R166, R168, log 13). -/
def Link.enter (l : Link) (t : List Byte) : Link :=
  match judge t with
  | none => l
  | some e =>
    if l.accepts then { l with inbound := l.inbound ++ [e] } else { l with waiting := l.waiting ++ [t] }

/-- An OUT transfer has ended; one that was judged at its byte 7 has its entry already (R166, log 13). -/
def Link.receive (l : Link) (t : List Byte) : Link :=
  { (if l.assembly = t.take 8 ∧ oversizeHeader t = true then l.refill else l.refill.enter t) with assembly := [] }

/-- Byte 7 of an OUT transfer has arrived with an oversize header: it is judged at once, and the rest is discarded (R166). With a full queue the pipe accepts no such byte, and nothing happens (log 13). -/
def Link.oversize (l : Link) (header : List Byte) : Link :=
  if l.refill.accepts then { l.refill.enter header with assembly := header.take 8 } else l.refill

/-! ## Numbers and enumerated fields (R174) -/

/-- A field that numbers one of `n` things, from 0. -/
def finOf (n : Nat) (v : Byte) : Option (Fin n) := if h : v.toNat < n then some ⟨v.toNat, h⟩ else none

def MediaClass.ofByte (v : Byte) : Option MediaClass :=
  if v = 0 then some .l else if v = 1 then some .m else if v = 2 then some .h else none

def PrintOrder.ofByte (v : Byte) : Option PrintOrder :=
  if v = 0 then some .printFirst else if v = 1 then some .burnFirst else none

def VerifyMode.ofByte (v : Byte) : Option VerifyMode :=
  if v = 0 then some .none else if v = 1 then some .digest else if v = 2 then some .full else Option.none

def VerifyStop.ofByte (v : Byte) : Option VerifyStop :=
  if v = 0 then some .first else if v = 1 then some .all else none

def SpindleChoice.ofByte (v : Byte) : Option SpindleChoice :=
  if v = 0 then some .a else if v = 1 then some .b else if v = 2 then some .any else none

def RestartMode.ofByte (v : Byte) : Option RestartMode :=
  if v = 0 then some .keep else if v = 1 then some .reload else none

/-- A field with the values no and yes. -/
def yesNo (v : Byte) : Option Bool := if v = 0 then some false else if v = 1 then some true else none

/-- The flags of FLAG FORCE and FLAG RELEASE: ALERT, WARN, BOTH (R174, R181). -/
def flagsOf (v : Byte) : Option (Bool × Bool) :=
  if v = 0 then some (true, false) else if v = 1 then some (false, true)
  else if v = 2 then some (true, true) else none

/-- A label field where 255 says no label: none when it is not a value of the field (R13, R174). -/
def labelField (v : Byte) : Option (Option LabelId) :=
  if v = 255 then some none else (finOf 8 v).map some

end Sys2Proof.Machine
end

