-- ==== Sys2Proof/Machine/Flags.lean ====
section
/-! DEFINITION. The summary flags ALERT and WARN, the reply they travel in, and the NOTICE test (R165, R170, R180, R181, R184). -/

namespace Sys2Proof.Machine

def State.alertMask (s : State) : BitVec 15 := BitVec.ofInt 15 (s.setting Config.sAlertMask)
def State.warnMask (s : State) : BitVec 15 := BitVec.ofInt 15 (s.setting Config.sWarnMask)
def State.eventMask (s : State) : BitVec 16 := BitVec.ofInt 16 (s.setting Config.sEventMask)

/-- ALERT: forced, or a condition of the alert mask is live (R181). -/
def State.alert (s : State) : Bool :=
  s.status.forcedAlert || (s.status.live &&& s.alertMask) != 0

/-- The conditions held in their latched shadow; a latched one is its own (R181). -/
def State.shadows (s : State) : BitVec 15 :=
  (s.status.shadow &&& shadowConds) ||| (s.status.live &&& latchedConds)

/-- WARN: forced, or a condition of the warn mask is held in its shadow (R181). -/
def State.warn (s : State) : Bool :=
  s.status.forcedWarn || (s.shadows &&& s.warnMask) != 0

/-- The summary byte (R165): bit 0 ALERT, bit 1 WARN. -/
def summaryByte (alert warn : Bool) : Byte :=
  BitVec.ofNat 8 ((if alert then 1 else 0) + (if warn then 2 else 0))

/-- Forming a reply clears the captured RESERVE_LOW after the summary byte (R180). -/
def State.clearCaptured (s : State) : State := s.report .reserveLow false

/-- A reply frame as the summary flags stand (R165, R181). -/
def State.replyFrame (s : State) (kind : Byte) (tag : BitVec 16) (result : Result) (data : ReplyData) : Frame :=
  .reply kind tag result s.alert s.warn data

/-- A frame joins the tail of the outbound queue (R169). -/
def Link.place (l : Link) (f : Frame) : Link := { l with outbound := l.outbound ++ [f] }

/-- The entry at the head of the inbound queue is freed, and a waiting transfer takes its place (R168, R170). -/
def Link.freeEntry (l : Link) : Link := { l with inbound := l.inbound.tail }.refill

/-- The link after an owner's answer: the request's entry is freed and its reply placed; after a link reset the reply is discarded (R170, R176).
A request row with no request of its kind at an owner answers with tag 0 (log 6). -/
def Link.answered (l : Link) (kind : Byte) (reply : BitVec 16 → Frame) : Link :=
  match l.owner with
  | some o =>
    if o.request.kind = kind then
      if o.discard then { l with owner := none }
      else ({ l with owner := none }.place (reply o.request.tag)).freeEntry
    else l.place (reply 0)
  | none => l.place (reply 0)

/-- A reply is formed and placed (R165, R170, R180): its summary byte from the conditions as they stand, then RESERVE_LOW is cleared. -/
def State.answer (s : State) (kind : Byte) (result : Result) (data : ReplyData) : State :=
  { s.clearCaptured with link := s.link.answered kind fun tag => s.replyFrame kind tag result data }

/-- A refusal's reply: a result code and no data (R171). -/
def State.refuse (s : State) (kind : Byte) (result : Result) : State := s.answer kind result .none

/-- The reply that `answer` would place is discarded when formed (R176). -/
def State.replyDiscarded (s : State) (kind : Byte) : Bool :=
  match s.link.owner with
  | some o => o.request.kind == kind && o.discard
  | none => false

/-- The pending kinds that are not masked (R184). -/
def State.unmasked (s : State) : BitVec 16 := s.status.pending &&& ~~~ s.eventMask

def Frame.isNotice : Frame → Bool
  | .notice _ _ _ _ => true
  | .reply _ _ _ _ _ _ => false

/-- A NOTICE is due (R184). -/
def State.noticeDue (s : State) : Bool :=
  s.unmasked != 0 && s.status.gate == .opened && s.status.gapTimer.isNone
    && !(s.link.outbound.any Frame.isNotice)

/-- Replies in the outbound queue (R169, R170). -/
def State.replies (s : State) : Nat := s.link.outbound.countP (fun f => !f.isNotice)

/-- Codes of the results (R171). -/
def Result.code : Result → Byte
  | .ok => 0x00 | .clamped => 0x01 | .busy => 0x02 | .badKind => 0x03 | .malformed => 0x04
  | .badField => 0x05 | .noSuch => 0x06 | .state => 0x07 | .inUse => 0x08 | .stageFull => 0x09
  | .outOfOrder => 0x0A | .digestFull => 0x0B | .labelSpace => 0x0C | .needsResident => 0x0D
  | .budgetInUse => 0x0E | .notFitted => 0x0F | .truncated => 0x10 | .padded => 0x11
  | .digestDiffers => 0x12

/-- The 8-byte header of a frame (R165). -/
def header (kind type : Byte) (tag : BitVec 16) (length : Nat) : List Byte :=
  [kind, type] ++ toLE 2 tag.toNat ++ toLE 4 length

/-- The start-up stage as IDENT codes it (R175). -/
def Stage.code : Stage → Nat
  | .starting => 0 | .inventory => 1 | .homing => 2 | .ready => 3

/-- The bytes of IDENT's reply data (R175). -/
def IdentData.bytes (d : IdentData) : List Byte :=
  toLE 2 d.product ++ toLE 1 d.revision ++ toLE 1 d.fittedBays ++
  toLE 1 (if d.printerFitted then 1 else 0) ++ toLE 1 d.baysNow ++
  toLE 1 (if d.printerNow then 1 else 0) ++ toLE 1 d.stage.code ++ toLE 1 d.segmentSize ++
  toLE 2 d.totalSegments ++ toLE 2 d.labelBlocks ++ toLE 4 d.digestEntries ++
  toLE 1 d.inboundCapacity ++ toLE 2 d.linkResets

/-- A frame's bytes on the IN pipe where the spec lays all of them out: a NOTICE, and a reply with no data or IDENT's (R165, R175, R184). -/
def Frame.bytes : Frame → Option (List Byte)
  | .notice pending unmasked alert warn =>
    some (header Config.kNotice Config.typeNotice 0 5 ++
      toLE 2 pending.toNat ++ toLE 2 unmasked.toNat ++ [summaryByte alert warn])
  | .reply kind tag result alert warn .none =>
    some (header kind Config.typeReply tag 2 ++ [result.code, summaryByte alert warn])
  | .reply kind tag result alert warn (.ident d) =>
    some (header kind Config.typeReply tag (2 + d.bytes.length) ++
      [result.code, summaryByte alert warn] ++ d.bytes)
  | .reply _ _ _ _ _ _ => none

end Sys2Proof.Machine
end

