-- ==== Sys2Proof/Machine/Discs.lean ====
section
/-! DEFINITION. The Disc Table and the Job Table's counting: disc numbers, records, dispositions, retirement, the completion list (R2 to R12, R22, R157, R159). -/

namespace Sys2Proof.Machine

/-! ## Disc numbers and records -/

/-- The counter's next value (R3). -/
def nextNumber (n : Nat) : Nat := if n < Config.maxDiscNumber then n + 1 else 1

/-- A number that names a record in use or a completion entry (R3). -/
def DiscTable.taken (t : DiscTable) (n : Nat) : Bool :=
  t.records.any (·.number == n) || t.completions.any (·.number == n)

/-- The first number not taken, from one on; at most the taken numbers are passed over (R3). -/
def DiscTable.firstFree (t : DiscTable) : Nat → Nat → Nat
  | 0, n => n
  | k + 1, n => if t.taken n then t.firstFree k (nextNumber n) else n

/-- The number a creation takes (R3). -/
def DiscTable.newNumber (t : DiscTable) : Nat :=
  t.firstFree (t.records.length + t.completions.length) t.counter

/-- Free disc records (01 section 1.1). -/
def DiscTable.free (t : DiscTable) : Nat := Config.discRecords - t.records.length

/-- A record joins the table in order of creation, and the counter advances past its number (R2, R3). -/
def DiscTable.create (t : DiscTable) (d : Disc) : DiscTable :=
  { t with records := t.records ++ [d], counter := nextNumber d.number }

/-- A dispatch record (R2). -/
def Disc.dispatched (n : Nat) (j : JobSlot) (at_ : SpindleId) (target : BayId) : Disc :=
  { number := n, job := some j, location := .spindle at_, stage := .queued, target := some target,
    media := none, burned := false, verified := false, printed := false, disposition := .pending,
    stepDowns := 0, suspends := 0, mismatches := 0 }

/-- An orphan record (R2). -/
def Disc.orphan (n : Nat) (at_ : Station) : Disc :=
  { number := n, job := none, location := at_, stage := .toOut, target := none, media := none,
    burned := false, verified := false, printed := false, disposition := .reject .orphan,
    stepDowns := 0, suspends := 0, mismatches := 0 }

def OrphanAt.station : OrphanAt → Station
  | .bay b => .bay b
  | .prn => .prn
  | .arm => .arm

/-- A block asks for an orphan record: the record's number, or none while the creation waits (R2). -/
def State.askOrphan (s : State) (w : OrphanAt) : State × Option Nat :=
  if s.discs.free = 0 ∨ s.discs.orphanWait ≠ [] then
    ({ s with discs := { s.discs with orphanWait := s.discs.orphanWait ++ [w] } }, none)
  else
    let n := s.discs.newNumber
    ({ s with discs := s.discs.create (.orphan n w.station) }, some n)

/-! ## Dispositions and fields (R4 to R6) -/

def Disposition.isReject : Disposition → Bool
  | .reject _ => true
  | .pending | .good => false

/-- The job of a disc record, when it names one in use. -/
def State.jobOf (s : State) (d : Disc) : Option Job := d.job.bind s.job

/-- A disc that its job's verify mode lets be GOOD (R6). -/
def goodAllowed (d : Disc) (mode : Option VerifyMode) : Bool :=
  d.burned && (mode == some .none || mode == none || d.verified)

/-- Request to set GOOD (R6). -/
def Disc.madeGood (mode : Option VerifyMode) (d : Disc) : Disc :=
  if d.disposition = .pending ∧ goodAllowed d mode = true then { d with disposition := .good } else d

def State.setGood (s : State) (n : Nat) : State :=
  s.modDisc n fun d => d.madeGood ((s.jobOf d).map Job.verifyMode)

/-- Request to set REJECT: the first reason stays (R6). -/
def Disc.rejected (r : RejectReason) (d : Disc) : Disc :=
  if d.disposition.isReject then d else { d with disposition := .reject r }

def State.setReject (s : State) (n : Nat) (r : RejectReason) : State := s.modDisc n (Disc.rejected r)

/-- The record takes stage TO_OUT (R4). -/
def State.setToOut (s : State) (n : Nat) : State := s.modDisc n fun d => { d with stage := .toOut }

/-- A hand-over report: location, and stage unless it is TO_OUT (R4). -/
def State.moveDisc (s : State) (n : Nat) (at_ : Station) (st : DiscStage) : State :=
  s.modDisc n fun d =>
    { d with location := at_, stage := if d.stage = .toOut then .toOut else st }

/-! ## Job counters (R10 to R12, R157) -/

/-- FILLED or ACTIVE by the counters (R10). -/
def Job.byCounters (j : Job) : JobState :=
  if j.good + j.inFlight = j.copies then .filled else .active

/-- A counter has changed: a job in ACTIVE or FILLED takes the state the counter test gives (R10). -/
def Job.recount (j : Job) : Job :=
  if j.state = .active ∨ j.state = .filled then { j with state := j.byCounters } else j

/-- A CANCELLING job with no disc in flight is CANCELLED (R157). -/
def Job.cancelDone (j : Job) : Bool := j.state = .cancelling ∧ j.inFlight = 0

/-- A job whose cancel has finished, or as it was (R157). -/
def Job.settleCancel (j : Job) : Job := if j.cancelDone then { j with state := .cancelled } else j

/-- A disc retired GOOD is counted (R11). -/
def Job.countGood (j : Job) : Job :=
  let j := { j with good := j.good + 1, inFlight := j.inFlight - 1, consecRejects := 0 }
  match j.state with
  | .active | .filled | .held _ =>
    if j.good = j.copies then { j with state := .complete } else j.recount
  | .complete | .cancelling | .cancelled => j

/-- A disc retired at REJECT is counted (R12). The spec does not say what rejected does past 4,294,967,295: it counts on here (DESIGN CHOICE, log 35). -/
def Job.countReject (j : Job) : Job :=
  let j := { j with rejected := j.rejected + 1, inFlight := j.inFlight - 1,
                    consecRejects := satInc Config.max16 j.consecRejects }
  match j.state with
  | .active | .filled =>
    if j.rejectLimit ≤ j.consecRejects then { j with state := .held .rejectLimit } else j.recount
  | .held _ | .complete | .cancelling | .cancelled => j

/-- A deleted record is taken back out of the counters (R22, R153). -/
def Job.uncount (j : Job) : Job :=
  { j with started := j.started - 1, inFlight := j.inFlight - 1 }.recount

/-- A dispatched record is counted (R21). The spec does not say what started does past 4,294,967,295: it counts on here (DESIGN CHOICE, log 35). -/
def Job.countDispatch (j : Job) : Job :=
  { j with started := j.started + 1, inFlight := j.inFlight + 1 }.recount

/-- The job's counters after a retirement or deletion, and the events that its new state raises: JOB_DONE when it becomes COMPLETE or CANCELLED, JOB_HELD when the reject limit holds it (R11, R12, R157). -/
def State.countJob (s : State) (slot : JobSlot) (f : Job → Job) : State :=
  match s.job slot with
  | none => s
  | some j =>
    let k := (f j).settleCancel
    let s := s.setJob slot (some k)
    let s := if k.state ≠ j.state ∧ (k.state = .complete ∨ k.state = .cancelled) then s.raise .jobDone else s
    if k.state ≠ j.state ∧ k.state = .held .rejectLimit then s.raise .jobHeld else s

/-! ## Freeing, deletion, retirement -/

/-- The drain test: with no record in use a drain ends; a record freed while an orphan creation waits goes to that creation, and the drain goes on (R159). -/
def State.drainTest (s : State) : State :=
  if s.jobs.runMode = .draining ∧ s.discs.records = [] ∧ s.discs.orphanWait = [] then
    { s with jobs := { s.jobs with runMode := .paused } }.raise .drained
  else s

/-- A record is freed (R7, R22). -/
def State.freeRecord (s : State) (n : Nat) : State :=
  { s with discs := { s.discs with
      records := s.discs.records.filter fun d => d.number != n } }.drainTest

/-- A record is deleted without retirement (R22 steps 2 and 3, R153). -/
def State.deleteRecord (s : State) (n : Nat) : State :=
  match s.disc n with
  | none => s
  | some d =>
    let s : State := match d.job with
      | none => s
      | some j => s.countJob j Job.uncount
    s.freeRecord n

/-- An entry joins the completion list; a full list loses its oldest (R8). -/
def DiscTable.append (t : DiscTable) (e : Completion) : DiscTable :=
  if t.completions.length < Config.completionEntries then
    { t with completions := t.completions ++ [e] }
  else
    { t with completions := t.completions.tail ++ [e], dropped := satInc Config.max16 t.dropped }

/-- The completion entry of a record (R7). -/
def Disc.completion (d : Disc) (jobNumber : Option Nat) (disposition : Disposition) : Completion :=
  { number := d.number, jobNumber, disposition, target := d.target, media := d.media,
    stepDowns := d.stepDowns, suspends := d.suspends, mismatches := d.mismatches,
    burned := d.burned, verified := d.verified, printed := d.printed }

/-- A drop against the law of R7: at OUT a record that is not GOOD, at REJECT one that is not REJECT. -/
def Disc.breach (d : Disc) (at_ : BinId) : Bool :=
  match at_ with
  | .out => d.disposition != .good
  | .reject => !d.disposition.isReject

/-- The disposition a retirement writes (R7). -/
def Disc.retiredAs (d : Disc) (at_ : BinId) : Disposition :=
  if d.breach at_ then .reject .handling else d.disposition

/-- A drop at OUT or REJECT retires the record (R7). -/
def State.retire (s : State) (n : Nat) (at_ : BinId) : State :=
  match s.disc n with
  | none => s
  | some d =>
    let out : Disposition := d.retiredAs at_
    let entry : Completion := d.completion ((s.jobOf d).map Job.number) out
    let s : State := { s with discs := s.discs.append entry }
    let s : State := match d.job with
      | none => s
      | some j => s.countJob j (if out = Disposition.good then Job.countGood else Job.countReject)
    let s := s.freeRecord n
    let s := if d.breach at_ then s.latch .handling else s
    s.raise .discDone

end Sys2Proof.Machine
end

