-- ==== Sys2Proof/Machine/Staging.lean ====
section
/-! DEFINITION. Staging memory: windows, the free pool, digests, release evaluations, pass end, consumers (R26 to R44). -/

namespace Sys2Proof.Machine

/-! ## What a slot's record says -/

def Image.streaming (i : Image) : Bool :=
  match i.residency with
  | .streaming _ _ => true
  | .resident => false

/-- PASS CLOSE has been received for the current pass (STREAMING only). -/
def Image.passClosed (i : Image) : Bool :=
  match i.residency with
  | .streaming _ p => p
  | .resident => false

/-- The window is at its cap (STREAMING only). -/
def Image.atCap (i : Image) : Bool :=
  match i.residency with
  | .streaming cap _ => cap ≤ i.window.length
  | .resident => false

/-- The image can admit a new bay: RESIDENT, or STREAMING with its gate OPEN (R20). -/
def Image.admits (i : Image) : Bool := !i.streaming || i.gate == .opened

/-- The slot accepts a join (R37). -/
def Image.joinable (i : Image) : Bool :=
  (i.state == .filling || i.state == .complete) && i.admits

/-- Chunks of an image of a size (02 section 2.3). -/
def chunkCount (size : Nat) : Nat := ceilDiv size Config.chunkSectors

/-- Segments that hold an image of a size (R29). -/
def segmentsFor (size seg : Nat) : Nat := ceilDiv size seg

/-- The unused part of the last segment (R30). -/
def wasteOf (size seg : Nat) : Nat := segmentsFor size seg * seg - size

/-! ## Sectors -/

/-- The first `n` sectors of a run of bytes (R1). -/
def sectorsOf : Nat → List Byte → List Sector
  | 0, _ => []
  | n + 1, d => d.take Config.sectorBytes :: sectorsOf n (d.drop Config.sectorBytes)

/-- Sectors stored at the fill point: each segment takes what it has room for, in window order (R30, R36). -/
def fillWindow (seg : Nat) : List Segment → List Sector → List Segment
  | [], _ => []
  | w :: r, d =>
    let room := seg - w.length
    (w ++ d.take room) :: fillWindow seg r (d.drop room)

/-- The bytes of `count` staged sectors from sector `start` (R38). -/
def Image.read (i : Image) (start count : Nat) : List Byte :=
  ((i.window.flatten.drop (start - i.base)).take count).flatten

/-! ## Digests (R32, R33) -/

/-- The sector at the fill point is the last of its chunk, or of the image (R33). -/
def Image.endsChunk (i : Image) : Bool :=
  (i.fill + 1) % Config.chunkSectors == 0 || i.fill + 1 == i.size

/-- The chunk that holds the fill point. -/
def Image.chunkNow (i : Image) : Nat := i.fill / Config.chunkSectors

/-- The sector completes a chunk whose present digest differs (R33). -/
def Image.differs (i : Image) (sec : Sector) : Bool :=
  i.endsChunk &&
    (match i.digests.getD i.chunkNow none with
     | none => false
     | some e => e != ~~~ crcBytes32 i.acc sec)

/-- The digest list after a chunk completes: an absent digest is stored, a present one stays (R33). -/
def placeDigest (l : List (Option (BitVec 32))) (k : Nat) (d : BitVec 32) : List (Option (BitVec 32)) :=
  match l.getD k none with
  | none => l.set k (some d)
  | some _ => l

/-- One sector is taken into the accumulator, and the fill point passes it (R33, R36). -/
def Image.takeSector (i : Image) (sec : Sector) : Image :=
  let acc := crcBytes32 i.acc sec
  if i.endsChunk then
    { i with fill := i.fill + 1, acc := crcInit32
             digests := placeDigest i.digests i.chunkNow (~~~ acc)
             differing := if i.differs sec then satInc Config.max16 i.differing else i.differing }
  else { i with fill := i.fill + 1, acc }

/-- The sectors of a request are taken in order (R33). -/
def Image.takeSectors (i : Image) (d : List Sector) : Image := d.foldl Image.takeSector i

/-- The first chunk that a request completes with a differing digest (R33). -/
def Image.firstDiffering : Image → List Sector → Option Nat
  | _, [] => none
  | i, sec :: r => if i.differs sec then some i.chunkNow else (i.takeSector sec).firstDiffering r

/-! ## The pool (R27, R41) -/

/-- A slot whose stage-full-refused field is no. -/
def Image.unrefused (i : Image) : Image := { i with stageFullRefused := false }

/-- Some slot has had IMAGE DATA refused with STAGE_FULL (R41). -/
def Staging.refusedAny (g : Staging) : Bool :=
  g.slots.toList.any fun o => match o with
    | some i => i.stageFullRefused
    | none => false

/-- STAGE_SPACE after segments came back to the pool (R41). -/
def State.stageSpace (s : State) : State :=
  if s.staging.refusedAny then
    { s with staging := { s.staging with slots := s.staging.slots.map (Option.map Image.unrefused) } }.raise .stageSpace
  else s

/-- Segments return to the pool (R27, R41). -/
def State.returnSegments (s : State) (k : Nat) : State :=
  if k = 0 then s
  else { s with staging := { s.staging with freeSegments := s.staging.freeSegments + k } }.stageSpace

/-! ## Head releases and the end of a pass (R39, R40, R43) -/

/-- Condition 1 of R39: every consumer is past the head, or there is none and PASS CLOSE was received. -/
def State.headPassed (s : State) (i : Image) : Bool :=
  if i.consumers = [] then i.passClosed
  else i.consumers.all fun b => i.base + s.segSectors ≤ (s.bay b).cursor.getD 0

/-- The head segment may be released (R39); a RESIDENT or empty window has no head release. -/
def State.headReleasable (s : State) (i : Image) : Bool :=
  i.streaming && i.window != [] && s.headPassed i &&
    (i.atCap || s.staging.freeSegments == 0 || i.passClosed)

/-- Pass end (R43). -/
def State.endPass (s : State) (k : ImageId) (i : Image) : State :=
  ((s.setImage k (some { i with window := [], state := .awaitRewind })).returnSegments
    i.window.length).raise .passEnd

/-- The pass of a STREAMING slot ends when its gate is CLOSED and it has no consumer (R43). -/
def State.passEndTest (s : State) (k : ImageId) : State :=
  match s.image k with
  | none => s
  | some i =>
    if i.streaming ∧ i.state ≠ .awaitRewind ∧ i.gate = .closed ∧ i.consumers = [] then s.endPass k i
    else s

/-- A head release: the segment returns to the pool, the base passes it, the gate closes (R40). -/
def State.releaseHead (s : State) (k : ImageId) (i : Image) : State :=
  ((s.setImage k (some { i with window := i.window.tail, base := i.base + s.segSectors,
                                gate := .closed })).returnSegments 1).passEndTest k

/-- Head releases while R39 holds, at most one for each segment of the window (R40). -/
def State.releaseLoop (k : ImageId) : Nat → State → State
  | 0, s => s
  | n + 1, s =>
    match s.image k with
    | none => s
    | some i => if s.headReleasable i then State.releaseLoop k n (s.releaseHead k i) else s

/-- A release evaluation of a slot (R40). -/
def State.releaseEvaluation (s : State) (k : ImageId) : State :=
  match s.image k with
  | none => s
  | some i => State.releaseLoop k i.window.length s

/-- The free pool has become empty: an evaluation in every STREAMING slot (R35, R40). The spec names no order among them: slots 0 to 3 ascending (DESIGN CHOICE, log 36). -/
def State.poolEmptied (s : State) : State :=
  (((s.releaseEvaluation 0).releaseEvaluation 1).releaseEvaluation 2).releaseEvaluation 3

/-! ## Consumers (R37) -/

/-- A bay leaves a slot's consumer set: the pass may end, or else segments may go (R37, R40, R43). -/
def State.leaveConsumers (s : State) (k : ImageId) (b : BayId) : State :=
  match s.image k with
  | none => s
  | some i =>
    if b ∈ i.consumers then
      ((s.setImage k (some { i with consumers := i.consumers.filter (· ≠ b) })).passEndTest k).releaseEvaluation k
    else s

/-- A bay joins a slot's consumer set (R37). -/
def State.joinConsumers (s : State) (k : ImageId) (b : BayId) : State :=
  match s.image k with
  | none => s
  | some i => s.setImage k (some { i with consumers := i.consumers ++ [b] })

/-! ## Space for IMAGE DATA (R35) -/

/-- The window lacks a segment for a request of `count` sectors (R35). -/
def State.needsSegment (s : State) (i : Image) (count : Nat) : Bool :=
  i.streaming && i.base + i.window.length * s.segSectors < i.fill + count

/-- Case 1: a segment leaves the pool and joins the tail; a window at its cap, or an empty pool, starts release evaluations (R35, R40), which are made before the sectors are stored (DESIGN CHOICE, log 37). -/
def State.growWindow (s : State) (k : ImageId) (i : Image) : State :=
  let j := { i with window := i.window ++ [[]] }
  let s := { s with staging := { s.staging with freeSegments := s.staging.freeSegments - 1 } }.setImage k (some j)
  if s.staging.freeSegments = 0 then s.poolEmptied
  else if j.atCap then s.releaseEvaluation k
  else s

/-- Case 2: the head segment passes to the tail, which closes the gate; with no consumer the pass ends there (R35, R40, R43). -/
def State.turnWindow (s : State) (k : ImageId) (i : Image) : State :=
  (s.setImage k (some { i with window := i.window.tail ++ [[]], base := i.base + s.segSectors,
                               gate := .closed })).passEndTest k

/-- A window that covers a request of `count` sectors, or none: STAGE_FULL (R35). -/
def State.findSegment (s : State) (k : ImageId) (i : Image) (count : Nat) : Option State :=
  if s.needsSegment i count then
    if !i.atCap ∧ 0 < s.staging.freeSegments then some (s.growWindow k i)
    else if s.headReleasable i then some (s.turnWindow k i)
    else none
  else some s

end Sys2Proof.Machine
end

