-- ==== Sys2Proof/Machine/Governor.lean ====
section
/-! DEFINITION. The Feed Governor's figures and its queue: rates, lead, allocations, the admission walk (R75 to R90). -/

namespace Sys2Proof.Machine

/-! ## Rates and lead -/

/-- The rate of a step of the bay's rate list (R75). -/
def Bay.rate (r : Bay) (step : Nat) : Nat :=
  match r.facts with
  | some f => f.rates.getD step 0
  | none => 0

/-- The last index of the bay's rate list (R84). -/
def Bay.lastStep (r : Bay) : Nat :=
  match r.facts with
  | some f => f.rates.length - 1
  | none => 0

/-- Lead in ms of a number of sectors ahead at a rate (R79). -/
def leadOf (ahead rate : Nat) : Nat := min Config.maxLead (ahead * 1000 / rate)

/-- The lead of a bay on an image: c, d, e, S and r as R79 names them (R79). -/
def leadFrom (c d e S r : Nat) : Nat := if e = S then Config.maxLead else leadOf (e - c + d) r

/-- BURNING or SUSPENDED. -/
def Bay.feeding (r : Bay) : Bool := r.state == .burning || r.state == .suspended

def State.imageOf (s : State) (r : Bay) : Option Image := r.imageSlot.bind s.image

/-- The lead of a bay in BURNING or SUSPENDED, absent in every other state (R79, R92). -/
def State.lead (s : State) (b : BayId) : Option Nat :=
  let r := s.bay b
  if r.feeding then
    match s.imageOf r, r.burn with
    | some i, some a => some (leadFrom (r.cursor.getD 0) (r.buffer.getD 0) i.fill i.size (r.rate a.step))
    | _, _ => none
  else none

/-! ## Allocations (R75) -/

def State.modGov (s : State) (f : Governor → Governor) : State := { s with governor := f s.governor }

/-- The bay's allocation is released, and A decreases by it (R75). -/
def State.releaseAllocation (s : State) (b : BayId) : State :=
  match (s.bay b).burn with
  | none => s
  | some a =>
    (s.modBay b fun r => { r with burn := none }).modGov fun g => { g with sum := g.sum - a.rate }

/-- The bay leaves the admission queue; an admission in progress is withdrawn (R87, R90). -/
def State.leaveAdmission (s : State) (b : BayId) : State :=
  (s.modGov fun g => { g with queue := g.queue.filter fun e => e.bay != b }).releaseAllocation b

/-- The bay joins the tail of the admission queue (R87). -/
def State.joinAdmission (s : State) (b : BayId) : State :=
  s.modGov fun g => { g with queue := g.queue ++ [{ bay := b, admitting := none }] }

/-! ## The admission walk (R89) -/

/-- The admission lead at a rate (R89). -/
def admissionLead (i : Image) (rate : Nat) : Nat := leadFrom 0 0 i.fill i.size rate

/-- A step qualifies: the budget carries it and the image is staged far enough (R89). -/
def State.qualifies (s : State) (i : Image) (rate : Nat) : Bool :=
  s.governor.sum + rate ≤ s.settingNat Config.sFeedBudget &&
    s.settingNat Config.sRecovery ≤ admissionLead i rate

/-- The highest of the first `n` steps that qualifies (R89). -/
def State.highestStep (s : State) (i : Image) (r : Bay) : Nat → Option Nat
  | 0 => none
  | n + 1 => if s.qualifies i (r.rate n) then some n else s.highestStep i r n

/-- The step an entry would be admitted at, if its slot can accept a join now (R89). -/
def State.admissionStep (s : State) (e : AdmEntry) : Option Nat :=
  if e.admitting.isSome then none
  else
    match s.imageOf (s.bay e.bay) with
    | none => none
    | some i => if i.joinable then s.highestStep i (s.bay e.bay) ((s.bay e.bay).lastStep + 1) else none

/-- The bay is admitted at a step: its allocation counts and its flag is set (R89). -/
def State.admitAt (s : State) (b : BayId) (step : Nat) : State :=
  let rate := (s.bay b).rate step
  (s.modBay b fun r => { r with burn := some { step, rate, stable := 0 } }).modGov fun g =>
    { g with sum := g.sum + rate
             queue := g.queue.map fun e => if e.bay = b then { e with admitting := some step } else e }

/-- The walk over the queue as it stood, head to tail (R89). -/
def State.admissionWalk : List AdmEntry → State → State
  | [], s => s
  | e :: r, s =>
    match s.admissionStep e with
    | none => State.admissionWalk r s
    | some step => State.admissionWalk r (s.admitAt e.bay step)

/-- An admission evaluation would admit a bay, or answer a join (R88, R89). -/
def State.admissionDue (s : State) : Bool :=
  s.governor.queue.any fun e => (s.admissionStep e).isSome || e.admitting.isSome

end Sys2Proof.Machine
end

