-- ==== Sys2Proof/Machine/Verify.lean ====
section
/-! DEFINITION. Verify lanes and their queue; the comparison of a chunk (R93 to R104). -/

namespace Sys2Proof.Machine

def State.modVerify (s : State) (f : VerifyEngine → VerifyEngine) : State :=
  { s with verify := f s.verify }

/-- A lane's record unless it serves the bay. -/
def Lane.unless (b : BayId) (l : Lane) : Option Lane := if l.bay = b then none else some l

/-- The bay leaves the verify lane queue and frees any lane it holds (R66, R71, R93, R105). -/
def State.leaveVerify (s : State) (b : BayId) : State :=
  s.modVerify fun v => { v with
    queue := v.queue.filter (· ≠ b)
    lanes := v.lanes.map fun o => o.bind (Lane.unless b) }

/-- The bay joins the tail of the verify lane queue (R93). -/
def State.joinVerify (s : State) (b : BayId) : State :=
  s.modVerify fun v => { v with queue := v.queue ++ [b] }

/-- The lowest-numbered FREE lane (R94). -/
def VerifyEngine.freeLane (v : VerifyEngine) : Option LaneId :=
  (List.finRange 4).find? fun l => v.lanes[l.val].isNone

/-- The lane that serves a bay. -/
def VerifyEngine.laneOf (v : VerifyEngine) (b : BayId) : Option LaneId :=
  (List.finRange 4).find? fun l => match v.lanes[l.val] with
    | some y => y.bay == b
    | none => false

/-- Sectors of chunk `k` of an image of size `size` (R98). -/
def chunkLength (size k : Nat) : Nat := min Config.chunkSectors (size - Config.chunkSectors * k)

/-- A chunk read back matches: its length, its digest and, in FULL mode, every byte (R98 to R100). -/
def chunkMatches (i : Image) (mode : VerifyMode) (k : Nat) (data : List Byte) : Bool :=
  let len := chunkLength i.size k
  data.length == len * Config.sectorBytes &&
    (i.digests.getD k none == some (digestOf data)) &&
    (mode != .full || data == i.read (Config.chunkSectors * k) len)

/-- A handled chunk is counted (R101, R106). -/
def VerifyEngine.countChunk (v : VerifyEngine) (good : Bool) : VerifyEngine :=
  if good then { v with chunksVerified := satInc Config.max32 v.chunksVerified }
  else { v with mismatched := satInc Config.max16 v.mismatched }

/-- A repeat is counted (R97, R106). -/
def VerifyEngine.countRepeat (v : VerifyEngine) : VerifyEngine :=
  { v with repeats := satInc Config.max16 v.repeats }

/-- A mismatch is counted on the disc record (R5, R101). -/
def Disc.mismatched (d : Disc) : Disc := { d with mismatches := satInc Config.max16 d.mismatches }

end Sys2Proof.Machine
end

