-- ==== Sys2Proof/Machine/Dispatcher.lean ====
section
/-! DEFINITION. The Dispatcher: choosing a job, dispatch, the posting of moves, unloads and swaps (R19 to R23, R68, R113). -/

namespace Sys2Proof.Machine

/-! ## Moves -/

def State.modTrans (s : State) (f : Transport → Transport) : State := { s with trans := f s.trans }

/-- OUT or REJECT. -/
def Station.isBin : Station → Bool
  | .bin _ => true
  | .spindle _ | .prn | .bay _ | .arm => false

/-- A move request as it is posted (R112). -/
def MoveReq.posted (kind : MoveKind) (by_ : Requester) (source dest : Station) (disc : Nat)
    (second : Option SecondLeg) : MoveReq :=
  { kind, requester := by_, source, dest, disc, second, retries := 0, granted := false,
    interrupted := false }

/-- A request of this requester is in the queue (R113). -/
def State.hasMove (s : State) (q : Requester) : Bool := s.trans.queue.any fun r => r.requester == q

/-- A request joins the tail of the queue; while its requester has one there, it waits (R113, log 9). -/
def State.joinQueue (s : State) (r : MoveReq) : State :=
  s.modTrans fun t =>
    if s.hasMove r.requester then { t with waiting := t.waiting ++ [r] } else { t with queue := t.queue ++ [r] }

/-- A move is posted; a destination OUT or REJECT makes its disc TO_OUT when it joins the queue (R4, R112). -/
def State.postMove (s : State) (r : MoveReq) : State :=
  if r.dest.isBin ∧ s.hasMove r.requester = false then (s.joinQueue r).setToOut r.disc else s.joinQueue r

/-- A request has left the queue: the posts that wait are made, oldest first, as far as R113 lets them (log 9). -/
def State.postWaiting (s : State) : State :=
  s.trans.waiting.foldl State.postMove (s.modTrans fun t => { t with waiting := [] })

/-! ## Choosing a job (R20) -/

/-- The spindle that a job's next disc comes from, if one can supply it (R20). -/
def State.supply (s : State) : SpindleChoice → Option SpindleId
  | .a => if s.spindle .a = .ready then some .a else none
  | .b => if s.spindle .b = .ready then some .b else none
  | .any =>
    if s.spindle .a = .ready then some .a
    else if s.spindle .b = .ready then some .b else none

/-- The job has a label and print order PRINT_FIRST. -/
def Job.printsFirst (j : Job) : Bool := j.label.isSome && j.printOrder == some .printFirst

def State.printerIs (s : State) (st : PrinterState) : Bool :=
  match s.printer with
  | some p => p.state == st
  | none => false

/-- A move request in the queue, or one that waits to join it, has PRN as its destination (R20, log 9). -/
def State.prnWanted (s : State) : Bool := (s.trans.queue ++ s.trans.waiting).any fun r => r.dest == .prn

/-- The job's image can admit a new bay now (R20). -/
def State.imageAdmits (s : State) (j : Job) : Bool :=
  match s.image j.imageSlot with
  | some i => i.admits
  | none => false

/-- A job that meets every condition of R20, with the spindle for its disc; no record is created while an orphan creation waits (R2). -/
def State.eligible (s : State) (j : Job) : Option SpindleId :=
  if s.jobs.runMode = .run ∧ j.state = .active ∧ s.imageAdmits j = true
      ∧ (j.printsFirst = true → s.printerIs .idle = true ∧ s.prnWanted = false)
      ∧ 0 < s.discs.free ∧ s.discs.orphanWait = [] then
    s.supply j.spindle
  else none

/-- The oldest eligible job among slots in creation order (R20). -/
def State.chooseFrom (s : State) : List JobSlot → Option (JobSlot × Job × SpindleId)
  | [] => none
  | slot :: r =>
    match s.job slot with
    | none => s.chooseFrom r
    | some j =>
      match s.eligible j with
      | none => s.chooseFrom r
      | some i => some (slot, j, i)

def State.chooseJob (s : State) : Option (JobSlot × Job × SpindleId) := s.chooseFrom s.jobs.order

/-! ## Dispatch (R21) -/

/-- The dispatch record is created and its job's counters go up (R21 steps 1 and 2). -/
def State.createDispatch (s : State) (slot : JobSlot) (i : SpindleId) (b : BayId) : State :=
  ({ s with discs := s.discs.create (.dispatched s.discs.newNumber slot i b) }).countJob slot
    Job.countDispatch

/-- The move of a dispatched disc: PRINT_IN for a print-first job, LOAD for any other (R21). -/
def Job.firstMove (j : Job) (i : SpindleId) (b : BayId) (n : Nat) : MoveReq :=
  if j.printsFirst then .posted .printIn (.bay b) (.spindle i) .prn n none
  else .posted .load (.bay b) (.spindle i) (.bay b) n none

/-- A disc of a job is dispatched to a bay (R21). -/
def State.dispatch (s : State) (b : BayId) (slot : JobSlot) (j : Job) (i : SpindleId) : State :=
  let n := s.discs.newNumber
  ((s.createDispatch slot i b).postMove (j.firstMove i b n)).modBay b fun r =>
    { r with state := .awaitDisc, disc := some n, job := some slot, imageSlot := some j.imageSlot }

/-- The bay is fitted and EMPTY (R19). -/
def State.bayFree (s : State) (b : BayId) : Bool := s.fitted b && (s.bay b).state == .empty

/-- An evaluation takes one bay (R19). -/
def State.dispatchBay (s : State) (b : BayId) : State :=
  if s.bayFree b then
    match s.chooseJob with
    | some (slot, j, i) => s.dispatch b slot j i
    | none => s
  else s

/-- An evaluation takes the EMPTY bays in ascending order (R19). -/
def State.dispatchAll (s : State) : State := (List.finRange 12).foldl State.dispatchBay s

/-- No evaluation runs before READY, or while an orphan creation waits (R19). -/
def State.mayDispatch (s : State) : Bool := s.ready && s.discs.orphanWait == []

/-- An evaluation is to follow a trigger that has been taken, and may run (R19). -/
def State.dispatchDue (s : State) : Bool := s.dispatchWanted && s.mayDispatch

/-! ## What starts an evaluation (R19)

Each test compares the state before a command with the state after it. -/

/-- A bay becomes EMPTY. -/
def State.bayEmptied (s t : State) (b : BayId) : Bool :=
  (t.bay b).state == .empty && (s.bay b).state != .empty

/-- A job leaves HELD by a release, for ACTIVE or FILLED alike (R16), or FILLED for ACTIVE (R19). -/
def JobState.opensTo : JobState → JobState → Bool
  | .held _, j => j == .active || j == .filled
  | .filled, j => j == .active
  | .active, _ | .complete, _ | .cancelling, _ | .cancelled, _ => false

/-- JOB CREATE is accepted, a HELD job is released, or a job leaves FILLED for ACTIVE (R16, R19). -/
def State.jobOpened (s t : State) (k : JobSlot) : Bool :=
  match s.job k, t.job k with
  | none, some _ => true
  | some i, some j => i.state.opensTo j.state
  | _, none => false

/-- A disc record is freed. -/
def State.recordFreed (s t : State) : Bool :=
  s.discs.records.any fun d => !t.discs.records.any fun e => e.number == d.number

/-- An input spindle leaves EMPTY or JAMMED. -/
def State.spindleLeaves (s t : State) (i : SpindleId) : Bool :=
  s.spindle i != .ready && t.spindle i != s.spindle i

/-- A move request whose destination is PRN leaves the queue. -/
def State.prnRequestLeaves (s t : State) : Bool :=
  s.trans.queue.any fun r =>
    r.dest == .prn && !t.trans.queue.any fun q => q.requester == r.requester && q.disc == r.disc

/-- An image slot is promoted to RESIDENT (R44), its pass gate opens, or it is rewound. -/
def State.imageOpensUp (s t : State) (k : ImageId) : Bool :=
  match s.image k, t.image k with
  | some i, some j =>
    (i.streaming && !j.streaming) || (i.gate == .closed && j.gate == .opened) ||
      (i.state == .awaitRewind && j.state != .awaitRewind)
  | _, _ => false

/-- The records that are free serve every orphan creation that waits, so that none waits once the freed records have gone to them (R2). -/
def DiscTable.servesOrphans (t : DiscTable) : Bool := t.orphanWait.length ≤ t.free

/-- A record is free beyond those that go to the orphan creations that wait, or none waits (R2). -/
def DiscTable.spares (t : DiscTable) : Bool := t.orphanWait == [] || t.orphanWait.length < t.free

/-- One of the triggers of R19, R16's release of a HELD job among them, lies between two states; before READY, or while an orphan creation waits for a record, nothing starts an evaluation. A creation whose free record is to be granted by the next command waits no more (DESIGN CHOICE, log 1). -/
def State.dispatchTrigger (s t : State) : Bool :=
  t.ready && t.discs.servesOrphans &&
    (!s.ready || (List.finRange 12).any (s.bayEmptied t) || (List.finRange 8).any (s.jobOpened t) ||
      (t.jobs.runMode == .run && s.jobs.runMode != .run) || (t.discs.spares && s.recordFreed t) ||
      s.spindleLeaves t .a || s.spindleLeaves t .b || (t.printerIs .idle && !s.printerIs .idle) ||
      s.prnRequestLeaves t || (List.finRange 4).any (s.imageOpensUp t))

/-- `t`, with the triggers that lie between `s` and it noted for the evaluation (R19, log 1). -/
def State.watched (s t : State) : State :=
  { t with dispatchWanted := t.dispatchWanted || s.dispatchTrigger t }

/-! ## Unloads (R23, R68) -/

/-- The destination of a bay's unload, from its disc's disposition and job (R68). -/
def State.unloadDest (s : State) (n : Nat) : UnloadDest :=
  match s.disc n with
  | none => .reject
  | some d =>
    match d.disposition with
    | .reject _ => .reject
    | .pending | .good =>
      match s.jobOf d with
      | some j => if j.label.isSome ∧ j.printOrder = some .burnFirst then .prn else .out
      | none => .out

def UnloadDest.station : UnloadDest → Station
  | .reject => .bin .reject
  | .prn => .prn
  | .out => .bin .out

/-- The job of the SWAP that a bay's unload becomes, or none: UNLOAD alone (R23). -/
def State.swapJob (s : State) (b : BayId) : Option (JobSlot × Job × SpindleId) :=
  if (s.bay b).offlineAfter = false ∧ (s.bay b).job.isSome then
    match s.chooseJob with
    | some (slot, j, i) => if j.printsFirst then none else some (slot, j, i)
    | none => none
  else none

/-- The Dispatcher posts a bay's unload, alone or as a SWAP (R23). -/
def State.postUnload (s : State) (b : BayId) (n : Nat) (dest : Station) : State :=
  match s.swapJob b with
  | none => s.postMove (.posted .unload (.bay b) (.bay b) dest n none)
  | some (slot, _, i) =>
    let m := s.discs.newNumber
    (s.createDispatch slot i b).postMove
      (.posted .swap (.bay b) (.bay b) dest n (some { spindle := i, bay := b, disc := m, dest := .bay b }))

/-- The bay enters AWAIT_UNLOAD with its disc and posts the unload (R68). -/
def State.enterAwaitUnload (s : State) (b : BayId) (n : Nat) : State :=
  let d := s.unloadDest n
  (s.modBay b fun r => { r with state := .awaitUnload, dest := some d, survey := false }).postUnload b n d.station

end Sys2Proof.Machine
end

