-- ==== Sys2Proof/Machine/Bays.lean ====
section
/-! DEFINITION. The Bay Sequencer's channels: drive requests, feeding, the reserve check, rejects, FAULT, surveys (R49 to R72, R80 to R86). -/

namespace Sys2Proof.Machine

/-! ## Drive requests (R49, R51) -/

/-- The timeout of a request's kind in ms (R49). -/
def DriveReq.timeout : DriveReq → Nat
  | .identify => 30000
  | .write _ _ _ => 3000
  | .speed _ => 2000
  | .resume => 2000
  | .close => 240000
  | .read _ => 6000
  | .trayOpen => 8000
  | .trayClose => 8000

/-- The timeout of SUSPEND in ms (R49). -/
def suspendTimeout : Nat := 2000

def DriveReq.isWrite : DriveReq → Bool
  | .write _ _ _ => true
  | .identify | .speed _ | .resume | .close | .read _ | .trayOpen | .trayClose => false

def DriveReq.isTray : DriveReq → Bool
  | .trayOpen | .trayClose => true
  | .identify | .write _ _ _ | .speed _ | .resume | .close | .read _ => false

/-- A request is issued with the next number and a deadline (R49). -/
def Bay.issued (req : DriveReq) (deadline : Nat) (r : Bay) : Bay :=
  { r with requestNumber := r.requestNumber + 1
           out := some { req, number := r.requestNumber + 1, deadline } }

def State.issue (s : State) (b : BayId) (req : DriveReq) : State :=
  s.modBay b (Bay.issued req (s.now + req.timeout))

/-- SUSPEND is issued, beside a WRITE if one is outstanding (R49). -/
def State.issueSuspend (s : State) (b : BayId) : State :=
  s.modBay b fun r => { r with
    requestNumber := r.requestNumber + 1
    susp := some { number := r.requestNumber + 1, deadline := s.now + suspendTimeout } }

/-- The first IDENTIFY of a disc, which fixes the deadline (R55). -/
def State.issueIdentify (s : State) (b : BayId) : State :=
  (s.issue b .identify).modBay b fun r => { r with identDeadline := some (s.now + DriveReq.timeout .identify) }

/-- IDENTIFY again under the first one's deadline (R55). -/
def State.reissueIdentify (s : State) (b : BayId) : State :=
  s.modBay b fun r =>
    Bay.issued .identify (r.identDeadline.getD (s.now + DriveReq.timeout .identify)) { r with retryTimer := none }

/-- A port reset ends every outstanding request (R51). -/
def State.portReset (s : State) (b : BayId) : State :=
  s.modBay b fun r => { r with out := none, susp := none }

/-- A hand-over at the bay is given up: the port is reset if a TRAY request is outstanding (R70). -/
def State.handoverGivenUp (s : State) (b : BayId) : State :=
  match (s.bay b).out with
  | some o => if o.req.isTray then s.portReset b else s
  | none => s

/-- The outstanding request is over (R50). -/
def Bay.endOut (r : Bay) : Bay := { r with out := none }

/-- The request that a completion of this number ends (R50). -/
def Bay.outMatching (r : Bay) (number : Byte) : Option DriveReq :=
  match r.out with
  | some o => if o.number = number then some o.req else none
  | none => none

/-- A completion of this number ends the outstanding SUSPEND (R50). -/
def Bay.suspMatching (r : Bay) (number : Byte) : Bool :=
  r.feeding &&
    match r.susp with
    | some o => o.number == number
    | none => false

/-! ## Feeding (R59) -/

/-- Sectors of the next WRITE: to the fill point, to the segment's end, at most 32 (R59). -/
def writeCount (fill cursor seg : Nat) : Nat := min 32 (min (fill - cursor) (seg - cursor % seg))

/-- The feed test (R59). -/
def State.feedTest (s : State) (b : BayId) : State :=
  let r := s.bay b
  match s.imageOf r, r.cursor with
  | some i, some c =>
    if r.state = .burning ∧ r.out = none ∧ r.susp = none ∧ c < i.fill then
      let n := writeCount i.fill c s.segSectors
      s.issue b (.write c n (i.read c n))
    else s
  | _, _ => s

/-! ## Rejects and FAULT (R66, R71) -/

/-- The seven states in which a disc's work can be abandoned (R66). -/
def BayState.working : BayState → Bool
  | .ident | .admitWait | .burning | .suspended | .closing | .verifyWait | .verifying => true
  | .offline | .empty | .awaitDisc | .awaitUnload | .fault => false

/-- The bay leaves its image's consumer set, if it is in one (R37). -/
def State.leaveImage (s : State) (b : BayId) : State :=
  match (s.bay b).imageSlot with
  | some k => s.leaveConsumers k b
  | none => s

/-- A disc's outstanding work is abandoned (R66 steps 2 to 5). -/
def State.abandonWork (s : State) (b : BayId) : State :=
  let s := (s.portReset b).modBay b fun r => { r with retryTimer := none, identDeadline := none, reserveTimer := none }
  ((((s.leaveAdmission b).leaveImage b).releaseAllocation b)).leaveVerify b

/-- The channel rejects its disc (R66). -/
def State.bayReject (s : State) (b : BayId) (why : RejectReason) : State :=
  match (s.bay b).disc with
  | none => s
  | some n => ((s.setReject n why).abandonWork b).enterAwaitUnload b n

/-- BAY_FAULT is true while a bay is in FAULT (R71). -/
def State.reportBayFault (s : State) : State :=
  s.report .bayFault (s.bays.toList.any fun r => r.state == .fault)

/-- A bay enters FAULT (R71). -/
def State.bayFaultEntry (s : State) (b : BayId) : State :=
  (((s.abandonWork b).modBay b fun r => { r with state := .fault, dest := none, survey := false }).reportBayFault).raise .bayFault

/-- A drive ran dry: the disc is spoiled (R63). -/
def State.ranDry (s : State) (b : BayId) : State :=
  ((s.bayReject b .underrun).latch .underrun).raise .underrun

/-! ## A disc that does not come, or leaves (R54, R69, R72) -/

/-- The record of a bay with no disc. -/
def Bay.cleared (r : Bay) : Bay :=
  { r with disc := none, job := none, imageSlot := none, facts := none, cursor := none,
           buffer := none, dest := none, survey := false }

/-- OFFLINE when offline-after is yes, which then becomes no; EMPTY otherwise (R72). -/
def Bay.toIdle (r : Bay) : Bay :=
  if r.offlineAfter then { r with state := .offline, offlineAfter := false } else { r with state := .empty }

/-- One more hand-over failure when it was an acceptance failure at this bay (R54). -/
def Bay.countAcceptance (accept : Bool) (r : Bay) : Bay :=
  if accept then { r with handoverFailures := satInc 7 r.handoverFailures } else r

/-- The bay leaves AWAIT_DISC; `accept` says that the acceptance failed at this bay (R54). -/
def State.awaitDiscEnd (s : State) (b : BayId) (accept : Bool) : State :=
  let s := s.modBay b fun r => r.cleared.countAcceptance accept
  if accept = true ∧ s.settingNat Config.sRetries ≤ (s.bay b).handoverFailures then s.bayFaultEntry b
  else s.modBay b Bay.toIdle

/-- A bay is told that disc `n` will not come: it acts if it awaits that disc (R54). -/
def State.discWillNotCome (s : State) (b : BayId) (n : Nat) (accept : Bool) : State :=
  if (s.bay b).state = .awaitDisc ∧ (s.bay b).disc = some n then s.awaitDiscEnd b accept else s

/-- The target bay of a disc is told that it will not come (R54). -/
def State.tellTarget (s : State) (n : Nat) : State :=
  match (s.disc n).bind Disc.target with
  | some b => s.discWillNotCome b n false
  | none => s

/-- The disc has left the bay; under a SWAP the bay awaits the second leg's disc (R24, R69). -/
def State.discLeaves (s : State) (b : BayId) (second : Option SecondLeg) : State :=
  match second with
  | some l =>
    let job := (s.disc l.disc).bind Disc.job
    let slot := (job.bind s.job).map Job.imageSlot
    s.modBay b fun r => { r.cleared with state := .awaitDisc, disc := some l.disc, job, imageSlot := slot }
  | none => s.modBay b fun r => r.cleared.toIdle

/-! ## Identification and surveys (R55 to R57, R162) -/

/-- The rate list is acceptable (R56). -/
def ratesValid (l : List Nat) : Bool :=
  1 ≤ l.length && l.length ≤ 6 && l.all (fun r => 1 ≤ r && r ≤ Config.max16) &&
    (l.zip l.tail).all fun p => p.1 < p.2

/-- The first identification test that fails (R56). -/
def identFailure (f : DriveFacts) (i : Option Image) : Option RejectReason :=
  if !f.discPresent then some .handling
  else if !ratesValid f.rates then some .wrongMedia
  else if !f.blank then some .notBlank
  else
    match i with
    | none => some .wrongMedia
    | some i =>
      if f.media ≠ i.media then some .wrongMedia
      else if f.capacity < i.size then some .shortMedia
      else none

/-- IDENTIFY OK of a dispatched disc (R56). -/
def State.identified (s : State) (b : BayId) (n : Nat) (f : DriveFacts) : State :=
  let s := (s.modBay b fun r => { r with facts := some f }).modDisc n fun d => { d with media := some f.media }
  match identFailure f (s.imageOf (s.bay b)) with
  | some why => s.bayReject b why
  | none => (s.modBay b fun r => { r with state := .admitWait }).joinAdmission b

/-- A survey starts: the bay is in IDENT with IDENTIFY issued (R57). -/
def State.startSurvey (s : State) (b : BayId) : State :=
  (s.modBay b fun r => { r with state := .ident, survey := true }).issueIdentify b

/-- A bay takes its orphan's number and posts the unload (R57, R163). -/
def State.bayTakesOrphan (s : State) (b : BayId) (n : Nat) : State :=
  (s.modBay b fun r => { r with disc := some n, job := none, imageSlot := none }).enterAwaitUnload b n

/-- A survey found a disc: it asks for an orphan record (R57), or the disc is the one the bay holds (R162). -/
def State.surveyFoundDisc (s : State) (b : BayId) : State :=
  match (s.bay b).disc with
  | some n => s.enterAwaitUnload b n
  | none =>
    let r := s.askOrphan (.bay b)
    match r.2 with
    | some n => r.1.bayTakesOrphan b n
    | none => r.1

/-- A lost disc: REJECT with HANDLING, HANDLING latched, retired as dropped at REJECT (R121). -/
def State.lostDisc (s : State) (n : Nat) : State :=
  ((s.setReject n .handling).latch .handling).retire n .reject

/-- A survey found no disc. A disc that the bay held is lost, and the bay enters EMPTY with its offline-after flag as it stands (R162, log 29); a bay without one becomes EMPTY or OFFLINE (R57, R72). -/
def State.surveyFoundNone (s : State) (b : BayId) : State :=
  match (s.bay b).disc with
  | some n => (s.lostDisc n).modBay b fun r => { r.cleared with state := .empty }
  | none => s.modBay b fun r => r.cleared.toIdle

/-! ## Orders of the Governor (R49, R81 to R86) -/

/-- No request is outstanding on the port, and no SUSPEND (R49). -/
def Bay.portFree (r : Bay) : Bool := r.out.isNone && r.susp.isNone

/-- A SUSPEND may be issued: nothing is outstanding but a WRITE (R49). -/
def Bay.canSuspend (r : Bay) : Bool :=
  r.susp.isNone &&
    match r.out with
    | none => true
    | some o => o.req.isWrite

/-- A SPEED or RESUME order: issued, or declined and followed by the feed test (R49, R86). -/
def State.order (s : State) (b : BayId) (req : DriveReq) : State :=
  if (s.bay b).portFree then s.issue b req else s.feedTest b

/-- RESERVE_LOW is set and raised (R81, R180). -/
def State.setReserveLow (s : State) : State := (s.report .reserveLow true).raise .reserveLow

def State.setStable (s : State) (b : BayId) (n : Nat) : State :=
  s.modBay b fun r => { r with burn := r.burn.map fun a => { a with stable := n } }

/-- The step-up test and, when it passes and the port is free, the step-up (R84). -/
def State.stepUpTest (s : State) (b : BayId) : State :=
  let r := s.bay b
  match r.burn with
  | none => s
  | some a =>
    let up := r.rate (a.step + 1)
    if s.settingNat Config.sStepUp ≤ a.stable ∧ a.step < r.lastStep ∧ s.governor.queue = []
        ∧ s.governor.sum - a.rate + up ≤ s.settingNat Config.sFeedBudget then
      if r.portFree then
        (((s.modBay b fun r => { r with burn := some { a with rate := up, stable := 0 } }).modGov fun g =>
          { g with sum := g.sum - a.rate + up })).issue b (.speed (a.step + 1))
      else s.feedTest b
    else s

/-- The drive can be suspended. -/
def Bay.suspends (r : Bay) : Bool :=
  match r.facts with
  | some f => f.suspendSupported
  | none => false

/-- The reserve check of a bay in BURNING at a lead (R81). -/
def State.burningCheck (s : State) (b : BayId) (a : Burn) (lead : Nat) : State :=
  let wc := s.settingNat Config.sCritical
  let wl := s.settingNat Config.sLow
  let wr := s.settingNat Config.sRecovery
  if lead < wc ∧ (s.bay b).suspends then
    let s := s.setReserveLow.setStable b 0
    if (s.bay b).susp.isSome then s
    else if (s.bay b).canSuspend then s.issueSuspend b
    else s.feedTest b
  else if lead < wl ∧ 0 < a.step then
    let s := if lead < wc then s.setReserveLow else s
    (s.setStable b 0).order b (.speed (a.step - 1))
  else if lead < wl then s.setReserveLow.setStable b 0
  else if wr ≤ lead then (s.setStable b (satInc Config.max16 a.stable)).stepUpTest b
  else s.setStable b 0

/-- The reserve check of a bay in BURNING or SUSPENDED (R81, R85). -/
def State.reserveCheck (s : State) (b : BayId) : State :=
  match s.lead b, (s.bay b).burn with
  | some lead, some a =>
    if (s.bay b).state = .burning then s.burningCheck b a lead
    else if s.settingNat Config.sRecovery ≤ lead then s.order b .resume
    else s
  | _, _ => s

/-- The burn begins: the join is accepted (R58, R90). -/
def State.beginBurn (s : State) (b : BayId) (k : ImageId) (step : Nat) : State :=
  let s := s.modGov fun g => { g with queue := g.queue.filter fun e => e.bay != b }
  ((s.joinConsumers k b).modBay b fun r => { r with
    state := .burning, cursor := some 0, buffer := some 0
    reserveTimer := some (s.now + s.settingNat Config.sReservePeriod) }).issue b (.speed step)

/-- The join is refused: the allocation is withdrawn, and the bay keeps its place (R90). -/
def State.withdrawAdmission (s : State) (b : BayId) : State :=
  (s.releaseAllocation b).modGov fun g => { g with
    queue := g.queue.map fun e => if e.bay = b then { e with admitting := none } else e }

/-- The image slot answers an admitting bay's join (R37, R90). -/
def State.answerJoin (s : State) (e : AdmEntry) : State :=
  match e.admitting with
  | none => s
  | some step =>
    match (s.bay e.bay).imageSlot with
    | none => s.withdrawAdmission e.bay
    | some k =>
      match s.image k with
      | none => s.withdrawAdmission e.bay
      | some i => if i.joinable then s.beginBurn e.bay k step else s.withdrawAdmission e.bay

/-- The last WRITE has completed: the burn ends (R61). -/
def State.endBurn (s : State) (b : BayId) : State :=
  (((s.leaveImage b).releaseAllocation b).modBay b fun r =>
    { r with reserveTimer := none, state := .closing }).issue b .close

end Sys2Proof.Machine
end

