-- ==== Sys2Proof/Machine/Printing.lean ====
section
/-! DEFINITION. Label layout, strobe timing, the print, the printer's hand-overs and its faults (R135, R136, R142 to R151). -/

namespace Sys2Proof.Machine

/-! ## Label layout (R136) -/

/-- Bytes of a line (R136). -/
def lineBytes (width : Nat) : Nat := ceilDiv width 8

/-- Bands of a label (R136). -/
def bandCount (lines : Nat) : Nat := ceilDiv lines Config.bandLines

/-- Lines of band `i` (R136). -/
def bandLinesOf (lines i : Nat) : Nat := min Config.bandLines (lines - Config.bandLines * i)

/-- Bytes of band `i` (R136). -/
def bandBytes (width lines i : Nat) : Nat := lineBytes width * bandLinesOf lines i

/-- Blocks of band `i` (R136). -/
def bandBlocks (width lines i : Nat) : Nat := ceilDiv (bandBytes width lines i) Config.blockBytes

/-- Blocks of bands 0 to `i` - 1, the place of band `i` in the block list (R135, R136). -/
def blocksBefore (width lines : Nat) : Nat → Nat
  | 0 => 0
  | i + 1 => blocksBefore width lines i + bandBlocks width lines i

/-- Blocks of a label (R136). -/
def labelBlocksOf (width lines : Nat) : Nat := blocksBefore width lines (bandCount lines)

/-- Bytes cut into `n` blocks (R136). -/
def toBlocks : Nat → List Byte → List (List Byte)
  | 0, _ => []
  | n + 1, d => d.take Config.blockBytes :: toBlocks n (d.drop Config.blockBytes)

/-- The stored band: exactly `e` bytes, cut or padded with clear bytes (R139). -/
def storedBand (e : Nat) (data : List Byte) : List Byte :=
  data.take e ++ List.replicate (e - data.length) 0#8

/-- A band is stored in its blocks; the block list keeps its length (R135, R139). -/
def placeBlocks (blocks : List (List Byte)) (at_ : Nat) (band : List (List Byte)) : List (List Byte) :=
  blocks.mapIdx fun i old => if at_ ≤ i then (band[i - at_]?).getD old else old

/-- The bytes of band `i` of a label. -/
def Label.band (l : Label) (i : Nat) : List Byte :=
  (((l.blocks.drop (blocksBefore l.width l.lines i)).take (bandBlocks l.width l.lines i)).flatten).take
    (bandBytes l.width l.lines i)

/-- The dots of one line: pixel x from bit 7 - x mod 8 of byte x / 8 (R136). -/
def Label.dots (l : Label) (band line : Nat) : List Bool :=
  let bytes := (l.band band).drop (line * lineBytes l.width)
  (List.range l.width).map fun x => (bytes.getD (x / 8) 0#8).getLsbD (7 - x % 8)

/-! ## Strobe timing (R150) -/

/-- The line period in ticks (R150). -/
def linePeriod (p : Nat) : Nat := 128 * p

/-- The on-time in ticks, clamped (R150). -/
def onTime (p : Nat) (base darkness t : Int) : Nat :=
  (clamp 32 (128 * p - 16) (base + 8 * darkness - (if 25 < t then 4 * (t - 25) else 0))).toNat

/-! ## The printer's state -/

def State.setPrinter (s : State) (p : Printer) : State := { s with printer := some p }

/-- HEAD_HOT: T is 65 or above (R144). -/
def headIsHot (r : Readings) : Bool :=
  match headTemp r with
  | some t => Config.headHot ≤ t
  | none => false

/-- The printer's three conditions as its sensors and state give them (R144, R147); all false when it is not fitted. -/
def State.reportPrinter (s : State) : State :=
  ((s.report .printerFault (s.printerIs .fault)).report .ribbonLow
    (s.printer.isSome && s.sensors.ribbonLow)).report .headHot (s.printer.isSome && headIsHot s.sensors)

/-- A record of a job with PRINT_FIRST. -/
def State.discPrintsFirst (s : State) (n : Nat) : Bool :=
  match (s.disc n).bind s.jobOf with
  | some j => j.printsFirst
  | none => false

/-- The printer posts a move for the tray disc (R145, R147 to R149). -/
def State.postTrayMove (s : State) (p : Printer) (kind : MoveKind) (n : Nat) (dest : Station) : State :=
  (s.setPrinter { p with trayMove := true }).postMove (.posted kind .printer .prn dest n none)

/-! ## The print (R143 to R145) -/

/-- The head check finds the head too hot to start a band (R143). -/
def State.headStops (s : State) (check : Bool) : Bool := check && headIsHot s.sensors

/-- A band start: COOLING when the head check says so, else the band's timing is fixed (R143, R144, R150). -/
def State.bandStart (s : State) (p : Printer) (r : Print) (check : Bool) : State :=
  if s.headStops check then
    s.setPrinter { p with state := .cooling, print := some { r with line := 0, period := none, onTime := none } }
  else
    let darkness := match s.label r.label with
      | some l => l.darkness
      | none => 0
    let lp := s.settingNat Config.sLinePeriod
    s.setPrinter { p with
      state := .printing
      print := some { r with
        line := 0
        period := some (linePeriod lp)
        onTime := some (onTime lp (s.setting Config.sStrobeBase) darkness ((headTemp s.sensors).getD 25)) } }

/-- The destination of a finished print's PRINT_OUT (R145). -/
def State.printOutDest (s : State) (n : Nat) : Station :=
  match s.disc n with
  | none => .bin .reject
  | some d =>
    match d.disposition, d.target with
    | .reject _, _ => .bin .reject
    | .pending, some b => .bay b
    | .pending, none => .bin .reject
    | .good, _ => .bin .out

/-- The print of the tray disc ends (R145). -/
def State.printEnd (s : State) (p : Printer) : State :=
  match p.trayDisc with
  | none => s.setPrinter { p with state := .awaitRemove, print := none }
  | some n =>
    let s := s.modDisc n fun d => { d with printed := true }
    let dest := s.printOutDest n
    let s := s.postTrayMove { p with state := .awaitRemove, print := none } .printOut n dest
    if dest = .bin .reject ∧ s.discPrintsFirst n then s.tellTarget n else s

/-- A line of the band has been printed (R143, R144). -/
def State.linePrinted (s : State) (p : Printer) (r : Print) (l : Label) : State :=
  let p := { p with dots := l.dots r.band r.line }
  let r := { r with line := r.line + 1 }
  if r.line < bandLinesOf l.lines r.band then s.setPrinter { p with print := some r }
  else if r.band + 1 < bandCount l.lines then s.bandStart p { r with band := r.band + 1 } true
  else s.printEnd p

/-! ## Print faults (R147) -/

/-- A disc on the tray is spoiled: PRINT_FAULT, FAULT, PRINT_OUT to REJECT, and its bay is told (R147, R142). -/
def State.printSpoiled (s : State) (p : Printer) (n : Nat) : State :=
  let s := s.setReject n .printFault
  let s := s.postTrayMove { p with state := .fault, print := none } .printOut n (.bin .reject)
  if s.discPrintsFirst n then s.tellTarget n else s

/-- The fault condition has become true (R147). -/
def State.printerFaultEntry (s : State) (p : Printer) : State :=
  match p.state with
  | .fault => s
  | .idle | .awaitRemove => ((s.setPrinter { p with state := .fault }).reportPrinter).raise .printer
  | .printing | .cooling =>
    let s := match p.trayDisc with
      | some n => s.printSpoiled p n
      | none => s.setPrinter { p with state := .fault, print := none }
    (s.reportPrinter).raise .printer

/-- The label that a disc's job prints (R142). -/
def State.labelOf (s : State) (n : Nat) : Option LabelId := ((s.disc n).bind s.jobOf).bind Job.label

/-- An acceptance at PRN is reported to the printer (R142). -/
def State.printerAccept (s : State) (n : Nat) : State :=
  match s.printer with
  | none => s
  | some p =>
    let q := { p with trayDisc := some n }
    match p.state with
    | .idle =>
      match s.labelOf n with
      | some l => s.bandStart q { label := l, band := 0, line := 0, period := none, onTime := none } true
      | none => ((s.printSpoiled q n).reportPrinter).raise .printer
    | .fault => s.printSpoiled q n
    | .printing | .cooling | .awaitRemove => s

/-! ## The source hand-over at PRN (R146) -/

/-- The printer can release its tray (R146). -/
def State.trayReleasable (s : State) : Bool :=
  match s.printer with
  | some p => (p.state == .awaitRemove || p.state == .fault) && p.trayDisc.isSome && s.sensors.tray
  | none => false

def State.setClamp (s : State) (opened : Bool) : State :=
  match s.printer with
  | some p => s.setPrinter { p with clampOpen := opened }
  | none => s

/-- The pick at PRN is confirmed (R146). -/
def State.trayTaken (s : State) : State :=
  match s.printer with
  | none => s
  | some p =>
    s.setPrinter { p with
      trayDisc := none, trayMove := false, clampOpen := false
      state := if p.state = .awaitRemove then .idle else p.state }

/-- The retries of the tray's move are spent (R146). -/
def State.trayMoveSpent (s : State) (n : Nat) : State :=
  match s.printer with
  | none => s
  | some p =>
    let s := ((s.setPrinter { p with trayMove := false, state := .fault, print := none, clampOpen := false }).reportPrinter).raise .printer
    if s.discPrintsFirst n then s.tellTarget n else s

/-! ## Orphans on the tray (R149) -/

/-- The printer takes its orphan's number and posts the CLEAR (R149). -/
def State.printerTakesOrphan (s : State) (n : Nat) : State :=
  match s.printer with
  | none => s
  | some p =>
    s.postTrayMove { p with trayDisc := some n, state := if p.state = .idle then .awaitRemove else p.state }
      .clear n (.bin .reject)

/-- The start-up survey of the printer (R149). -/
def State.surveyPrinter (s : State) : State :=
  if s.printer.isSome ∧ s.sensors.tray then
    let r := s.askOrphan .prn
    match r.2 with
    | some n => r.1.printerTakesOrphan n
    | none => r.1
  else s

end Sys2Proof.Machine
end

