-- ==== Sys2Proof/Machine/Arm.lean ====
section
/-! DEFINITION. The Transport Controller: the grant, journeys, hand-overs and their failures, withdrawal, faults, homing (R112 to R132). -/

namespace Sys2Proof.Machine

/-! ## Requests -/

/-- The request that holds the grant (R115). -/
def Transport.grant (t : Transport) : Option MoveReq := t.queue.find? MoveReq.granted

/-- The interrupted request (R129, R131). -/
def Transport.interruptedReq (t : Transport) : Option MoveReq := t.queue.find? MoveReq.interrupted

/-- The request under way: granted, or interrupted. -/
def Transport.current (t : Transport) : Option MoveReq :=
  t.queue.find? fun r => r.granted || r.interrupted

/-- The second leg of a request, when the leg is SECOND. -/
def Transport.secondOf (t : Transport) (r : MoveReq) : Option SecondLeg :=
  match t.leg with
  | .first => none
  | .second => r.second

def Transport.legSource (t : Transport) (r : MoveReq) : Station :=
  match t.secondOf r with
  | some l => .spindle l.spindle
  | none => r.source

def Transport.legDest (t : Transport) (r : MoveReq) : Station :=
  match t.secondOf r with
  | some l => l.dest
  | none => r.dest

def Transport.legDisc (t : Transport) (r : MoveReq) : Nat :=
  match t.secondOf r with
  | some l => l.disc
  | none => r.disc

/-- The destination of the current leg becomes another station (R121, R127). -/
def MoveReq.redirect (leg : Leg) (at_ : Station) (r : MoveReq) : MoveReq :=
  match leg, r.second with
  | .second, some l => { r with second := some { l with dest := at_ } }
  | .second, none | .first, _ => { r with dest := at_ }

/-- A change of the request under way. -/
def State.modCurrent (s : State) (f : MoveReq → MoveReq) : State :=
  s.modTrans fun t => { t with queue := t.queue.map fun r => if r.granted || r.interrupted then f r else r }

/-- The request under way is taken out of the queue, to be replaced or put back at its tail. -/
def State.takeCurrent (s : State) : State :=
  s.modTrans fun t => { t with queue := t.queue.filter fun r => !(r.granted || r.interrupted) }

/-- The request under way leaves the queue (R113). -/
def State.dropCurrent (s : State) : State := s.takeCurrent.postWaiting

/-- The class of a leg by its source (R114). -/
def classOf : Station → Nat
  | .bay _ => 1
  | .prn => 2
  | .spindle _ | .bin _ | .arm => 3

/-- The class of a request: that of the leg it waits to start, or is on (R114, R125). -/
def Transport.classOfReq (t : Transport) (r : MoveReq) : Nat :=
  if r.granted || r.interrupted then classOf (t.legSource r) else classOf r.source

/-! ## The arm's state and its timers -/

/-- The arm takes a state, and ARM_FAULT follows it (R129). -/
def State.setArm (s : State) (a : ArmState) : State :=
  (s.modTrans fun t => { t with arm := a }).report .armFault (a == .fault)

/-- A departure: the move timer starts, no hand-over is in progress (R116). -/
def State.depart (s : State) : State :=
  s.modTrans fun t => { t with moveTimer := some (s.now + Config.moveTime), ackTimer := none, handover := none }

/-- A departure toward a hand-over that resumes at its step (R132). -/
def State.departResuming (s : State) : State :=
  s.modTrans fun t => { t with moveTimer := some (s.now + Config.moveTime), ackTimer := none }

/-- A run of the acknowledgement timer begins (R116). -/
def State.startAck (s : State) (step : HandStep) : State :=
  s.modTrans fun t => { t with
    moveTimer := none, handover := some step
    ackTimer := some (s.now + s.settingNat Config.sGrantAck) }

def State.setStep (s : State) (step : HandStep) : State :=
  s.modTrans fun t => { t with handover := some step }

def State.setPick (s : State) (held : Bool) : State := { s with sensors := { s.sensors with pick := held } }

/-- All arm timers stop (R129, R131). -/
def Transport.timersStopped (t : Transport) : Transport :=
  { t with moveTimer := none, ackTimer := none, holdTimer := none }

/-- The arm is free: no leg, no hand-over, IDLE (R118, R119). -/
def State.armIdle (s : State) : State :=
  (s.modTrans fun t => { t.timersStopped with leg := .first, handover := none, resume := none }).setArm .idle

/-! ## The grant (R114, R115) -/

/-- The destination of a waiting request can take its disc (R114). -/
def State.destReady (s : State) (r : MoveReq) : Bool :=
  match r.dest with
  | .bay b => (s.bay b).state == .awaitDisc && (s.bay b).disc == some r.disc
  | .prn =>
    (match s.printer with
      | some p => p.state == .idle && p.trayDisc.isNone
      | none => false) && !s.sensors.tray
  | .bin b => !s.binFull b
  | .spindle _ | .arm => false

/-- A class-3 source spindle is READY; a bay or PRN can always give (R114). -/
def State.sourceReady (s : State) (r : MoveReq) : Bool :=
  match r.source with
  | .spindle i => s.spindle i == .ready
  | .bay _ | .prn | .bin _ | .arm => true

/-- Eligible (R114). -/
def State.moveEligible (s : State) (r : MoveReq) : Bool :=
  !r.granted && !r.interrupted && s.destReady r && s.sourceReady r

/-- The oldest eligible request of the lowest class that has one (R115). -/
def State.toGrant (s : State) : Option MoveReq :=
  let pick := fun c => s.trans.queue.find? fun r => s.moveEligible r && classOf r.source == c
  (pick 1).or ((pick 2).or (pick 3))

/-- An evaluation can be made: the arm is IDLE and the door closed (R115). -/
def State.canGrant (s : State) : Bool := s.trans.arm == .idle && !s.sensors.doorOpen

/-- The grant goes to a request, and the arm departs for its source (R115, R116). -/
def State.grantTo (s : State) (r : MoveReq) : State :=
  ((s.modTrans fun t => { t with
    leg := .first
    queue := t.queue.map fun q => if q = r then { q with granted := true } else q }).setArm .granted).depart

/-- A grant evaluation (R115). -/
def State.grantEvaluation (s : State) : State :=
  if s.canGrant then
    match s.toGrant with
    | some r => s.grantTo r
    | none => s
  else s

/-! ## The end of a leg, the hold (R118, R125, R126) -/

/-- A LOAD for a SWAP's second leg (R119, R126). -/
def SecondLeg.load (l : SecondLeg) : MoveReq :=
  .posted .load (.bay l.bay) (.spindle l.spindle) (.bay l.bay) l.disc none

/-- The move is complete: its request leaves the queue and the arm enters IDLE (R118). -/
def State.moveDone (s : State) : State := s.dropCurrent.armIdle

/-- The current leg has ended: HELD after a SWAP's FIRST leg, else the move is complete (R118). -/
def State.legDone (s : State) : State :=
  match s.trans.leg, s.trans.current.bind MoveReq.second with
  | .first, some _ =>
    (s.modTrans fun t => { t.timersStopped with
      handover := none, holdTimer := some (s.now + s.settingNat Config.sHold) }).setArm .held
  | .first, none | .second, _ => s.moveDone

/-- The hold ends and the second leg starts (R125). -/
def State.startSecondLeg (s : State) : State :=
  ((s.modTrans fun t => { t with leg := .second, holdTimer := none }).setArm .granted).depart

/-- The spindle of a held SWAP's second leg is READY (R125). -/
def State.secondLegReady (s : State) : Bool :=
  s.trans.arm == .held &&
    match s.trans.grant.bind MoveReq.second with
    | some l => s.spindle l.spindle == .ready
    | none => false

/-- The SWAP leaves the queue, and its second leg becomes a LOAD at the tail (R126, R129). -/
def State.secondBecomesLoad (s : State) (second : Option SecondLeg) : State :=
  match second with
  | some l => (s.takeCurrent.postMove l.load).postWaiting
  | none => s.dropCurrent

/-! ## Giving up a hand-over -/

/-- The station of the hand-over in progress is told that it is given up: a bay resets its port if a TRAY request is outstanding, the printer closes its clamp (R70, R119, R146). -/
def State.giveUpAt (s : State) : Station → State
  | .bay b => s.handoverGivenUp b
  | .prn => s.setClamp false
  | .spindle _ | .bin _ | .arm => s

/-- The station of the leg under way: the source until the pick, then the destination. -/
def Transport.handStation (t : Transport) : Option Station :=
  match t.handover, t.current with
  | some _, some r => some (if t.arm = .granted then t.legSource r else t.legDest r)
  | _, _ => none

/-- A hand-over in progress is given up (R127, R129, R131). -/
def State.giveUp (s : State) : State :=
  match s.trans.handStation with
  | some at_ => s.giveUpAt at_
  | none => s

/-! ## Source failures (R119, R120, R123, R22) -/

/-- A disc whose pick failed, or that was withdrawn: its record is deleted and its bay does not await it (R22, R153). -/
def State.pickFailed (s : State) (b : Option BayId) (n : Nat) : State :=
  let s := s.deleteRecord n
  match b with
  | some b => s.discWillNotCome b n false
  | none => s

def Requester.bay? : Requester → Option BayId
  | .bay b => some b
  | .printer => none

/-- The bay that awaits the leg's disc. -/
def Transport.legBay (t : Transport) (r : MoveReq) : Option BayId :=
  match t.secondOf r with
  | some l => some l.bay
  | none => r.requester.bay?

/-- The retries of a request are spent at its source; it has left the queue (R120). -/
def State.retriesSpent (s : State) (r : MoveReq) (source : Station) (n : Nat) (b : Option BayId) : State :=
  match source with
  | .bay b =>
    let s := s.setReject n .handling
    let s := match r.second with
      | some l => s.deleteRecord l.disc
      | none => s
    s.bayFaultEntry b
  | .spindle i => (s.setSpindle i .jammed).pickFailed b n
  | .prn => (s.setReject n .handling).trayMoveSpent n
  | .bin _ | .arm => s

/-- The request as a forced release puts it at the tail: released, one more retry; a second leg as a LOAD (R119). -/
def Transport.released (t : Transport) (r : MoveReq) : MoveReq :=
  match t.secondOf r with
  | some l => { l.load with retries := 1 }
  | none => { r with granted := false, interrupted := false, retries := r.retries + 1 }

/-- A source hand-over fails: a forced release (R119). -/
def State.forcedRelease (s : State) : State :=
  match s.trans.grant with
  | none => s
  | some r =>
    let source := s.trans.legSource r
    let n := s.trans.legDisc r
    let b := s.trans.legBay r
    let q := s.trans.released r
    let s := (s.giveUpAt source).takeCurrent
    let s := (s.modTrans fun t => { t with forcedReleases := (t.forcedReleases + 1) % 16 }).latch .handling
    let s := s.armIdle
    if q.retries < s.settingNat Config.sRetries then s.joinQueue q
    else s.postWaiting.retriesSpent q source n b

/-- The arm finds the spindle empty at its pick (R123). A spindle whose sensor change was taken before is EMPTY already: its state does not change, and SPINDLE is not raised again (DESIGN CHOICE, log 45). -/
def State.foundEmpty (s : State) (r : MoveReq) (i : SpindleId) : State :=
  let n := s.trans.legDisc r
  let b := s.trans.legBay r
  ((s.setSpindle i .empty).dropCurrent.armIdle).pickFailed b n

/-! ## Destination failures (R121, R122, R127) -/

/-- The station that awaited the leg's disc is told it will not come (R121, R127, R129). -/
def State.tellAwaiting (s : State) (r : MoveReq) (at_ : Station) (n : Nat) (accept : Bool) : State :=
  match at_ with
  | .bay b => s.discWillNotCome b n accept
  | .prn =>
    match r.kind, r.requester with
    | .printIn, .bay b => s.discWillNotCome b n false
    | _, _ => s
  | .spindle _ | .bin _ | .arm => s

/-- The current leg now leads to REJECT, and the arm departs for it (R121 step 5). -/
def State.toReject (s : State) : State :=
  (s.modCurrent (MoveReq.redirect s.trans.leg (.bin .reject))).depart

/-- A failed acceptance with the disc on the arm: HANDLING, TO_OUT, the station told, on to REJECT (R121 steps 3 to 5). -/
def State.divert (s : State) (r : MoveReq) : State :=
  let n := s.trans.legDisc r
  let at_ := s.trans.legDest r
  ((((s.setReject n .handling).setToOut n).tellAwaiting r at_ n true)).toReject

/-- A destination hand-over at a bay or PRN fails; a disc set on the tray is first retaken (R121). A disc that the pick sensor does not read on the arm is taken to be set, its setting reported or not (DESIGN CHOICE, log 46). -/
def State.destFailure (s : State) : State :=
  match s.trans.grant with
  | none => s
  | some r =>
    let s := (s.giveUpAt (s.trans.legDest r)).latch .handling
    if s.sensors.pick then s.divert r else s.startAck .retake

/-- A disc lost in a retake: the station is told, the drop is reported, the leg is over (R121). -/
def State.retakeFailed (s : State) (r : MoveReq) : State :=
  let n := s.trans.legDisc r
  let at_ := s.trans.legDest r
  ((s.tellAwaiting r at_ n true).lostDisc n).legDone

/-- What an interrupted grant goes back to (R132). -/
def resumeFrom : ArmState → Resume
  | .granted => .granted
  | .held => .held
  | .unhomed | .homing _ | .idle | .carrying | .stopped | .fault => .carrying

/-- The arm enters FAULT (R129). A hand-over it interrupts is kept with its step, so that a disc already set on a tray resumes there (DESIGN CHOICE, log 40). -/
def State.armFaultEntry (s : State) (why : FaultCause) : State :=
  let s := s.giveUp
  let carried := s.sensors.pick && s.trans.arm == .carrying
  let was := s.trans.arm
  let s := match s.trans.grant with
    | none => s.modTrans fun t =>
        if t.interruptedReq.isSome then t.timersStopped
        else { t.timersStopped with handover := none, leg := .first }
    | some r =>
      if carried then
        let n := s.trans.legDisc r
        let s := ((s.setReject n .handling).setToOut n).tellAwaiting r (s.trans.legDest r) n false
        let s := match s.trans.leg with
          | .first => s.secondBecomesLoad r.second
          | .second => s.dropCurrent
        s.modTrans fun t => { t.timersStopped with handover := none, leg := .first, resume := none }
      else
        (s.modCurrent fun q => { q with granted := false, interrupted := true }).modTrans fun t =>
          { t.timersStopped with
            resume := some (resumeFrom was) }
  ((s.modTrans fun t => { t with faultCause := some why }).setArm .fault).raise .arm

/-! ## Homing (R130, R132) -/

/-- Homing is asked for: with the door open it is pending (R130). -/
def State.startHoming (s : State) : State :=
  if s.sensors.doorOpen then
    (s.modTrans fun t => { t.timersStopped with homingPending := true }).setArm .stopped
  else
    (s.modTrans fun t => { t with moveTimer := some (s.now + Config.moveTime), ackTimer := none, holdTimer := none }).setArm
      (.homing .descent)

/-- An interrupted request is granted again, by what the arm was doing (R130, R132), after a FAULT as after a door opening (DESIGN CHOICE, log 40). -/
def State.resumeGrant (s : State) : State :=
  let was := s.trans.resume
  let s := (s.modCurrent fun r => { r with granted := true, interrupted := false }).modTrans fun t =>
    { t with resume := none }
  match was with
  | some .held =>
    (s.modTrans fun t => { t with handover := none, holdTimer := some (s.now + s.settingNat Config.sHold) }).setArm .held
  | some .carrying => (s.setArm .carrying).departResuming
  | some .granted | none => (s.setArm .granted).depart

/-- Homing ends (R130). -/
def State.homingEnd (s : State) : State :=
  let s := (s.modTrans fun t => { t.timersStopped with faultCause := none, homingPending := false }).raise .arm
  match s.trans.interruptedReq with
  | some _ => s.resumeGrant
  | none => s.armIdle

/-- The record of a disc whose location is the arm. -/
def State.discOnArm (s : State) : Option Nat :=
  (s.discs.records.find? fun d => d.location == .arm).map Disc.number

/-- The disc on the arm is carried to REJECT by homing (R130). -/
def State.clearArm (s : State) (n : Nat) : State :=
  ((((s.setReject n .handling).setToOut n)).setArm (.homing .carry)).depart

/-- The disc on the arm belongs to an interrupted request (R130). -/
def Transport.holdsInterrupted (t : Transport) : Bool :=
  t.interruptedReq.isSome && t.resume == some .carrying

/-- The clearing stage of homing (R130). -/
def State.homingClear (s : State) : State :=
  if s.sensors.pick ∧ s.trans.holdsInterrupted = false then
    match s.discOnArm with
    | some n => s.clearArm n
    | none =>
      if .arm ∈ s.discs.orphanWait then s.setArm (.homing .awaitRecord)
      else
        let r := s.askOrphan .arm
        match r.2 with
        | some n => r.1.clearArm n
        | none => r.1.setArm (.homing .awaitRecord)
  else s.homingEnd

/-! ## Drop failures (R122) -/

/-- A disc that would not leave the arm at REJECT: handled as lost, its request leaves the queue, FAULT with HANDLING (R122). -/
def State.dropStuck (s : State) (second : Option SecondLeg) (n : Nat) : State :=
  let s := s.lostDisc n
  ((s.secondBecomesLoad second).modTrans fun t =>
    { t with handover := none, leg := .first }).armFaultEntry .handling

/-- A drop at OUT or REJECT is not confirmed in time (R122). -/
def State.dropFailure (s : State) (r : MoveReq) (at_ : BinId) : State :=
  let n := s.trans.legDisc r
  let s := s.latch .handling
  if s.sensors.pick then
    match at_ with
    | .out => ((s.setReject n .handling).setToOut n).toReject
    | .reject => s.dropStuck (match s.trans.leg with
        | .first => r.second
        | .second => none) n
  else (s.lostDisc n).legDone

/-- The drop of homing's carriage is not confirmed in time (R130, R122). -/
def State.homingDropFailure (s : State) : State :=
  let s := s.latch .handling
  match s.discOnArm with
  | none => if s.sensors.pick then s.armFaultEntry .handling else s.homingEnd
  | some n =>
    let s := s.lostDisc n
    if s.sensors.pick then s.armFaultEntry .handling else s.homingEnd

/-! ## Withdrawal and change of destination (R127) -/

/-- A SWAP keeps its first leg only, as an UNLOAD (R127). -/
def MoveReq.alone (r : MoveReq) : MoveReq := { r with kind := .unload, second := none }

/-- The SWAP's FIRST leg is over: it is HELD, or on its SECOND leg. -/
def Transport.firstLegOver (t : Transport) (r : MoveReq) : Bool :=
  (r.granted || r.interrupted) && (t.leg == .second || t.arm == .held || t.resume == some .held)

/-- A request under way is withdrawn: a leg is stopped and its hand-over given up, an interruption is cleared (R127). -/
def State.withdrawCurrent (s : State) (r : MoveReq) : State :=
  if r.granted then s.giveUp.dropCurrent.armIdle
  else s.dropCurrent.modTrans fun t => { t with resume := none, handover := none, leg := .first }

/-- The second leg of a request is a disc's. -/
def MoveReq.secondIs (n : Nat) (r : MoveReq) : Bool := r.second.any (·.disc == n)

/-- A disc's move is taken out of the posts that wait (R127, log 9). -/
def withoutDisc (n : Nat) (l : List MoveReq) : List MoveReq :=
  (l.filter fun r => r.disc != n).map fun r => if r.secondIs n then r.alone else r

/-- The move of a disc that the arm has not taken is withdrawn (R127). -/
def State.withdraw (s : State) (n : Nat) : State :=
  match s.trans.queue.find? fun r => r.disc == n || r.secondIs n with
  | none => s.modTrans fun t => { t with waiting := withoutDisc n t.waiting }
  | some r =>
    if r.disc = n ∨ s.trans.firstLegOver r then
      if r.granted || r.interrupted then s.withdrawCurrent r
      else (s.modTrans fun t => { t with queue := t.queue.filter (· ≠ r) }).postWaiting
    else s.modTrans fun t => { t with queue := t.queue.map fun q => if q = r then q.alone else q }

/-- The destination of the leg that carries a disc becomes REJECT (R127). An arm on its way back to a tray on which the disc stands set travels on, and retakes the disc when it arrives (DESIGN CHOICE, log 42). A change taken while R121's retake at a bay is under way tells the bay without an acceptance failure, and the retake's acknowledgement timer starts afresh (DESIGN CHOICE, log 44). -/
def State.changeDest (s : State) (n : Nat) : State :=
  match s.trans.current with
  | none => s
  | some r =>
    if s.trans.legDisc r = n then
      let at_ := s.trans.legDest r
      let set := s.trans.handover.isSome && !s.sensors.pick
      let s := (s.giveUp.setToOut n).tellAwaiting r at_ n false
      let s := s.modCurrent (MoveReq.redirect s.trans.leg (.bin .reject))
      if r.granted then
        if set then (if s.trans.moveTimer.isSome then s.setStep .retake else s.startAck .retake) else s.depart
      else s.modTrans fun t => { t with handover := if set then some .retake else none }
    else s

/-! ## Confirmations -/

/-- The leg of a disc leads it to a bay, or to PRN while its disposition is not GOOD (R154). -/
def Disc.cancelsAt (d : Disc) : Station → Bool
  | .bay _ => true
  | .prn => d.disposition != .good
  | .spindle _ | .bin _ | .arm => false

/-- After a source hand-over, a disc of a CANCELLING job is sent to REJECT (R154). -/
def State.cancelCarried (s : State) (n : Nat) : State :=
  match s.disc n, s.trans.current with
  | some d, some r =>
    if (s.jobOf d).any (fun j => j.state == .cancelling) ∧ d.cancelsAt (s.trans.legDest r) = true then
      let s := if d.disposition = .pending then s.setReject n .cancelled else s
      s.changeDest n
    else s
  | _, _ => s

/-- Two discs were picked at a spindle (R124). -/
def State.doublePick (s : State) (r : MoveReq) (n : Nat) : State :=
  let b := s.trans.legBay r
  let s := (((s.setReject n .doublePick).setToOut n).latch .handling)
  let s := match b with
    | some b => s.discWillNotCome b n false
    | none => s
  s.modCurrent (MoveReq.redirect s.trans.leg (.bin .reject))

/-- A source hand-over is confirmed (R117, R4, R124, R154). -/
def State.pickDone (s : State) (r : MoveReq) (two : Bool) : State :=
  let source := s.trans.legSource r
  let dest := s.trans.legDest r
  let n := s.trans.legDisc r
  let s := (s.setPick true).moveDisc n .arm (if dest.isBin then .toOut else .onArm)
  let s := match source with
    | .bay b => s.discLeaves b r.second
    | .prn => ({ s with sensors := { s.sensors with tray := false } }).trayTaken
    | .spindle _ => if two then s.doublePick r n else s
    | .bin _ | .arm => s
  ((s.setArm .carrying).depart).cancelCarried n

/-- The hand-over at the source stands where the pick can confirm it (R117). -/
def Transport.awaitsPick (t : Transport) (r : MoveReq) : Bool :=
  t.arm == .granted &&
    match t.legSource r with
    | .spindle _ => t.handover == some .arrived
    | .bay _ | .prn => t.handover == some .trayReady
    | .bin _ | .arm => false

/-- A disc retaken from a tray: it goes on to REJECT (R121, R127). -/
def State.retaken (s : State) (r : MoveReq) : State :=
  let s := s.setPick true
  if (s.trans.legDest r).isBin then s.depart else s.divert r

/-- The acceptance at a destination: the disc is off the arm, its record moves, the leg is done (R118, R4). -/
def State.accepted (s : State) (n : Nat) (at_ : Station) (st : DiscStage) : State :=
  ((s.setPick false).moveDisc n at_ st).legDone

end Sys2Proof.Machine
end

