-- ==== Sys2Proof/Machine/Cancel.lean ====
section
/-! DEFINITION. Cancelling a job's discs, each by its stage, location and disposition (R152 to R157). -/

namespace Sys2Proof.Machine

/-- A QUEUED disc: its move is withdrawn and its record deleted; a bay that awaits it is told (R153). -/
def State.cancelQueued (s : State) (d : Disc) : State :=
  (s.withdraw d.number).pickFailed d.target d.number

/-- A PENDING disc on the arm: CANCELLED, and its leg goes to REJECT (R154). -/
def State.cancelOnArm (s : State) (d : Disc) : State :=
  if d.disposition = .pending then (s.setReject d.number .cancelled).changeDest d.number else s

/-- A PENDING disc in a working bay: the channel rejects it with CANCELLED (R155). -/
def State.cancelInBay (s : State) (d : Disc) (b : BayId) : State :=
  if d.disposition = .pending ∧ (s.bay b).state.working ∧ (s.bay b).disc = some d.number then
    s.bayReject b .cancelled
  else s

/-- A PENDING disc in the printer's charge: CANCELLED, and the print runs on (R156). -/
def State.cancelInPrinter (s : State) (d : Disc) : State :=
  if d.disposition = .pending then s.setReject d.number .cancelled else s

/-- The cancel acts on one disc of the job (R153 to R156). -/
def State.cancelDisc (s : State) (d : Disc) : State :=
  if d.stage = .queued then s.cancelQueued d
  else
    match d.location with
    | .arm => s.cancelOnArm d
    | .bay b => s.cancelInBay d b
    | .prn => s.cancelInPrinter d
    | .spindle _ | .bin _ => s

/-- The records that name a job, in order of creation. -/
def State.discsOf (s : State) (slot : JobSlot) : List Disc :=
  s.discs.records.filter fun d => d.job == some slot

/-- A record that the cancel has rejected with CANCELLED. -/
def State.nowCancelled (s : State) (d : Disc) : Bool :=
  d.disposition == .pending &&
    match s.disc d.number with
    | some e => e.disposition == .reject .cancelled
    | none => false

/-- The cancel of a job is accepted: every record in use that names it is handled (R152). The spec names no order among them: that of creation (DESIGN CHOICE, log 41). -/
def State.cancelJob (s : State) (slot : JobSlot) (j : Job) : State :=
  let s := s.setJob slot (some { j with state := .cancelling })
  let s := (s.discsOf slot).foldl State.cancelDisc s
  s.countJob slot id

end Sys2Proof.Machine
end

