-- ==== Sys2Proof/Machine/Startup.lean ====
section
/-! DEFINITION. The stored settings record, straps, after-reset values and start-up (R188, R190 to R192, and each chapter's values after reset). -/

namespace Sys2Proof.Machine

/-! ## The stored record (R188) -/

/-- The 4-byte signed value at a place of the record (R188, log 12). -/
def recordValue (flash : List Byte) (i : Nat) : Int :=
  (BitVec.ofNat 32 (fromLE ((flash.drop (4 * i)).take 4))).toInt

/-- The record passes its check (R188). -/
def recordValid (flash : List Byte) : Bool :=
  flash.length == Config.recordBytes && (crc16 (flash.take 68)).toNat == fromLE (flash.drop 68)

/-- The bytes of the values of a record (R188). -/
def recordBody (v : Vector Int 17) : List Byte :=
  v.toList.flatMap fun x => toLE 4 (BitVec.ofInt 32 x).toNat

/-- The record written for a set of values, with a fresh CRC (R188, R190). -/
def recordOf (v : Vector Int 17) : List Byte :=
  recordBody v ++ toLE 2 (crc16 (recordBody v)).toNat

/-- Segment size and the masks are not clamped (R189). -/
def settingUnclamped (n : SettingId) : Bool :=
  n == Config.sSegmentSize || n == Config.sAlertMask || n == Config.sWarnMask || n == Config.sEventMask

/-- In its range (11 section 11.1). -/
def settingInRange (n : SettingId) (v : Int) : Bool :=
  Config.settingMin[n.val] ≤ v && v ≤ Config.settingMax[n.val]

/-- A value clamped to its range (R1, R189). -/
def settingClamp (n : SettingId) (v : Int) : Int :=
  clamp Config.settingMin[n.val] Config.settingMax[n.val] v

/-- A loaded value: a segment size or mask out of range takes its default, any other is clamped (R188). -/
def loadedValue (n : SettingId) (v : Int) : Int :=
  if settingUnclamped n then if settingInRange n v then v else Config.settingDefault[n.val]
  else settingClamp n v

/-- The thresholds keep their order (R77). -/
def thresholdsOrdered (v : Vector Int 17) : Bool :=
  v[Config.sCritical.val] < v[Config.sLow.val] && v[Config.sLow.val] < v[Config.sRecovery.val]

/-- The three thresholds at their defaults (R77). -/
def defaultThresholds (v : Vector Int 17) : Vector Int 17 :=
  ((v.set Config.sCritical.val Config.settingDefault[Config.sCritical.val]).set Config.sLow.val
    Config.settingDefault[Config.sLow.val]).set Config.sRecovery.val
    Config.settingDefault[Config.sRecovery.val]

/-- The values that a record holds (R188). -/
def recordValues (flash : List Byte) : Vector Int 17 := Vector.ofFn fun n => recordValue flash n.val

/-- The working copy that a good record loads (R188). -/
def loadedValues (flash : List Byte) : Vector Int 17 :=
  let v := Vector.ofFn fun n : SettingId => loadedValue n (recordValues flash)[n.val]
  if thresholdsOrdered v then v else defaultThresholds v

def State.modSettings (s : State) (f : Settings → Settings) : State := { s with settings := f s.settings }

/-- The settings are loaded from the flash, and only the working copy is clamped; a failed check gives defaults, latches SETTINGS_BAD and raises SETTINGS (R188, R189). -/
def State.loadSettings (s : State) : State :=
  if recordValid s.settings.flash then
    s.modSettings fun g => { g with
      working := loadedValues g.flash, stored := recordValues g.flash, storedValid := true }
  else
    ((s.modSettings fun g => { g with working := Config.settingDefault, storedValid := false }).latch
      .settingsBad).raise .settings

/-! ## After-reset values -/

/-- The straps are sampled (R191). -/
def State.sampleStraps (s : State) : State :=
  s.modSettings fun g => { g with
    fittedBays := Config.bayCount s.sensors.baysCode, printerFitted := s.sensors.printerStrap }

/-- What an input spindle takes from its sensor (R110). -/
def spindleFrom (empty : Bool) : SpindleState := if empty then .empty else .ready

/-- Every block but Link, Settings and the sensors at its after-reset values (R25, R48, R74, R76, R109, R134, R151, R187). The sensors of this moment decide the printer's state, and the segment size in effect is the old working copy's until the settings are loaded (DESIGN CHOICE, log 23). -/
def State.resetBlocks (s : State) : State :=
  { s with
    jobs := .afterReset, discs := .afterReset, staging := .afterReset (s.settingNat Config.sSegmentSize)
    bays := .replicate 12 .afterReset, governor := .afterReset, verify := .afterReset
    trans := .afterReset (spindleFrom s.sensors.emptyA) (spindleFrom s.sensors.emptyB)
    labels := .afterReset
    printer := if s.settings.printerFitted then
        some (.afterReset (if printerBad s.sensors then .fault else .idle)) else none
    status := .afterReset, dispatchWanted := false }

/-- The segment size in effect is taken from the working copy that start-up goes by (R48, R192). -/
def State.applyBuild (s : State) : State :=
  { s with staging := .afterReset (s.settingNat Config.sSegmentSize) }

/-- The current conditions as their owners report them during start-up (R187), at the reset of the blocks (DESIGN CHOICE, log 23). -/
def State.reportAll (s : State) : State :=
  (((((s.report .armFault (s.trans.arm == .fault)).report .doorOpen s.sensors.doorOpen).report .spindleEmpty
    (s.trans.spindleA != SpindleState.ready || s.trans.spindleB != SpindleState.ready)).report .outputFull
    s.sensors.outFull).report .rejectFull s.sensors.rejectFull).reportBayFault.reportPrinter

/-! ## INVENTORY (R192) -/

/-- Every fitted bay is surveyed (R57, R192). -/
def State.surveyBays (s : State) : State :=
  (List.finRange 12).foldl (fun s b => if s.fitted b then s.startSurvey b else s) s

/-- A disc on the arm gets an orphan record (R2, R192). -/
def State.surveyArm (s : State) : State := if s.sensors.pick then (s.askOrphan .arm).1 else s

def State.setStage (s : State) (st : Stage) : State := s.modSettings fun g => { g with stage := st }

/-- INVENTORY begins: bays, printer and arm are surveyed (R192); a disc on the tray has its record created before one on the arm (DESIGN CHOICE, log 43). -/
def State.beginInventory (s : State) : State :=
  (((s.setStage .inventory).surveyBays).surveyPrinter).surveyArm

/-! ## STARTING (R192) -/

/-- The rest of STARTING, once the flash can be read: loading for RELOAD, then the segment size in effect, then INVENTORY (R192). -/
def State.finishStarting (s : State) (mode : RestartMode) : State :=
  let s := match mode with
    | .reload => s.loadSettings
    | .keep => s
  (s.modSettings fun g => { g with waiting := false }).applyBuild.beginInventory

/-- The straps that a start-up goes by: RELOAD samples them (R191, R192). -/
def State.strapsFor (s : State) : RestartMode → State
  | .reload => s.sampleStraps
  | .keep => s

/-- Start-up from STARTING: the straps are sampled, the blocks reset and their conditions reported at once, and only the reading of the flash waits for a write to end (R190 to R192; log 23). In that wait every working setting in effect, the alert, warn and event masks and the feed budget among them, is the old working copy's (DESIGN CHOICE, log 23). -/
def State.startup (s : State) (mode : RestartMode) : State :=
  let s := ((s.strapsFor mode).resetBlocks.setStage .starting).reportAll
  if mode = .reload ∧ s.settings.saving.isSome then s.modSettings fun g => { g with waiting := true }
  else s.finishStarting mode

/-! ## The ends of INVENTORY and HOMING (R192) -/

/-- Every bay and printer survey has ended (R192). -/
def State.inventoryOver (s : State) : Bool :=
  s.settings.stage == .inventory &&
    (List.finRange 12).all (fun b => !s.fitted b || (s.bay b).state != .ident) &&
    !(s.discs.orphanWait.contains .prn)

/-- A request that moves an orphan (R192). -/
def State.movesOrphan (s : State) (r : MoveReq) : Bool :=
  (s.disc r.disc).any fun d => d.job.isNone

/-- Homing has ended, no orphan's move is queued and no orphan is on the arm (R192). -/
def State.startupOver (s : State) : Bool :=
  s.settings.stage == .homing &&
    (s.trans.arm == .idle || s.trans.arm == .granted || s.trans.arm == .carrying || s.trans.arm == .held) &&
    !(s.trans.queue.any s.movesOrphan) &&
    !(s.discs.records.any fun d => d.job.isNone && d.location == .arm)

end Sys2Proof.Machine
end

