-- ==== Sys2Proof/Machine/StartupRows.lean ====
section
/-! DEFINITION. The rows of power-on, restart, start-up, straps and the settings (R188 to R192). -/

namespace Sys2Proof.Machine

/-- Power is applied (R192): the pending commands and the model's clock stand (log 27). -/
def State.powerUp (s : State) (readings : Readings) (flash : List Byte) : State :=
  { s with
    sensors := readings
    link := .afterReset .detached
    settings := { s.settings with flash, saving := none, storedValid := false } }

/-- POWER_ON (R192). -/
def execPowerOn (readings : Readings) (flash : List Byte) (s : State) : Effect :=
  .next ((s.powerUp readings flash).startup .reload)

/-- The link at a restart: R177's values, and the port as it was. The transfers that wait stay with the host, which R168 only delays (log 13). -/
def Link.restarted (l : Link) : Link := { Link.afterReset l.port with waiting := l.waiting }

/-- RESTART_BEGIN (R172, R177, R192): acts when an accepted RESTART waits. Given as a command it says that one of R172's three causes has come, as an expiry row does (DESIGN CHOICE, log 3). -/
def execRestartBegin (s : State) : Effect :=
  match s.link.restart with
  | none => .next s
  | some w => .next ({ s with link := s.link.restarted }.startup w.mode)

/-- STARTUP_INVENTORY_END (R192): homing is asked for. -/
def execStartupInventoryEnd (s : State) : Effect :=
  .next (if s.inventoryOver then (s.setStage .homing).startHoming else s)

/-- STARTUP_READY (R192). -/
def execStartupReady (s : State) : Effect :=
  .next (s.watched (if s.startupOver then s.setStage .ready else s))

/-- What the straps read (R191). -/
def strapsRead (r : Readings) : Nat × Bool := (Config.bayCount r.baysCode, r.printerStrap)

/-- STRAP_CHANGE (R191): the fitted set is not altered. -/
def execStrapChange (baysCode : Nat) (printer : Bool) (s : State) : Effect :=
  let r := { s.sensors with baysCode, printerStrap := printer }
  let t := { s with sensors := r }
  .next (if strapsRead r = strapsRead s.sensors then t else (t.latch .strapChange).raise .settings)

/-- RESTART (R172, R192): answered at acceptance; it begins after the reply. -/
def execRestart (mode : Byte) (s : State) : Effect :=
  match RestartMode.ofByte mode with
  | none => .next (s.refuse Config.kRestart .badField)
  | some m =>
    let due := s.replyDiscarded Config.kRestart
    let s := s.answer Config.kRestart .ok .none
    .next { s with link := { s.link with
      restart := some { mode := m, limit := s.now + Config.restartDelay, due } } }

/-! ## Settings (R189, R190) -/

/-- One setting of SETTING GET (R189). -/
def State.settingReport (s : State) (n : SettingId) : SettingReport :=
  { number := n, working := s.setting n
    stored := if s.settings.storedValid then some s.settings.stored[n.val] else none
    default := Config.settingDefault[n.val] }

/-- SETTING_GET (R189). -/
def execSettingGet (number : Byte) (s : State) : Effect :=
  if number = 255 then
    .next (s.answer Config.kSettingGet .ok
      (.settings ((List.finRange 17).map s.settingReport) (some s.staging.segmentSize)))
  else
    match finOf 17 number with
    | none => .next (s.refuse Config.kSettingGet .badField)
    | some n =>
      .next (s.answer Config.kSettingGet .ok
        (.settings [s.settingReport n] (if n = Config.sSegmentSize then some s.staging.segmentSize else none)))

/-- The settings that pairs name, if every number is a setting's (R189). -/
def namedSettings : List (Byte × BitVec 32) → Option (List (SettingId × Int))
  | [] => some []
  | (n, v) :: r =>
    match finOf 17 n, namedSettings r with
    | some k, some l => some ((k, v.toInt) :: l)
    | _, _ => none

/-- A value as the working copy would take it (R189). -/
def takenValue (p : SettingId × Int) : SettingId × Int :=
  (p.1, if settingUnclamped p.1 then p.2 else settingClamp p.1 p.2)

/-- The working copy with values taken (R189). -/
def withValues (v : Vector Int 17) (l : List (SettingId × Int)) : Vector Int 17 :=
  l.foldl (fun v p => v.set p.1.val p.2) v

/-- The first check of R189 that a SETTING SET fails, or its values. -/
def State.settingSetCheck (s : State) (pairs : List (Byte × BitVec 32)) :
    Except Result (List (SettingId × Int)) :=
  if s.ready = false then .error .busy
  else if pairs.length = 0 ∨ 24 < pairs.length then .error .badField
  else
    match namedSettings pairs with
    | none => .error .badField
    | some l =>
      if ¬ (l.map Prod.fst).Nodup then .error .badField
      else if l.any (fun p => settingUnclamped p.1 && !settingInRange p.1 p.2) then .error .badField
      else if thresholdsOrdered (withValues s.settings.working (l.map takenValue)) = false then .error .badField
      else if (l.map takenValue).any (fun p => p.1 == Config.sFeedBudget && p.2 < s.governor.sum) then
        .error .budgetInUse
      else .ok l

/-- SETTING_SET (R189): all values are taken together, or none. -/
def execSettingSet (pairs : List (Byte × BitVec 32)) (s : State) : Effect :=
  match s.settingSetCheck pairs with
  | .error e => .next (s.refuse Config.kSettingSet e)
  | .ok l =>
    let taken := l.map takenValue
    let s := s.modSettings fun g => { g with working := withValues g.working taken }
    .next (s.answer Config.kSettingSet (if taken = l then .ok else .clamped) (.settingsHeld taken))

/-- SETTINGS_SAVE (R190). -/
def execSettingsSave (s : State) : Effect :=
  if s.ready = false ∨ s.settings.saving.isSome then .next (s.refuse Config.kSettingsSave .busy)
  else
    let s := s.modSettings fun g => { g with saving := some { values := g.working, ends := s.now + Config.saveTime } }
    .next (s.answer Config.kSettingsSave .ok .none)

/-- The flash write has ended: the record read back is checked (R190). -/
def State.saveEnded (s : State) (w : Saving) (readBack : List Byte) : State :=
  let s := s.modSettings fun g => { g with flash := readBack, saving := none }
  let s := if recordValid readBack then
      s.modSettings fun g => { g with stored := w.values, storedValid := true }
    else (s.modSettings fun g => { g with storedValid := false }).latch .settingsBad
  s.raise .settings

/-- SETTINGS_WRITE_END (R190); a start-up that waited for it goes on. -/
def execSettingsWriteEnd (readBack : List Byte) (s : State) : Effect :=
  match s.settings.saving with
  | none => .next s
  | some w =>
    let s := s.saveEnded w readBack
    .next (if s.settings.waiting then s.finishStarting .reload else s)

end Sys2Proof.Machine
end

