-- ==== Sys2Proof/Machine/LinkRows.lean ====
section
/-! DEFINITION. The rows of the Message Link: the port, frames, the queues, IDENT, notices (R164 to R177, R184). -/

namespace Sys2Proof.Machine

def State.modLink (s : State) (f : Link → Link) : State := { s with link := f s.link }

/-- PORT_ENUMERATED (R164). -/
def execPortEnumerated (s : State) : Effect :=
  .next (if s.link.port = .detached then s.modLink fun l => { l with port := .attached } else s)

/-- PORT_CONFIGURED (R164). -/
def execPortConfigured (s : State) : Effect :=
  .next (if s.link.port = .attached then s.modLink fun l => { l with port := .configured } else s)

/-- What a link reset leaves of the link (R172, R176). -/
def Link.wasReset (l : Link) (detach : Bool) : Link :=
  { l with
    port := if detach then .detached else .attached
    assembly := [], waiting := [], inbound := []
    owner := l.owner.map fun o => { o with discard := true }
    outbound := []
    linkResets := satInc Config.max16 l.linkResets
    restart := l.restart.map fun w => { w with due := true } }

/-- LINK_RESET (R176, R187). -/
def execLinkReset (detach : Bool) (s : State) : Effect :=
  .next { s with
    link := s.link.wasReset detach
    status := { s.status with gate := .opened, gapTimer := none } }

/-- FRAME_RECEIVED (R166 to R168): the pipes are open only in CONFIGURED. -/
def execFrameReceived (bytes : List Byte) (s : State) : Effect :=
  .next (if s.link.port = .configured then s.modLink fun l => l.receive bytes else s)

/-- OVERSIZE_HEADER_RECEIVED (R166): judged at byte 7, the rest of the transfer is discarded. -/
def execOversizeHeaderReceived (header : List Byte) (s : State) : Effect :=
  .next (if s.link.port = .configured ∧ oversizeHeader header = true then
      s.modLink fun l => l.oversize header
    else s)

/-- The head entry can be taken (R170, R172). -/
def State.canTake (s : State) : Bool :=
  s.link.owner.isNone && s.link.restart.isNone && s.replies < Config.queueFrames

/-- A refused entry is answered at once (R170). -/
def State.answerRefused (s : State) (kind : Byte) (tag : BitVec 16) (result : Result) : State :=
  { s.clearCaptured with link := (s.link.place (s.replyFrame kind tag result .none)).freeEntry }

/-- The head entry is taken: a request goes to its owner, whose row then answers it (R170). -/
def State.takeEntry (s : State) : State :=
  match s.link.inbound with
  | [] => s
  | .request r :: _ => s.modLink fun l => { l with owner := some { request := r, discard := false } }
  | .refused kind tag result :: _ => s.answerRefused kind tag result

/-- INBOUND_TAKE (R170): the transfers that waited over a RESTART take their entries first (R168, log 13). -/
def execInboundTake (s : State) : Effect :=
  .next (if s.canTake then (s.modLink Link.refill).takeEntry else s)

/-- The OK reply to a RESTART. -/
def Frame.isRestartOk : Frame → Bool
  | .reply kind _ result _ _ _ => kind == Config.kRestart && result == .ok
  | .notice _ _ _ _ => false

/-- A frame has been sent: it leaves the queue; an accepted RESTART begins once its reply is away (R169, R172). -/
def Link.sent (l : Link) : Link :=
  match l.outbound with
  | [] => l
  | f :: r =>
    { l with
      outbound := r
      restart := if f.isRestartOk then l.restart.map fun w => { w with due := true } else l.restart }

/-- IN_TRANSFER_COMPLETE (R169). -/
def execInTransferComplete (s : State) : Effect :=
  .next (if s.link.port = .configured then s.modLink Link.sent else s)

/-- The fields of IDENT (R175). -/
def State.identData (s : State) : IdentData :=
  { product := 0x0C12, revision := 1, fittedBays := s.settings.fittedBays,
    printerFitted := s.settings.printerFitted, baysNow := Config.bayCount s.sensors.baysCode,
    printerNow := s.sensors.printerStrap, stage := s.settings.stage,
    segmentSize := s.staging.segmentSize, totalSegments := Config.totalSegments s.staging.segmentSize,
    labelBlocks := Config.labelBlocks, digestEntries := Config.digestEntries,
    inboundCapacity := Config.queueFrames, linkResets := s.link.linkResets }

/-- IDENT (R175). -/
def execIdent (s : State) : Effect := .next (s.answer Config.kIdent .ok (.ident s.identData))

/-- The NOTICE as formed now (R184). -/
def State.noticeFrame (s : State) : Frame := .notice s.status.pending s.unmasked s.alert s.warn

/-- NOTICE_OFFER (R173, R184): placed in CONFIGURED, which closes the gate; refused otherwise. -/
def execNoticeOffer (s : State) : Effect :=
  .next (if s.noticeDue ∧ s.link.port = .configured then
      { s with link := s.link.place s.noticeFrame, status := { s.status with gate := .closed } }
    else s)

/-- GAP_TIMER_EXPIRY (R184, R185). -/
def execGapTimerExpiry (s : State) : Effect :=
  .next { s with status := { s.status with gapTimer := none } }

end Sys2Proof.Machine
end

