-- ==== Sys2Proof/Machine/StatusRows.lean ====
section
/-! DEFINITION. The rows of the Status and Event Unit and of the verify counters (R107, R108, R133, R179 to R186). -/

namespace Sys2Proof.Machine

/-- The Transport Controller's part of STATUS GET (R133). -/
def State.transportReport (s : State) : TransportReport :=
  { arm := s.trans.arm, faultCause := s.trans.faultCause, homingPending := s.trans.homingPending,
    discHeld := s.sensors.pick, pos := s.trans.pos, forcedReleases := s.trans.forcedReleases,
    spindleA := s.trans.spindleA, spindleB := s.trans.spindleB,
    outFull := s.sensors.outFull, rejectFull := s.sensors.rejectFull, doorOpen := s.sensors.doorOpen,
    queue := s.trans.queue.map fun r => (r, s.trans.classOfReq r),
    holdLeft := s.trans.holdTimer.map s.left }

/-- The data of STATUS GET (R182). -/
def State.statusReport (s : State) : StatusReport :=
  { live := s.status.live, shadow := s.status.shadow &&& shadowConds,
    alertMask := s.alertMask, warnMask := s.warnMask,
    forcedAlert := s.status.forcedAlert, forcedWarn := s.status.forcedWarn,
    pending := s.status.pending, eventMask := s.eventMask, unmasked := s.unmasked,
    gate := s.status.gate, gapLeft := s.status.gapTimer.map s.left, transport := s.transportReport }

/-- STATUS_GET (R182). -/
def execStatusGet (s : State) : Effect :=
  .next (s.answer Config.kStatusGet .ok (.status s.statusReport))

def State.modStatus (s : State) (f : StatusUnit → StatusUnit) : State := { s with status := f s.status }

/-- The latched conditions are cleared, and each shadow is what its live value gives (R179). -/
def StatusUnit.cleared (u : StatusUnit) : StatusUnit :=
  { u with live := u.live &&& shadowConds, shadow := u.live &&& shadowConds }

/-- STATUS_CLEAR (R179): the summary byte is formed after the clear. -/
def execStatusClear (s : State) : Effect :=
  .next ((s.modStatus StatusUnit.cleared).answer Config.kStatusClear .ok
    (.cleared (s.status.live &&& latchedConds) (s.status.shadow &&& shadowConds)))

/-- The named forced flags take a value (R181). -/
def StatusUnit.force (f : Bool × Bool) (v : Bool) (u : StatusUnit) : StatusUnit :=
  { u with forcedAlert := if f.1 then v else u.forcedAlert, forcedWarn := if f.2 then v else u.forcedWarn }

/-- FLAG_FORCE (R181). -/
def execFlagForce (flags : Byte) (s : State) : Effect :=
  match flagsOf flags with
  | none => .next (s.refuse Config.kFlagForce .badField)
  | some f => .next ((s.modStatus (StatusUnit.force f true)).answer Config.kFlagForce .ok .none)

/-- FLAG_RELEASE (R181). -/
def execFlagRelease (flags : Byte) (s : State) : Effect :=
  match flagsOf flags with
  | none => .next (s.refuse Config.kFlagRelease .badField)
  | some f => .next ((s.modStatus (StatusUnit.force f false)).answer Config.kFlagRelease .ok .none)

/-- EVENT_MASK (R186). -/
def execEventMask (mask : BitVec 16) (s : State) : Effect :=
  .next ((s.modSettings fun g => { g with
    working := g.working.set Config.sEventMask.val (mask.toNat : Int) }).answer Config.kEventMask .ok .none)

/-- Kinds are acknowledged: they leave the pending set, the gate opens, the gap timer runs while unmasked kinds remain (R185). -/
def State.acknowledge (s : State) (events : BitVec 16) : State :=
  let s := s.modStatus fun u => { u with pending := u.pending &&& ~~~ events, gate := .opened }
  s.modStatus fun u => { u with gapTimer := if s.unmasked = 0 then none else some (s.now + Config.gapTime) }

/-- EVENT_ACK (R185). -/
def execEventAck (events : BitVec 16) (s : State) : Effect :=
  .next ((s.acknowledge events).answer Config.kEventAck .ok (.events (s.acknowledge events).status.pending))

/-- What the reply gives of a BUSY lane (R107). -/
def Lane.report (y : Lane) : LaneReport :=
  { bay := y.bay, disc := y.disc, mode := y.mode, stop := y.stop, next := y.next, chunks := y.chunks,
    mismatches := y.mismatches, readOut := y.readOut }

/-- COUNTERS_GET (R107). -/
def execCountersGet (s : State) : Effect :=
  .next (s.answer Config.kCountersGet .ok
    (.verify s.verify.chunksVerified s.verify.mismatched s.verify.repeats
      (s.verify.lanes.toList.map (Option.map Lane.report)) s.verify.queue))

/-- COUNTERS_CLEAR (R108). -/
def execCountersClear (s : State) : Effect :=
  .next ((s.modVerify fun v => { v with chunksVerified := 0, mismatched := 0, repeats := 0 }).answer
    Config.kCountersClear .ok (.counters s.verify.chunksVerified s.verify.mismatched s.verify.repeats))

end Sys2Proof.Machine
end

