-- ==== Sys2Proof/Machine/ImageRows.lean ====
section
/-! DEFINITION. The rows of the image requests (R28 to R47). -/

namespace Sys2Proof.Machine

/-! ## IMAGE_OPEN (R28, R29) -/

/-- A new image slot record (R29). -/
def Image.opened (size : Nat) (media : MediaClass) (residency : Residency) (window : List Segment) : Image :=
  { state := .filling, size, media, residency, fill := 0, base := 0, window, pass := 1,
    gate := .opened, consumers := [], digests := List.replicate (chunkCount size) none,
    acc := crcInit32, differing := 0, stageFullRefused := false }

/-- The cap a STREAMING image takes: the setting, at most the total segments (R29). -/
def State.newCap (s : State) : Nat :=
  min (s.settingNat Config.sWindowCap) (Config.totalSegments s.staging.segmentSize)

/-- The residency decision: the record, or none for STAGE_FULL (R29). -/
def State.residency (s : State) (media : MediaClass) (needResident : Bool) (size : Nat) : Option Image :=
  let n := segmentsFor size s.segSectors
  if n ≤ s.staging.freeSegments then some (.opened size media .resident (List.replicate n []))
  else if needResident ∨ s.staging.freeSegments < 8 then none
  else some (.opened size media (.streaming s.newCap false) [])

/-- The slot is filled: segments and digest entries leave their pools (R29, R31). -/
def State.fillSlot (s : State) (k : ImageId) (i : Image) : State :=
  { s with staging := { s.staging with
      freeSegments := s.staging.freeSegments - i.window.length
      freeDigests := s.staging.freeDigests - i.digests.length } }.setImage k (some i)

/-- A slot is opened; a pool it leaves empty starts an evaluation in every STREAMING slot (R29, R40). -/
def State.openSlot (s : State) (k : ImageId) (i : Image) : State :=
  let t := s.fillSlot k i
  if i.window ≠ [] ∧ t.staging.freeSegments = 0 then t.poolEmptied else t

def Image.cap (i : Image) : Option Nat :=
  match i.residency with
  | .streaming c _ => some c
  | .resident => none

/-- The checks of IMAGE OPEN, in order (R28). -/
def State.imageOpenCheck (s : State) (slot media need : Byte) (size : Nat) : Except Result (ImageId × Image) :=
  if s.ready = false then .error .busy
  else
    match finOf 4 slot, MediaClass.ofByte media, yesNo need with
    | some k, some class_, some r =>
      if size = 0 ∨ Config.maxImageSectors < size then .error .badField
      else if (s.image k).isSome then .error .state
      else if s.staging.freeDigests < chunkCount size then .error .digestFull
      else
        match s.residency class_ r size with
        | none => .error .stageFull
        | some i => .ok (k, i)
    | _, _, _ => .error .badField

/-- IMAGE_OPEN (R28). -/
def execImageOpen (slot media need : Byte) (size : BitVec 32) (s : State) : Effect :=
  match s.imageOpenCheck slot media need size.toNat with
  | .error e => .next (s.refuse Config.kImageOpen e)
  | .ok (k, i) =>
    .next ((s.watched (s.openSlot k i)).answer Config.kImageOpen .ok
      (.imageOpened (!i.streaming) i.window.length i.cap i.digests.length))

/-! ## IMAGE_DATA (R33 to R36, R44) -/

/-- Promotion: a STREAMING image staged to the end with base 0 becomes RESIDENT (R44). -/
def Image.promoted (i : Image) : Image := if i.base = 0 then { i with residency := .resident } else i

/-- The fill point has reached size: COMPLETE, and perhaps promoted (R36, R44). -/
def Image.completed (i : Image) : Image := { i with state := .complete }.promoted

/-- The record after an accepted request has stored its sectors (R36). A pass that the search for a segment has ended stays ended (R43, log 37). -/
def Image.stored (i : Image) (seg : Nat) (d : List Sector) : Image :=
  let j := { i.takeSectors d with window := fillWindow seg i.window d, stageFullRefused := false }
  if j.fill = j.size ∧ j.state ≠ .awaitRewind then j.completed else j

/-- Each bay of the image makes the feed test after a fill point advance (R36, R59). -/
def State.feedImage (s : State) (k : ImageId) : State :=
  (List.finRange 12).foldl (fun s b => if (s.bay b).imageSlot = some k then s.feedTest b else s) s

/-- Sectors are stored in a slot whose window covers them (R36). -/
def State.storeSectors (s : State) (k : ImageId) (i : Image) (d : List Sector) : State :=
  let j := i.stored s.segSectors d
  let s := s.setImage k (some j)
  let s := if j.fill = j.size then s.raise .imageStaged else s
  s.feedImage k

/-- The checks of IMAGE DATA but the last, in order (R34). -/
def State.imageDataCheck (s : State) (slot count : Byte) (offset : Nat) (data : List Byte) :
    Except Result (ImageId × Image) :=
  if s.ready = false then .error .busy
  else
    match finOf 4 slot with
    | none => .error .badField
    | some k =>
      if count = 0 ∨ 32 < count.toNat ∨ data.length ≠ count.toNat * Config.sectorBytes then .error .badField
      else
        match s.image k with
        | none => .error .state
        | some i =>
          if i.state ≠ .filling then .error .state
          else if offset ≠ i.fill then .error .outOfOrder
          else if i.size < offset + count.toNat then .error .badField
          else .ok (k, i)

/-- A request refused for want of space sets the slot's field (R35). -/
def State.stageFull (s : State) (k : ImageId) (i : Image) : State :=
  s.setImage k (some { i with stageFullRefused := true })

/-- IMAGE_DATA (R34): the sectors are taken whole or not at all. The release evaluations that its segment starts come first, then the sectors and the promotion of R44 (DESIGN CHOICE, log 37). -/
def execImageData (slot count : Byte) (offset : BitVec 32) (data : List Byte) (s : State) : Effect :=
  match s.imageDataCheck slot count offset.toNat data with
  | .error e => .next (s.refuse Config.kImageData e)
  | .ok (k, i) =>
    match s.findSegment k i count.toNat with
    | none => .next ((s.stageFull k i).refuse Config.kImageData .stageFull)
    | some t =>
      let d := sectorsOf count.toNat data
      let j := (t.image k).getD i
      let first := j.firstDiffering d
      .next ((s.watched (t.storeSectors k j d)).answer Config.kImageData (if first.isSome then .digestDiffers else .ok)
        (.imageData (j.fill + count.toNat) first))

/-! ## PASS_CLOSE, IMAGE_REWIND, IMAGE_RELEASE (R42, R45, R46) -/

/-- PASS CLOSE has been received for the pass (R42). -/
def Image.passClosing (i : Image) : Image :=
  match i.residency with
  | .streaming c _ => { i with residency := .streaming c true }
  | .resident => i

/-- PASS CLOSE takes effect: with no consumer the pass ends, otherwise segments may go (R42). -/
def State.closePass (s : State) (k : ImageId) (i : Image) : State :=
  if i.passClosed then s
  else
    let j := i.passClosing
    if j.consumers = [] then (s.setImage k (some { j with gate := .closed })).passEndTest k
    else (s.setImage k (some j)).releaseEvaluation k

/-- The checks of PASS CLOSE (R42). -/
def State.passCloseCheck (s : State) (slot : Byte) (pass : Nat) : Except Result (ImageId × Image) :=
  if s.ready = false then .error .busy
  else
    match finOf 4 slot with
    | none => .error .badField
    | some k =>
      match s.image k with
      | none => .error .state
      | some i =>
        if i.state = .awaitRewind ∨ i.streaming = false ∨ pass ≠ i.pass then .error .state
        else .ok (k, i)

/-- PASS_CLOSE (R42). -/
def execPassClose (slot : Byte) (pass : BitVec 16) (s : State) : Effect :=
  match s.passCloseCheck slot pass.toNat with
  | .error e => .next (s.refuse Config.kPassClose e)
  | .ok (k, i) => .next ((s.watched (s.closePass k i)).answer Config.kPassClose .ok .none)

/-- The record at the start of the next pass (R45). -/
def Image.rewound (i : Image) : Image :=
  { i with
    pass := i.pass + 1, fill := 0, base := 0, gate := .opened, stageFullRefused := false
    differing := 0, acc := crcInit32, state := .filling
    residency := match i.residency with
      | .streaming c _ => .streaming c false
      | .resident => .resident }

/-- The checks of IMAGE REWIND (R45). -/
def State.rewindCheck (s : State) (slot : Byte) : Except Result (ImageId × Image) :=
  if s.ready = false then .error .busy
  else
    match finOf 4 slot with
    | none => .error .badField
    | some k =>
      match s.image k with
      | none => .error .state
      | some i => if i.state ≠ .awaitRewind ∨ i.pass = Config.max16 then .error .state else .ok (k, i)

/-- IMAGE_REWIND (R45). -/
def execImageRewind (slot : Byte) (s : State) : Effect :=
  match s.rewindCheck slot with
  | .error e => .next (s.refuse Config.kImageRewind e)
  | .ok (k, i) =>
    .next ((s.watched (s.setImage k (some i.rewound))).answer Config.kImageRewind .ok (.pass (i.pass + 1)))

/-- A present job that is not COMPLETE or CANCELLED. -/
def Job.live (j : Job) : Bool := j.state != .complete && j.state != .cancelled

/-- A live job of some slot passes a test. -/
def State.anyLiveJob (s : State) (f : Job → Bool) : Bool :=
  s.jobs.slots.toList.any fun o => match o with
    | some j => j.live && f j
    | none => false

/-- The checks of IMAGE RELEASE (R46). -/
def State.imageReleaseCheck (s : State) (slot : Byte) : Except Result (ImageId × Image) :=
  if s.ready = false then .error .busy
  else
    match finOf 4 slot with
    | none => .error .badField
    | some k =>
      match s.image k with
      | none => .error .state
      | some i => if s.anyLiveJob fun j => j.imageSlot == k then .error .inUse else .ok (k, i)

/-- Segments and digest entries return to their pools, then the slot becomes CLOSED (R41, R46). -/
def State.closeSlot (s : State) (k : ImageId) (i : Image) : State :=
  let s := s.returnSegments i.window.length
  ({ s with staging := { s.staging with
      freeDigests := s.staging.freeDigests + i.digests.length } }).setImage k none

/-- IMAGE_RELEASE (R46). -/
def execImageRelease (slot : Byte) (s : State) : Effect :=
  match s.imageReleaseCheck slot with
  | .error e => .next (s.refuse Config.kImageRelease e)
  | .ok (k, i) => .next ((s.watched (s.closeSlot k i)).answer Config.kImageRelease .ok .none)

/-! ## IMAGE_QUERY (R47) -/

/-- The slot's part of the reply (R47). -/
def State.imageReport (s : State) (i : Image) : ImageReport :=
  { state := i.state, size := i.size, media := i.media, residency := i.residency, fill := i.fill,
    base := i.base, windowLength := i.window.length, waste := wasteOf i.size s.segSectors,
    pass := i.pass, gate := i.gate,
    consumers := i.consumers.map fun b => (b, (s.bay b).cursor),
    digestsAllocated := i.digests.length, digestsPresent := i.digests.countP Option.isSome,
    differing := i.differing, stageFullRefused := i.stageFullRefused }

/-- The figures shared by all slots (R47). -/
def State.stagingFigures (s : State) : StagingFigures :=
  { freeSegments := s.staging.freeSegments, totalSegments := Config.totalSegments s.staging.segmentSize,
    sizeInEffect := s.staging.segmentSize, sizeWorking := s.setting Config.sSegmentSize,
    sizeStored := if s.settings.storedValid then some s.settings.stored[Config.sSegmentSize.val] else none,
    freeDigests := s.staging.freeDigests }

/-- IMAGE_QUERY (R47). -/
def execImageQuery (slot : Byte) (s : State) : Effect :=
  match finOf 4 slot with
  | none => .next (s.refuse Config.kImageQuery .badField)
  | some k =>
    .next (s.answer Config.kImageQuery .ok (.image ((s.image k).map s.imageReport) s.stagingFigures))

end Sys2Proof.Machine
end

