-- ==== Sys2Proof/Machine/LabelRows.lean ====
section
/-! DEFINITION. The rows of the label requests, the printer's sensors and its line period (R137 to R148). -/

namespace Sys2Proof.Machine

/-! ## LABEL_OPEN (R137) -/

/-- A label record as LABEL OPEN makes it, its values clamped (R137). -/
def newLabel (darkness : Int) (width lines : Nat) : Label :=
  let w := (clamp 8 1440 width).toNat
  let l := (clamp 1 1440 lines).toNat
  { width := w, lines := l, darkness := clamp (-8) 8 darkness, state := .loading, nextBand := 0,
    blocks := List.replicate (labelBlocksOf w l) [] }

/-- The checks of a label request that every one makes (07 section 7.2). -/
def State.labelCheck (s : State) (label : Byte) : Except Result LabelId :=
  if s.ready = false then .error .busy
  else if s.printer.isNone then .error .notFitted
  else
    match finOf 8 label with
    | none => .error .badField
    | some k => .ok k

/-- The blocks leave the pool and the record becomes present (R135, R137). -/
def State.openLabel (s : State) (k : LabelId) (l : Label) : State :=
  { s with labels := { s.labels with freeBlocks := s.labels.freeBlocks - l.blocks.length } }.setLabel k (some l)

/-- LABEL_OPEN (R137). -/
def execLabelOpen (label darkness : Byte) (width lines : BitVec 16) (s : State) : Effect :=
  match s.labelCheck label with
  | .error e => .next (s.refuse Config.kLabelOpen e)
  | .ok k =>
    if (s.label k).isSome then .next (s.refuse Config.kLabelOpen .state)
    else
      let l := newLabel darkness.toInt width.toNat lines.toNat
      if s.labels.freeBlocks < l.blocks.length then
        .next (s.answer Config.kLabelOpen .labelSpace (.labelSpace l.blocks.length s.labels.freeBlocks))
      else
        let asked := l.width = width.toNat ∧ l.lines = lines.toNat ∧ l.darkness = darkness.toInt
        .next ((s.openLabel k l).answer Config.kLabelOpen (if asked then .ok else .clamped)
          (.labelOpened l.width l.lines l.darkness (lineBytes l.width) (bandCount l.lines) l.blocks.length
            (s.labels.freeBlocks - l.blocks.length)))

/-! ## LABEL_DATA (R138, R139) -/

/-- The next band is stored; after the last one the label is READY (R139). -/
def Label.withBand (l : Label) (data : List Byte) : Label :=
  let e := bandBytes l.width l.lines l.nextBand
  { l with
    blocks := placeBlocks l.blocks (blocksBefore l.width l.lines l.nextBand)
      (toBlocks (bandBlocks l.width l.lines l.nextBand) (storedBand e data))
    nextBand := l.nextBand + 1
    state := if l.nextBand + 1 = bandCount l.lines then .ready else .loading }

/-- The result that the data's length gives (R139). -/
def bandResult (e received : Nat) : Result :=
  if received = e then .ok else if e < received then .truncated else .padded

/-- The checks of LABEL DATA, in order (R138). -/
def State.labelDataCheck (s : State) (label band : Byte) : Except Result (LabelId × Label) :=
  match s.labelCheck label with
  | .error e => .error e
  | .ok k =>
    match s.label k with
    | none => .error .noSuch
    | some l =>
      if l.state ≠ .loading then .error .state
      else if band.toNat ≠ l.nextBand then .error .outOfOrder
      else .ok (k, l)

/-- LABEL_DATA (R138). -/
def execLabelData (label band : Byte) (data : List Byte) (s : State) : Effect :=
  match s.labelDataCheck label band with
  | .error e => .next (s.refuse Config.kLabelData e)
  | .ok (k, l) =>
    let e := bandBytes l.width l.lines l.nextBand
    let m := l.withBand data
    .next ((s.setLabel k (some m)).answer Config.kLabelData (bandResult e data.length)
      (.band e data.length m.nextBand m.state))

/-! ## LABEL_DROP (R140) -/

/-- The checks of LABEL DROP, in order (R140). -/
def State.labelDropCheck (s : State) (label : Byte) : Except Result (LabelId × Label) :=
  match s.labelCheck label with
  | .error e => .error e
  | .ok k =>
    match s.label k with
    | none => .error .noSuch
    | some l => if s.anyLiveJob fun j => j.label == some k then .error .inUse else .ok (k, l)

/-- The blocks return to the pool and the record becomes absent (R140). -/
def State.dropLabel (s : State) (k : LabelId) (l : Label) : State :=
  { s with labels := { s.labels with freeBlocks := s.labels.freeBlocks + l.blocks.length } }.setLabel k none

/-- LABEL_DROP (R140). -/
def execLabelDrop (label : Byte) (s : State) : Effect :=
  match s.labelDropCheck label with
  | .error e => .next (s.refuse Config.kLabelDrop e)
  | .ok (k, l) => .next ((s.dropLabel k l).answer Config.kLabelDrop .ok .none)

/-! ## LABEL_QUERY (R141) -/

def labelReport (k : LabelId) (l : Label) : LabelReport :=
  { label := k, width := l.width, lines := l.lines, darkness := l.darkness,
    lineBytes := lineBytes l.width, bandCount := bandCount l.lines, state := l.state,
    nextBand := l.nextBand, blocks := l.blocks.length }

/-- The printer's part of the reply (R141). -/
def State.printerReport (s : State) (p : Printer) : PrinterReport :=
  { freeBlocks := s.labels.freeBlocks, state := p.state,
    bad := if p.state = .fault then some (s.sensors.ribbonOut, (headTemp s.sensors).isNone) else none,
    trayDisc := p.trayDisc, trayMove := p.trayMove,
    print := p.print.map fun r => (r.label, r.band, r.line, r.period, r.onTime),
    headTemp := headTemp s.sensors, ribbonOut := s.sensors.ribbonOut, ribbonLow := s.sensors.ribbonLow }

/-- LABEL_QUERY (R141). -/
def execLabelQuery (label : Byte) (s : State) : Effect :=
  match s.printer with
  | none => .next (s.refuse Config.kLabelQuery .notFitted)
  | some p =>
    let one := fun k => (k, (s.label k).map (labelReport k))
    if label = 255 then
      .next (s.answer Config.kLabelQuery .ok (.labels ((List.finRange 8).map one) (s.printerReport p)))
    else
      match finOf 8 label with
      | none => .next (s.refuse Config.kLabelQuery .badField)
      | some k => .next (s.answer Config.kLabelQuery .ok (.labels [one k] (s.printerReport p)))

/-! ## PRINTER_RESUME (R148) -/

/-- The printer leaves FAULT by what its tray holds (R148). -/
def State.resumePrinter (s : State) (p : Printer) : State :=
  let s := match p.trayDisc with
    | none => s.setPrinter { p with state := .idle }
    | some n =>
      if p.trayMove then s.setPrinter { p with state := .awaitRemove }
      else
        let kind := if ((s.disc n).bind Disc.job).isSome then MoveKind.printOut else .clear
        s.postTrayMove { p with state := .awaitRemove } kind n (.bin .reject)
  s.reportPrinter.raise .printer

/-- PRINTER_RESUME (R148). -/
def execPrinterResume (s : State) : Effect :=
  if s.ready = false then .next (s.refuse Config.kPrinterResume .busy)
  else
    match s.printer with
    | none => .next (s.refuse Config.kPrinterResume .notFitted)
    | some p =>
      if p.state ≠ .fault then .next (s.refuse Config.kPrinterResume .state)
      else if printerBad s.sensors then
        .next (s.answer Config.kPrinterResume .state
          (.printerBad s.sensors.ribbonOut (headTemp s.sensors).isNone))
      else
        .next ((s.watched (s.resumePrinter p)).answer Config.kPrinterResume .ok
          (.printerState (if p.trayDisc.isNone then .idle else .awaitRemove)))

/-! ## The printer's own events (R143, R144, R147) -/

/-- PRINTER_LINE_PERIOD (R143): acts in PRINTING. -/
def execPrinterLinePeriod (s : State) : Effect :=
  match s.printer with
  | none => .next s
  | some p =>
    match p.state, p.print with
    | .printing, some r =>
      match s.label r.label with
      | some l => .next (s.watched (s.linePrinted p r l))
      | none => .next s
    | _, _ => .next s

/-- After a sensor reading: a bad one is a fault; a cool one ends COOLING (R144, R147). -/
def State.readingTaken (s : State) : State :=
  let s := s.reportPrinter
  match s.printer with
  | none => s
  | some p =>
    if printerBad s.sensors then s.printerFaultEntry p
    else
      match p.state, p.print, headTemp s.sensors with
      | .cooling, some r, some t => if t ≤ Config.headCool then s.bandStart p r false else s
      | _, _, _ => s

/-- HEAD_TEMPERATURE_READING (R144, R147). -/
def execHeadTemperatureReading (reading : Int) (s : State) : Effect :=
  .next (s.watched { s with sensors := { s.sensors with headReading := reading } }.readingTaken)

/-- RIBBON_SENSOR_CHANGE (R147). -/
def execRibbonSensorChange (out : Bool) (s : State) : Effect :=
  let t := { s with sensors := { s.sensors with ribbonOut := out } }
  match t.printer with
  | none => .next t
  | some p => .next (s.watched (if printerBad t.sensors then t.printerFaultEntry p else t))

/-- RIBBON_LOW_SENSOR_CHANGE (R147). -/
def execRibbonLowSensorChange (low : Bool) (s : State) : Effect :=
  .next { s with sensors := { s.sensors with ribbonLow := low } }.reportPrinter

end Sys2Proof.Machine
end

