-- ==== Sys2Proof/Machine/JobRows.lean ====
section
/-! DEFINITION. The rows of the jobs, the completion list, the run mode, dispatch and orphan records (R2, R9, R13 to R19, R152, R158, R159). -/

namespace Sys2Proof.Machine

/-! ## JOB_CREATE (R13, R14) -/

/-- The job record that valid fields describe; counters 0, ACTIVE (R13, R14). -/
def jobFrom (f : JobFields) (limit : Nat) : Option Job :=
  match finOf 4 f.imageSlot, labelField f.label, VerifyMode.ofByte f.verifyMode,
      VerifyStop.ofByte f.verifyStop, SpindleChoice.ofByte f.spindle with
  | some imageSlot, some label, some verifyMode, some verifyStop, some spindle =>
    if f.number = 0 ∨ f.copies = 0 ∨ 9999 < f.copies.toNat ∨ 20 < f.rejectLimit.toNat then none
    else
      let printOrder := if label.isSome then PrintOrder.ofByte f.printOrder else none
      if label.isSome ∧ printOrder = none then none
      else some
        { number := f.number.toNat, imageSlot, label, printOrder, verifyMode, verifyStop, spindle,
          copies := f.copies.toNat, rejectLimit := if f.rejectLimit = 0 then limit else f.rejectLimit.toNat,
          started := 0, good := 0, rejected := 0, inFlight := 0, consecRejects := 0, state := .active }
  | _, _, _, _, _ => none

/-- The slot of the present job with a number. -/
def State.jobSlot (s : State) (n : Nat) : Option JobSlot :=
  (List.finRange 8).find? fun k => (s.job k).any fun j => j.number == n

/-- The lowest-numbered free job slot (R14). -/
def State.freeJobSlot (s : State) : Option JobSlot :=
  (List.finRange 8).find? fun k => (s.job k).isNone

/-- The image check of JOB CREATE: FILLING or COMPLETE (R13). -/
def State.imageForJob (s : State) (k : ImageId) : Option Image :=
  match s.image k with
  | some i => if i.state = .awaitRewind then none else some i
  | none => none

/-- The label check of JOB CREATE (R13). -/
def State.labelFails (s : State) (j : Job) : Option Result :=
  match j.label with
  | none => none
  | some l =>
    if s.printer.isNone then some .notFitted
    else if (s.label l).any fun r => r.state == .ready then none
    else some .noSuch

/-- The checks of JOB CREATE, in order (R13). -/
def State.jobCreateCheck (s : State) (f : JobFields) : Except Result (JobSlot × Job) :=
  if s.ready = false then .error .busy
  else
    match jobFrom f (s.settingNat Config.sRejectLimit) with
    | none => .error .badField
    | some j =>
      if (s.jobSlot j.number).isSome then .error .inUse
      else
        match s.imageForJob j.imageSlot with
        | none => .error .noSuch
        | some i =>
          match s.labelFails j with
          | some e => .error e
          | none =>
            if j.verifyMode = .full ∧ i.streaming = true then .error .needsResident
            else
              match s.freeJobSlot with
              | none => .error .busy
              | some k => .ok (k, j)

/-- The job takes its slot and joins the tail of the creation order (R14). -/
def State.addJob (s : State) (k : JobSlot) (j : Job) : State :=
  let s := s.setJob k (some j)
  { s with jobs := { s.jobs with order := s.jobs.order ++ [k] } }

/-- JOB_CREATE (R13, R14). -/
def execJobCreate (fields : JobFields) (s : State) : Effect :=
  match s.jobCreateCheck fields with
  | .error e => .next (s.refuse Config.kJobCreate e)
  | .ok (k, j) => .next ((s.watched (s.addJob k j)).answer Config.kJobCreate .ok (.jobSlot k))

/-! ## JOB_HOLD, JOB_RELEASE, JOB_REMOVE (R15 to R17) -/

/-- The slot and record of a present job by number. -/
def State.jobNamed (s : State) (n : Nat) : Option (JobSlot × Job) :=
  match s.jobSlot n with
  | none => none
  | some k => (s.job k).map fun j => (k, j)

/-- The state that JOB HOLD gives, or none: STATE (R15). -/
def JobState.onHold : JobState → Option JobState
  | .active | .filled => some (.held .host)
  | .held c => some (.held c)
  | .complete | .cancelling | .cancelled => none

/-- JOB_HOLD (R15). -/
def execJobHold (number : BitVec 16) (s : State) : Effect :=
  match s.jobNamed number.toNat with
  | none => .next (s.refuse Config.kJobHold .noSuch)
  | some (k, j) =>
    match j.state.onHold with
    | none => .next (s.refuse Config.kJobHold .state)
    | some st => .next ((s.setJob k (some { j with state := st })).answer Config.kJobHold .ok .none)

/-- The record that JOB RELEASE gives, or none: STATE (R16). -/
def Job.onRelease (j : Job) : Option Job :=
  match j.state with
  | .held _ => some { j with consecRejects := 0, state := j.byCounters }
  | .active | .filled => some { j with consecRejects := 0 }
  | .complete | .cancelling | .cancelled => none

/-- JOB_RELEASE (R16). -/
def execJobRelease (number : BitVec 16) (s : State) : Effect :=
  match s.jobNamed number.toNat with
  | none => .next (s.refuse Config.kJobRelease .noSuch)
  | some (k, j) =>
    match j.onRelease with
    | none => .next (s.refuse Config.kJobRelease .state)
    | some r => .next ((s.watched (s.setJob k (some r))).answer Config.kJobRelease .ok .none)

/-- The slot is freed and leaves the creation order (R17). -/
def State.removeJob (s : State) (k : JobSlot) : State :=
  let s := s.setJob k none
  { s with jobs := { s.jobs with order := s.jobs.order.filter (· ≠ k) } }

/-- JOB_REMOVE (R17). -/
def execJobRemove (number : BitVec 16) (s : State) : Effect :=
  match s.jobNamed number.toNat with
  | none => .next (s.refuse Config.kJobRemove .noSuch)
  | some (k, j) =>
    if j.live then .next (s.refuse Config.kJobRemove .state)
    else .next ((s.removeJob k).answer Config.kJobRemove .ok .none)

/-! ## JOB_CANCEL (R152) -/

/-- The three counts of the reply, from the records before the cancel and the state after it (R152): the cancel deletes the QUEUED records (R153). -/
def cancelCounts (before : List Disc) (t : State) (k : JobSlot) : ReplyData :=
  .cancelled (before.countP fun d => d.stage == .queued) (before.countP t.nowCancelled)
    ((t.job k).elim 0 Job.inFlight)

/-- JOB_CANCEL (R152). -/
def execJobCancel (number : BitVec 16) (s : State) : Effect :=
  if number = 0 then .next (s.refuse Config.kJobCancel .badField)
  else
    match s.jobNamed number.toNat with
    | none => .next (s.refuse Config.kJobCancel .noSuch)
    | some (k, j) =>
      match j.state with
      | .complete | .cancelled => .next (s.refuse Config.kJobCancel .state)
      | .cancelling => .next (s.answer Config.kJobCancel .ok (.cancelled 0 0 j.inFlight))
      | .active | .filled | .held _ =>
        let t := s.watched (s.cancelJob k j)
        .next (t.answer Config.kJobCancel .ok (cancelCounts (s.discsOf k) t k))

/-! ## JOB_QUERY, DISC_RESULTS (R9, R18) -/

def Disc.report (d : Disc) : DiscReport :=
  { number := d.number, location := d.location, stage := d.stage, target := d.target, media := d.media,
    burned := d.burned, verified := d.verified, disposition := d.disposition }

def jobSummary (k : JobSlot) (j : Job) : JobSummary :=
  { number := j.number, slot := k, state := j.state, copies := j.copies, started := j.started,
    good := j.good, rejected := j.rejected, inFlight := j.inFlight }

/-- Orphan records in use (R18). -/
def State.orphans (s : State) : Nat := s.discs.records.countP fun d => d.job.isNone

/-- JOB_QUERY (R18). -/
def execJobQuery (number : BitVec 16) (s : State) : Effect :=
  if number = 0 then
    .next (s.answer Config.kJobQuery .ok
      (.jobs (s.jobs.order.filterMap fun k => (s.job k).map (jobSummary k)) s.jobs.runMode s.discs.free
        s.orphans s.discs.orphanWait.length))
  else
    match s.jobNamed number.toNat with
    | none => .next (s.refuse Config.kJobQuery .noSuch)
    | some (k, j) => .next (s.answer Config.kJobQuery .ok (.job k j ((s.discsOf k).map Disc.report)))

/-- The completion list after DISC RESULTS (R9). -/
def DiscTable.readOut (t : DiscTable) : DiscTable :=
  { t with completions := t.completions.drop Config.resultsPerRequest, dropped := 0 }

/-- DISC_RESULTS (R9). -/
def execDiscResults (s : State) : Effect :=
  let t := s.discs.readOut
  .next ({ s with discs := t }.answer Config.kDiscResults .ok
    (.results (s.discs.completions.take Config.resultsPerRequest) s.discs.dropped t.completions.length))

/-! ## The run mode (R158, R159) -/

def State.setRunMode (s : State) (m : RunMode) : State := { s with jobs := { s.jobs with runMode := m } }

/-- The reply to a run mode request, accepted or refused, carries the mode after it (R158). -/
def State.answerMode (s : State) (kind : Byte) (result : Result) : State :=
  s.answer kind result (.runMode s.jobs.runMode)

/-- TOWER_PAUSE (R158). -/
def execTowerPause (s : State) : Effect :=
  if s.ready = false then .next (s.answerMode Config.kTowerPause .busy)
  else if s.jobs.runMode = .draining then .next (s.answerMode Config.kTowerPause .state)
  else .next ((s.setRunMode .paused).answerMode Config.kTowerPause .ok)

/-- TOWER_RESUME (R158). -/
def execTowerResume (s : State) : Effect :=
  if s.ready = false then .next (s.answerMode Config.kTowerResume .busy)
  else .next ((s.watched (s.setRunMode .run)).answerMode Config.kTowerResume .ok)

/-- TOWER_DRAIN (R158, R159). -/
def execTowerDrain (s : State) : Effect :=
  if s.ready = false then .next (s.answerMode Config.kTowerDrain .busy)
  else .next ((s.setRunMode .draining).drainTest.answerMode Config.kTowerDrain .ok)

/-! ## Dispatch and orphan records (R2, R19) -/

/-- DISPATCH_EVALUATION (R19): answers the triggers noted so far; one that may not run leaves them noted (DESIGN CHOICE, log 1). -/
def execDispatchEvaluation (s : State) : Effect :=
  .next (if s.mayDispatch then { s.dispatchAll with dispatchWanted := false } else s)

/-- The block that asked takes its orphan record (R57, R130, R149). -/
def State.orphanGiven (s : State) (w : OrphanAt) (n : Nat) : State :=
  match w with
  | .bay b => s.bayTakesOrphan b n
  | .prn => s.printerTakesOrphan n
  | .arm => if s.trans.arm = .homing .awaitRecord then s.clearArm n else s

/-- A free record goes to the oldest waiting creation (R2). -/
def State.grantOrphan (s : State) : State :=
  match s.discs.orphanWait with
  | [] => s
  | w :: r =>
    if s.discs.free = 0 then s
    else
      let n := s.discs.newNumber
      ({ s with discs := { s.discs with orphanWait := r }.create (.orphan n w.station) }).orphanGiven w n

/-- ORPHAN_CREATION_GRANT (R2). -/
def execOrphanCreationGrant (s : State) : Effect := .next (s.watched s.grantOrphan)

end Sys2Proof.Machine
end

