-- ==== Sys2Proof/Machine/BayRows.lean ====
section
/-! DEFINITION. The rows of the bays: host requests, drive completions, timers, lanes and admission (R50 to R73, R80 to R105, R160, R161). -/

namespace Sys2Proof.Machine

/-! ## BAY_QUERY, BAY_OFFLINE, BAY_ONLINE (R73, R160, R161) -/

/-- The place of a bay in the admission queue, head 1, from a count (R92). -/
def placeIn (b : BayId) : Nat → List AdmEntry → Option Nat
  | _, [] => none
  | n, e :: r => if e.bay = b then some n else placeIn b (n + 1) r

/-- One bay of the reply (R73, R92). -/
def State.bayReport (s : State) (b : BayId) : BayReport :=
  let r := s.bay b
  { bay := b, state := r.state, disc := r.disc, job := r.job, imageSlot := r.imageSlot, facts := r.facts,
    cursor := r.cursor, buffer := r.buffer, step := r.burn.map Burn.step,
    stepRate := r.burn.map fun a => r.rate a.step, allocated := r.burn.map Burn.rate,
    stable := r.burn.map Burn.stable,
    out := r.out.map fun o => (o.req, s.left o.deadline), suspLeft := r.susp.map fun o => s.left o.deadline,
    timeouts := r.timeouts, handoverFailures := r.handoverFailures, offlineAfter := r.offlineAfter,
    dest := r.dest, lead := s.lead b, place := placeIn b 1 s.governor.queue,
    offered := (s.governor.queue.find? fun e => e.bay == b).bind AdmEntry.admitting }

/-- BAY_QUERY (R73). -/
def execBayQuery (bay : Byte) (s : State) : Effect :=
  if bay = 255 then
    .next (s.answer Config.kBayQuery .ok
      (.bays (((List.finRange 12).filter s.fitted).map s.bayReport) s.governor.sum
        (s.settingNat Config.sFeedBudget) (s.governor.queue.map AdmEntry.bay)))
  else
    match finOf 12 bay with
    | none => .next (s.refuse Config.kBayQuery .badField)
    | some b =>
      if s.fitted b then .next (s.answer Config.kBayQuery .ok (.bay (s.bayReport b)))
      else .next (s.refuse Config.kBayQuery .notFitted)

/-- The checks that BAY OFFLINE and BAY ONLINE share, in order (R160, R161). -/
def State.bayCheck (s : State) (bay : Byte) : Except Result BayId :=
  if s.ready = false then .error .busy
  else
    match finOf 12 bay with
    | none => .error .badField
    | some b => if s.fitted b then .ok b else .error .notFitted

/-- The record after BAY OFFLINE (R160). -/
def Bay.wentOffline (r : Bay) : Bay :=
  match r.state with
  | .empty => { r with state := .offline }
  | .offline => r
  | .awaitDisc | .ident | .admitWait | .burning | .suspended | .closing | .verifyWait | .verifying
  | .awaitUnload | .fault => { r with offlineAfter := true }

/-- BAY_OFFLINE (R160). -/
def execBayOffline (bay : Byte) (s : State) : Effect :=
  match s.bayCheck bay with
  | .error e => .next (s.refuse Config.kBayOffline e)
  | .ok b =>
    if (s.bay b).state = .fault then .next (s.refuse Config.kBayOffline .state)
    else
      .next ((s.modBay b Bay.wentOffline).answer Config.kBayOffline .ok (.bayState (s.bay b).wentOffline.state))

/-- The bay's counts are cleared and its tray surveyed (R161). -/
def State.bringOnline (s : State) (b : BayId) : State :=
  ((s.modBay b fun r => { r with timeouts := 0, handoverFailures := 0, offlineAfter := false }).startSurvey b).reportBayFault

/-- BAY_ONLINE (R161). -/
def execBayOnline (bay : Byte) (s : State) : Effect :=
  match s.bayCheck bay with
  | .error e => .next (s.refuse Config.kBayOnline e)
  | .ok b =>
    if (s.bay b).state = .offline ∨ (s.bay b).state = .fault then
      .next ((s.bringOnline b).answer Config.kBayOnline .ok .none)
    else .next (s.refuse Config.kBayOnline .state)

/-! ## Identification (R55 to R57) -/

/-- The result of a dispatched disc's IDENTIFY other than NOT_READY (R52, R56). -/
def State.identResult (s : State) (b : BayId) (kind : CompletionKind) (facts : DriveFacts) : State :=
  match (s.bay b).disc, kind with
  | some n, .ok => s.identified b n facts
  | _, _ => s.bayReject b .wrongMedia

/-- IDENTIFY has completed OK in a bay: a disc whose target bay it is takes the class the drive reports (R5). -/
def Disc.identifiedIn (b : BayId) (media : MediaClass) (d : Disc) : Disc :=
  if d.target = some b then { d with media := some media } else d

/-- A report on the disc of a bay (R5). -/
def State.modDiscOf (s : State) (b : BayId) (f : Disc → Disc) : State :=
  match (s.bay b).disc with
  | some n => s.modDisc n f
  | none => s

/-- The result of a survey other than NOT_READY (R57, R162). -/
def State.surveyResult (s : State) (b : BayId) (kind : CompletionKind) (facts : DriveFacts) : State :=
  match kind with
  | .ok =>
    let s := (s.modBay b fun r => { r with facts := some facts }).modDiscOf b (Disc.identifiedIn b facts.media)
    if facts.discPresent then s.surveyFoundDisc b else s.surveyFoundNone b
  | .mediaError | .underrun | .refused | .notReady => s.surveyFoundDisc b

/-- IDENTIFY_COMPLETE (R56): acts on the outstanding IDENTIFY of a bay in IDENT. -/
def execIdentifyComplete (b : BayId) (number : Byte) (kind : CompletionKind) (facts : DriveFacts) (s : State) : Effect :=
  match (s.bay b).state, (s.bay b).outMatching number with
  | .ident, some .identify =>
    let t := s.modBay b Bay.endOut
    if kind = .notReady then
      .next (t.modBay b fun r => { r with retryTimer := some (t.now + Config.identifyRetry) })
    else
      let t := t.modBay b fun r => { r with identDeadline := none }
      .next (s.watched (if (t.bay b).survey then t.surveyResult b kind facts else t.identResult b kind facts))
  | _, _ => .next s

/-- IDENTIFY_RETRY_TIMER_EXPIRY (R55): acts while the retry timer runs. -/
def execIdentifyRetryTimerExpiry (b : BayId) (s : State) : Effect :=
  .next (if (s.bay b).retryTimer.isSome then s.reissueIdentify b else s)

/-! ## Feeding (R58 to R63, R80) -/

/-- WRITE OK (R60). -/
def State.written (s : State) (b : BayId) (count buffer : Nat) : State :=
  let s := s.modBay b fun r => { r with
    cursor := some (r.cursor.getD 0 + count), buffer := some (min buffer Config.maxDriveBuffer) }
  let s := match (s.bay b).imageSlot with
    | some k => s.releaseEvaluation k
    | none => s
  if (s.bay b).cursor = (s.imageOf (s.bay b)).map Image.size then s.endBurn b
  else
    (s.reserveCheck b).feedTest b

/-- WRITE_COMPLETE (R60, R63): acts on the outstanding WRITE of a feeding bay. -/
def execWriteComplete (b : BayId) (number : Byte) (kind : CompletionKind) (buffer : Nat) (s : State) : Effect :=
  match (s.bay b).feeding, (s.bay b).outMatching number with
  | true, some (.write _ count _) =>
    let t := s.modBay b Bay.endOut
    match kind with
    | .ok => .next (s.watched (t.written b count buffer))
    | .underrun => .next (if (t.bay b).state = .suspended then t else s.watched (t.ranDry b))
    | .mediaError | .refused | .notReady => .next (s.watched (t.bayReject b .writeError))
  | _, _ => .next s

/-- RESERVE_TIMER_EXPIRY (R80): the timer starts again and the check is made. -/
def execReserveTimerExpiry (b : BayId) (s : State) : Effect :=
  .next (if (s.bay b).reserveTimer.isSome ∧ (s.bay b).feeding then
      (s.modBay b fun r => { r with
        reserveTimer := some (s.now + s.settingNat Config.sReservePeriod) }).reserveCheck b
    else s)

/-- The allocation becomes the rate of a step, and A follows (R75). -/
def State.reallocate (s : State) (b : BayId) (a : Burn) (step stable : Nat) : State :=
  let rate := (s.bay b).rate step
  (s.modBay b fun r => { r with burn := some { step, rate, stable } }).modGov fun g =>
    { g with sum := g.sum - a.rate + rate }

/-- A step-down is counted on the disc (R5). -/
def Disc.steppedDown (d : Disc) : Disc := { d with stepDowns := satInc Config.max8 d.stepDowns }
/-- A suspend is counted on the disc (R5). -/
def Disc.suspended (d : Disc) : Disc := { d with suspends := satInc Config.max8 d.suspends }

/-- SPEED to a step has completed OK: a step-down, a step-up, or the admitted step (R83, R84, R91). -/
def State.speedOk (s : State) (b : BayId) (a : Burn) (step : Nat) : State :=
  if step < a.step then (s.reallocate b a step 0).modDiscOf b Disc.steppedDown
  else if a.step < step then s.modBay b fun r => { r with burn := some { a with step } }
  else s

/-- SPEED passed as REFUSED: a step-up reverts its allocation and begins its count anew (R83, R84, R91; DEDUCED, log 38). -/
def State.speedRefused (s : State) (b : BayId) (a : Burn) (step : Nat) : State :=
  if a.step < step then s.reallocate b a a.step 0 else s

/-- SPEED_COMPLETE (R83, R84, R91): feeding goes on afterwards. -/
def execSpeedComplete (b : BayId) (number : Byte) (kind : CompletionKind) (s : State) : Effect :=
  match (s.bay b).feeding, (s.bay b).outMatching number, (s.bay b).burn with
  | true, some (.speed step), some a =>
    let t := s.modBay b Bay.endOut
    match kind with
    | .ok => .next ((t.speedOk b a step).feedTest b)
    | .underrun => .next (s.watched (t.ranDry b))
    | .mediaError | .refused | .notReady => .next ((t.speedRefused b a step).feedTest b)
  | _, _, _ => .next s

/-- SUSPEND_COMPLETE (R62, R82); at OK the stable count is 0 (DEDUCED, log 39). -/
def execSuspendComplete (b : BayId) (number : Byte) (kind : CompletionKind) (s : State) : Effect :=
  if (s.bay b).suspMatching number then
    let t := s.modBay b fun r => { r with susp := none }
    match kind with
    | .ok => .next (((t.modBay b fun r => { r with state := .suspended }).setStable b 0).modDiscOf b Disc.suspended)
    | .underrun => .next (s.watched (t.ranDry b))
    | .mediaError | .refused | .notReady => .next (t.feedTest b)
  else .next s

/-- RESUME_COMPLETE (R62, R63, R85). -/
def execResumeComplete (b : BayId) (number : Byte) (kind : CompletionKind) (s : State) : Effect :=
  match (s.bay b).state, (s.bay b).outMatching number with
  | .suspended, some .resume =>
    let t := s.modBay b Bay.endOut
    match kind with
    | .ok => .next (((t.modBay b fun r => { r with state := .burning }).setStable b 0).feedTest b)
    | .underrun => .next (s.watched (t.ranDry b))
    | .mediaError | .refused | .notReady => .next t
  | _, _ => .next s

/-- UNSOLICITED_UNDERRUN (R63): discarded but in BURNING. -/
def execUnsolicitedUnderrun (b : BayId) (s : State) : Effect :=
  .next (if (s.bay b).state = .burning then s.watched (s.ranDry b) else s)

/-! ## Closing and verifying (R64, R65, R94 to R104) -/

/-- CLOSE OK (R64). -/
def State.closed (s : State) (b : BayId) : State :=
  match (s.bay b).disc with
  | none => s
  | some n =>
    let s := (s.modDisc n fun d => { d with burned := true }).modBay b fun r => { r with timeouts := 0 }
    match ((s.bay b).job.bind s.job).map Job.verifyMode with
    | some .digest | some .full =>
      (s.modBay b fun r => { r with state := .verifyWait }).joinVerify b
    | some .none | none => (s.setGood n).enterAwaitUnload b n

/-- CLOSE_COMPLETE (R64): acts on the outstanding CLOSE of a bay in CLOSING. -/
def execCloseComplete (b : BayId) (number : Byte) (kind : CompletionKind) (s : State) : Effect :=
  match (s.bay b).state, (s.bay b).outMatching number with
  | .closing, some .close =>
    let t := s.modBay b Bay.endOut
    .next (s.watched (if kind = .ok then t.closed b else t.bayReject b .writeError))
  | _, _ => .next s

/-- A verification succeeds (R103). -/
def State.verifySucceeds (s : State) (b : BayId) (n : Nat) : State :=
  (((s.modDisc n fun d => { d with verified := true }).setGood n).leaveVerify b).enterAwaitUnload b n

/-- A verification fails with a reason (R104). -/
def State.verifyFails (s : State) (b : BayId) (why : RejectReason) : State :=
  ((((s.latch .verifyFail).raise .verifyFail).leaveVerify b).modBay b Bay.endOut).bayReject b why

/-- Chunk k is handled with an outcome: counted, then the next READ or the end (R101, R102). -/
def State.chunkHandled (s : State) (b : BayId) (l : LaneId) (y : Lane) (good : Bool) : State :=
  let s := s.modBay b Bay.endOut
  let s := s.modVerify fun v => v.countChunk good
  let s := if good then s else s.modDisc y.disc Disc.mismatched
  let miss := if good then y.mismatches else satInc Config.max16 y.mismatches
  if good = false ∧ y.stop = .first then s.verifyFails b .verifyMismatch
  else if y.next + 1 < y.chunks then
    (s.setLane l (some { y with next := y.next + 1, mismatches := miss, readOut := true })).issue b (.read (y.next + 1))
  else if miss = 0 then s.verifySucceeds b y.disc
  else s.verifyFails b .verifyMismatch

/-- The lane judges an OK completion by the chunk index it carries (R97). -/
def State.readOk (s : State) (b : BayId) (l : LaneId) (y : Lane) (index : Nat) (data : List Byte) : State :=
  if index = y.next then
    s.chunkHandled b l y ((s.image y.imageSlot).any fun i => chunkMatches i y.mode y.next data)
  else if index + 1 = y.next then s.modVerify VerifyEngine.countRepeat
  else s.verifyFails b .verifySequence

/-- READ_COMPLETE (R96, R97): acts on the outstanding READ of a bay that a lane serves. -/
def execReadComplete (b : BayId) (number : Byte) (kind : CompletionKind) (index : Nat) (data : List Byte) (s : State) : Effect :=
  match (s.bay b).state, (s.bay b).outMatching number, s.verify.laneOf b with
  | .verifying, some (.read _), some l =>
    match s.lane l with
    | none => .next s
    | some y => .next (s.watched (if kind = .ok then s.readOk b l y index data else s.chunkHandled b l y false))
  | _, _, _ => .next s

/-- The record a lane takes of a bay, its job and its image (R95). -/
def State.laneFor (s : State) (b : BayId) : Option Lane :=
  let r := s.bay b
  match r.disc, r.job.bind s.job, r.imageSlot, s.imageOf r with
  | some n, some j, some k, some i =>
    some { bay := b, disc := n, mode := j.verifyMode, stop := j.verifyStop, imageSlot := k,
           chunks := chunkCount i.size, next := 0, mismatches := 0, readOut := true }
  | _, _, _, _ => none

/-- A lane takes the bay at the head: VERIFYING, with READ for chunk 0 (R94, R95). -/
def State.takeHead (s : State) (l : LaneId) (b : BayId) : State :=
  let y := s.laneFor b
  let s := s.modVerify fun v => { v with queue := v.queue.tail }
  match y with
  | none => s
  | some y => ((s.setLane l (some y)).modBay b fun r => { r with state := .verifying }).issue b (.read 0)

/-- Takes until no lane is FREE or the queue is empty, at most one for each lane (R94). -/
def State.takeLanes : Nat → State → State
  | 0, s => s
  | n + 1, s =>
    match s.verify.freeLane, s.verify.queue with
    | some l, b :: _ => State.takeLanes n (s.takeHead l b)
    | _, _ => s

/-- A take would be made (R94). -/
def State.laneDue (s : State) : Bool := s.verify.freeLane.isSome && s.verify.queue != []

/-- VERIFY_LANE_TAKE (R94): one run takes up to twelve bays, all the queue can hold. -/
def execVerifyLaneTake (s : State) : Effect := .next (s.watched (State.takeLanes 12 s))

/-! ## Deadlines (R67) -/

/-- A request of the disc's work has timed out: DRIVE_TIMEOUT, and FAULT at the third in a row (R67). -/
def State.workTimedOut (s : State) (b : BayId) : State :=
  let s := (s.portReset b).modBay b fun r => { r with timeouts := r.timeouts + 1 }
  if 3 ≤ (s.bay b).timeouts then
    match (s.bay b).disc with
    | some n => (s.setReject n .driveTimeout).bayFaultEntry b
    | none => s.bayFaultEntry b
  else s.bayReject b .driveTimeout

/-- An IDENTIFY has timed out: a survey sends the bay to FAULT (R57, R67, R162). -/
def State.identTimedOut (s : State) (b : BayId) : State :=
  if (s.bay b).survey then (s.portReset b).bayFaultEntry b else s.workTimedOut b

/-- A hand-over failure that the bay reports (R53, R70). -/
def State.trayFailed (s : State) (b : BayId) : State :=
  match s.trans.grant, s.trans.arm with
  | some r, .granted => if s.trans.legSource r = .bay b then s.forcedRelease else s
  | some r, .carrying => if s.trans.legDest r = .bay b then s.destFailure else s
  | _, _ => s

/-- DEADLINE_EXPIRY (R67): of the outstanding SUSPEND, or of the other request, or of an IDENTIFY that waits to be retried (R55). -/
def execDeadlineExpiry (b : BayId) (ofSuspend : Bool) (s : State) : Effect :=
  let r := s.bay b
  if ofSuspend then .next (if r.susp.isSome then s.watched (s.workTimedOut b) else s)
  else
    match r.out with
    | some o =>
      match o.req with
      | .identify => .next (s.watched (s.identTimedOut b))
      | .trayOpen | .trayClose => .next (s.watched ((s.portReset b).trayFailed b))
      | .write _ _ _ | .speed _ | .resume | .close | .read _ => .next (s.watched (s.workTimedOut b))
    | none => .next (if r.state = .ident ∧ r.identDeadline.isSome then s.watched (s.identTimedOut b) else s)

/-! ## Admission (R88 to R90) -/

/-- An admission evaluation: the walk, then each slot's answer to its joins (R89, R90, log 32). -/
def State.admissionEvaluation (s : State) : State :=
  let s := State.admissionWalk s.governor.queue s
  s.governor.queue.foldl State.answerJoin s

/-- ADMISSION_EVALUATION (R89). -/
def execAdmissionEvaluation (s : State) : Effect := .next (s.watched s.admissionEvaluation)

/-! ## Tray completions (R53, R69) -/

/-- TRAY OPEN OK: the tray is ready or open for the arm (R53, R69). -/
def State.trayOpened (s : State) (b : BayId) : State :=
  match s.trans.grant, s.trans.arm with
  | some r, .granted => if s.trans.legSource r = .bay b then s.setStep .trayReady else s
  | some r, .carrying => if s.trans.legDest r = .bay b then s.setStep .trayReady else s
  | _, _ => s

/-- TRAY_OPEN_COMPLETE (R53, R69, R70). -/
def execTrayOpenComplete (b : BayId) (number : Byte) (kind : CompletionKind) (s : State) : Effect :=
  match (s.bay b).outMatching number with
  | some .trayOpen =>
    let t := s.modBay b Bay.endOut
    .next (s.watched (if kind = .ok then t.trayOpened b else t.trayFailed b))
  | _ => .next s

/-- TRAY CLOSE OK: the bay's acceptance; it identifies the disc (R53, R118). -/
def State.bayAccepts (s : State) (b : BayId) : State :=
  match s.trans.grant, s.trans.arm with
  | some r, .carrying =>
    if s.trans.legDest r = .bay b then
      let s := s.accepted (s.trans.legDisc r) (.bay b) .inBay
      (s.modBay b fun y => { y with state := .ident, handoverFailures := 0, survey := false }).issueIdentify b
    else s
  | _, _ => s

/-- TRAY_CLOSE_COMPLETE (R53). -/
def execTrayCloseComplete (b : BayId) (number : Byte) (kind : CompletionKind) (s : State) : Effect :=
  match (s.bay b).outMatching number with
  | some .trayClose =>
    let t := s.modBay b Bay.endOut
    .next (s.watched (if kind = .ok then t.bayAccepts b else t.trayFailed b))
  | _ => .next s

end Sys2Proof.Machine
end

