-- ==== Sys2Proof/Machine/ArmRows.lean ====
section
/-! DEFINITION. The rows of the arm, the door, the spindles and the bins (R110, R115 to R132). -/

namespace Sys2Proof.Machine

/-! ## Homing and the grant -/

/-- HOMING or READY: ARM HOME is answered from HOMING on (R192). -/
def State.homable (s : State) : Bool := s.settings.stage == .homing || s.settings.stage == .ready

/-- ARM_HOME (R130, R192). -/
def execArmHome (s : State) : Effect :=
  if s.homable = false then .next (s.refuse Config.kArmHome .busy)
  else if s.trans.arm = .unhomed ∨ s.trans.arm = .fault then
    .next (s.startHoming.answer Config.kArmHome .ok .none)
  else .next (s.refuse Config.kArmHome .state)

/-- GRANT_EVALUATION (R115). -/
def execGrantEvaluation (s : State) : Effect := .next (s.watched s.grantEvaluation)

/-- BOTTOM_REFERENCE_REACHED (R130): acts in the descent. -/
def execBottomReferenceReached (s : State) : Effect :=
  .next (s.watched (if s.trans.arm = .homing .descent then
      (s.modTrans fun t => { t with moveTimer := none, pos := some (0, 0) }).homingClear
    else s))

/-! ## ARRIVAL (R116, R123, R146) -/

/-- The level of a spindle-empty sensor. -/
def State.setEmptySensor (s : State) (i : SpindleId) (empty : Bool) : State :=
  match i with
  | .a => { s with sensors := { s.sensors with emptyA := empty } }
  | .b => { s with sensors := { s.sensors with emptyB := empty } }

/-- The arm is at the source (R116, R117): a bay opens its tray, a spindle's sensor is read first, the printer is asked to release. -/
def State.atSource (s : State) (r : MoveReq) (seen : Bool) : State :=
  match s.trans.legSource r with
  | .bay b => (s.startAck .arrived).issue b .trayOpen
  | .spindle i =>
    let s := s.setEmptySensor i (!seen)
    if seen then s.startAck .arrived else s.foundEmpty r i
  | .prn =>
    let s := { s with sensors := { s.sensors with tray := seen } }
    if s.trayReleasable then (s.startAck .trayReady).setClamp true else s.forcedRelease
  | .bin _ | .arm => s

/-- The arm is at the destination (R116, R118), at a new hand-over or at the step an interrupted one had reached (R132). -/
def State.atDest (s : State) (r : MoveReq) : State :=
  let step := s.trans.handover.getD .arrived
  match s.trans.legDest r, step with
  | .bay b, .arrived => (s.startAck .arrived).issue b .trayOpen
  | .bay b, .discMoved => (s.startAck .discMoved).issue b .trayClose
  | .bay _, .trayReady | .bay _, .retake | .spindle _, _ | .bin _, _ | .prn, _ | .arm, _ => s.startAck step

/-- ARRIVAL (R116): acts while a journey's move timer runs. -/
def execArrival (discSeen : Bool) (s : State) : Effect :=
  .next (s.watched (if s.trans.moveTimer.isNone then s
    else
      match s.trans.arm, s.trans.grant with
      | .granted, some r => s.atSource r discSeen
      | .carrying, some r => s.atDest r
      | .homing .carry, _ => s.startAck .arrived
      | _, _ => s))

/-- MOVE_TIMER_EXPIRY (R129). -/
def execMoveTimerExpiry (s : State) : Effect :=
  .next (s.watched (if s.trans.moveTimer.isSome then s.armFaultEntry .moveTimeout else s))

/-! ## Confirmations (R117, R118) -/

/-- PICK_CONFIRMED (R117, R121, R124). -/
def execPickConfirmed (two : Bool) (s : State) : Effect :=
  match s.trans.grant with
  | none => .next s
  | some r =>
    .next (s.watched (if s.trans.awaitsPick r then s.pickDone r two
      else if s.trans.arm = .carrying ∧ s.trans.handover = some .retake ∧ s.trans.ackTimer.isSome then s.retaken r
      else s))

/-- The disc is on the tray and off the arm (R118). -/
def State.discSet (s : State) : State := (s.setPick false).setStep .discMoved

/-- DISC_SET (R53, R118): at a bay the channel issues TRAY CLOSE. -/
def execDiscSet (s : State) : Effect :=
  match s.trans.arm, s.trans.grant with
  | .carrying, some r =>
    match s.trans.legDest r, s.trans.handover with
    | .bay b, some .trayReady => .next (s.discSet.issue b .trayClose)
    | .prn, some .arrived => .next s.discSet
    | _, _ => .next s
  | _, _ => .next s

/-- The hand-over at PRN awaits the tray sensor. -/
def Transport.awaitsTray (t : Transport) : Bool :=
  t.arm == .carrying && (t.handover == some .arrived || t.handover == some .discMoved) && t.ackTimer.isSome

/-- PRN_TRAY_CONFIRMED (R118, R142). -/
def execPrnTrayConfirmed (s : State) : Effect :=
  match s.trans.grant with
  | none => .next s
  | some r =>
    if s.trans.awaitsTray ∧ s.trans.legDest r = .prn then
      let n := s.trans.legDisc r
      let t := { s with sensors := { s.sensors with tray := true } }
      .next (s.watched ((t.accepted n .prn .inPrinter).printerAccept n))
    else .next s

/-- A drop by a granted leg is confirmed (R118, R7). -/
def State.dropped (s : State) (r : MoveReq) (at_ : BinId) : State :=
  let n := s.trans.legDisc r
  ((s.setPick false).retire n at_).legDone

/-- The drop of homing's carriage is confirmed (R130). -/
def State.homingDropped (s : State) : State :=
  let s := s.setPick false
  let s := match s.discOnArm with
    | some n => s.retire n .reject
    | none => s
  s.homingEnd

/-- DROP_CONFIRMED (R118, R130). -/
def execDropConfirmed (s : State) : Effect :=
  if s.trans.handover = some .arrived ∧ s.trans.ackTimer.isSome then
    match s.trans.arm, s.trans.grant with
    | .carrying, some r =>
      match s.trans.legDest r with
      | .bin k => .next (s.watched (s.dropped r k))
      | .bay _ | .prn | .spindle _ | .arm => .next s
    | .homing .carry, _ => .next (s.watched s.homingDropped)
    | _, _ => .next s
  else .next s

/-! ## ACK_TIMER_EXPIRY (R119 to R122) -/

/-- A destination's or a drop's acknowledgement has not come (R121, R122). -/
def State.carryFailed (s : State) (r : MoveReq) : State :=
  if s.trans.handover = some .retake then
    if s.sensors.pick then s.retaken r else s.retakeFailed r
  else
    match s.trans.legDest r with
    | .bin k => s.dropFailure r k
    | .bay _ | .prn => s.destFailure
    | .spindle _ | .arm => s

/-- ACK_TIMER_EXPIRY (R119, R121, R122). -/
def execAckTimerExpiry (held : Bool) (s : State) : Effect :=
  .next (s.watched (if s.trans.ackTimer.isNone then s
    else
      let s := s.modTrans fun t => { t with ackTimer := none }
      match s.trans.arm, s.trans.grant with
      | .granted, some _ => s.forcedRelease
      | .carrying, some r => (s.setPick held).carryFailed r
      | .homing .carry, _ => (s.setPick held).homingDropFailure
      | _, _ => s))

/-! ## The swap (R125, R126) -/

/-- SWAP_SECOND_LEG_START (R125). -/
def execSwapSecondLegStart (s : State) : Effect :=
  .next (if s.secondLegReady then s.startSecondLeg else s)

/-- The hold has timed out (R126). -/
def State.holdTimedOut (s : State) : State :=
  (s.secondBecomesLoad (s.trans.grant.bind MoveReq.second)).armIdle

/-- HOLD_TIMER_EXPIRY (R126): acts while the hold timer runs; a READY spindle has ended the hold before (R125). -/
def execHoldTimerExpiry (s : State) : Effect :=
  .next (s.watched (if s.trans.arm = .held ∧ s.trans.holdTimer.isSome then
      if s.secondLegReady then s.startSecondLeg else s.holdTimedOut
    else s))

/-! ## Position (R128) -/

/-- The two tests of R128, on the previous q, the step count and the new q. -/
def positionGood (q0 steps code : Nat) : Bool :=
  (code == q0 + 1 || q0 == code + 1) && steps / 4 ≤ code + 1 && code ≤ steps / 4 + 1

/-- STRIP_CODE_CHANGE (R128): no check before homing has set the trackers, nor in the descent. In STOPPED after the door has cut a later homing's descent, the check is against the earlier homing's trackers (DESIGN CHOICE, log 47). -/
def execStripCodeChange (steps code : Nat) (s : State) : Effect :=
  match s.trans.pos with
  | none => .next s
  | some (_, q0) =>
    if s.trans.arm = .homing .descent then .next s
    else
      let t := s.modTrans fun t => { t with pos := some (steps, code) }
      .next (if positionGood q0 steps code ∨ s.trans.arm = .fault then t else s.watched (t.armFaultEntry .position))

/-! ## Door, spindles, bins (R110, R131, R132) -/

/-- The arm stops for the door (R131). -/
def State.stopForDoor (s : State) : State :=
  match s.trans.arm with
  | .unhomed | .fault | .stopped => s
  | .idle => (s.modTrans Transport.timersStopped).setArm .stopped
  | .homing _ =>
    (s.modTrans fun t => { t.timersStopped with
      homingPending := true
      handover := if t.interruptedReq.isSome then t.handover else none }).setArm .stopped
  | .granted | .carrying | .held =>
    let was := s.trans.arm
    (((s.giveUp.modCurrent fun r => { r with granted := false, interrupted := true }).modTrans fun t =>
      { t.timersStopped with resume := some (resumeFrom was) })).setArm .stopped

/-- The door's switch has changed (R131). -/
def State.doorChanged (s : State) (opened : Bool) : State :=
  ({ s with sensors := { s.sensors with doorOpen := opened } }.raise .door).report .doorOpen opened

/-- DOOR_OPEN (R131). -/
def execDoorOpen (s : State) : Effect :=
  .next (if s.sensors.doorOpen then s else s.watched (s.doorChanged true).stopForDoor)

/-- What the empty sensor of a spindle reads. -/
def State.emptySensor (s : State) : SpindleId → Bool
  | .a => s.sensors.emptyA
  | .b => s.sensors.emptyB

/-- A JAMMED spindle takes the state its sensor gives (R110). -/
def State.unjam (s : State) (i : SpindleId) : State :=
  if s.spindle i = .jammed then s.setSpindle i (spindleFrom (s.emptySensor i)) else s

/-- DOOR_CLOSE (R110, R132). -/
def execDoorClose (s : State) : Effect :=
  if s.sensors.doorOpen then
    let t := ((s.doorChanged false).unjam .a).unjam .b
    .next (s.watched (if t.trans.arm = .stopped then t.startHoming else t))
  else .next s

/-- SPINDLE_SENSOR_CHANGE (R110): a JAMMED spindle stays JAMMED. -/
def execSpindleSensorChange (spindle : SpindleId) (empty : Bool) (s : State) : Effect :=
  let t := s.setEmptySensor spindle empty
  .next (s.watched (if t.spindle spindle = .jammed then t else t.setSpindle spindle (spindleFrom empty)))

/-- BIN_FULL_SENSOR_CHANGE (R110): a bin becoming FULL raises SPINDLE. -/
def execBinFullSensorChange (bin : BinId) (full : Bool) (s : State) : Effect :=
  let was := s.binFull bin
  let s := match bin with
    | .out => { s with sensors := { s.sensors with outFull := full } }.report .outputFull full
    | .reject => { s with sensors := { s.sensors with rejectFull := full } }.report .rejectFull full
  .next (if full ∧ was = false then s.raise .spindle else s)

end Sys2Proof.Machine
end

