-- ==== Sys2Proof/Machine/Due.lean ====
section
/-! DEFINITION. The part's own due work, as step takes it on an empty queue (R1 "Taking of events"; the order is the model's, log 2). -/

namespace Sys2Proof.Machine

/-- A timer whose time has come. -/
def State.passed (s : State) (t : Option Nat) : Bool :=
  match t with
  | some e => e ≤ s.now
  | none => false

/-- The first of a list of possibilities. -/
def firstDue : List (Option Instr) → Option Instr
  | [] => none
  | some c :: _ => some c
  | none :: r => firstDue r

def due (p : Bool) (c : Instr) : Option Instr := if p then some c else none

/-- The row of the request that is with its owner (R170). -/
def State.ownedDue (s : State) : Option Instr := s.link.owner.bind fun o => o.request.command

/-- An entry can be taken now, or a transfer that waited over a RESTART can take one (R168, R170). -/
def State.takeDue (s : State) : Bool := s.canTake && (s.link.inbound != [] || s.link.waiting != [])

/-- An orphan creation waits and a record is free (R2). -/
def State.orphanDue (s : State) : Bool := s.discs.orphanWait != [] && 0 < s.discs.free

/-- An accepted RESTART may begin (R172). -/
def State.restartDue (s : State) : Bool :=
  match s.link.restart with
  | some w => w.due || w.limit ≤ s.now
  | none => false

/-- What is due by the state alone: the requests, offers, evaluations and ends of stages that would act. -/
def State.workDue (s : State) : Option Instr :=
  firstDue
    [ s.ownedDue, due s.restartDue .restartBegin, due (s.noticeDue && s.link.port == .configured) .noticeOffer,
      due s.orphanDue .orphanCreationGrant, due s.laneDue .verifyLaneTake,
      due s.secondLegReady .swapSecondLegStart, due (s.canGrant && s.toGrant.isSome) .grantEvaluation,
      due s.admissionDue .admissionEvaluation, due s.dispatchDue .dispatchEvaluation,
      due s.inventoryOver .startupInventoryEnd, due s.startupOver .startupReady, due s.takeDue .inboundTake ]

/-- A deadline of a bay has passed (R55, R67). -/
def State.deadlinePassed (s : State) (b : BayId) : Bool :=
  let r := s.bay b
  match r.out with
  | some o => o.deadline ≤ s.now
  | none => r.state == .ident && s.passed r.identDeadline

/-- The expired timers of one bay (R55, R67, R80). -/
def State.bayTimers (s : State) (b : BayId) : Option Instr :=
  let r := s.bay b
  firstDue
    [ due (s.passed (r.susp.map OutSuspend.deadline)) (.deadlineExpiry b true),
      due (s.deadlinePassed b) (.deadlineExpiry b false),
      due (s.passed r.retryTimer) (.identifyRetryTimerExpiry b),
      due (r.feeding && s.passed r.reserveTimer) (.reserveTimerExpiry b) ]

/-- The write of a SETTINGS SAVE has run its 300 ms: the record reads back as written (R190, log 2). -/
def State.writeDue (s : State) : Option Instr :=
  match s.settings.saving with
  | some w => if w.ends ≤ s.now then some (.settingsWriteEnd (recordOf w.values)) else none
  | none => none

/-- The timers that have run out (R80, R116, R119, R125, R185). -/
def State.timersDue (s : State) : Option Instr :=
  firstDue
    ((List.finRange 12).map s.bayTimers ++
      [ due (s.passed s.status.gapTimer) .gapTimerExpiry, due (s.passed s.trans.moveTimer) .moveTimerExpiry,
        due (s.passed s.trans.ackTimer) (.ackTimerExpiry s.sensors.pick),
        due (s.trans.arm == .held && s.passed s.trans.holdTimer) .holdTimerExpiry, s.writeDue ])

/-- The command that the part takes of itself, if any. -/
def State.nextDue (s : State) : Option Instr := firstDue [s.workDue, s.timersDue]

/-- One millisecond passes (log 2). -/
def State.tick (s : State) : State := { s with now := s.now + 1 }

end Sys2Proof.Machine
end

