-- ==== Sys2Proof/Machine/Dispatch.lean ====
section
/-! DEFINITION. One arm for each command: the meaning it is given. -/

namespace Sys2Proof.Machine

def exec (i : Instr) (s : State) : Host.Outcome State Fault Refusal :=
    match i with
    | .powerOn readings flash => Sys2Proof.Machine.execPowerOn readings flash s
    | .restartBegin => Sys2Proof.Machine.execRestartBegin s
    | .startupInventoryEnd => Sys2Proof.Machine.execStartupInventoryEnd s
    | .startupReady => Sys2Proof.Machine.execStartupReady s
    | .strapChange baysCode printer => Sys2Proof.Machine.execStrapChange baysCode printer s
    | .portEnumerated => Sys2Proof.Machine.execPortEnumerated s
    | .portConfigured => Sys2Proof.Machine.execPortConfigured s
    | .linkReset detach => Sys2Proof.Machine.execLinkReset detach s
    | .frameReceived bytes => Sys2Proof.Machine.execFrameReceived bytes s
    | .inboundTake => Sys2Proof.Machine.execInboundTake s
    | .inTransferComplete => Sys2Proof.Machine.execInTransferComplete s
    | .ident => Sys2Proof.Machine.execIdent s
    | .restart mode => Sys2Proof.Machine.execRestart mode s
    | .settingGet number => Sys2Proof.Machine.execSettingGet number s
    | .settingSet pairs => Sys2Proof.Machine.execSettingSet pairs s
    | .settingsSave => Sys2Proof.Machine.execSettingsSave s
    | .settingsWriteEnd readBack => Sys2Proof.Machine.execSettingsWriteEnd readBack s
    | .statusGet => Sys2Proof.Machine.execStatusGet s
    | .statusClear => Sys2Proof.Machine.execStatusClear s
    | .flagForce flags => Sys2Proof.Machine.execFlagForce flags s
    | .flagRelease flags => Sys2Proof.Machine.execFlagRelease flags s
    | .eventMask mask => Sys2Proof.Machine.execEventMask mask s
    | .eventAck events => Sys2Proof.Machine.execEventAck events s
    | .countersGet => Sys2Proof.Machine.execCountersGet s
    | .countersClear => Sys2Proof.Machine.execCountersClear s
    | .imageOpen slot media needResident size => Sys2Proof.Machine.execImageOpen slot media needResident size s
    | .imageData slot count offset data => Sys2Proof.Machine.execImageData slot count offset data s
    | .passClose slot pass => Sys2Proof.Machine.execPassClose slot pass s
    | .imageRewind slot => Sys2Proof.Machine.execImageRewind slot s
    | .imageRelease slot => Sys2Proof.Machine.execImageRelease slot s
    | .imageQuery slot => Sys2Proof.Machine.execImageQuery slot s
    | .labelOpen label darkness width lines => Sys2Proof.Machine.execLabelOpen label darkness width lines s
    | .labelData label band data => Sys2Proof.Machine.execLabelData label band data s
    | .labelDrop label => Sys2Proof.Machine.execLabelDrop label s
    | .labelQuery label => Sys2Proof.Machine.execLabelQuery label s
    | .jobCreate fields => Sys2Proof.Machine.execJobCreate fields s
    | .jobHold number => Sys2Proof.Machine.execJobHold number s
    | .jobRelease number => Sys2Proof.Machine.execJobRelease number s
    | .jobCancel number => Sys2Proof.Machine.execJobCancel number s
    | .jobRemove number => Sys2Proof.Machine.execJobRemove number s
    | .jobQuery number => Sys2Proof.Machine.execJobQuery number s
    | .discResults => Sys2Proof.Machine.execDiscResults s
    | .bayQuery bay => Sys2Proof.Machine.execBayQuery bay s
    | .bayOffline bay => Sys2Proof.Machine.execBayOffline bay s
    | .bayOnline bay => Sys2Proof.Machine.execBayOnline bay s
    | .armHome => Sys2Proof.Machine.execArmHome s
    | .printerResume => Sys2Proof.Machine.execPrinterResume s
    | .towerPause => Sys2Proof.Machine.execTowerPause s
    | .towerResume => Sys2Proof.Machine.execTowerResume s
    | .towerDrain => Sys2Proof.Machine.execTowerDrain s
    | .dispatchEvaluation => Sys2Proof.Machine.execDispatchEvaluation s
    | .orphanCreationGrant => Sys2Proof.Machine.execOrphanCreationGrant s
    | .identifyComplete bay number kind facts => Sys2Proof.Machine.execIdentifyComplete bay number kind facts s
    | .identifyRetryTimerExpiry bay => Sys2Proof.Machine.execIdentifyRetryTimerExpiry bay s
    | .writeComplete bay number kind buffer => Sys2Proof.Machine.execWriteComplete bay number kind buffer s
    | .reserveTimerExpiry bay => Sys2Proof.Machine.execReserveTimerExpiry bay s
    | .speedComplete bay number kind => Sys2Proof.Machine.execSpeedComplete bay number kind s
    | .suspendComplete bay number kind => Sys2Proof.Machine.execSuspendComplete bay number kind s
    | .resumeComplete bay number kind => Sys2Proof.Machine.execResumeComplete bay number kind s
    | .unsolicitedUnderrun bay => Sys2Proof.Machine.execUnsolicitedUnderrun bay s
    | .closeComplete bay number kind => Sys2Proof.Machine.execCloseComplete bay number kind s
    | .readComplete bay number kind index data => Sys2Proof.Machine.execReadComplete bay number kind index data s
    | .verifyLaneTake => Sys2Proof.Machine.execVerifyLaneTake s
    | .trayOpenComplete bay number kind => Sys2Proof.Machine.execTrayOpenComplete bay number kind s
    | .trayCloseComplete bay number kind => Sys2Proof.Machine.execTrayCloseComplete bay number kind s
    | .deadlineExpiry bay ofSuspend => Sys2Proof.Machine.execDeadlineExpiry bay ofSuspend s
    | .admissionEvaluation => Sys2Proof.Machine.execAdmissionEvaluation s
    | .grantEvaluation => Sys2Proof.Machine.execGrantEvaluation s
    | .arrival discSeen => Sys2Proof.Machine.execArrival discSeen s
    | .moveTimerExpiry => Sys2Proof.Machine.execMoveTimerExpiry s
    | .pickConfirmed two => Sys2Proof.Machine.execPickConfirmed two s
    | .discSet => Sys2Proof.Machine.execDiscSet s
    | .prnTrayConfirmed => Sys2Proof.Machine.execPrnTrayConfirmed s
    | .dropConfirmed => Sys2Proof.Machine.execDropConfirmed s
    | .ackTimerExpiry held => Sys2Proof.Machine.execAckTimerExpiry held s
    | .swapSecondLegStart => Sys2Proof.Machine.execSwapSecondLegStart s
    | .holdTimerExpiry => Sys2Proof.Machine.execHoldTimerExpiry s
    | .stripCodeChange steps code => Sys2Proof.Machine.execStripCodeChange steps code s
    | .bottomReferenceReached => Sys2Proof.Machine.execBottomReferenceReached s
    | .doorOpen => Sys2Proof.Machine.execDoorOpen s
    | .doorClose => Sys2Proof.Machine.execDoorClose s
    | .spindleSensorChange spindle empty => Sys2Proof.Machine.execSpindleSensorChange spindle empty s
    | .binFullSensorChange bin full => Sys2Proof.Machine.execBinFullSensorChange bin full s
    | .printerLinePeriod => Sys2Proof.Machine.execPrinterLinePeriod s
    | .headTemperatureReading reading => Sys2Proof.Machine.execHeadTemperatureReading reading s
    | .ribbonSensorChange out => Sys2Proof.Machine.execRibbonSensorChange out s
    | .ribbonLowSensorChange low => Sys2Proof.Machine.execRibbonLowSensorChange low s
    | .noticeOffer => Sys2Proof.Machine.execNoticeOffer s
    | .gapTimerExpiry => Sys2Proof.Machine.execGapTimerExpiry s
    | .oversizeHeaderReceived header => Sys2Proof.Machine.execOversizeHeaderReceived header s

end Sys2Proof.Machine
end

