-- ==== Sys2Proof/Safety.lean ====
section
/-! DEFINITION. What must hold of the part in every state it reaches, and what a command leaves alone: conserved pools (R27, R31, R135), capacities (R1, R8, R168), conditions that follow their owners (R178), frames by block; and what the statements share: what a move, a failure, a feed test or a cancel leaves. -/

namespace Sys2Proof.Machine

/-- Segments in a slot's window. -/
def slotSegments : Option Image → Nat
  | some i => i.window.length
  | none => 0

/-- Digest entries of a slot. -/
def slotDigests : Option Image → Nat
  | some i => i.digests.length
  | none => 0

/-- Blocks of a label. -/
def labelBlockCount : Option Label → Nat
  | some l => l.blocks.length
  | none => 0

/-- Segments in the free pool and in the windows (R27). -/
def Staging.segmentTotal (g : Staging) : Nat := g.freeSegments + (g.slots.toList.map slotSegments).sum

/-- Free digest entries and those of the slots (R31). -/
def Staging.digestTotal (g : Staging) : Nat := g.freeDigests + (g.slots.toList.map slotDigests).sum

/-- Free blocks and those of the labels (R135). -/
def LabelMemory.blockTotal (m : LabelMemory) : Nat := m.freeBlocks + (m.slots.toList.map labelBlockCount).sum

/-- Free segments and the windows' segments make the total of the size in effect (R27). -/
def Staging.segmentsKept (g : Staging) : Prop := g.segmentTotal = Config.totalSegments g.segmentSize

/-- Free digest entries and the slots' entries make the digest memory (R31). -/
def Staging.digestsKept (g : Staging) : Prop := g.digestTotal = Config.digestEntries

/-- Free blocks and the labels' blocks make the label memory (R135). -/
def LabelMemory.blocksKept (m : LabelMemory) : Prop := m.blockTotal = Config.labelBlocks

/-! ## Capacities -/

/-- A move queue holds at most one request for each requester (R113). -/
abbrev Transport.oneEach (t : Transport) : Prop := (t.queue.map MoveReq.requester).Nodup

/-- Eleven lists and counters within their capacities: disc records, completion list, dropped count, inbound queue, link resets, the three verify counters, forced releases, one request for each requester, move requests (01 section 1.1, R1, R8, R106, R113, R119, R168, R175). -/
structure State.capacitiesKept (s : State) : Prop where
  records : s.discs.records.length ≤ Config.discRecords
  completions : s.discs.completions.length ≤ Config.completionEntries
  dropped : s.discs.dropped ≤ Config.max16
  inbound : s.link.inbound.length ≤ Config.queueFrames
  linkResets : s.link.linkResets ≤ Config.max16
  chunksVerified : s.verify.chunksVerified ≤ Config.max32
  mismatched : s.verify.mismatched ≤ Config.max16
  repeats : s.verify.repeats ≤ Config.max16
  forcedReleases : s.trans.forcedReleases < 16
  requesters : s.trans.oneEach
  moves : s.trans.queue.length ≤ Config.moveRequests

/-! ## Frames -/

/-- The parts of the state, one for each block of 00_scope section 3, the sensors, the mark of a wanted dispatch evaluation, the clock and the queue. -/
inductive Part where
  | link | jobs | discs | staging | bays | governor | verify | trans | labels | printer | status
  | settings | sensors | dispatch | now | pending
  deriving DecidableEq, Repr

/-- Two states agree on a part. -/
def State.agreeOn (s t : State) : Part → Prop
  | .link => t.link = s.link
  | .jobs => t.jobs = s.jobs
  | .discs => t.discs = s.discs
  | .staging => t.staging = s.staging
  | .bays => t.bays = s.bays
  | .governor => t.governor = s.governor
  | .verify => t.verify = s.verify
  | .trans => t.trans = s.trans
  | .labels => t.labels = s.labels
  | .printer => t.printer = s.printer
  | .status => t.status = s.status
  | .settings => t.settings = s.settings
  | .sensors => t.sensors = s.sensors
  | .dispatch => t.dispatchWanted = s.dispatchWanted
  | .now => t.now = s.now
  | .pending => t.pending = s.pending

/-- Only the listed parts may differ between two states. -/
def State.changesOnly (l : List Part) (s t : State) : Prop := ∀ p, p ∉ l → s.agreeOn t p

/-! ## Conditions -/

/-- The conditions of the arm, the door, the spindles and the bins are what their owner's state gives (R110, R129, R131, R178). -/
structure State.conditionsHold (s : State) : Prop where
  armFault : s.cond .armFault = (s.trans.arm == .fault)
  doorOpen : s.cond .doorOpen = s.sensors.doorOpen
  spindleEmpty : s.cond .spindleEmpty = (s.trans.spindleA != .ready || s.trans.spindleB != .ready)
  outputFull : s.cond .outputFull = s.sensors.outFull
  rejectFull : s.cond .rejectFull = s.sensors.rejectFull

/-! ## Start-up -/

/-- A fitted bay under survey (R57, R74, R192): in IDENT, with an IDENTIFY outstanding for 30,000 ms. -/
def Bay.underSurvey (now : Nat) : Bay :=
  { state := .ident, disc := none, job := none, imageSlot := none, facts := none, cursor := none,
    buffer := none, burn := none, reserveTimer := none, requestNumber := 1,
    out := some { req := .identify, number := 1, deadline := now + 30000 }, susp := none,
    retryTimer := none, identDeadline := some (now + 30000), survey := true, timeouts := 0,
    handoverFailures := 0, offlineAfter := false, dest := none }

/-- INVENTORY has begun: every block is at its after-reset values but for the surveys of the fitted bays, the printer's tray and the arm (R25, R48, R74, R76, R109, R134, R151, R192). -/
structure State.inventoryBegun (t : State) : Prop where
  stage : t.settings.stage = .inventory
  waiting : t.settings.waiting = false
  jobs : t.jobs = { slots := .replicate 8 none, order := [], runMode := .run }
  completions : t.discs.completions = [] ∧ t.discs.dropped = 0 ∧ t.discs.orphanWait = []
  counter : t.discs.counter = t.discs.records.length + 1
  /-- the discs found on the printer's tray and on the arm, numbered from 1 in the model's order (log 43) -/
  records : t.discs.records =
    (if t.settings.printerFitted && t.sensors.tray then [Disc.orphan 1 .prn] else []) ++
      (if t.sensors.pick then
        [Disc.orphan (if t.settings.printerFitted && t.sensors.tray then 2 else 1) .arm] else [])
  staging : t.staging =
    { segmentSize := (t.setting 0).toNat, freeSegments := if (t.setting 0).toNat = 0 then 2048 else 1024,
      freeDigests := 262144, slots := .replicate 4 none }
  bays : ∀ b, t.bay b =
    if b.val < t.settings.fittedBays then Bay.underSurvey t.now else Bay.afterReset
  governor : t.governor = { queue := [], sum := 0 }
  verify : t.verify =
    { lanes := .replicate 4 none, queue := [], chunksVerified := 0, mismatched := 0, repeats := 0 }
  /-- the only move is the CLEAR of a disc found on the tray, whose record is the first (R134, R149) -/
  trans : t.trans =
    { arm := .unhomed, faultCause := none, leg := .first, handover := none, resume := none, pos := none
      moveTimer := none, ackTimer := none, holdTimer := none, homingPending := false, forcedReleases := 0
      queue := if t.settings.printerFitted && t.sensors.tray then
          [MoveReq.posted .clear .printer .prn (.bin .reject) 1 none] else []
      waiting := []
      spindleA := if t.sensors.emptyA then .empty else .ready
      spindleB := if t.sensors.emptyB then .empty else .ready }
  labels : t.labels = { freeBlocks := 4096, slots := .replicate 8 none }
  /-- IDLE, or FAULT by its sensors (R151); a disc found on the tray takes IDLE to AWAIT_REMOVE (R149) -/
  printer : t.printer = if t.settings.printerFitted then some
      { state := if t.sensors.ribbonOut = true ∨ headTemp t.sensors = none then .fault
          else if t.sensors.tray then .awaitRemove else .idle
        trayDisc := if t.sensors.tray then some 1 else none
        trayMove := t.sensors.tray, print := none, clampOpen := false, dots := [] } else none
  status : t.status.forcedAlert = false ∧ t.status.forcedWarn = false ∧ t.status.gate = .opened ∧
    t.status.gapTimer = none
  conditions : t.conditionsHold
  /-- the other owners' reports, and the latched conditions but SETTINGS_BAD (R71, R144, R147, R187) -/
  reports : t.cond .bayFault = false ∧
    t.cond .printerFault = (t.settings.printerFitted && (t.sensors.ribbonOut || headTemp t.sensors == none)) ∧
    t.cond .ribbonLow = (t.settings.printerFitted && t.sensors.ribbonLow) ∧
    (t.cond .headHot = true ↔ t.settings.printerFitted = true ∧ ∃ x, headTemp t.sensors = some x ∧ 65 ≤ x) ∧
    t.cond .reserveLow = false ∧ t.cond .underrun = false ∧ t.cond .verifyFail = false ∧ t.cond .handling = false ∧
    t.cond .strapChange = false
  /-- a shadow is set for each current condition that is reported true (R187) -/
  shadows : t.status.shadow = t.status.live &&& 0x03FF#15
  /-- no event is pending but SETTINGS, with SETTINGS_BAD (R187) -/
  events : (∀ e, e < 15 → t.status.pending.getLsbD e = false) ∧
    t.status.pending.getLsbD 15 = t.cond .settingsBad
  dispatch : t.dispatchWanted = false

/-! ## Codes of enumerated fields (R174) -/

def PrintOrder.code : PrintOrder → Byte
  | .printFirst => 0 | .burnFirst => 1

def VerifyMode.code : VerifyMode → Byte
  | .none => 0 | .digest => 1 | .full => 2

def VerifyStop.code : VerifyStop → Byte
  | .first => 0 | .all => 1

def SpindleChoice.code : SpindleChoice → Byte
  | .a => 0 | .b => 1 | .any => 2

/-- The payload of a JOB CREATE with these values (R13, R174). -/
def jobPayload (number : BitVec 16) (image : ImageId) (label : Option (LabelId × PrintOrder))
    (mode : VerifyMode) (stop : VerifyStop) (spindle : SpindleChoice) (copies : BitVec 16)
    (limit : Byte) : JobFields :=
  { number, imageSlot := BitVec.ofNat 8 image.val
    label := match label with
      | some (l, _) => BitVec.ofNat 8 l.val
      | none => 255
    printOrder := match label with
      | some (_, o) => o.code
      | none => 0
    verifyMode := mode.code, verifyStop := stop.code, spindle := spindle.code, copies, rejectLimit := limit }

/-- The present job with a number, in its slot, and no other with that number (01 section 1.3). -/
def State.onlyJob (s : State) (k : JobSlot) (j : Job) : Prop :=
  s.job k = some j ∧ ∀ m i, s.job m = some i → i.number = j.number → m = k

/-! ## Release evaluations of a slot with consumers -/

/-- In a window that has already let `m` heads go, the next head may go: every consumer is past it, and the window is at its cap, the pool empty, or PASS CLOSE received (R39). -/
def State.headGoes (s : State) (cursor : BayId → Nat) (i : Image) (cap : Nat) (closed : Bool) (m : Nat) : Prop :=
  i.consumers ≠ [] ∧ m < i.window.length ∧
    (∀ b ∈ i.consumers, i.base + (m + 1) * s.segSectors ≤ cursor b) ∧
    (closed = true ∨ cap + m ≤ i.window.length ∨ s.staging.freeSegments + m = 0)

/-- Exactly `m` heads go (R40). -/
def State.headsGo (s : State) (cursor : BayId → Nat) (i : Image) (cap : Nat) (closed : Bool) (m : Nat) : Prop :=
  (∀ x, x < m → s.headGoes cursor i cap closed x) ∧ ¬ s.headGoes cursor i cap closed m

/-- What a release evaluation leaves after `m` heads of a slot: base, window, gate, pool, and STAGE_SPACE for the slots that were refused (R40, R41). -/
structure State.headsReleased (s u : State) (k : ImageId) (i : Image) (m : Nat) : Prop where
  slot : u.image k = some { i with
    window := i.window.drop m, base := i.base + m * s.segSectors
    gate := if m = 0 then i.gate else .closed
    stageFullRefused := if m = 0 then i.stageFullRefused else false }
  pool : u.staging.freeSegments = s.staging.freeSegments + m
  others : ∀ x, x ≠ k → u.image x =
    if m = 0 then s.image x else (s.image x).map fun j => { j with stageFullRefused := false }
  raised : m ≠ 0 → (∃ x j, s.image x = some j ∧ j.stageFullRefused = true) → u.status.pending.getLsbD 5 = true
  quiet : m = 0 ∨ (∀ x j, s.image x = some j → j.stageFullRefused = false) →
    u.status.pending.getLsbD 5 = s.status.pending.getLsbD 5

/-- The pass of a slot without consumers ends at its first head release: every segment comes back, the slot awaits its rewind, PASS_END is raised, and STAGE_SPACE for the slots that were refused (R40, R41, R43). -/
structure State.passEnded (s u : State) (k : ImageId) (i : Image) : Prop where
  slot : u.image k = some { i with
    window := [], base := i.base + s.segSectors, gate := .closed, state := .awaitRewind, stageFullRefused := false }
  pool : u.staging.freeSegments = s.staging.freeSegments + i.window.length
  others : ∀ x, x ≠ k → u.image x = (s.image x).map fun j => { j with stageFullRefused := false }
  ended : u.status.pending.getLsbD 4 = true
  raised : (∃ x j, s.image x = some j ∧ j.stageFullRefused = true) → u.status.pending.getLsbD 5 = true
  quiet : (∀ x j, s.image x = some j → j.stageFullRefused = false) →
    u.status.pending.getLsbD 5 = s.status.pending.getLsbD 5

/-- A release evaluation of any slot (R39 to R43). One that does not stream, or whose empty consumer set or empty window leaves no head to go, stays as it is. -/
structure State.slotEvaluated (s u : State) (k : ImageId) : Prop where
  stays : (∀ i, s.image k = some i → i.residency = .resident ∨ i.window = [] ∨
    (i.consumers = [] ∧ ∃ cap, i.residency = .streaming cap false)) → u = s
  consumed : ∀ i cap closed, s.image k = some i → i.residency = .streaming cap closed → i.consumers ≠ [] →
    ∃ m, s.headsGo (fun x => (s.bay x).cursor.getD 0) i cap closed m ∧ s.headsReleased u k i m
  ends : ∀ i cap, s.image k = some i → i.residency = .streaming cap true → i.consumers = [] → i.window ≠ [] →
    i.state ≠ .awaitRewind → s.passEnded u k i
  digests : u.staging.freeDigests = s.staging.freeDigests
  bays : u.bays = s.bays

/-- The evaluations of every slot, 0 to 3, that an empty pool starts (R35, R40; their order is the model's choice, log 36). -/
def State.poolGone (s u : State) : Prop :=
  ∃ a b c, s.slotEvaluated a 0 ∧ a.slotEvaluated b 1 ∧ b.slotEvaluated c 2 ∧ c.slotEvaluated u 3

/-! ## Moves asked for, and moves that leave -/

/-- A move asked for joins the tail of the queue, or waits while its requester has a request there (R113, log 9). -/
structure Transport.asked (t u : Transport) (r : MoveReq) : Prop where
  joins : (∀ q ∈ t.queue, q.requester ≠ r.requester) → u.queue = t.queue ++ [r] ∧ u.waiting = t.waiting
  waits : (∃ q ∈ t.queue, q.requester = r.requester) → u.queue = t.queue ∧ u.waiting = t.waiting ++ [r]

/-- The queue and the waiting posts after requests have left: each post joins the tail unless its requester has a request there (R113, log 9). -/
def postsAfter (queue : List MoveReq) : List MoveReq → List MoveReq × List MoveReq
  | [] => (queue, [])
  | r :: l =>
    if queue.any fun q => q.requester == r.requester then
      ((postsAfter queue l).1, r :: (postsAfter queue l).2)
    else postsAfter (queue ++ [r]) l

/-- Requests have left the queue, these remain, and the waiting posts follow (R113, log 9). -/
def Transport.leaves (t u : Transport) (remaining : List MoveReq) : Prop :=
  (u.queue, u.waiting) = postsAfter remaining t.waiting

/-! ## A move under way -/

/-- The reason a rejection leaves: the first one stays (R6). -/
def Disposition.rejectedWith (d : Disposition) (why : RejectReason) : Disposition :=
  if d.isReject then d else .reject why

/-- The request `r` holds the grant, and no other request is under way or has its requester (R113, R115). -/
structure State.granting (s : State) (older : List MoveReq) (r : MoveReq) (younger : List MoveReq) : Prop where
  queue : s.trans.queue = older ++ r :: younger
  granted : r.granted = true
  others : ∀ q ∈ older ++ younger, q.granted = false ∧ q.interrupted = false ∧ q.requester ≠ r.requester

/-- The leg under way is the last of its request (R118, R125). -/
def Transport.lastLeg (t : Transport) (r : MoveReq) : Prop := t.leg = .second ∨ r.second = none

/-- The arm gives the grant up: IDLE, no leg, no hand-over, no timer (R118, R119). -/
def Transport.freed (t : Transport) : Transport :=
  { t with
    arm := .idle, leg := .first, handover := none, resume := none, moveTimer := none, ackTimer := none
    holdTimer := none }

/-- A hand-over at a source has failed, with retries left: a forced release (R119). -/
structure State.forcedFree (s t : State) (older : List MoveReq) (q : MoveReq) (younger : List MoveReq) : Prop where
  trans : t.trans = { s.trans.freed with
    forcedReleases := (s.trans.forcedReleases + 1) % 16, queue := older ++ younger ++ [q] }
  handling : t.cond .handling = true

/-- The request as a forced release of its first leg queues it again (R119). -/
def MoveReq.again (r : MoveReq) : MoveReq :=
  { r with granted := false, interrupted := false, retries := r.retries + 1 }

/-- The disc held goes on to REJECT under the same grant (R121 step 5, R122). -/
def State.goesToReject (s t : State) (older : List MoveReq) (r : MoveReq) (younger : List MoveReq) : Prop :=
  t.trans = { s.trans with
    moveTimer := some (s.now + 12000), ackTimer := none, handover := none
    queue := older ++ MoveReq.redirect s.trans.leg (.bin .reject) r :: younger }

/-- A disc set REJECT with a reason, and TO_OUT (R4, R6). -/
def State.rejectsDisc (s t : State) (n : Nat) (why : RejectReason) : Prop :=
  ∀ d, s.disc n = some d → ∃ e, t.disc n = some e ∧
    e.disposition = d.disposition.rejectedWith why ∧ e.stage = .toOut

/-- A bay that awaited a disc is told that it will not come (R54, R72). -/
def State.stopsAwaiting (s t : State) (b : BayId) (n : Nat) : Prop :=
  (s.bay b).state = .awaitDisc → (s.bay b).disc = some n →
    (t.bay b).state = (if (s.bay b).offlineAfter then .offline else .empty) ∧
    (t.bay b).disc = none ∧ (t.bay b).job = none ∧ (t.bay b).imageSlot = none ∧
    (t.bay b).handoverFailures = (s.bay b).handoverFailures

/-- A bay that awaited a disc after an acceptance failure there (R54). -/
def State.failsAcceptance (s t : State) (b : BayId) (n : Nat) : Prop :=
  (s.bay b).state = .awaitDisc → (s.bay b).disc = some n →
    let f := min 7 ((s.bay b).handoverFailures + 1)
    (t.bay b).handoverFailures = f ∧ (t.bay b).disc = none ∧
    (t.bay b).state = (if s.settingNat 10 ≤ f then .fault
      else if (s.bay b).offlineAfter then .offline else .empty)

/-- A forced release with the retries spent: the request leaves the queue, the arm is IDLE (R119, R120). -/
structure State.spentRelease (s t : State) (older younger : List MoveReq) : Prop where
  queue : s.trans.leaves t.trans (older ++ younger)
  arm : t.trans.arm = .idle
  count : t.trans.forcedReleases = (s.trans.forcedReleases + 1) % 16
  handling : t.cond .handling = true

/-- The retries of a request are spent at its source bay: FAULT with the disc in its tray, the disc REJECT with HANDLING, a SWAP's second record deleted and uncounted (R22, R71, R120). -/
structure State.spentAtBay (s t : State) (older : List MoveReq) (r : MoveReq) (younger : List MoveReq) (b : BayId) :
    Prop where
  release : s.spentRelease t older younger
  bay : (t.bay b).state = .fault ∧ (t.bay b).disc = (s.bay b).disc ∧ (t.bay b).out = none ∧ (t.bay b).susp = none
  signals : t.cond .bayFault = true ∧ t.status.pending.getLsbD 8 = true
  disc : ∀ d, s.disc r.disc = some d → (∀ l, r.second = some l → l.disc ≠ r.disc) →
    ∃ e, t.disc r.disc = some e ∧ e.disposition = d.disposition.rejectedWith .handling
  second : ∀ l, r.second = some l → t.disc l.disc = none ∧ ∀ x k j, s.disc l.disc = some x → x.job = some k →
    s.job k = some j → ∃ y, t.job k = some y ∧ y.started = j.started - 1 ∧ y.inFlight = j.inFlight - 1

/-- The retries of a request are spent at PRN: the printer in FAULT with the disc on its tray, the disc REJECT with HANDLING, the bay that awaits a PRINT_FIRST disc told (R120, R146). -/
structure State.spentAtPrn (s t : State) (older : List MoveReq) (r : MoveReq) (younger : List MoveReq) (p : Printer) :
    Prop where
  release : s.spentRelease t older younger
  printer : t.printer = some { p with trayMove := false, state := .fault, print := none, clampOpen := false }
  signals : t.cond .printerFault = true ∧ t.status.pending.getLsbD 12 = true
  disc : ∀ d, s.disc r.disc = some d →
    (∃ e, t.disc r.disc = some e ∧ e.disposition = d.disposition.rejectedWith .handling) ∧
    ∀ j b, s.jobOf d = some j → j.label.isSome = true → j.printOrder = some .printFirst → d.target = some b →
      s.stopsAwaiting t b r.disc

/-- The station that awaited the leg's disc is told that it will not come, with no acceptance failure (R54, R127). -/
def State.tellsAwaiting (s t : State) (r : MoveReq) (n : Nat) : Prop :=
  (∀ b, s.trans.legDest r = .bay b → s.stopsAwaiting t b n) ∧
  (∀ b, s.trans.legDest r = .prn → r.kind = .printIn → r.requester = .bay b → s.stopsAwaiting t b n)

/-- The completion list with one more entry, its oldest discarded when it is full (R8). -/
def DiscTable.completed (x y : DiscTable) (e : Completion) : Prop :=
  (x.completions.length < 64 → y.completions = x.completions ++ [e] ∧ y.dropped = x.dropped) ∧
  (64 ≤ x.completions.length → y.completions = x.completions.drop 1 ++ [e] ∧
    y.dropped = if x.dropped < 65535 then x.dropped + 1 else 65535)

/-- The other records stay as they are, but that a post which waited and now joins the queue for a bin makes its disc TO_OUT (R4, log 9). -/
def State.othersStay (s t : State) (l : List Disc) : Prop :=
  ∃ joined : List Nat, (∀ n ∈ joined, ∃ q ∈ s.trans.waiting, q.disc = n ∧ q.dest.isBin = true) ∧
    t.discs.records = l.map fun e => if e.number ∈ joined then { e with stage := .toOut } else e

/-- The record of a disc has been retired with a disposition: its entry in the completion list, its job's counters and state, DISC_DONE; the other records stay, and a drain ends only with the last of them, unless an orphan creation waits (R7, R8, R11, R12, R157, R159). -/
structure State.retires (s t : State) (before : List Disc) (d : Disc) (after : List Disc) (out : Disposition) : Prop where
  entry : s.discs.completed t.discs
    { number := d.number, jobNumber := (s.jobOf d).map Job.number, disposition := out
      target := d.target, media := d.media, stepDowns := d.stepDowns, suspends := d.suspends
      mismatches := d.mismatches, burned := d.burned, verified := d.verified, printed := d.printed }
  others : s.othersStay t (before ++ after)
  table : t.discs.counter = s.discs.counter ∧ t.discs.orphanWait = s.discs.orphanWait
  jobs : t.jobs.order = s.jobs.order ∧ ∀ m, d.job ≠ some m → t.job m = s.job m
  counts : ∀ k j, d.job = some k → s.job k = some j → ∃ i, t.job k = some i ∧ i.inFlight = j.inFlight - 1 ∧
    (out = .good → i.good = j.good + 1 ∧ i.rejected = j.rejected ∧ i.consecRejects = 0 ∧
      (j.state ≠ .cancelling → j.state ≠ .cancelled → j.good + 1 = j.copies → i.state = .complete)) ∧
    (out ≠ .good → i.good = j.good ∧ i.rejected = j.rejected + 1 ∧
      i.consecRejects = (if j.consecRejects < 65535 then j.consecRejects + 1 else 65535) ∧
      (j.state = .active ∨ j.state = .filled → j.rejectLimit ≤ i.consecRejects →
        i.state = .held .rejectLimit ∧ t.status.pending.getLsbD 2 = true)) ∧
    (j.state = .cancelling → j.inFlight = 1 → i.state = .cancelled ∧ t.status.pending.getLsbD 1 = true)
  runMode : t.jobs.runMode =
    if s.jobs.runMode = .draining ∧ before ++ after = [] ∧ s.discs.orphanWait = [] then .paused else s.jobs.runMode
  drained : s.jobs.runMode = .draining → before ++ after = [] → s.discs.orphanWait = [] →
    t.status.pending.getLsbD 14 = true
  done : t.status.pending.getLsbD 0 = true

/-! ## The ends of a leg, of homing, and a fault -/

/-- The current leg is done: the arm is free after the last leg of its request, and HELD after a SWAP's first (R118). -/
structure State.legEnds (s t : State) (older : List MoveReq) (r : MoveReq) (younger : List MoveReq) : Prop where
  last : s.trans.lastLeg r → s.trans.leaves t.trans (older ++ younger) ∧
    t.trans = { s.trans.freed with queue := t.trans.queue, waiting := t.trans.waiting }
  hold : ¬ s.trans.lastLeg r → t.trans = { s.trans with
    arm := .held, moveTimer := none, ackTimer := none, handover := none, holdTimer := some (s.now + s.settingNat 9) }

/-- Homing has ended: the fault cause and the pending mark are gone, ARM is raised, and the arm is IDLE, or an interrupted request is granted again, by what the arm was doing (R130, R132). -/
structure State.homingEnds (s t : State) : Prop where
  idle : (∀ r ∈ s.trans.queue, r.interrupted = false) →
    t.trans = { s.trans.freed with faultCause := none, homingPending := false }
  again : ∀ older r younger, s.trans.queue = older ++ r :: younger → r.interrupted = true →
    (∀ q ∈ older ++ younger, q.granted = false ∧ q.interrupted = false) →
    let granted : Transport := { s.trans with
      faultCause := none, homingPending := false, resume := none, ackTimer := none, holdTimer := none
      moveTimer := some (s.now + 12000), queue := older ++ { r with granted := true, interrupted := false } :: younger }
    (s.trans.resume = some .carrying → t.trans = { granted with arm := .carrying }) ∧
    (s.trans.resume = some .granted → t.trans = { granted with arm := .granted, handover := none }) ∧
    (s.trans.resume = some .held → t.trans = { granted with
      arm := .held, handover := none, moveTimer := none, holdTimer := some (s.now + s.settingNat 9) })
  signals : t.status.pending.getLsbD 9 = true ∧ t.cond .armFault = false

/-- The arm has entered FAULT (R129). With a disc on the arm its record is REJECT with HANDLING and TO_OUT, the bay that awaited it is told, and its request leaves the queue, a SWAP's second leg as a LOAD; with none the granted request is the interrupted one, in its place, and what the arm was doing is kept (log 40). -/
structure State.faulted (s t : State) (why : FaultCause) : Prop where
  arm : t.trans.arm = .fault ∧ t.trans.faultCause = some why ∧ t.trans.moveTimer = none ∧ t.trans.ackTimer = none ∧
    t.trans.holdTimer = none
  released : ∀ q ∈ t.trans.queue, q.granted = false
  signals : t.cond .armFault = true ∧ t.status.pending.getLsbD 9 = true
  onArm : ∀ older r younger, s.granting older r younger → s.trans.arm = .carrying → s.sensors.pick = true →
    s.rejectsDisc t (s.trans.legDisc r) .handling ∧
    (∀ b, s.trans.legDest r = .bay b → s.stopsAwaiting t b (s.trans.legDisc r)) ∧
    (∀ b, s.trans.legDest r = .prn → r.kind = .printIn → r.requester = .bay b →
      s.stopsAwaiting t b (s.trans.legDisc r)) ∧
    (s.trans.lastLeg r → s.trans.leaves t.trans (older ++ younger)) ∧
    (∀ l, s.trans.leg = .first → r.second = some l → r.requester = .bay l.bay →
      s.trans.leaves t.trans (older ++ younger ++
        [MoveReq.posted .load (.bay l.bay) (.spindle l.spindle) (.bay l.bay) l.disc none]))
  kept : ∀ older r younger, s.granting older r younger → s.trans.arm ≠ .carrying ∨ s.sensors.pick = false →
    t.discs = s.discs ∧ t.trans = { s.trans with
      arm := .fault, faultCause := some why, moveTimer := none, ackTimer := none, holdTimer := none
      resume := some (if s.trans.arm = .granted then .granted else if s.trans.arm = .held then .held else .carrying)
      queue := older ++ { r with granted := false, interrupted := true } :: younger }
  givenUp : ∀ older r younger at_, s.granting older r younger → s.trans.handover ≠ none →
    (s.trans.arm = .granted ∧ s.trans.legSource r = at_) ∨ (s.trans.arm = .carrying ∧ s.trans.legDest r = at_) →
    (∀ b o, at_ = .bay b → (s.bay b).out = some o → o.req = .trayOpen ∨ o.req = .trayClose → (t.bay b).out = none) ∧
    (∀ p, at_ = .prn → s.printer = some p → t.printer = some { p with clampOpen := false })

/-! ## A disc rejected in its bay -/

/-- A job that meets every condition of R20, and the spindle that its next disc comes from; no record is created while an orphan creation waits (R2), and a post to PRN that waits counts as queued (log 9). -/
structure State.fitsJob (s : State) (j : Job) (i : SpindleId) : Prop where
  running : s.jobs.runMode = .run
  active : j.state = .active
  image : ∃ m, s.image j.imageSlot = some m ∧ (m.residency = .resident ∨ m.gate = .opened)
  choice : j.spindle = .a ∧ i = .a ∨ j.spindle = .b ∧ i = .b ∨
    j.spindle = .any ∧ i = (if s.trans.spindleA = .ready then .a else .b)
  spindle : s.spindle i = .ready
  printer : j.label.isSome = true → j.printOrder = some .printFirst →
    (∃ p, s.printer = some p ∧ p.state = .idle) ∧ ∀ q ∈ s.trans.queue ++ s.trans.waiting, q.dest ≠ .prn
  record : s.discs.records.length < 16
  orphans : s.discs.orphanWait = []

/-- The oldest job in creation order that meets every condition; older ones are passed over (R20). -/
def State.oldestFit (s : State) (k : JobSlot) (j : Job) (i : SpindleId) : Prop :=
  ∃ older newer, s.jobs.order = older ++ k :: newer ∧ s.job k = some j ∧ s.fitsJob j i ∧
    ∀ m ∈ older, ∀ x y, s.job m = some x → ¬ s.fitsJob x y

/-- No job meets every condition (R20). -/
def State.noneFits (s : State) : Prop := ∀ k ∈ s.jobs.order, ∀ j i, s.job k = some j → ¬ s.fitsJob j i

/-- The free records serve every orphan creation that waits: none waits once they have gone to them (R2, log 1). -/
abbrev State.orphansServed (s : State) : Prop := s.discs.orphanWait.length ≤ 16 - s.discs.records.length

/-- What R19 says starts an evaluation lies between two states, the release of a HELD job among it, to ACTIVE or FILLED alike (R16). A redirected request stays in the queue, and a slot that IMAGE OPEN opens is none that becomes able to admit by a gate, a promotion or a rewind. Before READY, or while an orphan creation waits for a record, nothing starts one; a record that goes to such a creation is none that is freed. -/
def State.startsEvaluation (s t : State) : Prop :=
  t.settings.stage = .ready ∧ t.orphansServed ∧
    (s.settings.stage ≠ .ready ∨
      (∃ b, (t.bay b).state = .empty ∧ (s.bay b).state ≠ .empty) ∨
      (∃ k, s.job k = none ∧ t.job k ≠ none) ∨
      (∃ k i j, s.job k = some i ∧ t.job k = some j ∧ (i.state = .filled ∧ j.state = .active ∨
        (∃ c, i.state = .held c) ∧ (j.state = .active ∨ j.state = .filled))) ∨
      (t.jobs.runMode = .run ∧ s.jobs.runMode ≠ .run) ∨
      ((t.discs.orphanWait = [] ∨ t.discs.orphanWait.length < 16 - t.discs.records.length) ∧
        ∃ d ∈ s.discs.records, ∀ e ∈ t.discs.records, e.number ≠ d.number) ∨
      (∃ i, s.spindle i ≠ .ready ∧ t.spindle i ≠ s.spindle i) ∨
      ((∃ p, t.printer = some p ∧ p.state = .idle) ∧ ∀ p, s.printer = some p → p.state ≠ .idle) ∨
      (∃ r ∈ s.trans.queue, r.dest = .prn ∧ ∀ q ∈ t.trans.queue, q.requester ≠ r.requester ∨ q.disc ≠ r.disc) ∨
      (∃ k i j, s.image k = some i ∧ t.image k = some j ∧ (i.residency ≠ .resident ∧ j.residency = .resident ∨
        i.gate = .closed ∧ j.gate = .opened ∨ i.state = .awaitRewind ∧ j.state ≠ .awaitRewind)))

/-- The record of a dispatched disc (R2, R21). -/
def dispatchRecord (n : Nat) (k : JobSlot) (i : SpindleId) (b : BayId) : Disc :=
  { number := n, job := some k, location := .spindle i, stage := .queued, target := some b, media := none,
    burned := false, verified := false, printed := false, disposition := .pending, stepDowns := 0,
    suspends := 0, mismatches := 0 }

/-- A job with one more disc dispatched (R21 step 2). -/
def Job.dispatched (j : Job) : Job :=
  { j with
    started := j.started + 1, inFlight := j.inFlight + 1
    state := if j.good + (j.inFlight + 1) = j.copies then .filled else .active }

/-- A bay's unload of disc `n` is posted, in a state where the check of R23 finds what `s` holds: alone, with no job and no record touched, or as a SWAP that brings the next disc of the oldest job that fits. -/
structure State.unloadPosted (s t : State) (b : BayId) (n : Nat) (dest : Station) : Prop where
  alone : (s.bay b).offlineAfter = true ∨ (s.bay b).job = none ∨ s.noneFits ∨
      (∃ k j i, s.oldestFit k j i ∧ j.label.isSome = true ∧ j.printOrder = some .printFirst) →
    s.trans.asked t.trans (MoveReq.posted .unload (.bay b) (.bay b) dest n none) ∧ t.jobs = s.jobs ∧
    t.discs.records.map Disc.number = s.discs.records.map Disc.number ∧ t.discs.counter = s.discs.counter
  swap : ∀ k j i, (s.bay b).offlineAfter = false → (s.bay b).job ≠ none → s.oldestFit k j i →
      ¬ (j.label.isSome = true ∧ j.printOrder = some .printFirst) →
      s.discs.taken s.discs.newNumber = false → n ≠ s.discs.newNumber →
    let m := s.discs.newNumber
    s.trans.asked t.trans (MoveReq.posted .swap (.bay b) (.bay b) dest n
      (some { spindle := i, bay := b, disc := m, dest := .bay b })) ∧
    t.jobs = { s.jobs with slots := s.jobs.slots.set k.val (some j.dispatched) } ∧
    t.disc m = some (dispatchRecord m k i b) ∧
    t.discs.records.map Disc.number = s.discs.records.map Disc.number ++ [m] ∧
    t.discs.counter = nextNumber m

/-- A bay's channel has rejected its disc (R66): the disposition set, the outstanding work abandoned, the allocation and the consumer's place given up, the unload to REJECT asked for, alone or as a SWAP. -/
structure State.unloadsToReject (s t : State) (b : BayId) (n : Nat) (why : RejectReason) : Prop where
  bay : (t.bay b).state = .awaitUnload ∧ (t.bay b).disc = some n ∧ (t.bay b).dest = some .reject
  port : (t.bay b).out = none ∧ (t.bay b).susp = none
  timers : (t.bay b).retryTimer = none ∧ (t.bay b).reserveTimer = none ∧ (t.bay b).identDeadline = none
  burn : (t.bay b).burn = none
  /-- the first reason stays (R6); a posted move makes the disc TO_OUT (R4) -/
  disc : ∀ d, s.disc n = some d → ∃ e, t.disc n = some e ∧
    e.disposition = d.disposition.rejectedWith why ∧
    ((∀ q ∈ s.trans.queue, q.requester ≠ .bay b) → e.stage = .toOut)
  move : ∃ r, s.trans.asked t.trans r ∧ r.disc = n ∧ r.requester = .bay b ∧
    r.source = .bay b ∧ r.dest = .bin .reject
  /-- alone or as a SWAP, by what the images are once the bay's consumer has left (R23) -/
  unload : State.unloadPosted { s with staging := t.staging } t b n (.bin .reject)
  admission : ∀ e ∈ t.governor.queue, e.bay ≠ b
  /-- its allocation leaves A (R66 step 4, R75) -/
  allocation : t.governor.sum = s.governor.sum - ((s.bay b).burn.elim 0 Burn.rate)
  /-- it leaves its image's consumer set (R37, R66 step 4) -/
  consumers : ∀ k i, (s.bay b).imageSlot = some k → t.image k = some i → b ∉ i.consumers
  lanes : b ∉ t.verify.queue ∧ ∀ l y, t.lane l = some y → y.bay ≠ b

/-- The record of a bay with a request issued (R49). -/
def Bay.withRequest (r : Bay) (req : DriveReq) (deadline : Nat) : Bay :=
  { r with requestNumber := r.requestNumber + 1, out := some { req, number := r.requestNumber + 1, deadline } }

/-- What the feed test leaves of a bay record (R59): in BURNING, with a free port and the cursor below the fill point, a WRITE from the cursor, of at most 32 sectors, to the fill point or the segment's end, whichever comes first, with the window's sectors from there (R38); in every other case the record as it was. -/
structure State.feeds (s : State) (r after : Bay) : Prop where
  issues : ∀ k i c, r.imageSlot = some k → s.image k = some i → r.cursor = some c → r.state = .burning →
    r.out = none → r.susp = none → c < i.fill →
    let n := min 32 (min (i.fill - c) (s.segSectors - c % s.segSectors))
    after = r.withRequest (.write c n ((i.window.flatten.drop (c - i.base)).take n).flatten) (s.now + 3000)
  rests : r.state ≠ .burning ∨ r.out ≠ none ∨ r.susp ≠ none ∨
    (∀ k i c, r.imageSlot = some k → s.image k = some i → r.cursor = some c → i.fill ≤ c) → after = r

/-! ## A job's discs under a cancel -/

/-- A bay works on a disc: one of the seven states in which a cancel rejects it (R66, R155). -/
abbrev Bay.worksOn (r : Bay) (n : Nat) : Prop :=
  r.disc = some n ∧ (r.state = .ident ∨ r.state = .admitWait ∨ r.state = .burning ∨ r.state = .suspended ∨
    r.state = .closing ∨ r.state = .verifyWait ∨ r.state = .verifying)

/-- The table with a record set REJECT with CANCELLED, on the arm TO_OUT as well (R6, R154). -/
def DiscTable.cancels (x : DiscTable) (n : Nat) (toOut : Bool) : DiscTable :=
  { x with records := x.records.map fun e => if e.number = n then
      { e with disposition := e.disposition.rejectedWith .cancelled, stage := if toOut then .toOut else e.stage } else e }

/-- A PENDING disc on the arm is sent to REJECT: its record, the station that awaited it, a hand-over given up there, and the leg of the request `r` that carries it, under way or interrupted (R127, R154; a disc that stands set on a tray by logs 42 and 44). -/
structure State.turnsOnArm (s t : State) (older : List MoveReq) (r : MoveReq) (younger : List MoveReq) (n : Nat) :
    Prop where
  discs : t.discs = s.discs.cancels n true
  told : s.tellsAwaiting t r n
  givenUp : s.trans.handover ≠ none →
    (∀ b o, s.trans.legDest r = .bay b → (s.bay b).out = some o → o.req = .trayOpen ∨ o.req = .trayClose →
      (t.bay b).out = none) ∧
    (∀ p, s.trans.legDest r = .prn → s.printer = some p → t.printer = some { p with clampOpen := false })
  queue : t.trans.queue = older ++ MoveReq.redirect s.trans.leg (.bin .reject) r :: younger
  goes : r.granted = true → s.trans.handover = none ∨ s.sensors.pick = true → t.trans = { s.trans with
    queue := t.trans.queue, moveTimer := some (s.now + 12000), ackTimer := none, handover := none }
  retakes : r.granted = true → s.trans.handover ≠ none → s.sensors.pick = false → s.trans.moveTimer = none →
    t.trans = { s.trans with
      queue := t.trans.queue, handover := some .retake, ackTimer := some (s.now + s.settingNat 8) }
  returns : r.granted = true → s.trans.handover ≠ none → s.sensors.pick = false → s.trans.moveTimer ≠ none →
    t.trans = { s.trans with queue := t.trans.queue, handover := some .retake }
  waits : r.granted = false → t.trans = { s.trans with
    queue := t.trans.queue, handover := if s.trans.handover ≠ none ∧ s.sensors.pick = false then some .retake else none }
  printer : s.trans.handover = none → t.printer = s.printer
  frame : s.changesOnly [.discs, .bays, .trans, .printer] t

/-- A request names a disc, as its own or as its second leg's. -/
abbrev MoveReq.names (r : MoveReq) (n : Nat) : Prop := r.disc = n ∨ ∃ l, r.second = some l ∧ l.disc = n

/-- The move of a QUEUED disc is withdrawn, wherever it stands: the request leaves, with the arm IDLE or the interruption cleared when it is under way; a SWAP whose first leg is not over stays as an UNLOAD; a post that waits leaves its list. The other requests stay in their order (R113, R127, R153, log 9). -/
structure State.withdraws (s t : State) (n : Nat) : Prop where
  asks : ∀ older r younger, s.trans.queue = older ++ r :: younger → (∀ q ∈ older ++ younger, ¬ q.names n) →
    (∀ q ∈ older ++ younger, r.granted = true ∨ r.interrupted = true → q.granted = false ∧ q.interrupted = false) →
    let underWay := r.granted = true ∨ r.interrupted = true
    let firstOver := underWay ∧ (s.trans.leg = .second ∨ s.trans.arm = .held ∨ s.trans.resume = some .held)
    let leaves := s.trans.leaves t.trans (older ++ younger)
    let kept : Transport := { s.trans with queue := t.trans.queue, waiting := t.trans.waiting }
    (r.disc = n → r.second = none →
      (¬ underWay → leaves ∧ t.trans = kept) ∧
      (r.granted = true → leaves ∧ t.trans = { kept.freed with resume := none }) ∧
      (r.granted = false → r.interrupted = true →
        leaves ∧ t.trans = { kept with resume := none, handover := none, leg := .first })) ∧
    (∀ l, r.disc ≠ n → r.second = some l → l.disc = n →
      (¬ firstOver → t.trans = { s.trans with queue := older ++ { r with kind := .unload, second := none } :: younger }) ∧
      (firstOver → r.granted = true → leaves ∧ t.trans = { kept.freed with resume := none }) ∧
      (firstOver → r.granted = false → leaves ∧ t.trans = { kept with resume := none, handover := none, leg := .first }))
  posts : (∀ q ∈ s.trans.queue, ¬ q.names n) → t.trans = { s.trans with
    waiting := (s.trans.waiting.filter fun r => r.disc != n).map fun r =>
      if r.second.any (·.disc == n) then { r with kind := .unload, second := none } else r }

/-- The record of a QUEUED disc is deleted, its move withdrawn, its job uncounted and its target bay told (R22, R54, R153, R157); the last record freed ends a drain, unless an orphan creation waits for it (R159). -/
structure State.deletesQueued (s t : State) (d : Disc) : Prop where
  move : s.withdraws t d.number
  records : s.othersStay t (s.discs.records.filter fun e => e.number != d.number)
  table : t.discs = { s.discs with records := t.discs.records }
  job : ∀ k j, d.job = some k → s.job k = some j → j.state = .cancelling ∨ j.state = .cancelled →
    t.jobs.slots = s.jobs.slots.set k.val (some { j with
      started := j.started - 1, inFlight := j.inFlight - 1
      state := if j.inFlight - 1 = 0 then .cancelled else j.state }) ∧
    (j.state = .cancelling → j.inFlight - 1 = 0 → t.status.pending.getLsbD 1 = true)
  order : t.jobs.order = s.jobs.order
  runMode : let drained := s.jobs.runMode = .draining ∧ (∀ e ∈ s.discs.records, e.number = d.number) ∧
      s.discs.orphanWait = []
    t.jobs.runMode = (if drained then .paused else s.jobs.runMode) ∧
    (drained → t.status.pending.getLsbD 14 = true)
  told : ∀ b, d.target = some b → s.stopsAwaiting t b d.number
  others : s.trans.handover = none ∨ (s.trans.arm = .granted ∧
      ∀ r ∈ s.trans.queue, r.granted = true ∨ r.interrupted = true → ∃ i, s.trans.legSource r = .spindle i) →
    t.printer = s.printer ∧
    ∀ m, (d.target ≠ some m ∨ (s.bay m).state ≠ .awaitDisc ∨ (s.bay m).disc ≠ some d.number) → t.bay m = s.bay m
  frame : s.changesOnly [.jobs, .discs, .trans, .bays, .printer, .status] t

/-- The cancel acts on one disc of the job, `d` as its record stood when the request was taken (R152 to R156). -/
structure State.cancelsDisc (s t : State) (d : Disc) : Prop where
  queued : d.stage = .queued → s.disc d.number = some d → s.deletesQueued t d
  goesOn : d.stage ≠ .queued → d.disposition ≠ .pending → t = s
  inPrinter : d.stage ≠ .queued → d.disposition = .pending → d.location = .prn →
    t = { s with discs := s.discs.cancels d.number false }
  working : ∀ b, d.stage ≠ .queued → d.disposition = .pending → d.location = .bay b →
    (s.bay b).worksOn d.number → s.unloadsToReject t b d.number .cancelled
  resting : ∀ b, d.stage ≠ .queued → d.disposition = .pending → d.location = .bay b →
    ¬ (s.bay b).worksOn d.number → t = s
  onArm : ∀ older r younger, d.stage ≠ .queued → d.disposition = .pending → d.location = .arm →
    s.trans.arm ≠ .granted → s.trans.queue = older ++ r :: younger → r.granted = true ∨ r.interrupted = true →
    (∀ q ∈ older ++ younger, q.granted = false ∧ q.interrupted = false) → s.trans.legDisc r = d.number →
    s.turnsOnArm t older r younger d.number
  onNoLeg : d.stage ≠ .queued → d.disposition = .pending → d.location = .arm →
    (∀ r ∈ s.trans.queue, r.granted = true ∨ r.interrupted = true → s.trans.legDisc r ≠ d.number) →
    t = { s with discs := s.discs.cancels d.number false }

/-- The cancel acts on the discs of a list one after the other, from `s` to `t` (R152). -/
def State.cancelsAll (t : State) : List Disc → State → Prop
  | [], s => t = s
  | d :: l, s => ∃ u, s.cancelsDisc u d ∧ t.cancelsAll l u

/-- A step at which a bay of the admission queue could be admitted: its slot accepts a join, the budget carries the step's rate, and the image is staged far enough for it (R37, R89). -/
structure State.admitsAt (s : State) (b : BayId) (k : ImageId) (i : Image) (f : DriveFacts) (step : Nat) : Prop where
  slot : (s.bay b).imageSlot = some k ∧ s.image k = some i
  facts : (s.bay b).facts = some f ∧ step < f.rates.length
  joins : (i.state = .filling ∨ i.state = .complete) ∧ (i.residency = .resident ∨ i.gate = .opened)
  budget : s.governor.sum + f.rates.getD step 0 ≤ s.settingNat 2
  lead : s.settingNat 5 ≤ (if i.fill = i.size then 65535 else min 65535 (i.fill * 1000 / f.rates.getD step 0))

/-- An admission queue between two evaluations: each bay once, none admitting, each with the rate list of its IDENTIFY (R56, R87). -/
structure State.admissionRests (s : State) : Prop where
  once : (s.governor.queue.map AdmEntry.bay).Nodup
  flags : ∀ e ∈ s.governor.queue, e.admitting = none
  rates : ∀ e ∈ s.governor.queue, ∃ f, (s.bay e.bay).facts = some f ∧ f.rates ≠ []

/-- No entry of a list can be admitted now (R89). -/
def State.passedOver (s : State) (l : List AdmEntry) : Prop :=
  ∀ e ∈ l, ∀ k i f step, ¬ s.admitsAt e.bay k i f step

end Sys2Proof.Machine
end

