-- ==== Sys2Proof/Certificates/Slice0/Obligations.lean ====
section
/-! DEFINITION. The statements about the TD12: one step, replies, the link, start-up, settings, status, images, labels, jobs, bays, arm, printer, and the invariants that every step keeps. -/

open Sys2Proof Sys2Proof.Machine

/-! ## One step -/

/-- A step with a command at the front of the queue is that command's effect on the state with the queue's rest. -/
def Obligations.StepTakesTheFrontCommand : Prop :=
  ∀ (s : State) (c : Instr) (rest : List Instr), s.pending = c :: rest →
    step s = exec c { s with pending := rest }

/-- On an empty queue the part takes its own due work, and with none due one millisecond passes (the model's choice, log 2). -/
def Obligations.IdleStepTakesDueWorkOrAMillisecond : Prop :=
  (∀ (s : State) (c : Instr), s.pending = [] → s.nextDue = some c → step s = exec c s) ∧
  (∀ s : State, s.pending = [] → s.nextDue = none → step s = .next { s with now := s.now + 1 })

/-- Every command answers a next state, and none of them touches the queue of commands or the clock: the spec names no event that stops the part (log 33), and POWER_ON too leaves both (log 27). An evaluation of the Dispatcher is wanted after a command exactly when it was wanted before, or when the command has taken one of R19's triggers, a promotion (R44) and the release of a HELD job (R16) among them; the evaluation itself, taken as a command of its own by the model's choice (log 1), answers it where it may run, and a reset of the blocks forgets it. -/
def Obligations.EveryCommandAnswersANextState : Prop :=
  (∀ (c : Instr) (s : State), ∃ t, exec c s = .next t ∧ t.pending = s.pending ∧ t.now = s.now ∧
    (c ≠ .dispatchEvaluation → (∀ readings flash, c ≠ .powerOn readings flash) →
      (c = .restartBegin → s.link.restart = none) →
      (t.dispatchWanted = true ↔ s.dispatchWanted = true ∨ s.startsEvaluation t)) ∧
    (c = .dispatchEvaluation → s.settings.stage ≠ .ready ∨ s.discs.orphanWait ≠ [] → t = s) ∧
    ((c = .dispatchEvaluation ∧ s.settings.stage = .ready ∧ s.discs.orphanWait = []) ∨
      (∃ readings flash, c = .powerOn readings flash) ∨
      (c = .restartBegin ∧ s.link.restart ≠ none) → t.dispatchWanted = false)) ∧
  (∀ s : State, s.dispatchWanted = true → s.settings.stage = .ready → s.discs.orphanWait = [] →
    s.link.owner = none → s.restartDue = false → s.noticeDue = false → s.laneDue = false →
    s.secondLegReady = false → s.canGrant = false → s.admissionDue = false →
    s.nextDue = some .dispatchEvaluation)

/-- The machine after reset, every part of it: what the spec's reset tables give, with every invariant of this file. Sensor levels, straps, the flash and its record, a segment size in effect of 0, and conditions not yet reported are the model's choice (log 5, byte order log 12); the clock and the queue of commands are the model's own (log 2). -/
def Obligations.ResetHoldsItsValuesAndInvariants : Prop :=
  State.reset.discs = { records := [], counter := 1, orphanWait := [], completions := [], dropped := 0 } ∧
  State.reset.jobs = { slots := .replicate 8 none, order := [], runMode := .run } ∧
  State.reset.staging =
    { segmentSize := 0, freeSegments := 2048, freeDigests := 262144, slots := .replicate 4 none } ∧
  (∀ b, State.reset.bay b =
    { state := .offline, disc := none, job := none, imageSlot := none, facts := none, cursor := none,
      buffer := none, burn := none, reserveTimer := none, requestNumber := 0, out := none, susp := none,
      retryTimer := none, identDeadline := none, survey := false, timeouts := 0, handoverFailures := 0,
      offlineAfter := false, dest := none }) ∧
  State.reset.governor = { queue := [], sum := 0 } ∧
  State.reset.verify =
    { lanes := .replicate 4 none, queue := [], chunksVerified := 0, mismatched := 0, repeats := 0 } ∧
  State.reset.trans =
    { arm := .unhomed, faultCause := none, leg := .first, handover := none, resume := none, pos := none,
      moveTimer := none, ackTimer := none, holdTimer := none, homingPending := false, forcedReleases := 0,
      queue := [], waiting := [], spindleA := .ready, spindleB := .ready } ∧
  State.reset.labels = { freeBlocks := 4096, slots := .replicate 8 none } ∧
  State.reset.printer =
    some { state := .idle, trayDisc := none, trayMove := false, print := none, clampOpen := false, dots := [] } ∧
  State.reset.status =
    { live := 0, shadow := 0, forcedAlert := false, forcedWarn := false, pending := 0,
      gate := .opened, gapTimer := none } ∧
  State.reset.link =
    { port := .detached, assembly := [], waiting := [], inbound := [], owner := none,
      outbound := [], linkResets := 0, restart := none } ∧
  State.reset.settings =
    { working := Config.settingDefault, stored := Config.settingDefault, storedValid := true,
      flash := defaultRecord, saving := none, fittedBays := 12, printerFitted := true, stage := .starting,
      waiting := false } ∧
  (recordValid defaultRecord = true ∧ loadedValues defaultRecord = Config.settingDefault) ∧
  State.reset.sensors =
    { baysCode := 12, printerStrap := true, emptyA := false, emptyB := false, outFull := false,
      rejectFull := false, doorOpen := false, pick := false, tray := false, ribbonOut := false,
      ribbonLow := false, headReading := 25 } ∧
  State.reset.dispatchWanted = false ∧ State.reset.now = 0 ∧ State.reset.pending = [] ∧
  State.reset.staging.segmentsKept ∧ State.reset.staging.digestsKept ∧
  State.reset.labels.blocksKept ∧ State.reset.capacitiesKept ∧ State.reset.conditionsHold

/-! ## Invariants of every step -/

/-- Every step keeps the count of segments and of digest entries (R27, R31). Every step keeps the count of label blocks (R135). -/
def Obligations.EveryStepConservesPools : Prop :=
  (∀ s t : State, s.staging.segmentsKept → s.staging.digestsKept → step s = .next t →
     t.staging.segmentsKept ∧ t.staging.digestsKept) ∧
  (∀ s t : State, s.labels.blocksKept → step s = .next t → t.labels.blocksKept)

/-- Every step keeps within their capacities the disc records, the completion list, the dropped count, the inbound queue, the link resets, the three verify counters, the forced releases and the move requests, and the move queue at one request for each requester. -/
def Obligations.EveryStepKeepsCapacities : Prop :=
  ∀ s t : State, s.capacitiesKept → step s = .next t → t.capacitiesKept

/-- Every step keeps the conditions of arm, door, spindles and bins equal to what their owner's state gives. -/
def Obligations.EveryStepKeepsConditionsWithTheirOwners : Prop :=
  ∀ s t : State, s.conditionsHold → step s = .next t → t.conditionsHold

/-! ## Replies and summary flags -/

/-- A reply: placed with its request's tag and the summary flags as they stand, the entry freed and waiting transfers judged into the free places, oldest first; discarded after a link reset; RESERVE_LOW is cleared. Tag 0 with no request at an owner is the model's choice (log 6), and so is that a transfer which found the queue full waits whole (log 13). -/
def Obligations.AReplyIsPlacedAndClearsReserveLow : Prop :=
  ∀ (s : State) (kind : Byte) (result : Result) (data : ReplyData),
    (s.answer kind result data).status = { s.status with live := s.status.live &&& ~~~ (1#15 <<< 9) } ∧
    s.changesOnly [.link, .status] (s.answer kind result data) ∧
    (∀ r : Request, s.link.owner = some { request := r, discard := false } → r.kind = kind →
      let free := 4 - s.link.inbound.tail.length
      (s.answer kind result data).link =
        { s.link with owner := none, waiting := s.link.waiting.drop free,
                      inbound := s.link.inbound.tail ++ (s.link.waiting.take free).filterMap judge,
                      outbound := s.link.outbound ++ [.reply kind r.tag result s.alert s.warn data] }) ∧
    (∀ r : Request, s.link.owner = some { request := r, discard := true } → r.kind = kind →
      (s.answer kind result data).link = { s.link with owner := none }) ∧
    (s.link.owner = none →
      (s.answer kind result data).link =
        { s.link with outbound := s.link.outbound ++ [.reply kind 0 result s.alert s.warn data] })

/-! ## The message link -/

/-- A link reset: the queues and the assembly are emptied, the transfers that wait are abandoned (log 13), the owner's reply will be discarded, the count goes up, the gate reopens, the gap timer stops, a waiting RESTART is due, and no NOTICE is placed. -/
def Obligations.LinkResetEmptiesTheLinkAndNothingElse : Prop :=
  ∀ (detach : Bool) (s : State),
    let t : State := { s with
      link :=
        { port := if detach then .detached else .attached
          assembly := [], waiting := [], inbound := []
          owner := s.link.owner.map fun o => { request := o.request, discard := true }
          outbound := []
          linkResets := if s.link.linkResets < 65535 then s.link.linkResets + 1 else 65535
          restart := s.link.restart.map fun w => { mode := w.mode, limit := w.limit, due := true } }
      status := { s.status with gate := .opened, gapTimer := none } }
    exec (.linkReset detach) s = .next t ∧
    exec .noticeOffer t = .next t ∧
    (∀ (o : Owned) (result : Result) (data : ReplyData), s.link.owner = some o →
      (t.answer o.request.kind result data).link = { t.link with owner := none })

/-- A transfer on the OUT pipe of a CONFIGURED port with room in the inbound queue, by the cases of the table in their order; a transfer that finds the queue full waits, whole by the model's choice (log 13); an oversize header is judged at byte 7, whether or not the transfer before it was one, and stands in the assembly until the end of its transfer, which queues nothing more; with a full queue the pipe takes no such byte. Transfers that wait while entries are free, as after a RESTART, are judged before a new one (log 13). -/
def Obligations.ATransferIsJudged : Prop :=
  let len := fun b : List Byte =>
    (b.getD 4 0).toNat + 256 * ((b.getD 5 0).toNat + 256 * ((b.getD 6 0).toNat + 256 * (b.getD 7 0).toNat))
  let tag := fun b : List Byte => BitVec.ofNat 16 ((b.getD 2 0).toNat + 256 * (b.getD 3 0).toNat)
  (∀ (s : State) (b : List Byte), s.link.port = .configured → s.link.assembly ≠ b.take 8 ∨ b = [] →
    s.link.waiting = [] → s.link.inbound.length < 4 →
    let enters := fun e : Entry => exec (.frameReceived b) s =
      .next { s with link := { s.link with assembly := [], inbound := s.link.inbound ++ [e] } }
    let bad := enters (.refused (b.getD 0 0) (if b.length < 4 then 0 else tag b) .malformed)
    (b = [] → exec (.frameReceived b) s = .next { s with link := { s.link with assembly := [] } }) ∧
    (1 ≤ b.length → b.length ≤ 7 → bad) ∧
    (8 ≤ b.length → 65548 < len b → bad) ∧
    (8 ≤ b.length → b.getD 1 0 ≠ 0x01#8 → bad) ∧
    (8 ≤ b.length → b.length ≠ 8 + len b → bad) ∧
    (8 ≤ b.length → len b ≤ 65548 → b.getD 1 0 = 0x01#8 → b.length = 8 + len b →
      enters (checkFrame (b.getD 0 0) (tag b) (b.drop 8)))) ∧
  (∀ (kind : Byte) (tag : BitVec 16) (p : List Byte),
    (catalogueEntry kind = none → checkFrame kind tag p = .refused kind tag .badKind) ∧
    (∀ fixed, catalogueEntry kind = some (fixed, false) →
      checkFrame kind tag p =
        if p.length = fixed then .request { kind, tag, payload := p } else .refused kind tag .malformed) ∧
    (∀ fixed, catalogueEntry kind = some (fixed, true) → kind ≠ 0x11#8 →
      checkFrame kind tag p =
        if fixed ≤ p.length then .request { kind, tag, payload := p } else .refused kind tag .malformed) ∧
    (checkFrame 0x11#8 tag p =
      if 1 ≤ p.length ∧ p.length = 1 + 5 * (p.getD 0 0).toNat then .request { kind := 0x11, tag, payload := p }
      else .refused 0x11 tag .malformed)) ∧
  (∀ (s : State) (b : List Byte), s.link.port = .configured → s.link.assembly ≠ b.take 8 →
    b ≠ [] → s.link.inbound.length = 4 →
    exec (.frameReceived b) s =
      .next { s with link := { s.link with assembly := [], waiting := s.link.waiting ++ [b] } }) ∧
  (∀ (s : State) (h : List Byte), s.link.port = .configured → h.length = 8 → 65548 < len h →
    (s.link.waiting = [] → s.link.inbound.length < 4 →
      exec (.oversizeHeaderReceived h) s = .next { s with link := { s.link with
        assembly := h, inbound := s.link.inbound ++ [.refused (h.getD 0 0) (tag h) .malformed] } }) ∧
    (s.link.inbound.length = 4 → exec (.oversizeHeaderReceived h) s = .next s)) ∧
  (∀ (s : State) (b : List Byte), s.link.port = .configured → s.link.assembly = b.take 8 → 8 ≤ b.length →
    65548 < len b → s.link.waiting = [] ∨ s.link.inbound.length = 4 →
    exec (.frameReceived b) s = .next { s with link := { s.link with assembly := [] } }) ∧
  (∀ (s : State) (c : Instr), s.link.port = .configured → (∀ t ∈ s.link.waiting, t ≠ []) →
    (∃ b, c = .frameReceived b) ∨ (∃ h, c = .oversizeHeaderReceived h ∧ h.length = 8 ∧ 65548 < len h) →
    let free := 4 - s.link.inbound.length
    exec c s = exec c { s with link := { s.link with
      inbound := s.link.inbound ++ (s.link.waiting.take free).filterMap judge
      waiting := s.link.waiting.drop free } })

/-- The head of the inbound queue is taken only while no request is with its owner, no RESTART waits and fewer than 4 replies are queued: a request goes to its owner, a refused entry is answered at once. Transfers that wait while entries are free, as after a RESTART, take their entries first, by the model's choice (log 13). A completed IN transfer takes the frame at the head off the outbound queue; the OK reply of a RESTART makes the restart due. -/
def Obligations.LinkQueuesAreTakenAndSent : Prop :=
  ((∀ (s : State) (r : Request) (rest : List Entry), s.link.owner = none → s.link.restart = none →
     s.replies < 4 → s.link.inbound = .request r :: rest → s.link.waiting = [] ∨ 4 ≤ s.link.inbound.length →
     exec .inboundTake s = .next { s with link := { s.link with owner := some { request := r, discard := false } } }) ∧
   (∀ (s : State) (kind : Byte) (tag : BitVec 16) (result : Result) (rest : List Entry),
     s.link.owner = none → s.link.restart = none → s.replies < 4 →
     s.link.inbound = .refused kind tag result :: rest → s.link.waiting = [] ∨ 4 ≤ s.link.inbound.length →
     let free := 4 - rest.length
     exec .inboundTake s = .next { s with
       link := { s.link with inbound := rest ++ (s.link.waiting.take free).filterMap judge
                             waiting := s.link.waiting.drop free
                             outbound := s.link.outbound ++ [.reply kind tag result s.alert s.warn .none] }
       status := { s.status with live := s.status.live &&& ~~~ (1#15 <<< 9) } }) ∧
   (∀ s : State, s.link.owner = none → s.link.restart = none → s.replies < 4 → (∀ t ∈ s.link.waiting, t ≠ []) →
     let free := 4 - s.link.inbound.length
     exec .inboundTake s = exec .inboundTake { s with link := { s.link with
       inbound := s.link.inbound ++ (s.link.waiting.take free).filterMap judge
       waiting := s.link.waiting.drop free } }) ∧
   (∀ s : State, s.link.inbound = [] → s.link.waiting = [] → exec .inboundTake s = .next s) ∧
   (∀ s : State, s.link.owner ≠ none ∨ s.link.restart ≠ none ∨ 4 ≤ s.replies →
     exec .inboundTake s = .next s)) ∧
  ((∀ (s : State) (kind : Byte) (tag : BitVec 16) (result : Result) (alert warn : Bool) (data : ReplyData)
       (rest : List Frame), s.link.port = .configured →
     s.link.outbound = .reply kind tag result alert warn data :: rest →
     exec .inTransferComplete s = .next { s with link := { s.link with
       outbound := rest
       restart := if kind = 0x02#8 ∧ result = .ok then
           s.link.restart.map fun w => { mode := w.mode, limit := w.limit, due := true }
         else s.link.restart } }) ∧
   (∀ (s : State) (p u : BitVec 16) (alert warn : Bool) (rest : List Frame), s.link.port = .configured →
     s.link.outbound = .notice p u alert warn :: rest →
     exec .inTransferComplete s = .next { s with link := { s.link with outbound := rest } }))

/-- Enumeration takes the port from DETACHED to ATTACHED, the configuration from ATTACHED to CONFIGURED; nothing else changes. A NOTICE is due with an unmasked kind pending, the gate OPEN, the gap timer stopped and none queued; in CONFIGURED it is placed and the gate closes, otherwise the offer is refused and nothing changes. The gap timer's expiry stops it. -/
def Obligations.PortStatesAndNotices : Prop :=
  ((∀ s : State, s.link.port = .detached →
     exec .portEnumerated s = .next { s with link := { s.link with port := .attached } }) ∧
   (∀ s : State, s.link.port = .attached →
     exec .portConfigured s = .next { s with link := { s.link with port := .configured } })) ∧
  ((∀ s : State, s.status.pending &&& ~~~ (BitVec.ofInt 16 (s.setting 16)) ≠ 0 → s.status.gate = .opened →
     s.status.gapTimer = none → (∀ f ∈ s.link.outbound, f.isNotice = false) →
     exec .noticeOffer s = .next (if s.link.port = .configured then
         { s with
           link := { s.link with outbound := s.link.outbound ++
             [.notice s.status.pending (s.status.pending &&& ~~~ (BitVec.ofInt 16 (s.setting 16))) s.alert s.warn] }
           status := { s.status with gate := .closed } }
       else s)) ∧
   (∀ s : State, s.status.pending &&& ~~~ (BitVec.ofInt 16 (s.setting 16)) = 0 ∨ s.status.gate = .closed ∨
     s.status.gapTimer ≠ none ∨ (∃ f ∈ s.link.outbound, f.isNotice = true) → exec .noticeOffer s = .next s) ∧
   (∀ s : State, exec .gapTimerExpiry s = .next { s with status := { s.status with gapTimer := none } }))

/-- IDENT is answered in every stage with the product, the straps as sampled and as now read, the stage, the memories and the link resets. -/
def Obligations.IdentReportsThePart : Prop :=
  ∀ s : State, exec .ident s = .next (s.answer 0x01 .ok (.ident
    { product := 0x0C12, revision := 1, fittedBays := s.settings.fittedBays,
      printerFitted := s.settings.printerFitted,
      baysNow := if s.sensors.baysCode = 8 then 8 else if s.sensors.baysCode = 12 then 12 else 4,
      printerNow := s.sensors.printerStrap, stage := s.settings.stage,
      segmentSize := s.staging.segmentSize,
      totalSegments := if s.staging.segmentSize = 0 then 2048 else 1024,
      labelBlocks := 4096, digestEntries := 262144, inboundCapacity := 4,
      linkResets := s.link.linkResets }))

/-! ## Restart, start-up, straps and settings -/

/-- RESTART with KEEP or RELOAD is answered OK at acceptance and waits: for its reply's transfer, or at most 1,000 ms; a reply that a link reset discards makes it due at once. Any other mode is BAD_FIELD. The restart of an accepted RESTART: the link takes its values, both queues and the assembly empty, but keeps its port, and the transfers that wait for an entry go on waiting (log 13); KEEP keeps settings and straps and begins INVENTORY; RELOAD samples the straps and loads the record, for which it waits in STARTING while a save is being written (that the straps are sampled before that wait, and what it shows of conditions, printer, segment size and the settings in effect, is log 23). Given as a command it begins whatever the clock says (log 3). At the begin of INVENTORY a fitted printer is IDLE, or in FAULT by its sensors; a disc on its tray has its record, and its CLEAR is the one move in the queue. INVENTORY creates the tray's orphan before the arm's by the model's choice (log 43). That no stored value is valid after a failed check is the model's reading (log 24). -/
def Obligations.RestartIsAnsweredThenBegins : Prop :=
  (∀ (s : State) (mode : Byte),
     (∀ m : RestartMode, (mode = 0 ∧ m = .keep) ∨ (mode = 1 ∧ m = .reload) →
       (∀ o, s.link.owner = some o → o.discard = false) →
       exec (.restart mode) s = .next { s.answer 0x02 .ok .none with
         link := { (s.answer 0x02 .ok .none).link with
           restart := some { mode := m, limit := s.now + 1000, due := false } } }) ∧
     (∀ (m : RestartMode) (r : Request), (mode = 0 ∧ m = .keep) ∨ (mode = 1 ∧ m = .reload) →
       s.link.owner = some { request := r, discard := true } → r.kind = 0x02#8 →
       exec (.restart mode) s = .next { s.answer 0x02 .ok .none with
         link := { (s.answer 0x02 .ok .none).link with
           restart := some { mode := m, limit := s.now + 1000, due := true } } }) ∧
     (1 < mode.toNat → exec (.restart mode) s = .next (s.answer 0x02 .badField .none))) ∧
  (∀ (s : State) (w : RestartWait), s.link.restart = some w →
     ∃ t, exec .restartBegin s = .next t ∧ t.sensors = s.sensors ∧
       t.link = { port := s.link.port, assembly := [], waiting := s.link.waiting, inbound := [], owner := none,
                  outbound := [], linkResets := 0, restart := none } ∧
       (w.mode = .keep → t.inventoryBegun ∧ t.cond .settingsBad = false ∧
         t.settings = { s.settings with stage := .inventory, waiting := false }) ∧
       (w.mode = .reload → s.settings.saving = none → t.inventoryBegun ∧
         t.settings.fittedBays = Config.bayCount s.sensors.baysCode ∧
         t.settings.printerFitted = s.sensors.printerStrap ∧
         (recordValid s.settings.flash = true → t.settings.working = loadedValues s.settings.flash ∧
           t.settings.storedValid = true ∧ t.cond .settingsBad = false ∧
           ∀ n : SettingId, t.settings.stored[n.val] = recordValue s.settings.flash n.val) ∧
         (recordValid s.settings.flash = false → t.settings.working = Config.settingDefault ∧
           t.settings.storedValid = false ∧ t.cond .settingsBad = true)) ∧
       (w.mode = .reload → s.settings.saving ≠ none →
         t.settings = { s.settings with
           stage := .starting, waiting := true, fittedBays := Config.bayCount s.sensors.baysCode
           printerFitted := s.sensors.printerStrap } ∧
         (∀ b, t.bay b = Bay.afterReset) ∧ t.discs.records = [] ∧ t.conditionsHold ∧
         t.trans = Transport.afterReset (if s.sensors.emptyA then .empty else .ready)
           (if s.sensors.emptyB then .empty else .ready) ∧
         t.printer = (if s.sensors.printerStrap then
           some { state := if s.sensors.ribbonOut = true ∨ headTemp s.sensors = none then .fault else .idle
                  trayDisc := none, trayMove := false, print := none, clampOpen := false, dots := [] } else none) ∧
         t.staging.segmentSize = (s.setting 0).toNat))

/-- Power-on samples the straps, loads the record and begins INVENTORY with the port DETACHED; the stored values are the record's own, only the working copy is clamped; a failed check of the record gives the defaults, latches SETTINGS_BAD and raises SETTINGS. That no flash write goes on is the model's choice (log 23), that no stored value is valid after a failed check its reading (log 24). A fitted printer is IDLE, or in FAULT by its sensors; a disc on its tray has its record, and its CLEAR is the one move in the queue. INVENTORY creates the tray's orphan before the arm's by the model's choice (log 43). -/
def Obligations.PowerOnBeginsStartUp : Prop :=
  ∀ (readings : Readings) (flash : List Byte) (s : State),
    ∃ t, exec (.powerOn readings flash) s = .next t ∧ t.inventoryBegun ∧ t.sensors = readings ∧
      t.link = { port := .detached, assembly := [], waiting := [], inbound := [], owner := none,
                 outbound := [], linkResets := 0, restart := none } ∧
      t.settings.fittedBays = (if readings.baysCode = 8 then 8 else if readings.baysCode = 12 then 12 else 4) ∧
      t.settings.printerFitted = readings.printerStrap ∧ t.settings.saving = none ∧
      (recordValid flash = true → t.settings.working = loadedValues flash ∧
        (∀ n : SettingId, t.settings.stored[n.val] = recordValue flash n.val) ∧ t.settings.storedValid = true ∧
        t.cond .settingsBad = false ∧ t.status.pending.getLsbD 15 = false) ∧
      (recordValid flash = false → t.settings.working = Config.settingDefault ∧
        t.settings.storedValid = false ∧ t.cond .settingsBad = true ∧ t.status.pending.getLsbD 15 = true)

/-- The stored record: 68 bytes and their CRC-16; values clamped to their ranges, a bad segment size or mask at its default, thresholds out of order at their defaults. The byte order of the record is the model's choice (log 12). -/
def Obligations.StoredRecordIsCheckedAndClamped : Prop :=
  crc16 [0x31, 0x32, 0x33, 0x34, 0x35, 0x36, 0x37, 0x38, 0x39] = 0x29B1#16 ∧
  (∀ flash : List Byte, recordValid flash = true ↔ flash.length = 70 ∧
    (crc16 (flash.take 68)).toNat = (flash.getD 68 0).toNat + 256 * (flash.getD 69 0).toNat) ∧
  (∀ (flash : List Byte) (n : SettingId),
    let v : SettingId → Int := recordValue flash ∘ Fin.val
    let held : SettingId → Int := fun n =>
      max Config.settingMin[n.val] (min Config.settingMax[n.val] (v n))
    (n = 0 ∨ 14 ≤ n.val → (loadedValues flash)[n.val] =
      if Config.settingMin[n.val] ≤ v n ∧ v n ≤ Config.settingMax[n.val] then v n
      else Config.settingDefault[n.val]) ∧
    (n = 1 ∨ n = 2 ∨ (6 ≤ n.val ∧ n.val ≤ 13) → (loadedValues flash)[n.val] = held n) ∧
    (3 ≤ n.val ∧ n.val ≤ 5 → (loadedValues flash)[n.val] =
      if held 3 < held 4 ∧ held 4 < held 5 then held n else Config.settingDefault[n.val]))

/-- A change of what a strap reads latches STRAP_CHANGE and raises SETTINGS; the fitted set stays. A pin code that changes without a change of the reading only changes the pins. -/
def Obligations.StrapChangeIsLatched : Prop :=
  ∀ (code : Nat) (printer : Bool) (s : State),
    let t : State := { s with sensors := { s.sensors with baysCode := code, printerStrap := printer } }
    (Config.bayCount code ≠ Config.bayCount s.sensors.baysCode ∨ printer ≠ s.sensors.printerStrap →
      exec (.strapChange code printer) s = .next { t with status := { s.status with
        live := s.status.live ||| (1#15 <<< 14), pending := s.status.pending ||| (1#16 <<< 15) } }) ∧
    (Config.bayCount code = Config.bayCount s.sensors.baysCode → printer = s.sensors.printerStrap →
      exec (.strapChange code printer) s = .next t)

/-- SETTING SET: its checks in their order, the first failure refusing the whole request; then all values are taken together, clamped to their ranges but for segment size and masks. BAD_FIELD for a list of no pairs, or of more than 24, is the model's reading (log 14). -/
def Obligations.SettingSetChecksThenTakesAll : Prop :=
  (∀ (s : State) (l : List (SettingId × BitVec 32)), 1 ≤ l.length → l.length ≤ 24 →
    let named : List (SettingId × Int) := l.map fun p => (p.1, p.2.toInt)
    let plain : SettingId → Prop := fun n => n = 0 ∨ 14 ≤ n.val
    let taken : List (SettingId × Int) := named.map fun p =>
      (p.1, if p.1 = 0 ∨ 14 ≤ p.1.val then p.2
            else max Config.settingMin[p.1.val] (min Config.settingMax[p.1.val] p.2))
    let working := taken.foldl (fun (v : Vector Int 17) p => v.set p.1.val p.2) s.settings.working
    let refused := fun e : Result => exec (.settingSet (l.map fun p => (BitVec.ofNat 8 p.1.val, p.2))) s =
      .next (s.answer 0x11 e .none)
    let distinct := (l.map Prod.fst).Nodup
    let inRange := ∀ p ∈ named, plain p.1 → Config.settingMin[p.1.val] ≤ p.2 ∧ p.2 ≤ Config.settingMax[p.1.val]
    let ordered := working[3] < working[4] ∧ working[4] < working[5]
    let carries := ∀ p ∈ taken, p.1 = 2 → (s.governor.sum : Int) ≤ p.2
    (s.settings.stage ≠ .ready → refused .busy) ∧
    (s.settings.stage = .ready → ¬ distinct → refused .badField) ∧
    (s.settings.stage = .ready → distinct → ¬ inRange → refused .badField) ∧
    (s.settings.stage = .ready → distinct → inRange → ¬ ordered → refused .badField) ∧
    (s.settings.stage = .ready → distinct → inRange → ordered → ¬ carries → refused .budgetInUse) ∧
    (s.settings.stage = .ready → distinct → inRange → ordered → carries →
      exec (.settingSet (l.map fun p => (BitVec.ofNat 8 p.1.val, p.2))) s =
        .next ({ s with settings := { s.settings with working } }.answer 0x11
          (if taken = named then .ok else .clamped) (.settingsHeld taken)))) ∧
  (∀ (s : State) (pairs : List (Byte × BitVec 32)), s.settings.stage = .ready →
    (∃ p ∈ pairs, 16 < p.1.toNat) ∨ pairs = [] ∨ 24 < pairs.length →
    exec (.settingSet pairs) s = .next (s.answer 0x11 .badField .none))

/-- SETTING GET of one setting, of all, and of a number that no setting has. SETTINGS SAVE writes the working copy as it stands for at most 300 ms; a second save and one before READY are BUSY. When the write ends, SETTINGS is raised, and a bad read-back latches SETTINGS_BAD and makes the stored values not valid. A start-up that waited for the write goes on to INVENTORY; the segment size in effect is then taken, while the printer's state stays (log 23); a disc on its tray has its orphan record made then, takes a printer in IDLE to AWAIT_REMOVE, and its CLEAR is posted, to wait while the printer has a request in the queue by the model's choice (log 9). -/
def Obligations.SettingsAreReportedAndSaved : Prop :=
  (∀ (s : State),
     let one : SettingId → SettingReport := fun n =>
       { number := n, working := s.settings.working[n.val],
         stored := if s.settings.storedValid then some s.settings.stored[n.val] else none,
         default := Config.settingDefault[n.val] }
     (∀ n : SettingId, exec (.settingGet (BitVec.ofNat 8 n.val)) s = .next (s.answer 0x10 .ok
       (.settings [one n] (if n = 0 then some s.staging.segmentSize else none)))) ∧
     exec (.settingGet 255) s = .next (s.answer 0x10 .ok
       (.settings ((List.finRange 17).map one) (some s.staging.segmentSize))) ∧
     (∀ v : Byte, 16 < v.toNat → v ≠ 255#8 → exec (.settingGet v) s = .next (s.answer 0x10 .badField .none))) ∧
  ((∀ s : State, s.settings.stage = .ready → s.settings.saving = none →
     exec .settingsSave s = .next ({ s with settings := { s.settings with
       saving := some { values := s.settings.working, ends := s.now + 300 } } }.answer 0x12 .ok .none)) ∧
   (∀ s : State, s.settings.stage ≠ .ready ∨ s.settings.saving ≠ none →
     exec .settingsSave s = .next (s.answer 0x12 .busy .none)) ∧
   (∀ (s : State) (w : Saving) (back : List Byte), s.settings.saving = some w → s.settings.waiting = false →
     recordValid back = true →
     exec (.settingsWriteEnd back) s = .next { s with
       settings := { s.settings with flash := back, saving := none, stored := w.values, storedValid := true }
       status := { s.status with pending := s.status.pending ||| (1#16 <<< 15) } }) ∧
   (∀ (s : State) (w : Saving) (back : List Byte), s.settings.saving = some w → s.settings.waiting = false →
     recordValid back = false →
     exec (.settingsWriteEnd back) s = .next { s with
       settings := { s.settings with flash := back, saving := none, storedValid := false }
       status := { s.status with live := s.status.live ||| (1#15 <<< 13)
                                 pending := s.status.pending ||| (1#16 <<< 15) } }) ∧
   (∀ (s : State) (w : Saving) (back : List Byte), s.settings.saving = some w → s.settings.waiting = true →
     ∃ t, exec (.settingsWriteEnd back) s = .next t ∧ t.settings.flash = back ∧ t.settings.saving = none ∧
       t.settings.stage = .inventory ∧ t.settings.waiting = false ∧
       t.staging.segmentSize = (t.setting 0).toNat ∧
       (s.printer = none ∨ s.sensors.tray = false → t.printer = s.printer ∧ t.trans = s.trans) ∧
       (∀ p, s.printer = some p → s.sensors.tray = true → s.discs.records.length < 16 → s.discs.orphanWait = [] →
         let n := s.discs.newNumber
         s.discs.taken n = false →
         t.printer = some { p with
           trayDisc := some n, trayMove := true, state := if p.state = .idle then .awaitRemove else p.state } ∧
         t.disc n = some (Disc.orphan n .prn) ∧
         s.trans.asked t.trans (MoveReq.posted .clear .printer .prn (.bin .reject) n none))))

/-- INVENTORY ends when no fitted bay is in IDENT and the printer's orphan does not wait: the stage is HOMING, and the arm descends, or with the door open waits to. READY follows when homing has ended and no orphan moves or stands on the arm (arm states by log 28); it starts an evaluation of the Dispatcher. -/
def Obligations.StartUpStagesFollow : Prop :=
  (∀ s : State, s.settings.stage = .inventory → (∀ b, s.fitted b = true → (s.bay b).state ≠ .ident) →
    .prn ∉ s.discs.orphanWait →
    ∃ t, exec .startupInventoryEnd s = .next t ∧ s.changesOnly [.settings, .trans, .status] t ∧
      t.settings = { s.settings with stage := .homing } ∧
      (s.sensors.doorOpen = false → t.trans = { s.trans with
        arm := .homing .descent, moveTimer := some (s.now + 12000), ackTimer := none, holdTimer := none }) ∧
      (s.sensors.doorOpen = true → t.trans = { s.trans with
        arm := .stopped, moveTimer := none, ackTimer := none, holdTimer := none, homingPending := true })) ∧
  (∀ s : State, s.settings.stage = .homing →
    s.trans.arm = .idle ∨ s.trans.arm = .granted ∨ s.trans.arm = .carrying ∨ s.trans.arm = .held →
    (∀ r ∈ s.trans.queue, ∀ d, s.disc r.disc = some d → d.job ≠ none) →
    (∀ d ∈ s.discs.records, d.location = .arm → d.job ≠ none) →
    exec .startupReady s = .next { s with
      settings := { s.settings with stage := .ready }
      dispatchWanted := s.dispatchWanted || decide s.orphansServed })

/-! ## Status and events, counters -/

/-- COUNTERS GET reports the three counters, the lanes and the queue as they stand. COUNTERS CLEAR returns the three counters as they stood and sets them to 0; lanes, queue and disc records stay. -/
def Obligations.CountersAreReportedAndCleared : Prop :=
  (∀ s : State, exec .countersGet s = .next (s.answer 0x26 .ok
    (.verify s.verify.chunksVerified s.verify.mismatched s.verify.repeats
      (s.verify.lanes.toList.map (Option.map fun y => {
        bay := y.bay, disc := y.disc, mode := y.mode, stop := y.stop, next := y.next, chunks := y.chunks,
        mismatches := y.mismatches, readOut := y.readOut })) s.verify.queue))) ∧
  (∀ s : State, exec .countersClear s = .next
    ({ s with verify := { s.verify with chunksVerified := 0, mismatched := 0, repeats := 0 } }.answer 0x27 .ok
      (.counters s.verify.chunksVerified s.verify.mismatched s.verify.repeats)))

/-- STATUS GET reports the state of the unit and of the Transport Controller as it stands. STATUS CLEAR clears the five latched conditions, and leaves in the shadows exactly the current conditions and RESERVE_LOW that are live; the reply carries both sets as they stood, and its summary flags are formed after the clear. -/
def Obligations.StatusIsReportedAndCleared : Prop :=
  (∀ s : State, exec .statusGet s = .next (s.answer 0x20 .ok (.status
    { live := s.status.live, shadow := s.status.shadow &&& 0x03FF#15,
      alertMask := BitVec.ofInt 15 (s.setting 14), warnMask := BitVec.ofInt 15 (s.setting 15),
      forcedAlert := s.status.forcedAlert, forcedWarn := s.status.forcedWarn,
      pending := s.status.pending, eventMask := BitVec.ofInt 16 (s.setting 16),
      unmasked := s.status.pending &&& ~~~ (BitVec.ofInt 16 (s.setting 16)),
      gate := s.status.gate, gapLeft := s.status.gapTimer.map fun e => e - s.now,
      transport :=
        { arm := s.trans.arm, faultCause := s.trans.faultCause, homingPending := s.trans.homingPending,
          discHeld := s.sensors.pick, pos := s.trans.pos, forcedReleases := s.trans.forcedReleases,
          spindleA := s.trans.spindleA, spindleB := s.trans.spindleB, outFull := s.sensors.outFull,
          rejectFull := s.sensors.rejectFull, doorOpen := s.sensors.doorOpen,
          queue := s.trans.queue.map fun r => (r, s.trans.classOfReq r),
          holdLeft := s.trans.holdTimer.map fun e => e - s.now } }))) ∧
  (∀ s : State,
    let t : State := { s with status := { s.status with
      live := s.status.live &&& 0x03FF#15, shadow := s.status.live &&& 0x03FF#15 } }
    exec .statusClear s = .next (t.answer 0x21 .ok
      (.cleared (s.status.live &&& 0x7C00#15) (s.status.shadow &&& 0x03FF#15))))

/-- ALERT: forced, or a condition of the alert mask is live. WARN: forced, or a condition of the warn mask is held in its shadow, a latched condition in itself. FLAG FORCE and FLAG RELEASE act on ALERT, WARN or both, before the summary byte is formed; any other value is BAD_FIELD. -/
def Obligations.SummaryFlagsAndForcedFlags : Prop :=
  (∀ s : State,
     (s.alert = true ↔ s.status.forcedAlert = true ∨
       ∃ c : Cond, (BitVec.ofInt 15 (s.setting 14)).getLsbD c.bit = true ∧
         s.status.live.getLsbD c.bit = true) ∧
     (s.warn = true ↔ s.status.forcedWarn = true ∨
       ∃ c : Cond, (BitVec.ofInt 15 (s.setting 15)).getLsbD c.bit = true ∧
         (if c.bit < 10 then s.status.shadow.getLsbD c.bit else s.status.live.getLsbD c.bit) = true)) ∧
  (∀ (s : State) (force : Bool),
     let c : Byte → Instr := fun v => if force then .flagForce v else .flagRelease v
     let k : Byte := if force then 0x22 else 0x23
     exec (c 0) s = .next ({ s with status := { s.status with forcedAlert := force } }.answer k .ok .none) ∧
     exec (c 1) s = .next ({ s with status := { s.status with forcedWarn := force } }.answer k .ok .none) ∧
     exec (c 2) s = .next ({ s with status := { s.status with
       forcedAlert := force, forcedWarn := force } }.answer k .ok .none) ∧
     (∀ v : Byte, 2 < v.toNat → exec (c v) s = .next (s.answer k .badField .none)))

/-- EVENT MASK replaces the event mask of the working settings. EVENT ACK removes the named kinds, opens the gate, and runs the gap timer for 20 ms exactly while unmasked kinds remain. -/
def Obligations.EventsAreMaskedAndAcknowledged : Prop :=
  (∀ (s : State) (mask : BitVec 16), exec (.eventMask mask) s = .next
    ({ s with settings := { s.settings with working := s.settings.working.set 16 (mask.toNat : Int) } }.answer
      0x24 .ok .none)) ∧
  (∀ (s : State) (events : BitVec 16),
    let left := s.status.pending &&& ~~~ events
    exec (.eventAck events) s = .next ({ s with status := { s.status with
      pending := left, gate := .opened
      gapTimer := if left &&& ~~~ (BitVec.ofInt 16 (s.setting 16)) = 0 then none else some (s.now + 20) } }.answer
        0x25 .ok (.events left)))

/-! ## Images -/

/-- IMAGE OPEN: BUSY before READY, BAD_FIELD for a field out of its range (a need-resident flag that is neither no nor yes by log 14), STATE for a slot that is open, DIGEST_FULL; then RESIDENT with its whole window where the free segments suffice, else STREAMING with an empty window, else STAGE_FULL. The digest entries are allocated with their present flags clear. A window that takes the last free segment starts the release evaluations of the other slots (log 34), in the model's order (log 36). -/
def Obligations.ImageOpenDecidesResidency : Prop :=
  (∀ (s : State) (slot code need : Byte) (size : BitVec 32), s.settings.stage = .ready →
    4 ≤ slot.toNat ∨ 3 ≤ code.toNat ∨ 2 ≤ need.toNat ∨ size = 0 ∨ 4173824 < size.toNat →
    exec (.imageOpen slot code need size) s = .next (s.answer 0x30 .badField .none)) ∧
  (∀ (s : State) (slot code need : Byte) (size : BitVec 32), s.settings.stage ≠ .ready →
    exec (.imageOpen slot code need size) s = .next (s.answer 0x30 .busy .none)) ∧
  ∀ (s : State) (k : ImageId) (code need : Byte) (media : MediaClass) (size : BitVec 32),
    MediaClass.ofByte code = some media → need.toNat ≤ 1 → 1 ≤ size.toNat → size.toNat ≤ 4173824 →
    let chunks := (size.toNat + 31) / 32
    let seg := if s.staging.segmentSize = 0 then 512 else 1024
    let n := (size.toNat + seg - 1) / seg
    let c : Instr := .imageOpen (BitVec.ofNat 8 k.val) code need size
    let opened : Residency → List Segment → Image := fun residency window =>
      { state := .filling, size := size.toNat, media, residency, fill := 0, base := 0, window, pass := 1,
        gate := .opened, consumers := [], digests := List.replicate chunks none, acc := 0xFFFFFFFF,
        differing := 0, stageFullRefused := false }
    let cap := min (s.settingNat 1) (if s.staging.segmentSize = 0 then 2048 else 1024)
    (s.settings.stage = .ready → s.image k ≠ none → exec c s = .next (s.answer 0x30 .state .none)) ∧
    (s.settings.stage = .ready → s.image k = none → s.staging.freeDigests < chunks →
      exec c s = .next (s.answer 0x30 .digestFull .none)) ∧
    (s.settings.stage = .ready → s.image k = none → chunks ≤ s.staging.freeDigests →
      n < s.staging.freeSegments →
      exec c s = .next ({ s with staging := { s.staging with
          freeSegments := s.staging.freeSegments - n
          freeDigests := s.staging.freeDigests - chunks
          slots := s.staging.slots.set k.val (some (opened .resident (List.replicate n []))) } }.answer 0x30 .ok
        (.imageOpened true n none chunks))) ∧
    (s.settings.stage = .ready → s.image k = none → chunks ≤ s.staging.freeDigests →
      n = s.staging.freeSegments →
      let filled : State := { s with staging := { s.staging with
        freeSegments := 0, freeDigests := s.staging.freeDigests - chunks
        slots := s.staging.slots.set k.val (some (opened .resident (List.replicate n []))) } }
      ∃ u, exec c s = .next (u.answer 0x30 .ok (.imageOpened true n none chunks)) ∧ filled.poolGone u ∧
        u.image k = some (opened .resident (List.replicate n [])) ∧
        u.staging.freeDigests = s.staging.freeDigests - chunks ∧ s.changesOnly [.staging, .status] u) ∧
    (s.settings.stage = .ready → s.image k = none → chunks ≤ s.staging.freeDigests →
      s.staging.freeSegments < n → need = 0 → 8 ≤ s.staging.freeSegments →
      exec c s = .next ({ s with staging := { s.staging with
          freeDigests := s.staging.freeDigests - chunks
          slots := s.staging.slots.set k.val (some (opened (.streaming cap false) [])) } }.answer 0x30 .ok
        (.imageOpened false 0 (some cap) chunks))) ∧
    (s.settings.stage = .ready → s.image k = none → chunks ≤ s.staging.freeDigests →
      s.staging.freeSegments < n → need = 1 ∨ s.staging.freeSegments < 8 →
      exec c s = .next (s.answer 0x30 .stageFull .none))

/-- A request that IMAGE DATA accepts into a window that covers it: the sectors stand after those of the segment at the fill point, the fill point advances, and those that the segment has no room for in the next one; the last one completes the image, raises IMAGE_STAGED and promotes a STREAMING image with base 0. Then each bay that burns from the slot makes the feed test. The checks before it refuse in their order: BUSY, BAD_FIELD for slot, count or length, STATE for a slot not in FILLING, CLOSED included, OUT_OF_ORDER, and BAD_FIELD beyond the image's size. -/
def Obligations.ImageDataStoresItsSectors : Prop :=
  (∀ (s : State) (slot count : Byte) (o : BitVec 32) (data : List Byte),
    (s.settings.stage ≠ .ready → exec (.imageData slot count o data) s = .next (s.answer 0x31 .busy .none)) ∧
    (s.settings.stage = .ready →
      4 ≤ slot.toNat ∨ count = 0 ∨ 32 < count.toNat ∨ data.length ≠ count.toNat * 2048 →
      exec (.imageData slot count o data) s = .next (s.answer 0x31 .badField .none)) ∧
    (∀ k : ImageId, s.settings.stage = .ready → 1 ≤ count.toNat → count.toNat ≤ 32 →
      data.length = count.toNat * 2048 → s.image k = none →
      exec (.imageData (BitVec.ofNat 8 k.val) count o data) s = .next (s.answer 0x31 .state .none))) ∧
  ∀ (s : State) (k : ImageId) (i : Image) (count : Byte) (data : List Byte),
    s.settings.stage = .ready → s.image k = some i → 1 ≤ count.toNat → count.toNat ≤ 32 →
    data.length = count.toNat * 2048 →
    let c : BitVec 32 → Instr := fun offset => .imageData (BitVec.ofNat 8 k.val) count offset data
    (i.state ≠ .filling → ∀ o, exec (c o) s = .next (s.answer 0x31 .state .none)) ∧
    (∀ o : BitVec 32, i.state = .filling → o.toNat ≠ i.fill →
      exec (c o) s = .next (s.answer 0x31 .outOfOrder .none)) ∧
    (∀ o : BitVec 32, i.state = .filling → o.toNat = i.fill → i.size < i.fill + count.toNat →
      exec (c o) s = .next (s.answer 0x31 .badField .none)) ∧
    (∀ (o : BitVec 32) (before after window : List Segment) (p : Segment),
      i.state = .filling → o.toNat = i.fill → i.fill + count.toNat ≤ i.size →
      i.residency = .resident ∨ i.fill + count.toNat ≤ i.base + i.window.length * s.segSectors →
      i.window = before ++ p :: after → (∀ w ∈ before, w.length = s.segSectors) →
      p.length ≤ s.segSectors →
      (let d := sectorsOf count.toNat data
       let room := s.segSectors - p.length
       (count.toNat ≤ room ∧ window = before ++ (p ++ d) :: after) ∨
         (room < count.toNat ∧ ∃ q rest, after = q :: rest ∧ q.length + (count.toNat - room) ≤ s.segSectors ∧
           window = before ++ (p ++ d.take room) :: (q ++ d.drop room) :: rest)) →
      ∃ (u : State) (j : Image) (result : Result) (first : Option Nat),
        exec (c o) s = .next (u.answer 0x31 result (.imageData (i.fill + count.toNat) first)) ∧
        result = (if first = none then .ok else .digestDiffers) ∧
        u.image k = some j ∧ j.fill = i.fill + count.toNat ∧ j.size = i.size ∧ j.base = i.base ∧
        j.pass = i.pass ∧ j.gate = i.gate ∧ j.consumers = i.consumers ∧ j.stageFullRefused = false ∧
        j.window = window ∧
        j.state = (if j.fill = i.size then .complete else .filling) ∧
        j.residency = (if j.fill = i.size ∧ i.base = 0 then .resident else i.residency) ∧
        u.status = (if j.fill = i.size then { s.status with pending := s.status.pending ||| (1#16 <<< 3) }
          else s.status) ∧
        (∀ m, m ≠ k → u.image m = s.image m) ∧ u.staging.freeSegments = s.staging.freeSegments ∧
        u.staging.freeDigests = s.staging.freeDigests ∧
        (∀ b, (s.bay b).imageSlot ≠ some k → u.bay b = s.bay b) ∧
        (∀ b, (s.bay b).imageSlot = some k → u.feeds (s.bay b) (u.bay b)) ∧
        s.changesOnly [.staging, .bays, .status, .dispatch] u)

/-- The digests of a request's chunks, over the bytes of its chunk gathered before it and its own. A request that ends inside its chunk leaves the register after those bytes. One that ends its chunk, or the image's short last one, forms the digest: stored where none is present, a present one stays, and one that differs is counted and reported with its chunk. A request that goes on into the next chunk does both, and the first chunk that differs is reported. -/
def Obligations.ImageDataFormsAndComparesDigests : Prop :=
  digestOf [0x31, 0x32, 0x33, 0x34, 0x35, 0x36, 0x37, 0x38, 0x39] = 0xCBF43926#32 ∧
  (∀ (s : State) (k : ImageId) (i : Image) (count : Byte) (gathered data : List Byte) (o : BitVec 32),
    s.settings.stage = .ready → s.image k = some i → 1 ≤ count.toNat → count.toNat ≤ 32 →
    data.length = count.toNat * 2048 → i.state = .filling → o.toNat = i.fill → i.fill + count.toNat ≤ i.size →
    i.residency = .resident ∨ i.fill + count.toNat ≤ i.base + i.window.length * s.segSectors →
    ~~~ i.acc = digestOf gathered →
    let fill := i.fill + count.toNat
    let chunk := i.fill / 32
    let last := min (32 * (chunk + 1)) i.size
    let differs : List (Option (BitVec 32)) → Nat → BitVec 32 → Bool := fun l c d => match l.getD c none with
      | none => false
      | some e => e != d
    let placed := fun (l : List (Option (BitVec 32))) (c : Nat) (d : BitVec 32) =>
      if l.getD c none = none then l.set c (some d) else l
    let counted := fun (b : Bool) (n : Nat) => if b then (if n < 65535 then n + 1 else 65535) else n
    let gives := fun (first : Option Nat) (acc : BitVec 32) (l : List (Option (BitVec 32))) (n : Nat) =>
      ∃ (u : State) (j : Image),
        exec (.imageData (BitVec.ofNat 8 k.val) count o data) s =
          .next (u.answer 0x31 (if first = none then .ok else .digestDiffers) (.imageData fill first)) ∧
        u.image k = some j ∧ j.acc = acc ∧ j.digests = l ∧ j.differing = n
    (fill < last → gives none (~~~ digestOf (gathered ++ data)) i.digests i.differing) ∧
    (fill = last →
      let d := digestOf (gathered ++ data)
      let b := differs i.digests chunk d
      gives (if b then some chunk else none) 0xFFFFFFFF#32 (placed i.digests chunk d) (counted b i.differing)) ∧
    (last < fill →
      let own := (last - i.fill) * 2048
      let d := digestOf (gathered ++ data.take own)
      let b := differs i.digests chunk d
      let l := placed i.digests chunk d
      let rest := digestOf (data.drop own)
      let again := differs l (chunk + 1) rest
      (fill < i.size → gives (if b then some chunk else none) (~~~ rest) l (counted b i.differing)) ∧
      let first := bif b then some chunk else bif again then some (chunk + 1) else none
      (fill = i.size → gives first 0xFFFFFFFF#32 (placed l (chunk + 1) rest) (counted again (counted b i.differing)))))

/-- IMAGE DATA for which a STREAMING window has no segment: one is taken from the pool while the window is below its cap; where that brings it to the cap, the heads that may go leave before the sectors are stored (log 37), and where it empties the pool, so do those of every slot (in the order of log 36); otherwise a head that may go passes to the tail. Where the head that goes leaves a closed pass without consumers, the pass ends before the sectors are stored: the slot awaits its rewind, and a fill point that reaches size raises IMAGE_STAGED all the same (log 37). Once the sectors are stored, each bay that burns from the slot makes the feed test. With neither segment, STAGE_FULL, and the field is set. -/
def Obligations.ImageDataFindsItsSegment : Prop :=
  ∀ (s : State) (k : ImageId) (i : Image) (count : Byte) (data : List Byte) (o : BitVec 32) (cap : Nat) (closed : Bool),
    s.settings.stage = .ready → s.image k = some i → 1 ≤ count.toNat → count.toNat ≤ 32 →
    data.length = count.toNat * 2048 → i.state = .filling → o.toNat = i.fill →
    i.fill + count.toNat ≤ i.size → i.residency = .streaming cap closed →
    i.base + i.window.length * s.segSectors < i.fill + count.toNat →
    let fed := fun u : State => ∀ b, ((s.bay b).imageSlot ≠ some k → u.bay b = s.bay b) ∧
      ((s.bay b).imageSlot = some k → u.feeds (s.bay b) (u.bay b))
    (i.window.length + 1 < cap → 1 < s.staging.freeSegments →
      ∃ (u : State) (j : Image) (result : Result) (data' : ReplyData),
        exec (.imageData (BitVec.ofNat 8 k.val) count o data) s = .next (u.answer 0x31 result data') ∧
        u.image k = some j ∧ j.window.length = i.window.length + 1 ∧ j.fill = i.fill + count.toNat ∧
        j.base = i.base ∧ j.gate = i.gate ∧ u.staging.freeSegments = s.staging.freeSegments - 1 ∧
        (∀ m, m ≠ k → u.image m = s.image m) ∧ fed u) ∧
    let staged := fun p : BitVec 16 => if i.fill + count.toNat = i.size then p ||| (1#16 <<< 3) else p
    let stores := fun (before u : State) (h : Image) => ∃ (j : Image) (result : Result) (data' : ReplyData),
      exec (.imageData (BitVec.ofNat 8 k.val) count o data) s = .next (u.answer 0x31 result data') ∧
      u.image k = some j ∧ j.fill = i.fill + count.toNat ∧ j.base = h.base ∧ j.gate = h.gate ∧
      j.window = fillWindow s.segSectors h.window (sectorsOf count.toNat data) ∧
      j.state = (if h.state = .awaitRewind then .awaitRewind
        else if i.fill + count.toNat = i.size then .complete else .filling) ∧
      u.status = { before.status with pending := staged before.status.pending } ∧
      u.staging.freeSegments = before.staging.freeSegments ∧ (∀ x, x ≠ k → u.image x = before.image x) ∧ fed u
    (i.window.length < cap →
      let grown : Image := { i with window := i.window ++ [[]] }
      let t : State := { s with staging := { s.staging with
        freeSegments := s.staging.freeSegments - 1, slots := s.staging.slots.set k.val (some grown) } }
      (cap = i.window.length + 1 → 1 < s.staging.freeSegments → i.consumers ≠ [] ∨ closed = false →
        ∃ (m : Nat) (v u : State) (h : Image), t.headsGo (fun x => (s.bay x).cursor.getD 0) grown cap closed m ∧
          t.headsReleased v k grown m ∧ v.image k = some h ∧ stores v u h) ∧
      (cap = i.window.length + 1 → 1 < s.staging.freeSegments → i.consumers = [] → closed = true →
        ∃ (v u : State) (h : Image), t.passEnded v k grown ∧ v.image k = some h ∧ stores v u h) ∧
      (s.staging.freeSegments = 1 →
        ∃ (v u : State) (h : Image), t.poolGone v ∧ v.image k = some h ∧ stores v u h)) ∧
    (∀ (head : Segment) (rest : List Segment), cap ≤ i.window.length ∨ s.staging.freeSegments = 0 →
      i.window = head :: rest →
      (i.consumers ≠ [] → (∀ b ∈ i.consumers, i.base + s.segSectors ≤ (s.bay b).cursor.getD 0) →
        ∃ (u : State) (j : Image) (result : Result) (data' : ReplyData),
          exec (.imageData (BitVec.ofNat 8 k.val) count o data) s = .next (u.answer 0x31 result data') ∧
          u.image k = some j ∧ j.fill = i.fill + count.toNat ∧ j.base = i.base + s.segSectors ∧ j.gate = .closed ∧
          j.window = fillWindow s.segSectors (rest ++ [[]]) (sectorsOf count.toNat data) ∧
          j.residency = i.residency ∧ j.stageFullRefused = false ∧
          u.staging.freeSegments = s.staging.freeSegments ∧ (∀ m, m ≠ k → u.image m = s.image m) ∧ fed u ∧
          u.status = { s.status with pending := staged s.status.pending }) ∧
      (i.consumers = [] → closed = true →
        ∃ (v u : State) (h : Image), s.passEnded v k i ∧ v.image k = some h ∧ stores v u h)) ∧
    (cap ≤ i.window.length ∨ s.staging.freeSegments = 0 →
      i.window = [] ∨ (i.consumers = [] ∧ closed = false) ∨
        (∃ b ∈ i.consumers, (s.bay b).cursor.getD 0 < i.base + s.segSectors) →
      exec (.imageData (BitVec.ofNat 8 k.val) count o data) s =
        .next ((s.setImage k (some { i with stageFullRefused := true })).answer 0x31 .stageFull .none))

/-- PASS CLOSE and IMAGE REWIND: BUSY before READY, BAD_FIELD for a slot that is none, STATE for one that is CLOSED. PASS CLOSE: STATE unless the slot streams in the named pass; with no consumer the pass ends at once, its segments return and PASS_END is raised; with consumers the field is set, and exactly the heads that every consumer has passed leave the window (R39 to R41); a second one changes nothing. IMAGE REWIND starts the next pass of a slot in AWAIT_REWIND, keeps its digests, and starts an evaluation of the Dispatcher. -/
def Obligations.PassesCloseAndRewind : Prop :=
  (∀ (s : State) (slot : Byte) (pass : BitVec 16),
    (s.settings.stage ≠ .ready → exec (.passClose slot pass) s = .next (s.answer 0x32 .busy .none) ∧
      exec (.imageRewind slot) s = .next (s.answer 0x33 .busy .none)) ∧
    (s.settings.stage = .ready → 4 ≤ slot.toNat → exec (.passClose slot pass) s = .next (s.answer 0x32 .badField .none) ∧
      exec (.imageRewind slot) s = .next (s.answer 0x33 .badField .none)) ∧
    (∀ k : ImageId, s.settings.stage = .ready → s.image k = none →
      exec (.passClose (BitVec.ofNat 8 k.val) pass) s = .next (s.answer 0x32 .state .none) ∧
      exec (.imageRewind (BitVec.ofNat 8 k.val)) s = .next (s.answer 0x33 .state .none))) ∧
  (∀ (s : State) (k : ImageId) (i : Image) (pass : BitVec 16) (cap : Nat) (closed : Bool),
    s.settings.stage = .ready → s.image k = some i → i.residency = .streaming cap closed →
    let c : Instr := .passClose (BitVec.ofNat 8 k.val) pass
    (i.state = .awaitRewind ∨ pass.toNat ≠ i.pass → exec c s = .next (s.answer 0x32 .state .none)) ∧
    (i.state ≠ .awaitRewind → pass.toNat = i.pass → closed = true → exec c s = .next (s.answer 0x32 .ok .none)) ∧
    (i.state ≠ .awaitRewind → pass.toNat = i.pass → closed = false → i.consumers = [] →
      ∃ u, exec c s = .next (u.answer 0x32 .ok .none) ∧
        u.image k = some { i with
          residency := .streaming cap true, gate := .closed, window := [], state := .awaitRewind
          stageFullRefused := if i.window = [] then i.stageFullRefused else false } ∧
        u.staging.freeSegments = s.staging.freeSegments + i.window.length ∧
        u.status.pending.getLsbD 4 = true ∧ s.changesOnly [.staging, .status] u) ∧
    (i.state ≠ .awaitRewind → pass.toNat = i.pass → closed = false → i.consumers ≠ [] →
      ∃ u m, exec c s = .next (u.answer 0x32 .ok .none) ∧
        s.headsGo (fun x => (s.bay x).cursor.getD 0) i cap true m ∧
        s.headsReleased u k { i with residency := .streaming cap true } m ∧
        s.changesOnly [.staging, .status] u)) ∧
  (∀ (s : State) (k : ImageId) (i : Image) (pass : BitVec 16), s.settings.stage = .ready → s.image k = some i →
    i.residency = .resident →
    exec (.passClose (BitVec.ofNat 8 k.val) pass) s = .next (s.answer 0x32 .state .none)) ∧
  (∀ (s : State) (k : ImageId) (i : Image), s.settings.stage = .ready → s.image k = some i →
    (i.state ≠ .awaitRewind ∨ i.pass = 65535 →
      exec (.imageRewind (BitVec.ofNat 8 k.val)) s = .next (s.answer 0x33 .state .none)) ∧
    (∀ (cap : Nat) (closed : Bool), i.state = .awaitRewind → i.pass < 65535 → i.residency = .streaming cap closed →
      exec (.imageRewind (BitVec.ofNat 8 k.val)) s = .next ({ s with
        staging := { s.staging with slots := s.staging.slots.set k.val (some { i with
          pass := i.pass + 1, fill := 0, base := 0, gate := .opened, residency := .streaming cap false
          stageFullRefused := false, differing := 0, acc := 0xFFFFFFFF, state := .filling }) }
        dispatchWanted := s.dispatchWanted || decide s.orphansServed }.answer 0x33 .ok
          (.pass (i.pass + 1)))))

/-- IMAGE RELEASE: BUSY before READY, BAD_FIELD for a slot that is none, STATE for a CLOSED slot, IN_USE while a job that is not COMPLETE or CANCELLED names it; otherwise its segments and digest entries return, STAGE_SPACE is raised if they do and some slot, its own included, was refused, and the slot is CLOSED. IMAGE QUERY gives the slot's record, or none for a CLOSED slot, with the figures that all slots share; it changes nothing but what every reply changes. -/
def Obligations.ImageReleaseAndQueryActOnTheSlot : Prop :=
  (∀ (s : State) (slot : Byte),
    (s.settings.stage ≠ .ready → exec (.imageRelease slot) s = .next (s.answer 0x34 .busy .none)) ∧
    (s.settings.stage = .ready → 4 ≤ slot.toNat →
      exec (.imageRelease slot) s = .next (s.answer 0x34 .badField .none))) ∧
  (∀ (s : State) (k : ImageId), s.settings.stage = .ready →
     let c : Instr := .imageRelease (BitVec.ofNat 8 k.val)
     let named := ∃ m j, s.job m = some j ∧ j.imageSlot = k ∧ j.state ≠ .complete ∧ j.state ≠ .cancelled
     (s.image k = none → exec c s = .next (s.answer 0x34 .state .none)) ∧
     (s.image k ≠ none → named → exec c s = .next (s.answer 0x34 .inUse .none)) ∧
     (∀ i, s.image k = some i → ¬ named →
       ∃ u, exec c s = .next (u.answer 0x34 .ok .none) ∧ u.image k = none ∧
         u.staging.freeSegments = s.staging.freeSegments + i.window.length ∧
         u.staging.freeDigests = s.staging.freeDigests + i.digests.length ∧
         (i.window ≠ [] → (∃ x y, s.image x = some y ∧ y.stageFullRefused = true) →
           u.status.pending = s.status.pending ||| (1#16 <<< 5) ∧
           ∀ x, x ≠ k → u.image x = (s.image x).map fun y => { y with stageFullRefused := false }) ∧
         (i.window = [] ∨ (∀ x y, s.image x = some y → y.stageFullRefused = false) →
           u.status = s.status ∧ ∀ x, x ≠ k → u.image x = s.image x) ∧
         s.changesOnly [.staging, .status] u)) ∧
  (∀ (s : State) (k : ImageId),
     let figures : StagingFigures :=
       { freeSegments := s.staging.freeSegments,
         totalSegments := if s.staging.segmentSize = 0 then 2048 else 1024,
         sizeInEffect := s.staging.segmentSize, sizeWorking := s.settings.working[0],
         sizeStored := if s.settings.storedValid then some s.settings.stored[0] else none,
         freeDigests := s.staging.freeDigests }
     (s.image k = none → exec (.imageQuery (BitVec.ofNat 8 k.val)) s =
       .next (s.answer 0x35 .ok (.image none figures))) ∧
     (∀ i, s.image k = some i → exec (.imageQuery (BitVec.ofNat 8 k.val)) s =
       .next (s.answer 0x35 .ok (.image (some
         { state := i.state, size := i.size, media := i.media, residency := i.residency, fill := i.fill,
           base := i.base, windowLength := i.window.length,
           waste := (i.size + s.segSectors - 1) / s.segSectors * s.segSectors - i.size,
           pass := i.pass, gate := i.gate, consumers := i.consumers.map fun b => (b, (s.bay b).cursor),
           digestsAllocated := i.digests.length, digestsPresent := i.digests.countP Option.isSome,
           differing := i.differing, stageFullRefused := i.stageFullRefused }) figures))) ∧
     (∀ v : Byte, 4 ≤ v.toNat → exec (.imageQuery v) s = .next (s.answer 0x35 .badField .none)))

/-! ## Labels -/

/-- The layout of a label: the four worked rows. LABEL OPEN and LABEL DROP: BUSY before READY, NOT_FITTED without a printer, BAD_FIELD for an id that is none; LABEL QUERY the same but in every stage. LABEL OPEN with a free id takes its blocks, with the three values clamped; LABEL_SPACE when the blocks do not suffice, STATE for an id that is present. LABEL DROP returns the blocks unless a live job names the label, and is NO_SUCH for an absent one. LABEL QUERY reports one label or all eight. -/
def Obligations.LabelsAreLaidOutOpenedDroppedAndQueried : Prop :=
  ((lineBytes 1417, bandCount 1417, bandBytes 1417 1417 22, labelBlocksOf 1417 1417) = (178, 23, 1602, 510) ∧
   (lineBytes 1440, bandCount 1440, bandBytes 1440 1440 22, labelBlocksOf 1440 1440) = (180, 23, 5760, 518) ∧
   (lineBytes 1200, bandCount 200, bandBytes 1200 200 3, labelBlocksOf 1200 200) = (150, 4, 1200, 60) ∧
   (lineBytes 100, bandCount 200, bandBytes 100 200 3, labelBlocksOf 100 200) = (13, 4, 104, 7)) ∧
  (∀ (s : State) (label darkness : Byte) (width lines : BitVec 16),
     let opens : Instr := .labelOpen label darkness width lines
     let refused := fun e : Result => exec opens s = .next (s.answer 0x40 e .none) ∧
       exec (.labelDrop label) s = .next (s.answer 0x42 e .none)
     (s.settings.stage ≠ .ready → refused .busy) ∧
     (s.settings.stage = .ready → s.printer = none → refused .notFitted) ∧
     (s.settings.stage = .ready → s.printer ≠ none → 8 ≤ label.toNat → refused .badField) ∧
     (s.printer = none → exec (.labelQuery label) s = .next (s.answer 0x43 .notFitted .none)) ∧
     (s.printer ≠ none → 8 ≤ label.toNat → label ≠ 255 →
       exec (.labelQuery label) s = .next (s.answer 0x43 .badField .none))) ∧
  (∀ (s : State) (k : LabelId) (p : Printer), s.printer = some p →
     (∀ (darkness : Byte) (width lines : BitVec 16), s.settings.stage = .ready →
       let c : Instr := .labelOpen (BitVec.ofNat 8 k.val) darkness width lines
       let w : Nat := max 8 (min 1440 width.toNat)
       let l : Nat := max 1 (min 1440 lines.toNat)
       let d : Int := max (-8) (min 8 darkness.toInt)
       let need := labelBlocksOf w l
       (s.label k ≠ none → exec c s = .next (s.answer 0x40 .state .none)) ∧
       (s.label k = none → s.labels.freeBlocks < need →
         exec c s = .next (s.answer 0x40 .labelSpace (.labelSpace need s.labels.freeBlocks))) ∧
       (s.label k = none → need ≤ s.labels.freeBlocks →
         exec c s = .next ({ s with labels := {
             freeBlocks := s.labels.freeBlocks - need
             slots := s.labels.slots.set k.val (some { width := w, lines := l, darkness := d, state := .loading,
                                                       nextBand := 0, blocks := List.replicate need [] }) } }.answer 0x40
           (if w = width.toNat ∧ l = lines.toNat ∧ d = darkness.toInt then .ok else .clamped)
           (.labelOpened w l d ((w + 7) / 8) ((l + 63) / 64) need (s.labels.freeBlocks - need))))) ∧
     (s.settings.stage = .ready →
       let c : Instr := .labelDrop (BitVec.ofNat 8 k.val)
       let named := ∃ m j, s.job m = some j ∧ j.label = some k ∧ j.state ≠ .complete ∧ j.state ≠ .cancelled
       (s.label k = none → exec c s = .next (s.answer 0x42 .noSuch .none)) ∧
       (s.label k ≠ none → named → exec c s = .next (s.answer 0x42 .inUse .none)) ∧
       (∀ l, s.label k = some l → ¬ named →
         exec c s = .next ({ s with labels := {
             freeBlocks := s.labels.freeBlocks + l.blocks.length
             slots := s.labels.slots.set k.val none } }.answer 0x42 .ok .none))) ∧
     (let printer : PrinterReport :=
       { freeBlocks := s.labels.freeBlocks, state := p.state,
         bad := if p.state = .fault then some (s.sensors.ribbonOut, (headTemp s.sensors).isNone) else none,
         trayDisc := p.trayDisc, trayMove := p.trayMove,
         print := p.print.map fun r => (r.label, r.band, r.line, r.period, r.onTime),
         headTemp := headTemp s.sensors, ribbonOut := s.sensors.ribbonOut, ribbonLow := s.sensors.ribbonLow }
      let one := fun k : LabelId => (k, (s.label k).map fun l =>
       ({ label := k, width := l.width, lines := l.lines, darkness := l.darkness, lineBytes := (l.width + 7) / 8,
          bandCount := (l.lines + 63) / 64, state := l.state, nextBand := l.nextBand,
          blocks := l.blocks.length } : LabelReport))
      exec (.labelQuery (BitVec.ofNat 8 k.val)) s = .next (s.answer 0x43 .ok (.labels [one k] printer)) ∧
      exec (.labelQuery 255) s = .next (s.answer 0x43 .ok (.labels ((List.finRange 8).map one) printer))))

/-- LABEL DATA of the next band: the stored band is the data cut or padded to its E bytes, the result says which, the next band counts on, and after the last one the label is READY; no other band changes. The checks refuse in their order: BUSY, NOT_FITTED, BAD_FIELD, NO_SUCH for an absent label, STATE for a READY one, OUT_OF_ORDER for any other band index. -/
def Obligations.LabelDataStoresItsBand : Prop :=
  (∀ (s : State) (label band : Byte) (data : List Byte),
    let c : Instr := .labelData label band data
    (s.settings.stage ≠ .ready → exec c s = .next (s.answer 0x41 .busy .none)) ∧
    (s.settings.stage = .ready → s.printer = none → exec c s = .next (s.answer 0x41 .notFitted .none)) ∧
    (s.settings.stage = .ready → s.printer ≠ none → 8 ≤ label.toNat →
      exec c s = .next (s.answer 0x41 .badField .none)) ∧
    (∀ k : LabelId, s.settings.stage = .ready → s.printer ≠ none → label.toNat = k.val →
      (s.label k = none → exec c s = .next (s.answer 0x41 .noSuch .none)) ∧
      (∀ l, s.label k = some l → l.state = .ready → exec c s = .next (s.answer 0x41 .state .none)))) ∧
  ∀ (s : State) (k : LabelId) (l : Label) (data : List Byte), s.settings.stage = .ready → s.printer.isSome = true →
    s.label k = some l → l.state = .loading → l.blocks.length = labelBlocksOf l.width l.lines →
    l.nextBand < (l.lines + 63) / 64 → l.nextBand < 256 →
    let E := (l.width + 7) / 8 * (if l.lines < 64 * (l.nextBand + 1) then l.lines - 64 * l.nextBand else 64)
    (∃ m : Label,
      exec (.labelData (BitVec.ofNat 8 k.val) (BitVec.ofNat 8 l.nextBand) data) s =
        .next ((s.setLabel k (some m)).answer 0x41
          (if data.length = E then .ok else if E < data.length then .truncated else .padded)
          (.band E data.length (l.nextBand + 1) m.state)) ∧
      m.band l.nextBand = data.take E ++ List.replicate (E - data.length) 0#8 ∧
      (∀ j, j ≠ l.nextBand → m.band j = l.band j) ∧
      m.nextBand = l.nextBand + 1 ∧
      m.state = (if l.nextBand + 1 = (l.lines + 63) / 64 then .ready else .loading) ∧
      m.width = l.width ∧ m.lines = l.lines ∧ m.darkness = l.darkness ∧ m.blocks.length = l.blocks.length) ∧
    (∀ band : Byte, band.toNat ≠ l.nextBand →
      exec (.labelData (BitVec.ofNat 8 k.val) band data) s = .next (s.answer 0x41 .outOfOrder .none))

/-! ## Jobs, the completion list, the run mode, dispatch -/

/-- JOB CREATE takes the lowest free slot with its counters at 0, ACTIVE, a reject limit of 0 standing for the setting, and joins the tail of the creation order; the checks refuse in their order, a field out of its range or list with BAD_FIELD. Without a label the print order field is ignored. An accepted job starts an evaluation of the Dispatcher. -/
def Obligations.JobCreateTakesTheLowestFreeSlot : Prop :=
  (∀ (s : State) (f : JobFields), s.settings.stage = .ready →
    f.number = 0 ∨ 4 ≤ f.imageSlot.toNat ∨ (8 ≤ f.label.toNat ∧ f.label ≠ 255) ∨
      (f.label ≠ 255 ∧ 2 ≤ f.printOrder.toNat) ∨ 3 ≤ f.verifyMode.toNat ∨ 2 ≤ f.verifyStop.toNat ∨
      3 ≤ f.spindle.toNat ∨ f.copies = 0 ∨ 9999 < f.copies.toNat ∨ 20 < f.rejectLimit.toNat →
    exec (.jobCreate f) s = .next (s.answer 0x50 .badField .none)) ∧
  (∀ (s : State) (f : JobFields), s.settings.stage ≠ .ready →
    exec (.jobCreate f) s = .next (s.answer 0x50 .busy .none)) ∧
  (∀ (s : State) (f : JobFields) (order : Byte), f.label = 255 →
    exec (.jobCreate { f with printOrder := order }) s = exec (.jobCreate f) s) ∧
  ∀ (s : State) (number copies : BitVec 16) (image : ImageId) (label : Option (LabelId × PrintOrder))
    (mode : VerifyMode) (stop : VerifyStop) (spindle : SpindleChoice) (limit : Byte),
    number ≠ 0 → 1 ≤ copies.toNat → copies.toNat ≤ 9999 → limit.toNat ≤ 20 →
    let c : Instr := .jobCreate (jobPayload number image label mode stop spindle copies limit)
    let unique := ∀ m j, s.job m = some j → j.number ≠ number.toNat
    let staged := ∃ i, s.image image = some i ∧ i.state ≠ .awaitRewind
    let labelled := ∀ l o, label = some (l, o) → ∃ r, s.label l = some r ∧ r.state = .ready
    let resident := mode = .full → ∀ i, s.image image = some i → i.residency = .resident
    (s.settings.stage = .ready → ¬ unique → exec c s = .next (s.answer 0x50 .inUse .none)) ∧
    (s.settings.stage = .ready → unique → ¬ staged → exec c s = .next (s.answer 0x50 .noSuch .none)) ∧
    (s.settings.stage = .ready → unique → staged → label ≠ none → s.printer = none →
      exec c s = .next (s.answer 0x50 .notFitted .none)) ∧
    (s.settings.stage = .ready → unique → staged → s.printer ≠ none → ¬ labelled →
      exec c s = .next (s.answer 0x50 .noSuch .none)) ∧
    (s.settings.stage = .ready → unique → staged → label = none ∨ s.printer ≠ none → labelled → ¬ resident →
      exec c s = .next (s.answer 0x50 .needsResident .none)) ∧
    (s.settings.stage = .ready → unique → staged → label = none ∨ s.printer ≠ none → labelled → resident →
      (∀ m, s.job m ≠ none) → exec c s = .next (s.answer 0x50 .busy .none)) ∧
    (∀ k : JobSlot, s.settings.stage = .ready → unique → staged → label = none ∨ s.printer ≠ none → labelled →
      resident → s.job k = none → (∀ m, m < k → s.job m ≠ none) →
      exec c s = .next ({ s with
        dispatchWanted := s.dispatchWanted || decide s.orphansServed
        jobs := { s.jobs with
          slots := s.jobs.slots.set k.val (some
            { number := number.toNat, imageSlot := image, label := label.map Prod.fst,
              printOrder := label.map Prod.snd, verifyMode := mode, verifyStop := stop, spindle,
              copies := copies.toNat, rejectLimit := if limit = 0 then s.settingNat 11 else limit.toNat,
              started := 0, good := 0, rejected := 0, inFlight := 0, consecRejects := 0, state := .active })
          order := s.jobs.order ++ [k] } }.answer 0x50 .ok (.jobSlot k)))

/-- JOB HOLD, JOB RELEASE and JOB REMOVE by the job's state: HELD with cause HOST, an earlier cause staying; consecutive rejects to 0 and the state of the counter test; the slot freed and taken out of the creation order. NO_SUCH for a number that no job has. The release of a HELD job, to ACTIVE or FILLED alike, makes a dispatch evaluation due, as a step of the part's own by the model's choice (logs 1 and 2). -/
def Obligations.JobsAreHeldReleasedAndRemoved : Prop :=
  (∀ (s : State) (number : BitVec 16) (k : JobSlot) (j : Job), s.onlyJob k j → j.number = number.toNat →
    let set := fun r : Job => ({ s with jobs := { s.jobs with slots := s.jobs.slots.set k.val (some r) } } : State)
    (j.state = .active ∨ j.state = .filled →
      exec (.jobHold number) s = .next ((set { j with state := .held .host }).answer 0x51 .ok .none) ∧
      exec (.jobRelease number) s = .next ((set { j with consecRejects := 0 }).answer 0x52 .ok .none) ∧
      exec (.jobRemove number) s = .next (s.answer 0x54 .state .none)) ∧
    (∀ cause, j.state = .held cause →
      exec (.jobHold number) s = .next ((set j).answer 0x51 .ok .none) ∧
      exec (.jobRelease number) s = .next ({ set { j with
        consecRejects := 0
        state := if j.good + j.inFlight = j.copies then .filled else .active } with
          dispatchWanted := s.dispatchWanted || decide (s.settings.stage = Stage.ready ∧ s.orphansServed) }.answer
            0x52 .ok .none) ∧
      (∀ t : State, exec (.jobRelease number) s = .next t →
        s.settings.stage = .ready → s.discs.orphanWait = [] → t.dispatchDue = true) ∧
      exec (.jobRemove number) s = .next (s.answer 0x54 .state .none)) ∧
    (j.state = .complete ∨ j.state = .cancelled →
      exec (.jobHold number) s = .next (s.answer 0x51 .state .none) ∧
      exec (.jobRelease number) s = .next (s.answer 0x52 .state .none) ∧
      exec (.jobRemove number) s = .next ({ s with jobs := { s.jobs with
        slots := s.jobs.slots.set k.val none, order := s.jobs.order.filter (· ≠ k) } }.answer 0x54 .ok .none)) ∧
    (j.state = .cancelling →
      exec (.jobHold number) s = .next (s.answer 0x51 .state .none) ∧
      exec (.jobRelease number) s = .next (s.answer 0x52 .state .none) ∧
      exec (.jobRemove number) s = .next (s.answer 0x54 .state .none))) ∧
  (∀ (s : State) (number : BitVec 16), (∀ k j, s.job k = some j → j.number ≠ number.toNat) →
    exec (.jobHold number) s = .next (s.answer 0x51 .noSuch .none) ∧
    exec (.jobRelease number) s = .next (s.answer 0x52 .noSuch .none) ∧
    exec (.jobRemove number) s = .next (s.answer 0x54 .noSuch .none))

/-- JOB CANCEL: refused by number and state; an accepted one makes the job CANCELLING and acts on each disc in flight, one after the other in the order of their creation, and leaves the job CANCELLED exactly when none remains in flight. The reply counts the discs deleted, those set CANCELLED and those left. A disc by where it is: QUEUED, its move (queued among others, waiting, granted, interrupted, or a SWAP's second leg) is withdrawn, the other requests in their order, the record deleted and uncounted, its bay EMPTY or OFFLINE; PENDING on the arm toward a bay or PRN, CANCELLED and on to REJECT; PENDING in a working bay, rejected there and unloaded; PENDING in the printer's charge, CANCELLED; else it stays as it is. The answer to a CANCELLING job is the model's reading (log 15); that other moves asked for wait their turn and follow is its choice (log 9), and so are the order of the discs (log 41), the retake by an arm that is still on its way back to the tray (log 42) and the end of a retake under way at the change (log 44). -/
def Obligations.JobCancelEndsTheJob : Prop :=
  (∀ s : State, exec (.jobCancel 0) s = .next (s.answer 0x53 .badField .none)) ∧
  (∀ (s : State) (number : BitVec 16), number ≠ 0 → (∀ k j, s.job k = some j → j.number ≠ number.toNat) →
    exec (.jobCancel number) s = .next (s.answer 0x53 .noSuch .none)) ∧
  (∀ (s : State) (number : BitVec 16) (k : JobSlot) (j : Job), number ≠ 0 → s.onlyJob k j → j.number = number.toNat →
    let c : Instr := .jobCancel number
    let live := j.state = .active ∨ j.state = .filled ∨ (∃ cause, j.state = .held cause)
    let cancelling := { s.jobs with slots := s.jobs.slots.set k.val (some { j with state := .cancelling }) }
    (j.state = .complete ∨ j.state = .cancelled → exec c s = .next (s.answer 0x53 .state .none)) ∧
    (j.state = .cancelling → exec c s = .next (s.answer 0x53 .ok (.cancelled 0 0 j.inFlight))) ∧
    (live → (∀ d ∈ s.discs.records, d.job ≠ some k) → j.inFlight = 0 →
      exec c s = .next ({ s with
        jobs := { s.jobs with slots := s.jobs.slots.set k.val (some { j with state := .cancelled }) }
        status := { s.status with pending := s.status.pending ||| (1#16 <<< 1) } }.answer 0x53 .ok
          (.cancelled 0 0 0))) ∧
    (∀ (before after : List Disc) (d : Disc), live → j.inFlight = 1 →
      s.discs.records = before ++ d :: after → d.job = some k →
      (∀ e ∈ before ++ after, e.job ≠ some k ∧ e.number ≠ d.number) →
      let rejected := { d with disposition := .reject .cancelled }
      (d.stage ≠ .queued →
        (d.location = .prn → d.disposition = .pending →
          exec c s = .next ({ s with
            jobs := cancelling
            discs := { s.discs with records := before ++ rejected :: after } }.answer 0x53 .ok (.cancelled 0 1 1))) ∧
        ((∃ b, d.location = .bay b ∧ ((s.bay b).state = .awaitUnload ∨ (s.bay b).state = .fault)) ∨
            ((d.location = .arm ∨ d.location = .prn ∨ ∃ b, d.location = .bay b) ∧ d.disposition ≠ .pending) →
          exec c s = .next ({ s with jobs := cancelling }.answer 0x53 .ok (.cancelled 0 0 1))) ∧
        (∀ b, d.location = .bay b → d.disposition = .pending → (s.bay b).disc = some d.number →
          (s.bay b).state = .ident ∨ (s.bay b).state = .admitWait ∨ (s.bay b).state = .burning ∨
            (s.bay b).state = .suspended ∨ (s.bay b).state = .closing ∨ (s.bay b).state = .verifyWait ∨
            (s.bay b).state = .verifying →
          ∃ u, exec c s = .next (u.answer 0x53 .ok (.cancelled 0 1 1)) ∧
            State.unloadsToReject { s with jobs := cancelling } u b d.number .cancelled ∧ u.job k = some { j with state := .cancelling }))) ∧
    (live → (s.discs.records.map Disc.number).Nodup →
      let l := s.discs.records.filter fun d => d.job = some k
      let deleted := l.countP fun d => decide (d.stage = .queued)
      let rejected := l.countP fun d => decide (d.stage ≠ .queued ∧ d.disposition = .pending ∧
        (d.location = .arm ∨ d.location = .prn ∨ ∃ b, d.location = .bay b ∧ (s.bay b).worksOn d.number))
      let left := j.inFlight - deleted
      ∃ v u : State, v.cancelsAll l { s with jobs := cancelling } ∧
        exec c s = .next (u.answer 0x53 .ok (.cancelled deleted rejected left)) ∧
        u = { v with
          dispatchWanted := u.dispatchWanted
          jobs := { v.jobs with slots := v.jobs.slots.set k.val (some { j with
            state := if left = 0 then .cancelled else .cancelling, started := j.started - deleted, inFlight := left }) }
          status := { v.status with
            pending := if left = 0 then v.status.pending ||| (1#16 <<< 1) else v.status.pending } }))

/-- JOB QUERY of one job carries its record and its discs; of number 0 a summary of each job in creation order; it changes nothing but what every reply changes. DISC RESULTS removes and returns up to 16 of the oldest entries, with the dropped count as it stood and the number left; the dropped count is then 0. -/
def Obligations.JobQueryAndDiscResultsReport : Prop :=
  ((∀ (s : State) (number : BitVec 16) (k : JobSlot) (j : Job), number ≠ 0 → s.onlyJob k j → j.number = number.toNat →
     exec (.jobQuery number) s = .next (s.answer 0x55 .ok (.job k j
       ((s.discs.records.filter fun d => d.job == some k).map fun d =>
         { number := d.number, location := d.location, stage := d.stage, target := d.target, media := d.media,
           burned := d.burned, verified := d.verified, disposition := d.disposition })))) ∧
   (∀ s : State, exec (.jobQuery 0) s = .next (s.answer 0x55 .ok (.jobs
     (s.jobs.order.filterMap fun k => (s.job k).map fun j =>
       { number := j.number, slot := k, state := j.state, copies := j.copies, started := j.started,
         good := j.good, rejected := j.rejected, inFlight := j.inFlight })
     s.jobs.runMode (16 - s.discs.records.length) (s.discs.records.countP fun d => d.job.isNone)
     s.discs.orphanWait.length))) ∧
   (∀ (s : State) (number : BitVec 16), number ≠ 0 → (∀ k j, s.job k = some j → j.number ≠ number.toNat) →
     exec (.jobQuery number) s = .next (s.answer 0x55 .noSuch .none))) ∧
  (∀ s : State, exec .discResults s = .next
     ({ s with discs := { s.discs with completions := s.discs.completions.drop 16, dropped := 0 } }.answer 0x56 .ok
       (.results (s.discs.completions.take 16) s.discs.dropped (s.discs.completions.length - 16))))

/-- TOWER PAUSE, TOWER RESUME and TOWER DRAIN by the run mode; a drain with no record in use ends at once with DRAINED, unless an orphan creation waits for the record that is free (log 1). A change to RUN starts an evaluation of the Dispatcher. Each reply, a refusal's too, carries the run mode after the request. -/
def Obligations.RunModeFollowsItsTable : Prop :=
  ∀ s : State,
    let mode := fun m : RunMode => ({ s with jobs := { s.jobs with runMode := m } } : State)
    (s.settings.stage ≠ .ready →
      exec .towerPause s = .next (s.answer 0x72 .busy (.runMode s.jobs.runMode)) ∧
      exec .towerResume s = .next (s.answer 0x73 .busy (.runMode s.jobs.runMode)) ∧
      exec .towerDrain s = .next (s.answer 0x74 .busy (.runMode s.jobs.runMode))) ∧
    (s.settings.stage = .ready → s.jobs.runMode ≠ .draining →
      exec .towerPause s = .next ((mode .paused).answer 0x72 .ok (.runMode .paused))) ∧
    (s.settings.stage = .ready → s.jobs.runMode = .draining →
      exec .towerPause s = .next (s.answer 0x72 .state (.runMode .draining))) ∧
    (s.settings.stage = .ready → exec .towerResume s = .next ({ mode .run with
      dispatchWanted := s.dispatchWanted || decide (s.jobs.runMode ≠ RunMode.run ∧ s.orphansServed) }.answer 0x73 .ok
        (.runMode .run))) ∧
    (s.settings.stage = .ready → s.discs.records ≠ [] ∨ s.discs.orphanWait ≠ [] →
      exec .towerDrain s = .next ((mode .draining).answer 0x74 .ok (.runMode .draining))) ∧
    (s.settings.stage = .ready → s.discs.records = [] → s.discs.orphanWait = [] →
      exec .towerDrain s = .next ({ mode .paused with
        status := { s.status with pending := s.status.pending ||| (1#16 <<< 14) } }.answer 0x74 .ok (.runMode .paused)))

/-- A dispatch evaluation takes the EMPTY bays in ascending order, each with the oldest job that meets every condition; an older job that fails one is passed over, and what one dispatch changes the next bay sees. A dispatch makes the record, with the counter's number where that is free, the counters, the bay and the LOAD, or the PRINT_IN of a print-first job. With no such job or no EMPTY bay nothing is dispatched, and the evaluation is no longer wanted; outside READY, or while an orphan creation waits, none runs. A free record goes to the oldest waiting orphan creation: REJECT with ORPHAN, TO_OUT, and the block that asked asks for the move to REJECT, the printer from IDLE in AWAIT_REMOVE; an arm in homing that waits for it starts its carriage. That the evaluation is a command of its own is log 1; a move asked for while its requester has one in the queue waits, by the model's choice (log 9). -/
def Obligations.DispatchAndOrphansMakeRecords : Prop :=
  ((∀ s : State, s.settings.stage ≠ .ready ∨ s.discs.orphanWait ≠ [] → exec .dispatchEvaluation s = .next s) ∧
   (∀ s : State, s.settings.stage = .ready → s.discs.orphanWait = [] →
     s.noneFits ∨ (∀ b, b.val < s.settings.fittedBays → (s.bay b).state ≠ .empty) →
     exec .dispatchEvaluation s = .next { s with dispatchWanted := false }) ∧
   (∀ t : DiscTable, t.taken t.counter = false → t.newNumber = t.counter) ∧
   (∀ (s : State) (k : JobSlot) (j : Job) (i : SpindleId) (b : BayId), s.settings.stage = .ready →
     s.oldestFit k j i → b.val < s.settings.fittedBays → (s.bay b).state = .empty →
     (∀ m, m < b → (s.bay m).state ≠ .empty) →
     let n := s.discs.newNumber
     s.discs.taken n = false →
     let first := j.label.isSome = true ∧ j.printOrder = some .printFirst
     ∃ u, u = { s with
         discs := { s.discs with
           records := s.discs.records ++ [{
             number := n, job := some k, location := .spindle i, stage := .queued, target := some b, media := none,
             burned := false, verified := false, printed := false, disposition := .pending, stepDowns := 0,
             suspends := 0, mismatches := 0 }]
           counter := if n < 4294967295 then n + 1 else 1 }
         jobs := { s.jobs with slots := s.jobs.slots.set k.val (some { j with
           started := j.started + 1, inFlight := j.inFlight + 1
           state := if j.good + (j.inFlight + 1) = j.copies then .filled else .active }) }
         bays := s.bays.set b.val { s.bay b with
           state := .awaitDisc, disc := some n, job := some k, imageSlot := some j.imageSlot }
         trans := { s.trans with queue := u.trans.queue, waiting := u.trans.waiting } } ∧
       s.trans.asked u.trans {
         kind := if first then .printIn else .load, requester := .bay b, source := .spindle i,
         dest := if first then .prn else .bay b, disc := n, second := none, retries := 0,
         granted := false, interrupted := false } ∧
       exec .dispatchEvaluation s = exec .dispatchEvaluation u ∧
       ((∀ m, m ≠ b → (s.bay m).state ≠ .empty) ∨ u.noneFits →
         exec .dispatchEvaluation s = .next { u with dispatchWanted := false }))) ∧
  (∀ (s : State) (rest : List OrphanAt) (w : OrphanAt), s.discs.orphanWait = w :: rest →
     s.discs.records.length < 16 → s.discs.taken s.discs.counter = false →
     let n := s.discs.counter
     (w ≠ .prn ∨ s.printer ≠ none →
       ∃ t, exec .orphanCreationGrant s = .next t ∧ t.discs.orphanWait = rest ∧
         t.discs.records = s.discs.records ++ [{
           number := n, job := none, location := w.station, stage := .toOut, target := none, media := none,
           burned := false, verified := false, printed := false, disposition := .reject .orphan,
           stepDowns := 0, suspends := 0, mismatches := 0 }] ∧
         t.discs.counter = (if n < 4294967295 then n + 1 else 1) ∧
         t.discs.completions = s.discs.completions ∧
         (∀ b, w = .bay b → (t.bay b).state = .awaitUnload ∧ (t.bay b).disc = some n ∧
           (t.bay b).dest = some .reject ∧
           s.trans.asked t.trans (MoveReq.posted .unload (.bay b) (.bay b) (.bin .reject) n none)) ∧
         (w = .prn → s.trans.asked t.trans (MoveReq.posted .clear .printer .prn (.bin .reject) n none) ∧
           ∀ p, s.printer = some p → t.printer = some { p with
             trayDisc := some n, trayMove := true
             state := if p.state = .idle then .awaitRemove else p.state }) ∧
         (w = .arm → t.trans = if s.trans.arm = .homing .awaitRecord then { s.trans with
           arm := .homing .carry, moveTimer := some (s.now + 12000), ackTimer := none, handover := none } else s.trans) ∧
         s.changesOnly [.discs, .bays, .trans, .printer, .status] t))

/-! ## Bays -/

/-- BAY QUERY reports one bay or all fitted ones, with the rate of its step, its lead, its place in the admission queue and the step it is offered there. BAY OFFLINE takes an EMPTY bay out at once and marks any other; BAY ONLINE clears the counts of an OFFLINE or FAULT bay and surveys its tray. Their checks refuse in their order. -/
def Obligations.BayRequestsActByState : Prop :=
  (∀ (s : State) (b : BayId), b.val < s.settings.fittedBays →
    ∃ r, exec (.bayQuery (BitVec.ofNat 8 b.val)) s = .next (s.answer 0x60 .ok (.bay r)) ∧
      r.bay = b ∧ r.state = (s.bay b).state ∧ r.disc = (s.bay b).disc ∧ r.job = (s.bay b).job ∧
      r.imageSlot = (s.bay b).imageSlot ∧ r.facts = (s.bay b).facts ∧ r.cursor = (s.bay b).cursor ∧
      r.buffer = (s.bay b).buffer ∧ r.step = (s.bay b).burn.map Burn.step ∧
      r.allocated = (s.bay b).burn.map Burn.rate ∧ r.stable = (s.bay b).burn.map Burn.stable ∧
      r.out = ((s.bay b).out.map fun o => (o.req, o.deadline - s.now)) ∧
      r.suspLeft = ((s.bay b).susp.map fun o => o.deadline - s.now) ∧ r.timeouts = (s.bay b).timeouts ∧
      r.handoverFailures = (s.bay b).handoverFailures ∧ r.offlineAfter = (s.bay b).offlineAfter ∧
      r.dest = (s.bay b).dest ∧ r.lead = s.lead b ∧
      r.stepRate = ((s.bay b).burn.map fun a => (s.bay b).rate a.step) ∧
      ((s.bay b).state ≠ .burning → (s.bay b).state ≠ .suspended → r.lead = none) ∧
      ((∀ e ∈ s.governor.queue, e.bay ≠ b) → r.place = none ∧ r.offered = none) ∧
      (∀ older e younger, s.governor.queue = older ++ e :: younger → e.bay = b → (∀ x ∈ older, x.bay ≠ b) →
        r.place = some (older.length + 1) ∧ r.offered = e.admitting)) ∧
  (∀ s : State, exec (.bayQuery 255) s = .next (s.answer 0x60 .ok
    (.bays (((List.finRange 12).filter fun b => b.val < s.settings.fittedBays).map s.bayReport) s.governor.sum
      (s.settingNat 2) (s.governor.queue.map AdmEntry.bay)))) ∧
  (∀ (s : State) (v : Byte), 12 ≤ v.toNat → v ≠ 255 → exec (.bayQuery v) s = .next (s.answer 0x60 .badField .none)) ∧
  (∀ (s : State) (b : BayId), s.settings.fittedBays ≤ b.val →
    exec (.bayQuery (BitVec.ofNat 8 b.val)) s = .next (s.answer 0x60 .notFitted .none)) ∧
  (∀ (s : State) (b : BayId), s.settings.stage = .ready → b.val < s.settings.fittedBays →
    let off : Instr := .bayOffline (BitVec.ofNat 8 b.val)
    let on : Instr := .bayOnline (BitVec.ofNat 8 b.val)
    let set := fun r : Bay => ({ s with bays := s.bays.set b.val r } : State)
    ((s.bay b).state = .empty →
      exec off s = .next ((set { s.bay b with state := .offline }).answer 0x61 .ok (.bayState .offline))) ∧
    ((s.bay b).state = .offline → exec off s = .next ((set (s.bay b)).answer 0x61 .ok (.bayState .offline))) ∧
    ((s.bay b).state = .fault → exec off s = .next (s.answer 0x61 .state .none)) ∧
    ((s.bay b).state ≠ .empty → (s.bay b).state ≠ .offline → (s.bay b).state ≠ .fault →
      exec off s = .next ((set { s.bay b with offlineAfter := true }).answer 0x61 .ok (.bayState (s.bay b).state)) ∧
      exec on s = .next (s.answer 0x62 .state .none)) ∧
    ((s.bay b).state = .empty → exec on s = .next (s.answer 0x62 .state .none)) ∧
    ((s.bay b).state = .offline ∨ (s.bay b).state = .fault →
      let faulted := ∃ m, m ≠ b ∧ (s.bay m).state = .fault
      ∃ u, exec on s = .next (u.answer 0x62 .ok .none) ∧
        u.bay b = ({ s.bay b with
          state := .ident, survey := true, timeouts := 0, handoverFailures := 0, offlineAfter := false
          identDeadline := some (s.now + 30000) }).withRequest .identify (s.now + 30000) ∧
        (∀ m, m ≠ b → u.bay m = s.bay m) ∧ (u.cond .bayFault = true ↔ faulted) ∧
        s.changesOnly [.bays, .status] u)) ∧
  (∀ (s : State) (v : Byte),
    (s.settings.stage ≠ .ready → exec (.bayOffline v) s = .next (s.answer 0x61 .busy .none) ∧
      exec (.bayOnline v) s = .next (s.answer 0x62 .busy .none)) ∧
    (s.settings.stage = .ready → 12 ≤ v.toNat → exec (.bayOffline v) s = .next (s.answer 0x61 .badField .none) ∧
      exec (.bayOnline v) s = .next (s.answer 0x62 .badField .none)) ∧
    (s.settings.stage = .ready → v.toNat < 12 → s.settings.fittedBays ≤ v.toNat →
      exec (.bayOffline v) s = .next (s.answer 0x61 .notFitted .none) ∧
      exec (.bayOnline v) s = .next (s.answer 0x62 .notFitted .none)))

/-- The IDENTIFY of a dispatched disc: NOT_READY starts the 500 ms retry timer, which reissues it under the first deadline; an OK stores the facts and the media class, and a disc that passes every test enters ADMIT_WAIT at the tail of the admission queue; the first test that fails rejects it. That the unload waits while the bay has a move in the queue is the model's choice (log 9). -/
def Obligations.IdentifyTestsTheDisc : Prop :=
  ∀ (s : State) (b : BayId) (o : Outstanding) (f : DriveFacts), (s.bay b).state = .ident →
    (s.bay b).out = some o → o.req = .identify →
    (exec (.identifyComplete b o.number .notReady f) s = .next { s with bays := s.bays.set b.val <|
      { s.bay b with out := none, retryTimer := some (s.now + 500) } }) ∧
    (∀ (n : Nat) (d : Disc) (k : ImageId) (i : Image), (s.bay b).survey = false → (s.bay b).disc = some n →
      s.disc n = some d → (s.bay b).imageSlot = some k → s.image k = some i →
      let listed := 1 ≤ f.rates.length ∧ f.rates.length ≤ 6 ∧ (∀ r ∈ f.rates, 1 ≤ r ∧ r ≤ 65535) ∧
        f.rates.IsChain (· < ·)
      (f.discPresent = true → listed → f.blank = true → f.media = i.media → i.size ≤ f.capacity →
        exec (.identifyComplete b o.number .ok f) s = .next { s with
          bays := s.bays.set b.val { s.bay b with
            out := none, identDeadline := none, facts := some f, state := .admitWait }
          discs := { s.discs with records := s.discs.records.map fun e =>
            if e.number == n then { e with media := some f.media } else e }
          governor := { s.governor with queue := s.governor.queue ++ [{ bay := b, admitting := none }] } }) ∧
      (∀ why : RejectReason,
        (f.discPresent = false ∧ why = .handling) ∨
        (f.discPresent = true ∧ ¬ listed ∧ why = .wrongMedia) ∨
        (f.discPresent = true ∧ listed ∧ f.blank = false ∧ why = .notBlank) ∨
        (f.discPresent = true ∧ listed ∧ f.blank = true ∧ f.media ≠ i.media ∧ why = .wrongMedia) ∨
        (f.discPresent = true ∧ listed ∧ f.blank = true ∧ f.media = i.media ∧ f.capacity < i.size ∧
          why = .shortMedia) →
        ∃ t, exec (.identifyComplete b o.number .ok f) s = .next t ∧ s.unloadsToReject t b n why ∧
          (t.bay b).facts = some f) ∧
      (∀ kind, kind = .mediaError ∨ kind = .underrun ∨ kind = .refused →
        ∃ t, exec (.identifyComplete b o.number kind f) s = .next t ∧ s.unloadsToReject t b n .wrongMedia))

/-- A survey: no disc makes the bay EMPTY or OFFLINE; a disc, with a record free, becomes an orphan that the bay unloads to REJECT, and with none free, or with creations that wait, its creation waits and the bay stays in IDENT; a disc that the bay's record names is unloaded to REJECT, alone or as a SWAP, when it is there and lost when it is not, its disposition kept and the bay EMPTY. A retry under the first deadline. What becomes of the offline-after flag by log 29, the kept deadline by log 17, a retry expiry with no timer running by log 4, a move asked for that waits by log 9. -/
def Obligations.SurveysAndRetriesEnd : Prop :=
  (∀ (s : State) (b : BayId) (o : Outstanding) (f : DriveFacts), (s.bay b).state = .ident →
    (s.bay b).out = some o → o.req = .identify → (s.bay b).survey = true →
    let idle := fun t : State => (t.bay b).facts = none ∧ (t.bay b).disc = none ∧ (t.bay b).job = none ∧
      (t.bay b).imageSlot = none ∧ (t.bay b).out = none ∧ (∀ m, m ≠ b → t.bay m = s.bay m)
    ((s.bay b).disc = none → f.discPresent = false →
      ∃ t, exec (.identifyComplete b o.number .ok f) s = .next t ∧ idle t ∧ s.changesOnly [.bays, .dispatch] t ∧
        (t.bay b).state = (if (s.bay b).offlineAfter then .offline else .empty) ∧ (t.bay b).offlineAfter = false) ∧
    (∀ kind : CompletionKind, (s.bay b).disc = none → kind ≠ .notReady → (kind = .ok → f.discPresent = true) →
      s.discs.orphanWait = [] → s.discs.records.length < 16 → s.discs.taken s.discs.counter = false →
      ∃ t, exec (.identifyComplete b o.number kind f) s = .next t ∧
        (t.bay b).state = .awaitUnload ∧ (t.bay b).disc = some s.discs.counter ∧
        (t.bay b).dest = some .reject ∧
        t.discs.records = s.discs.records ++ [Disc.orphan s.discs.counter (.bay b)] ∧
        s.trans.asked t.trans (MoveReq.posted .unload (.bay b) (.bay b) (.bin .reject) s.discs.counter none)) ∧
    (∀ kind : CompletionKind, (s.bay b).disc = none → kind ≠ .notReady → (kind = .ok → f.discPresent = true) →
      s.discs.orphanWait ≠ [] ∨ 16 ≤ s.discs.records.length →
      exec (.identifyComplete b o.number kind f) s = .next { s with
        bays := s.bays.set b.val { s.bay b with
          out := none, identDeadline := none, facts := if kind = .ok then some f else (s.bay b).facts }
        discs := { s.discs with orphanWait := s.discs.orphanWait ++ [.bay b] } }) ∧
    (∀ (n : Nat) (d : Disc), (s.bay b).disc = some n → s.disc n = some d → d.disposition.isReject = true →
      (∀ kind : CompletionKind, kind ≠ .notReady → (kind = .ok → f.discPresent = true) →
        ∃ t e r, exec (.identifyComplete b o.number kind f) s = .next t ∧ (t.bay b).state = .awaitUnload ∧
          (t.bay b).disc = some n ∧ (t.bay b).dest = some .reject ∧ t.disc n = some e ∧
          e.disposition = d.disposition ∧
          e.media = (if kind = .ok ∧ d.target = some b then some f.media else d.media) ∧
          ((∀ q ∈ s.trans.queue, q.requester ≠ .bay b) → e.stage = .toOut) ∧
          s.trans.asked t.trans r ∧ r.disc = n ∧ r.requester = .bay b ∧ r.source = .bay b ∧ r.dest = .bin .reject ∧
          s.unloadPosted t b n (.bin .reject)) ∧
      (f.discPresent = false →
        ∃ t e, exec (.identifyComplete b o.number .ok f) s = .next t ∧ idle t ∧ t.disc n = none ∧
          (t.bay b).state = .empty ∧ (t.bay b).offlineAfter = (s.bay b).offlineAfter ∧
          (s.settings.stage = .ready → s.discs.orphanWait = [] → t.dispatchWanted = true) ∧
          s.discs.completed t.discs e ∧ e.number = n ∧ e.disposition = d.disposition ∧
          (∀ k j, d.job = some k → s.job k = some j →
            ∃ i, t.job k = some i ∧ i.rejected = j.rejected + 1 ∧ i.inFlight = j.inFlight - 1) ∧
          t.cond .handling = true ∧ t.status.pending.getLsbD 0 = true))) ∧
  (∀ (s : State) (b : BayId) (e : Nat), (s.bay b).retryTimer ≠ none → (s.bay b).identDeadline = some e →
    exec (.identifyRetryTimerExpiry b) s = .next { s with
      bays := s.bays.set b.val (({ s.bay b with retryTimer := none }).withRequest .identify e) }) ∧
  (∀ (s : State) (b : BayId), (s.bay b).retryTimer = none → exec (.identifyRetryTimerExpiry b) s = .next s)

/-- A WRITE completion of a feeding bay: OK advances the cursor and takes the buffer, at most 4,096, and the head segments that every consumer has passed go back to the pool; any other but the last then makes the reserve check by its lead, as at the reserve timer's expiry, and, the port left free, the feed test issues the next WRITE from the new cursor; the last one ends the burn with CLOSE issued; other kinds reject the disc, but an UNDERRUN taken in SUSPENDED only ends the WRITE. That a rejected disc's unload waits while the bay has a move in the queue is the model's choice (log 9). -/
def Obligations.WriteCompletionAdvancesOrEndsTheBurn : Prop :=
  ∀ (s : State) (b : BayId) (o : Outstanding) (start count : Nat) (data : List Byte) (buffer c n : Nat)
    (k : ImageId) (i : Image) (a : Burn),
    (s.bay b).state = .burning ∨ (s.bay b).state = .suspended → (s.bay b).out = some o →
    o.req = .write start count data → (s.bay b).cursor = some c → (s.bay b).imageSlot = some k →
    s.image k = some i → (s.bay b).burn = some a → (s.bay b).disc = some n →
    (c + count ≠ i.size →
      ∃ t, exec (.writeComplete b o.number .ok buffer) s = .next t ∧ (t.bay b).cursor = some (c + count) ∧
        (t.bay b).buffer = some (min buffer 4096) ∧ (t.bay b).state = (s.bay b).state ∧
        (∀ m, m ≠ b → t.bay m = s.bay m) ∧ s.changesOnly [.staging, .bays, .governor, .status] t ∧
        (i.residency = .resident → t.staging = s.staging) ∧
        (∀ cap closed, i.residency = .streaming cap closed → i.consumers ≠ [] →
          ∃ m, s.headsGo (fun x => if x = b then c + count else (s.bay x).cursor.getD 0) i cap closed m ∧
            s.headsReleased t k i m) ∧
        (s.settingNat 3 < s.settingNat 4 → s.settingNat 4 < s.settingNat 5 →
          let r : Bay := { s.bay b with out := none, cursor := some (c + count), buffer := some (min buffer 4096) }
          let lead := if i.fill = i.size then 65535
            else min 65535 ((i.fill - (c + count) + min buffer 4096) * 1000 / r.rate a.step)
          let up := r.rate (a.step + 1)
          let stable := if a.stable < 65535 then a.stable + 1 else 65535
          let steps := s.settingNat 6 ≤ stable ∧ a.step < r.lastStep ∧ s.governor.queue = [] ∧
            s.governor.sum - a.rate + up ≤ s.settingNat 2
          let suspends := ∃ f, r.facts = some f ∧ f.suspendSupported = true
          let burnt := fun x : Burn => { r with burn := some x }
          let order := fun (x : Bay) (req : DriveReq) => if r.susp = none then x.withRequest req (s.now + 2000) else x
          let sum := fun n : Nat => t.governor = { s.governor with sum := n }
          let low := t.cond .reserveLow = true ∧ t.status.pending.getLsbD 6 = true
          (r.state = .suspended → sum s.governor.sum ∧
            (s.settingNat 5 ≤ lead → t.bay b = order r .resume) ∧ (lead < s.settingNat 5 → t.bay b = r)) ∧
          (r.state = .burning →
            (lead < s.settingNat 3 → suspends → sum s.governor.sum ∧ low ∧
              (r.susp ≠ none → t.bay b = burnt { a with stable := 0 }) ∧
              (r.susp = none → t.bay b = { burnt { a with stable := 0 } with
                requestNumber := r.requestNumber + 1
                susp := some { number := r.requestNumber + 1, deadline := s.now + 2000 } })) ∧
            (lead < s.settingNat 4 → ¬ (lead < s.settingNat 3 ∧ suspends) → 0 < a.step →
              sum s.governor.sum ∧ (lead < s.settingNat 3 → low) ∧
              t.bay b = order (burnt { a with stable := 0 }) (.speed (a.step - 1))) ∧
            (lead < s.settingNat 4 → ¬ (lead < s.settingNat 3 ∧ suspends) → a.step = 0 →
              sum s.governor.sum ∧ low ∧ t.feeds (burnt { a with stable := 0 }) (t.bay b)) ∧
            (s.settingNat 4 ≤ lead → lead < s.settingNat 5 →
              sum s.governor.sum ∧ t.feeds (burnt { a with stable := 0 }) (t.bay b)) ∧
            (s.settingNat 5 ≤ lead → ¬ steps →
              sum s.governor.sum ∧ t.feeds (burnt { a with stable }) (t.bay b)) ∧
            (s.settingNat 5 ≤ lead → steps → r.susp ≠ none →
              sum s.governor.sum ∧ t.bay b = burnt { a with stable }) ∧
            (s.settingNat 5 ≤ lead → steps → r.susp = none →
              sum (s.governor.sum - a.rate + up) ∧
              t.bay b = order (burnt { a with rate := up, stable := 0 }) (.speed (a.step + 1)))))) ∧
    (c + count = i.size →
      ∃ t, exec (.writeComplete b o.number .ok buffer) s = .next t ∧
        t.bay b = ({ s.bay b with
          cursor := some (c + count), buffer := some (min buffer 4096), burn := none, reserveTimer := none
          state := .closing }).withRequest .close (s.now + 240000) ∧
        t.governor = { s.governor with sum := s.governor.sum - a.rate } ∧
        (∀ j, t.image k = some j → b ∉ j.consumers) ∧ s.changesOnly [.staging, .bays, .governor, .status] t) ∧
    ((s.bay b).state = .suspended →
      exec (.writeComplete b o.number .underrun buffer) s =
        .next { s with bays := s.bays.set b.val { s.bay b with out := none } }) ∧
    ((s.bay b).state = .burning →
      ∃ t, exec (.writeComplete b o.number .underrun buffer) s = .next t ∧
        s.unloadsToReject t b n .underrun ∧ t.cond .underrun = true ∧ t.status.pending.getLsbD 7 = true) ∧
    (∀ kind, kind = .mediaError ∨ kind = .refused ∨ kind = .notReady →
      ∃ t, exec (.writeComplete b o.number kind buffer) s = .next t ∧ s.unloadsToReject t b n .writeError)

/-- SPEED completions: a step-down takes the lower rate into the allocation and the budget sum and counts on the disc; a step-up already has its allocation; a refused step-up reverts it, a refused step-down leaves all as it was; which SPEED is which goes by its step (log 31). SUSPEND OK and RESUME OK move the bay and count the suspend; a drive that ran dry spoils its disc. Each completion that leaves the bay in BURNING makes the feed test. After a refused step-up (log 38) and a SUSPEND OK (log 39) the stable count is 0. That a spoilt disc's unload waits while the bay has a move in the queue is the model's choice (log 9). -/
def Obligations.SpeedSuspendAndResumeComplete : Prop :=
  ∀ (s : State) (b : BayId) (a : Burn) (n : Nat), (s.bay b).burn = some a → (s.bay b).disc = some n →
    let counted := fun g : Disc → Disc => s.discs.records.map fun d => if d.number == n then g d else d
    let fed := fun (t : State) (r : Bay) => s.feeds r (t.bay b) ∧ ∀ m, m ≠ b → t.bay m = s.bay m
    (∀ (o : Outstanding) (step : Nat), (s.bay b).state = .burning → (s.bay b).out = some o → o.req = .speed step →
      (step < a.step → ∃ t, exec (.speedComplete b o.number .ok) s = .next t ∧
        (t.bay b).burn = some { step, rate := (s.bay b).rate step, stable := 0 } ∧
        t.governor = { s.governor with sum := s.governor.sum - a.rate + (s.bay b).rate step } ∧
        t.discs = { s.discs with records := counted fun d =>
          { d with stepDowns := if d.stepDowns < 255 then d.stepDowns + 1 else 255 } } ∧
        fed t { s.bay b with out := none, burn := some { step, rate := (s.bay b).rate step, stable := 0 } } ∧
        (t.bay b).state = .burning ∧ s.changesOnly [.bays, .governor, .discs] t) ∧
      (a.step < step → ∃ t, exec (.speedComplete b o.number .ok) s = .next t ∧
        (t.bay b).burn = some { a with step } ∧ (t.bay b).state = .burning ∧
        fed t { s.bay b with out := none, burn := some { a with step } } ∧ s.changesOnly [.bays] t) ∧
      (a.step = step → ∃ t, exec (.speedComplete b o.number .ok) s = .next t ∧
        (t.bay b).burn = some a ∧ (t.bay b).state = .burning ∧ fed t { s.bay b with out := none } ∧
        s.changesOnly [.bays] t) ∧
      (∀ kind, a.step < step → kind = .mediaError ∨ kind = .refused ∨ kind = .notReady →
        ∃ t, exec (.speedComplete b o.number kind) s = .next t ∧
          (t.bay b).burn = some { a with rate := (s.bay b).rate a.step, stable := 0 } ∧
          t.governor = { s.governor with sum := s.governor.sum - a.rate + (s.bay b).rate a.step } ∧
          fed t { s.bay b with out := none, burn := some { a with rate := (s.bay b).rate a.step, stable := 0 } } ∧
          (t.bay b).state = .burning ∧ s.changesOnly [.bays, .governor] t) ∧
      (∀ kind, step ≤ a.step → kind = .mediaError ∨ kind = .refused ∨ kind = .notReady →
        ∃ t, exec (.speedComplete b o.number kind) s = .next t ∧ (t.bay b).burn = some a ∧
          (t.bay b).state = .burning ∧ fed t { s.bay b with out := none } ∧ s.changesOnly [.bays] t) ∧
      (∃ t, exec (.speedComplete b o.number .underrun) s = .next t ∧ s.unloadsToReject t b n .underrun ∧
        t.cond .underrun = true ∧ t.status.pending.getLsbD 7 = true)) ∧
    (∀ o : OutSuspend, (s.bay b).state = .burning → (s.bay b).susp = some o →
      exec (.suspendComplete b o.number .ok) s = .next { s with
        bays := s.bays.set b.val { s.bay b with
          susp := none, state := .suspended, burn := some { a with stable := 0 } }
        discs := { s.discs with records := counted fun d =>
          { d with suspends := if d.suspends < 255 then d.suspends + 1 else 255 } } } ∧
      (∀ kind, kind = .mediaError ∨ kind = .refused ∨ kind = .notReady →
        ∃ t, exec (.suspendComplete b o.number kind) s = .next t ∧ (t.bay b).susp = none ∧
          (t.bay b).state = .burning ∧ (t.bay b).burn = some a ∧ fed t { s.bay b with susp := none } ∧
          s.changesOnly [.bays] t) ∧
      (∃ t, exec (.suspendComplete b o.number .underrun) s = .next t ∧ s.unloadsToReject t b n .underrun ∧
        t.cond .underrun = true ∧ t.status.pending.getLsbD 7 = true)) ∧
    (∀ o : Outstanding, (s.bay b).state = .suspended → (s.bay b).out = some o → o.req = .resume →
      (∃ t, exec (.resumeComplete b o.number .ok) s = .next t ∧ (t.bay b).state = .burning ∧
        (t.bay b).burn = some { a with stable := 0 } ∧ (t.bay b).cursor = (s.bay b).cursor ∧
        fed t { s.bay b with out := none, state := .burning, burn := some { a with stable := 0 } } ∧
        s.changesOnly [.bays] t) ∧
      (∀ kind, kind = .mediaError ∨ kind = .refused ∨ kind = .notReady →
        exec (.resumeComplete b o.number kind) s =
          .next { s with bays := s.bays.set b.val { s.bay b with out := none } }) ∧
      (∃ t, exec (.resumeComplete b o.number .underrun) s = .next t ∧ s.unloadsToReject t b n .underrun ∧
        t.cond .underrun = true ∧ t.status.pending.getLsbD 7 = true))

/-- The lead, and the reserve check at an expiry of the reserve timer, which starts again: the five cases of a bay in BURNING, and the resume of one in SUSPENDED. An order is issued on a free port, SUSPEND also beside an outstanding WRITE; any other order is declined and leaves what the check has set (R49, R86), and a check that finds a SUSPEND outstanding orders no second one. -/
def Obligations.ReserveCheckTakesItsCase : Prop :=
  ∀ (s : State) (b : BayId) (a : Burn) (cursor : Nat) (k : ImageId) (i : Image),
    (s.bay b).burn = some a → (s.bay b).cursor = some cursor → (s.bay b).imageSlot = some k → s.image k = some i →
    (s.bay b).reserveTimer ≠ none → s.settingNat 3 < s.settingNat 4 → s.settingNat 4 < s.settingNat 5 →
    let lead := if i.fill = i.size then 65535
      else min 65535 ((i.fill - cursor + (s.bay b).buffer.getD 0) * 1000 / (s.bay b).rate a.step)
    let timer := some (s.now + s.settingNat 7)
    let low : StatusUnit := { s.status with
      live := s.status.live ||| (1#15 <<< 9), shadow := s.status.shadow ||| (1#15 <<< 9)
      pending := s.status.pending ||| (1#16 <<< 6) }
    let up := (s.bay b).rate (a.step + 1)
    let stable := if a.stable < 65535 then a.stable + 1 else 65535
    let steps := s.settingNat 6 ≤ stable ∧ a.step < (s.bay b).lastStep ∧ s.governor.queue = [] ∧
      s.governor.sum - a.rate + up ≤ s.settingNat 2
    let suspends := ∃ f, (s.bay b).facts = some f ∧ f.suspendSupported = true
    let free := (s.bay b).out = none ∧ (s.bay b).susp = none
    let canSuspend := (s.bay b).susp = none ∧
      ((s.bay b).out = none ∨ ∃ o first n data, (s.bay b).out = some o ∧ o.req = .write first n data)
    let c : Instr := .reserveTimerExpiry b
    ((s.bay b).state = .burning →
      s.lead b = some lead ∧
      (lead < s.settingNat 3 → suspends → ¬ canSuspend →
        exec c s = .next { s with
          status := low
          bays := s.bays.set b.val { s.bay b with
            reserveTimer := timer, burn := some { a with stable := 0 } } }) ∧
      (lead < s.settingNat 3 → suspends → canSuspend →
        exec c s = .next { s with
          status := low
          bays := s.bays.set b.val { s.bay b with
            reserveTimer := timer, burn := some { a with stable := 0 }
            requestNumber := (s.bay b).requestNumber + 1
            susp := some { number := (s.bay b).requestNumber + 1, deadline := s.now + 2000 } } }) ∧
      (lead < s.settingNat 4 → ¬ (lead < s.settingNat 3 ∧ suspends) → 0 < a.step → ¬ free →
        exec c s = .next { s with
          status := if lead < s.settingNat 3 then low else s.status
          bays := s.bays.set b.val { s.bay b with
            reserveTimer := timer, burn := some { a with stable := 0 } } }) ∧
      (lead < s.settingNat 4 → ¬ (lead < s.settingNat 3 ∧ suspends) → 0 < a.step → free →
        exec c s = .next { s with
          status := if lead < s.settingNat 3 then low else s.status
          bays := s.bays.set b.val (({ s.bay b with
            reserveTimer := timer, burn := some { a with stable := 0 } }).withRequest (.speed (a.step - 1))
              (s.now + 2000)) }) ∧
      (lead < s.settingNat 4 → ¬ (lead < s.settingNat 3 ∧ suspends) → a.step = 0 →
        exec c s = .next { s with
          status := low
          bays := s.bays.set b.val { s.bay b with
            reserveTimer := timer, burn := some { a with stable := 0 } } }) ∧
      (s.settingNat 4 ≤ lead → lead < s.settingNat 5 →
        exec c s = .next { s with bays := s.bays.set b.val { s.bay b with
          reserveTimer := timer, burn := some { a with stable := 0 } } }) ∧
      (s.settingNat 5 ≤ lead → ¬ steps ∨ ¬ free →
        exec c s = .next { s with bays := s.bays.set b.val { s.bay b with
          reserveTimer := timer, burn := some { a with stable } } }) ∧
      (s.settingNat 5 ≤ lead → steps → free →
        exec c s = .next { s with
          governor := { s.governor with sum := s.governor.sum - a.rate + up }
          bays := s.bays.set b.val (({ s.bay b with
            reserveTimer := timer, burn := some { a with rate := up, stable := 0 } }).withRequest
              (.speed (a.step + 1)) (s.now + 2000)) })) ∧
    ((s.bay b).state = .suspended →
      s.lead b = some lead ∧
      (s.settingNat 5 ≤ lead → free →
        exec c s = .next { s with bays := s.bays.set b.val <|
          (({ s.bay b with reserveTimer := timer }).withRequest .resume (s.now + 2000)) }) ∧
      (lead < s.settingNat 5 ∨ ¬ free →
        exec c s = .next { s with bays := s.bays.set b.val { s.bay b with reserveTimer := timer } }))

/-- A drive that reports that it ran dry in BURNING spoils its disc; in any other state the report is discarded. CLOSE OK makes the disc burned, and GOOD and unloaded without a verify mode, or has it wait for a lane; any other kind rejects it. The unload, also a rejected disc's, is posted alone for an orphan, a bay with offline-after, a run mode other than RUN, no job that fits or a print-first job, and else as a SWAP with the next disc's record and counters. A move asked for that waits is log 9. -/
def Obligations.UnderrunAndCloseEndTheBurn : Prop :=
  (∀ (s : State) (b : BayId) (n : Nat), (s.bay b).state = .burning → (s.bay b).disc = some n →
    ∃ t, exec (.unsolicitedUnderrun b) s = .next t ∧ s.unloadsToReject t b n .underrun ∧
      t.cond .underrun = true ∧ t.status.pending.getLsbD 7 = true) ∧
  (∀ (s : State) (b : BayId), (s.bay b).state ≠ .burning → exec (.unsolicitedUnderrun b) s = .next s) ∧
  (∀ (s : State) (b : BayId) (o : Outstanding) (n : Nat) (d : Disc) (k : JobSlot) (j : Job),
    (s.bay b).state = .closing → (s.bay b).out = some o → o.req = .close → (s.bay b).disc = some n →
    s.disc n = some d → (s.bay b).job = some k → d.job = some k → s.job k = some j →
    (j.verifyMode ≠ .none →
      exec (.closeComplete b o.number .ok) s = .next { s with
        bays := s.bays.set b.val { s.bay b with out := none, timeouts := 0, state := .verifyWait }
        discs := { s.discs with records := s.discs.records.map fun e =>
          if e.number == n then { e with burned := true } else e }
        verify := { s.verify with queue := s.verify.queue ++ [b] } }) ∧
    (j.verifyMode = .none → d.disposition = .pending →
      let prints := j.label.isSome = true ∧ j.printOrder = some .burnFirst
      ∃ t e r, exec (.closeComplete b o.number .ok) s = .next t ∧ t.disc n = some e ∧ e.burned = true ∧
        e.disposition = .good ∧
        (prints ∨ (∀ q ∈ s.trans.queue, q.requester ≠ .bay b) → e.stage = (if prints then d.stage else .toOut)) ∧
        (t.bay b).state = .awaitUnload ∧ (t.bay b).timeouts = 0 ∧
        (t.bay b).dest = some (if prints then .prn else .out) ∧
        s.trans.asked t.trans r ∧ r.disc = n ∧ r.requester = .bay b ∧ r.source = .bay b ∧
        r.dest = (if prints then .prn else .bin .out) ∧
        s.unloadPosted t b n (if prints then .prn else .bin .out)) ∧
    (∀ kind, kind ≠ .ok →
      ∃ t, exec (.closeComplete b o.number kind) s = .next t ∧ s.unloadsToReject t b n .writeError))

/-- The lowest FREE lane takes the bay at the head of the queue and orders READ for chunk 0, and so on while a lane is FREE and a bay waits. A READ completion by its chunk index: a match is counted and the next chunk read, or after the last the disc is verified and GOOD; a repeat only counts; a mismatch under stop FIRST, a sequence error, and a last chunk with any mismatch under stop ALL end the verification with a rejected disc. That a rejected disc's unload waits while the bay has a move in the queue is the model's choice (log 9). -/
def Obligations.LanesReadChunksInOrder : Prop :=
  (∀ (s : State) (b : BayId) (rest : List BayId) (l : LaneId) (n : Nat) (k : JobSlot) (j : Job) (m : ImageId) (i : Image),
    s.verify.queue = b :: rest → rest.length < 12 → s.lane l = none → (∀ x, x < l → s.lane x ≠ none) → (s.bay b).disc = some n →
    (s.bay b).job = some k → s.job k = some j → (s.bay b).imageSlot = some m → s.image m = some i →
    let u : State := { s with
      verify := { s.verify with queue := rest, lanes := s.verify.lanes.set l.val (some
        { bay := b, disc := n, mode := j.verifyMode, stop := j.verifyStop, imageSlot := m,
          chunks := (i.size + 31) / 32, next := 0, mismatches := 0, readOut := true }) }
      bays := s.bays.set b.val (({ s.bay b with state := .verifying }).withRequest (.read 0) (s.now + 6000)) }
    exec .verifyLaneTake s = exec .verifyLaneTake u ∧
    (rest = [] ∨ (∀ x, x ≠ l → s.lane x ≠ none) → exec .verifyLaneTake s = .next u)) ∧
  (∀ s : State, s.verify.queue = [] ∨ (∀ l, s.lane l ≠ none) → exec .verifyLaneTake s = .next s) ∧
  (∀ (s : State) (b : BayId) (o : Outstanding) (q : Nat) (l : LaneId) (y : Lane) (data : List Byte) (i : Image) (d : Disc),
    (s.bay b).state = .verifying → (s.bay b).out = some o → o.req = .read q → s.lane l = some y → y.bay = b →
    (∀ x z, s.lane x = some z → z.bay = b → x = l) → (s.bay b).disc = some y.disc → s.disc y.disc = some d →
    s.image y.imageSlot = some i →
    let length := min 32 (i.size - 32 * y.next)
    let good := data.length = length * 2048 ∧ i.digests.getD y.next none = some (digestOf data) ∧
      (y.mode = .full → data = i.read (32 * y.next) length)
    let verified := if s.verify.chunksVerified < 4294967295 then s.verify.chunksVerified + 1 else 4294967295
    let mismatched := if s.verify.mismatched < 65535 then s.verify.mismatched + 1 else 65535
    let c : CompletionKind → Nat → Instr := fun kind index => .readComplete b o.number kind index data
    (good → y.next + 1 < y.chunks →
      exec (c .ok y.next) s = .next { s with
        verify := { s.verify with
          chunksVerified := verified
          lanes := s.verify.lanes.set l.val (some { y with next := y.next + 1, readOut := true }) }
        bays := s.bays.set b.val (({ s.bay b with out := none }).withRequest (.read (y.next + 1)) (s.now + 6000)) }) ∧
    (good → y.chunks ≤ y.next + 1 → y.mismatches = 0 → d.disposition = .pending → d.burned = true →
      ∃ t e, exec (c .ok y.next) s = .next t ∧ t.verify.chunksVerified = verified ∧ t.lane l = none ∧
        t.disc y.disc = some e ∧ e.verified = true ∧ e.disposition = .good ∧
        (t.bay b).state = .awaitUnload ∧ (t.bay b).out = none ∧
        (∀ dest : Station, (∃ j, s.jobOf d = some j ∧ j.label.isSome = true ∧ j.printOrder = some .burnFirst) ∧ dest = .prn ∨
            (∀ j, s.jobOf d = some j → ¬ (j.label.isSome = true ∧ j.printOrder = some .burnFirst)) ∧ dest = .bin .out →
          s.unloadPosted t b y.disc dest)) ∧
    (good → y.chunks ≤ y.next + 1 → y.mismatches ≠ 0 →
      ∃ t, exec (c .ok y.next) s = .next t ∧ s.unloadsToReject t b y.disc .verifyMismatch ∧
        t.verify.chunksVerified = verified ∧ t.cond .verifyFail = true ∧ t.status.pending.getLsbD 13 = true) ∧
    (1 ≤ y.next → exec (c .ok (y.next - 1)) s = .next { s with verify := { s.verify with
      repeats := if s.verify.repeats < 65535 then s.verify.repeats + 1 else 65535 } }) ∧
    (∀ index, index ≠ y.next → index + 1 ≠ y.next →
      ∃ t, exec (c .ok index) s = .next t ∧ s.unloadsToReject t b y.disc .verifySequence ∧
        t.cond .verifyFail = true ∧ t.status.pending.getLsbD 13 = true) ∧
    (∀ kind, kind ≠ .ok ∨ ¬ good → y.stop = .first ∨ y.chunks ≤ y.next + 1 →
      ∃ t e, exec (c kind y.next) s = .next t ∧ s.unloadsToReject t b y.disc .verifyMismatch ∧
        t.verify.mismatched = mismatched ∧ t.disc y.disc = some e ∧
        e.mismatches = (if d.mismatches < 65535 then d.mismatches + 1 else 65535) ∧ t.cond .verifyFail = true ∧
        t.status.pending.getLsbD 13 = true) ∧
    (∀ kind, kind ≠ .ok ∨ ¬ good → y.stop = .all → y.next + 1 < y.chunks →
      ∃ t, exec (c kind y.next) s = .next t ∧ t.verify.mismatched = mismatched ∧
        t.lane l = some { y with
          next := y.next + 1, mismatches := if y.mismatches < 65535 then y.mismatches + 1 else 65535
          readOut := true } ∧
        t.bay b = ({ s.bay b with out := none }).withRequest (.read (y.next + 1)) (s.now + 6000)))

/-- TRAY OPEN OK at the station of the leg under way makes the tray ready for the arm. TRAY CLOSE OK is the bay's acceptance: the record moves to the bay, IDENTIFY is issued, and the leg is done. A TRAY OPEN that fails is a forced release at the source, its retries left or spent. Either that fails at the destination sends a disc still on the arm on to REJECT, and with none there starts the retake, a step of the hand-over that the model adds (log 8); that a disc not yet reported set is taken for set is its choice (log 46). Moves that waited follow (log 9). -/
def Obligations.TrayCompletionsDriveTheHandOver : Prop :=
  ∀ (s : State) (b : BayId) (o : Outstanding) (older younger : List MoveReq) (r : MoveReq),
    (s.bay b).out = some o → s.granting older r younger →
    let n := s.trans.legDisc r
    let source := s.trans.arm = .granted ∧ s.trans.legSource r = .bay b
    let dest := s.trans.arm = .carrying ∧ s.trans.legDest r = .bay b
    let fails := fun c : Instr => ∃ t, exec c s = .next t ∧ s.goesToReject t older r younger ∧
      (t.bay b).out = none ∧ s.rejectsDisc t n .handling ∧ s.failsAcceptance t b n ∧ t.cond .handling = true
    let retakes := fun c : Instr => ∃ t, exec c s = .next t ∧ t.cond .handling = true ∧
      t.trans = { s.trans with
        moveTimer := none, handover := some .retake, ackTimer := some (s.now + s.settingNat 8) } ∧
      (t.bay b).out = none ∧ s.changesOnly [.bays, .trans, .status] t
    (o.req = .trayOpen →
      (source ∨ dest → exec (.trayOpenComplete b o.number .ok) s = .next { s with
        bays := s.bays.set b.val { s.bay b with out := none }
        trans := { s.trans with handover := some .trayReady } }) ∧
      (∀ kind, kind ≠ .ok →
        (source → r.retries + 1 < s.settingNat 10 →
          ∃ t, exec (.trayOpenComplete b o.number kind) s = .next t ∧ s.forcedFree t older r.again younger ∧
            (t.bay b).out = none ∧ s.changesOnly [.bays, .trans, .status] t) ∧
        (source → s.settingNat 10 ≤ r.retries + 1 →
          ∃ t, exec (.trayOpenComplete b o.number kind) s = .next t ∧ s.spentAtBay t older r younger b) ∧
        (dest → s.sensors.pick = true → fails (.trayOpenComplete b o.number kind)) ∧
        (dest → s.sensors.pick = false → retakes (.trayOpenComplete b o.number kind)))) ∧
    (o.req = .trayClose → dest →
      (∀ d, s.trans.lastLeg r → s.disc n = some d → (∀ q ∈ s.trans.waiting, q.disc ≠ n) →
        ∃ t, exec (.trayCloseComplete b o.number .ok) s = .next t ∧
          t.disc n = some { d with
            location := .bay b, stage := if d.stage = .toOut then .toOut else .inBay } ∧
          t.bay b = ({ s.bay b with
            out := none, state := .ident, handoverFailures := 0, survey := false
            identDeadline := some (s.now + 30000) }).withRequest .identify (s.now + 30000) ∧
          s.trans.leaves t.trans (older ++ younger) ∧
          t.trans = { s.trans.freed with queue := t.trans.queue, waiting := t.trans.waiting } ∧
          t.sensors = { s.sensors with pick := false } ∧
          s.changesOnly [.bays, .discs, .trans, .sensors, .status, .dispatch] t) ∧
      (∀ kind, kind ≠ .ok →
        (s.sensors.pick = true → fails (.trayCloseComplete b o.number kind)) ∧
        (s.sensors.pick = false → retakes (.trayCloseComplete b o.number kind))))

/-- A deadline that expires in the disc's work, an IDENTIFY's also while its retry is waited for, resets the port, counts a timeout and rejects the disc with DRIVE_TIMEOUT, and sends the bay to FAULT at the third in a row; a survey's sends it to FAULT. That of a TRAY request resets the port and fails the hand-over, its retries left or spent, and counts no timeout; the retake of a disc set on the tray is a step that the model adds (log 8), and that one not yet reported set is taken for set is its choice (log 46). That a rejected disc's unload waits while the bay has a move in the queue is the model's choice (log 9). -/
def Obligations.DeadlineExpiryRejectsOrFaults : Prop :=
  (∀ (s : State) (b : BayId) (n : Nat) (suspend : Bool), (s.bay b).disc = some n → (s.bay b).survey = false →
    (suspend = true ∧ (s.bay b).susp ≠ none) ∨
      (suspend = false ∧ ∃ o, (s.bay b).out = some o ∧ o.req ≠ .trayOpen ∧ o.req ≠ .trayClose) ∨
      (suspend = false ∧ (s.bay b).out = none ∧ (s.bay b).state = .ident ∧ (s.bay b).identDeadline ≠ none) →
    ((s.bay b).timeouts < 2 →
      ∃ t, exec (.deadlineExpiry b suspend) s = .next t ∧ s.unloadsToReject t b n .driveTimeout ∧
        (t.bay b).timeouts = (s.bay b).timeouts + 1) ∧
    (2 ≤ (s.bay b).timeouts →
      ∃ t, exec (.deadlineExpiry b suspend) s = .next t ∧ (t.bay b).state = .fault ∧
        (t.bay b).disc = some n ∧ (t.bay b).out = none ∧ (t.bay b).susp = none ∧ (t.bay b).burn = none ∧
        (t.bay b).retryTimer = none ∧ (t.bay b).timeouts = (s.bay b).timeouts + 1 ∧ t.trans = s.trans ∧
        (∀ d, s.disc n = some d → ∃ e, t.disc n = some e ∧ e.stage = d.stage ∧
          e.disposition = d.disposition.rejectedWith .driveTimeout) ∧
        t.cond .bayFault = true ∧ t.status.pending.getLsbD 8 = true)) ∧
  (∀ (s : State) (b : BayId), (s.bay b).survey = true →
    (∃ o, (s.bay b).out = some o ∧ o.req = .identify) ∨
      ((s.bay b).out = none ∧ (s.bay b).state = .ident ∧ (s.bay b).identDeadline ≠ none) →
    ∃ t, exec (.deadlineExpiry b false) s = .next t ∧ (t.bay b).state = .fault ∧
      (t.bay b).disc = (s.bay b).disc ∧ (t.bay b).out = none ∧ (t.bay b).timeouts = (s.bay b).timeouts ∧
      t.cond .bayFault = true ∧ t.status.pending.getLsbD 8 = true ∧ t.trans = s.trans ∧ t.discs = s.discs) ∧
  (∀ (s : State) (b : BayId) (o : Outstanding) (older younger : List MoveReq) (r : MoveReq),
    (s.bay b).out = some o → o.req = .trayOpen ∨ o.req = .trayClose → s.granting older r younger →
    let n := s.trans.legDisc r
    let dest := s.trans.arm = .carrying ∧ s.trans.legDest r = .bay b
    (s.trans.arm = .granted → s.trans.legSource r = .bay b → r.retries + 1 < s.settingNat 10 →
      ∃ t, exec (.deadlineExpiry b false) s = .next t ∧ s.forcedFree t older r.again younger ∧
        t.bay b = { s.bay b with out := none, susp := none } ∧ s.changesOnly [.bays, .trans, .status] t) ∧
    (s.trans.arm = .granted → s.trans.legSource r = .bay b → s.settingNat 10 ≤ r.retries + 1 →
      ∃ t, exec (.deadlineExpiry b false) s = .next t ∧ s.spentAtBay t older r younger b ∧
        (t.bay b).timeouts = (s.bay b).timeouts) ∧
    (dest → s.sensors.pick = false →
      ∃ t, exec (.deadlineExpiry b false) s = .next t ∧ t.cond .handling = true ∧
        t.trans = { s.trans with
          moveTimer := none, handover := some .retake, ackTimer := some (s.now + s.settingNat 8) } ∧
        t.bay b = { s.bay b with out := none, susp := none } ∧ s.changesOnly [.bays, .trans, .status] t) ∧
    (dest → s.sensors.pick = true →
      ∃ t, exec (.deadlineExpiry b false) s = .next t ∧ s.goesToReject t older r younger ∧
        (t.bay b).out = none ∧ (t.bay b).susp = none ∧ s.rejectsDisc t n .handling ∧ s.failsAcceptance t b n ∧ (t.bay b).timeouts = (s.bay b).timeouts ∧
        t.cond .handling = true))

/-- An admission evaluation walks its queue from head to tail. The first bay that some step admits begins its burn at the highest such step, with SPEED to it; bays before it, which no step admits or whose image cannot accept a join, are passed over and keep their places; those after it see the new A. With no bay that can be admitted nothing changes. The walk and the slot's answer are one step by the model's choice (log 32). -/
def Obligations.AdmissionBeginsTheBurn : Prop :=
  (∀ (s : State) (older younger : List AdmEntry) (b : BayId) (k : ImageId) (i : Image) (f : DriveFacts) (step : Nat),
    s.admissionRests → s.governor.queue = older ++ { bay := b, admitting := none } :: younger →
    s.passedOver older → s.admitsAt b k i f step → (∀ higher, step < higher → ¬ s.admitsAt b k i f higher) →
    let rate := f.rates.getD step 0
    let u : State := { s with
      governor := { queue := older ++ younger, sum := s.governor.sum + rate }
      staging := { s.staging with slots := s.staging.slots.set k.val (some { i with consumers := i.consumers ++ [b] }) }
      bays := s.bays.set b.val (({ s.bay b with
        burn := some { step, rate, stable := 0 }, state := .burning, cursor := some 0
        buffer := some 0, reserveTimer := some (s.now + s.settingNat 7) }).withRequest (.speed step) (s.now + 2000)) }
    exec .admissionEvaluation s = exec .admissionEvaluation u ∧
    (u.passedOver younger → exec .admissionEvaluation s = .next u)) ∧
  (∀ s : State, s.admissionRests → s.passedOver s.governor.queue → exec .admissionEvaluation s = .next s)

/-! ## The arm, the door, the spindles and the bins -/

/-- ARM HOME is accepted in UNHOMED and FAULT from the stage HOMING on: the arm descends, or with the door open waits in STOPPED. At the bottom reference the trackers are 0; with nothing on the arm homing ends in IDLE, or an interrupted request is granted again; the disc of a record is REJECT with HANDLING, one that no record names becomes an orphan, and either is carried to REJECT; while the orphan creation must wait, the arm waits. The carriage's drop confirmed retires the disc and ends homing; not confirmed, the disc is lost with HANDLING, and the arm enters FAULT if it still holds it. What the arm was doing is kept by log 18, and an interruption by a fault ends as one by the door (log 40). -/
def Obligations.HomingDescendsClearsAndEnds : Prop :=
  (∀ s : State,
    (s.settings.stage = .starting ∨ s.settings.stage = .inventory →
      exec .armHome s = .next (s.answer 0x70 .busy .none)) ∧
    (s.settings.stage = .homing ∨ s.settings.stage = .ready → s.trans.arm ≠ .unhomed → s.trans.arm ≠ .fault →
      exec .armHome s = .next (s.answer 0x70 .state .none)) ∧
    (s.settings.stage = .homing ∨ s.settings.stage = .ready → s.trans.arm = .unhomed ∨ s.trans.arm = .fault →
      ∃ u : State, exec .armHome s = .next (u.answer 0x70 .ok .none) ∧ s.changesOnly [.trans, .status] u ∧
        u.cond .armFault = false ∧
        (s.sensors.doorOpen = false → u.trans = { s.trans with
          arm := .homing .descent, moveTimer := some (s.now + 12000), ackTimer := none, holdTimer := none }) ∧
        (s.sensors.doorOpen = true → u.trans = { s.trans with
          arm := .stopped, moveTimer := none, ackTimer := none, holdTimer := none, homingPending := true }))) ∧
  (∀ s : State, s.trans.arm = .homing .descent →
    let u : State := { s with trans := { s.trans with pos := some (0, 0) } }
    let carries := fun t : State => t.trans = { u.trans with
      arm := .homing .carry, moveTimer := some (s.now + 12000), ackTimer := none, handover := none }
    (s.sensors.pick = false ∨ ((∃ r ∈ s.trans.queue, r.interrupted = true) ∧ s.trans.resume = some .carrying) →
      ∃ t, exec .bottomReferenceReached s = .next t ∧ u.homingEnds t ∧ s.changesOnly [.trans, .status] t) ∧
    (s.sensors.pick = true → (∀ r ∈ s.trans.queue, r.interrupted = false) ∨ s.trans.resume ≠ some .carrying →
      (∀ before d after, s.discs.records = before ++ d :: after → d.location = .arm →
        (∀ e ∈ before, e.location ≠ .arm) → (∀ e ∈ before ++ after, e.number ≠ d.number) →
        ∃ t, exec .bottomReferenceReached s = .next t ∧ carries t ∧
          t.discs = { s.discs with records := before ++
            { d with disposition := d.disposition.rejectedWith .handling, stage := .toOut } :: after } ∧
          s.changesOnly [.trans, .discs, .status] t) ∧
      ((∀ d ∈ s.discs.records, d.location ≠ .arm) →
        (s.discs.orphanWait = [] → s.discs.records.length < 16 → s.discs.taken s.discs.counter = false →
          ∃ t, exec .bottomReferenceReached s = .next t ∧ carries t ∧
            t.discs.records = s.discs.records ++ [Disc.orphan s.discs.counter .arm] ∧
            s.changesOnly [.trans, .discs, .status] t) ∧
        (s.discs.orphanWait ≠ [] ∨ 16 ≤ s.discs.records.length →
          ∃ t, exec .bottomReferenceReached s = .next t ∧
            t.trans = { u.trans with arm := .homing .awaitRecord, moveTimer := none } ∧
            t.discs = { s.discs with
              orphanWait := if .arm ∈ s.discs.orphanWait then s.discs.orphanWait else s.discs.orphanWait ++ [.arm] } ∧
            s.changesOnly [.trans, .discs, .status] t)))) ∧
  (∀ (s : State) (before after : List Disc) (d : Disc), s.trans.arm = .homing .carry → s.trans.ackTimer ≠ none →
    s.discs.records = before ++ d :: after → d.location = .arm → (∀ e ∈ before, e.location ≠ .arm) →
    (∀ e ∈ before ++ after, e.number ≠ d.number) →
    let parts : List Part := [.discs, .jobs, .status, .sensors, .trans, .dispatch]
    (s.trans.handover = some .arrived →
      ∃ t, exec .dropConfirmed s = .next t ∧
        s.retires t before d after (if d.disposition.isReject then d.disposition else .reject .handling) ∧
        s.homingEnds t ∧ t.sensors = { s.sensors with pick := false } ∧ s.changesOnly parts t) ∧
    (∃ t, exec (.ackTimerExpiry false) s = .next t ∧
      s.retires t before d after (d.disposition.rejectedWith .handling) ∧ s.homingEnds t ∧
      t.sensors = { s.sensors with pick := false } ∧ t.cond .handling = true ∧ s.changesOnly parts t) ∧
    ((∀ r ∈ s.trans.queue, r.granted = false) →
      ∃ t, exec (.ackTimerExpiry true) s = .next t ∧
        s.retires t before d after (d.disposition.rejectedWith .handling) ∧
        t.trans.arm = .fault ∧ t.trans.faultCause = some .handling ∧ t.trans.queue = s.trans.queue ∧
        t.trans.moveTimer = none ∧ t.trans.ackTimer = none ∧ t.trans.holdTimer = none ∧
        t.sensors = { s.sensors with pick := true } ∧ t.cond .handling = true ∧ t.cond .armFault = true ∧
        t.status.pending.getLsbD 9 = true))

/-- A grant evaluation with the arm IDLE and the door closed grants the oldest eligible request of the lowest class that has one, and the arm departs; with the door open, the arm not IDLE, or no request eligible, nothing changes. -/
def Obligations.GrantGoesToTheOldestOfTheLowestClass : Prop :=
  ∀ s : State,
    let eligible : MoveReq → Prop := fun r => r.granted = false ∧ r.interrupted = false ∧
      (match r.dest with
        | .bay b => (s.bay b).state = .awaitDisc ∧ (s.bay b).disc = some r.disc
        | .prn => (∃ p, s.printer = some p ∧ p.state = .idle ∧ p.trayDisc = none) ∧ s.sensors.tray = false
        | .bin .out => s.sensors.outFull = false
        | .bin .reject => s.sensors.rejectFull = false
        | .spindle _ | .arm => False) ∧
      (∀ i, r.source = .spindle i → s.spindle i = .ready)
    (∀ (older younger : List MoveReq) (r : MoveReq), s.trans.arm = .idle → s.sensors.doorOpen = false →
      s.trans.queue = older ++ r :: younger → eligible r → r ∉ older → r ∉ younger →
      (∀ q ∈ older, eligible q → classOf r.source < classOf q.source) →
      (∀ q ∈ younger, eligible q → classOf r.source ≤ classOf q.source) →
      ∃ t, exec .grantEvaluation s = .next t ∧ s.changesOnly [.trans, .status] t ∧
        t.trans = { s.trans with
          arm := .granted, leg := .first, moveTimer := some (s.now + 12000), ackTimer := none, handover := none
          queue := older ++ { r with granted := true } :: younger } ∧
        t.status.pending = s.status.pending) ∧
    (s.trans.arm ≠ .idle ∨ s.sensors.doorOpen = true ∨ (∀ r ∈ s.trans.queue, ¬ eligible r) →
      exec .grantEvaluation s = .next s)

/-- An arrival starts the hand-over of the leg under way: at a bay TRAY OPEN is issued; at a spindle that holds discs, over a bin and over PRN the acknowledgement runs; at a spindle found empty the pick has failed, its record is deleted and uncounted, and a spindle whose sensor change was taken before raises nothing again (log 45); the printer releases its tray or the release is forced, its retries left or spent. A hand-over interrupted before goes on at its step (log 40). The move timer's expiry is a fault of the arm: with a disc on it the record is REJECT with HANDLING, the bay that awaited it is told, and its request leaves the queue, a SWAP's second leg as a LOAD; with none the granted request is the interrupted one, and what the arm was doing is kept (log 40). What a sensor shows comes with the event (log 7); an arrival or an expiry with no move timer running changes nothing (log 4); moves that waited follow (log 9). -/
def Obligations.ArrivalStartsTheHandOver : Prop :=
  (∀ (s : State) (older younger : List MoveReq) (r : MoveReq), s.trans.moveTimer ≠ none → s.granting older r younger →
    let ack := some (s.now + s.settingNat 8)
    let n := s.trans.legDisc r
    (∀ (b : BayId) (seen : Bool),
      (s.trans.arm = .granted ∧ s.trans.legSource r = .bay b) ∨
        (s.trans.arm = .carrying ∧ s.trans.legDest r = .bay b ∧
          (s.trans.handover = none ∨ s.trans.handover = some .arrived)) →
      exec (.arrival seen) s = .next { s with
        trans := { s.trans with moveTimer := none, handover := some .arrived, ackTimer := ack }
        bays := s.bays.set b.val ((s.bay b).withRequest .trayOpen (s.now + 8000)) }) ∧
    (∀ i, s.trans.arm = .granted → s.trans.legSource r = .spindle i →
      exec (.arrival true) s = .next { s with
        trans := { s.trans with moveTimer := none, handover := some .arrived, ackTimer := ack }
        sensors := match i with
          | .a => { s.sensors with emptyA := false }
          | .b => { s.sensors with emptyB := false } }) ∧
    (∀ (i : SpindleId) (b : BayId) (d : Disc) (k : JobSlot) (j : Job), s.trans.arm = .granted →
      s.trans.legSource r = .spindle i → s.trans.legBay r = some b → s.disc n = some d →
      d.job = some k → s.job k = some j →
      ∃ t, exec (.arrival false) s = .next t ∧ t.disc n = none ∧ t.spindle i = .empty ∧
        (s.spindle i ≠ .empty → t.cond .spindleEmpty = true ∧ t.status.pending.getLsbD 11 = true) ∧
        (s.spindle i = .empty → t.status.pending.getLsbD 11 = s.status.pending.getLsbD 11) ∧
        t.job k = some { j with
          started := j.started - 1, inFlight := j.inFlight - 1
          state := if j.state = .active ∨ j.state = .filled then
              (if j.good + (j.inFlight - 1) = j.copies then .filled else .active)
            else if j.state = .cancelling ∧ j.inFlight - 1 = 0 then .cancelled else j.state } ∧
        (j.state = .cancelling → j.inFlight - 1 = 0 → t.status.pending.getLsbD 1 = true) ∧
        s.stopsAwaiting t b n ∧ s.trans.leaves t.trans (older ++ younger) ∧ t.trans.arm = .idle ∧
        t.trans.forcedReleases = s.trans.forcedReleases) ∧
    (∀ (p : Printer) (seen : Bool), s.trans.arm = .granted → s.trans.legSource r = .prn → s.printer = some p →
      let gives := (p.state = .awaitRemove ∨ p.state = .fault) ∧ p.trayDisc ≠ none ∧ seen = true
      (gives → exec (.arrival seen) s = .next { s with
        trans := { s.trans with moveTimer := none, handover := some .trayReady, ackTimer := ack }
        sensors := { s.sensors with tray := seen }, printer := some { p with clampOpen := true } }) ∧
      (¬ gives → r.retries + 1 < s.settingNat 10 →
        ∃ t, exec (.arrival seen) s = .next t ∧ s.forcedFree t older r.again younger ∧
          t.sensors = { s.sensors with tray := seen } ∧ t.printer = some { p with clampOpen := false } ∧
          s.changesOnly [.trans, .sensors, .printer, .status] t) ∧
      (¬ gives → s.settingNat 10 ≤ r.retries + 1 →
        ∃ t, exec (.arrival seen) s = .next t ∧ s.spentAtPrn t older r younger p ∧
          t.sensors = { s.sensors with tray := seen })) ∧
    (∀ seen : Bool, s.trans.arm = .carrying →
      (s.trans.legDest r = .prn ∨ (∃ k, s.trans.legDest r = .bin k) →
          s.trans.handover = none ∨ s.trans.handover = some .arrived →
        exec (.arrival seen) s = .next { s with
          trans := { s.trans with moveTimer := none, handover := some .arrived, ackTimer := ack } }) ∧
      (∀ step, s.trans.handover = some step → step ≠ .arrived →
        (∀ b, s.trans.legDest r = .bay b → step = .discMoved →
          exec (.arrival seen) s = .next { s with
            trans := { s.trans with moveTimer := none, ackTimer := ack }
            bays := s.bays.set b.val ((s.bay b).withRequest .trayClose (s.now + 8000)) }) ∧
        (s.trans.legDest r = .prn ∨ (∃ b, s.trans.legDest r = .bay b ∧ step ≠ .discMoved) ∨
            (∃ k, s.trans.legDest r = .bin k) →
          exec (.arrival seen) s = .next { s with
            trans := { s.trans with moveTimer := none, ackTimer := ack } })))) ∧
  (∀ (s : State) (seen : Bool), s.trans.moveTimer ≠ none → s.trans.arm = .homing .carry →
    exec (.arrival seen) s = .next { s with trans := { s.trans with
      moveTimer := none, handover := some .arrived, ackTimer := some (s.now + s.settingNat 8) } }) ∧
  (∀ (s : State) (seen : Bool), s.trans.moveTimer = none → exec (.arrival seen) s = .next s) ∧
  (∀ s : State, s.trans.moveTimer ≠ none → (∀ q ∈ s.trans.waiting, q.granted = false) →
    ∃ t, exec .moveTimerExpiry s = .next t ∧ s.faulted t .moveTimeout ∧
      s.changesOnly [.trans, .discs, .bays, .printer, .status, .dispatch] t) ∧
  (∀ s : State, s.trans.moveTimer = none → exec .moveTimerExpiry s = .next s)

/-- A confirmed pick: disc held, the record on the arm, the arm departs for the leg's destination. A bay is left EMPTY or OFFLINE, or under a SWAP in AWAIT_DISC for the second leg's disc; the printer's tray is empty, its sensor and clamp with it (log 26); two discs at a spindle, a reading that comes with the event (log 7), make the record REJECT with DOUBLE_PICK and its destination REJECT. A disc of a CANCELLING job whose leg leads to a bay, or to PRN while it is not GOOD, is sent to REJECT from whichever station it was taken, CANCELLED if it was PENDING; one whose leg leads to OUT or REJECT, or to PRN while it is GOOD, goes on as any other. A retake confirmed is carried to REJECT. -/
def Obligations.PickConfirmedCarriesTheDisc : Prop :=
  ∀ (s : State) (older younger : List MoveReq) (r : MoveReq) (d : Disc), s.granting older r younger →
    let n := s.trans.legDisc r
    s.disc n = some d →
    let cancelled := (∃ j, s.jobOf d = some j ∧ j.state = .cancelling) ∧
      ((∃ b, s.trans.legDest r = .bay b) ∨ (s.trans.legDest r = .prn ∧ d.disposition ≠ .good))
    let goesOn := s.trans.arm = .granted ∧ ¬ cancelled
    let turns := s.trans.arm = .granted ∧ cancelled
    let onArm := fun t : State =>
      t.disc n = some { d with
        location := .arm
        stage := if (s.trans.legDest r).isBin = true ∨ d.stage = .toOut then .toOut else .onArm } ∧
      t.trans = { s.trans with
        arm := .carrying, moveTimer := some (s.now + 12000), ackTimer := none, handover := none }
    let turned := fun (t : State) (disposition : Disposition) =>
      t.disc n = some { d with location := .arm, stage := .toOut, disposition } ∧ t.trans.arm = .carrying ∧
        s.goesToReject { t with trans.arm := s.trans.arm } older r younger
    let cancelReason : Disposition := if d.disposition = .pending then .reject .cancelled else d.disposition
    let told := fun t : State => s.tellsAwaiting t r n
    let bayLeft := fun (t : State) (b : BayId) =>
      (r.second = none → (t.bay b).state = (if (s.bay b).offlineAfter then .offline else .empty) ∧
        (t.bay b).disc = none ∧ (t.bay b).job = none ∧ (t.bay b).imageSlot = none) ∧
      (∀ l, r.second = some l → (t.bay b).state = .awaitDisc ∧ (t.bay b).disc = some l.disc) ∧
      (t.bay b).facts = none ∧ (t.bay b).cursor = none ∧ (t.bay b).buffer = none ∧ (t.bay b).dest = none ∧
      (∀ m, m ≠ b → t.bay m = s.bay m)
    let trayLeft := fun (t : State) (p : Printer) => t.printer = some { p with
      trayDisc := none, trayMove := false, clampOpen := false
      state := if p.state = .awaitRemove then .idle else p.state }
    (∀ (b : BayId) (two : Bool), s.trans.legSource r = .bay b → s.trans.handover = some .trayReady →
      (goesOn → ∃ t, exec (.pickConfirmed two) s = .next t ∧ onArm t ∧ bayLeft t b ∧
        t.sensors = { s.sensors with pick := true } ∧
        s.changesOnly [.sensors, .discs, .bays, .trans, .status, .dispatch] t) ∧
      (turns → s.trans.legDest r = .prn → r.kind ≠ .printIn →
        ∃ t, exec (.pickConfirmed two) s = .next t ∧ turned t cancelReason ∧ bayLeft t b ∧
          t.sensors = { s.sensors with pick := true } ∧
          s.changesOnly [.sensors, .discs, .bays, .trans, .status, .dispatch] t)) ∧
    (∀ (p : Printer) (two : Bool), s.trans.legSource r = .prn → s.trans.handover = some .trayReady →
      s.printer = some p →
      (goesOn → ∃ t, exec (.pickConfirmed two) s = .next t ∧ onArm t ∧ trayLeft t p ∧
        t.sensors = { s.sensors with pick := true, tray := false } ∧
        s.changesOnly [.sensors, .discs, .printer, .trans, .status, .dispatch] t) ∧
      (turns → ∃ t, exec (.pickConfirmed two) s = .next t ∧ turned t cancelReason ∧ told t ∧ trayLeft t p ∧
        t.sensors = { s.sensors with pick := true, tray := false } ∧
        s.changesOnly [.sensors, .discs, .bays, .printer, .trans, .status, .dispatch] t)) ∧
    (∀ i, s.trans.legSource r = .spindle i → s.trans.handover = some .arrived →
      (goesOn → ∃ t, exec (.pickConfirmed false) s = .next t ∧ onArm t ∧ t.sensors = { s.sensors with pick := true } ∧
        s.changesOnly [.sensors, .discs, .trans, .status] t) ∧
      (turns → ∃ t, exec (.pickConfirmed false) s = .next t ∧ turned t cancelReason ∧ told t ∧
        t.sensors = { s.sensors with pick := true } ∧
        s.changesOnly [.sensors, .discs, .bays, .trans, .status, .dispatch] t) ∧
      (s.trans.arm = .granted → ∃ t, exec (.pickConfirmed true) s = .next t ∧
        turned t (d.disposition.rejectedWith .doublePick) ∧ t.cond .handling = true ∧
        (∀ b, s.trans.legBay r = some b → s.stopsAwaiting t b n) ∧ t.sensors = { s.sensors with pick := true } ∧
        s.changesOnly [.sensors, .discs, .bays, .trans, .status, .dispatch] t)) ∧
    (s.trans.arm = .carrying → s.trans.handover = some .retake → s.trans.ackTimer ≠ none → ∀ two : Bool,
      (∀ k, s.trans.legDest r = .bin k →
        exec (.pickConfirmed two) s = .next { s with
          sensors := { s.sensors with pick := true }
          trans := { s.trans with moveTimer := some (s.now + 12000), ackTimer := none, handover := none } }) ∧
      (s.trans.legDest r = .prn ∨ (∃ b, s.trans.legDest r = .bay b) →
        ∃ t, exec (.pickConfirmed two) s = .next t ∧ t.sensors = { s.sensors with pick := true } ∧
          s.goesToReject t older r younger ∧ s.rejectsDisc t n .handling ∧
          (∀ b, s.trans.legDest r = .bay b → s.failsAcceptance t b n) ∧
          (∀ b, s.trans.legDest r = .prn → r.kind = .printIn → r.requester = .bay b → s.stopsAwaiting t b n)))

/-- The acceptances: the disc set at a bay has TRAY CLOSE issued; the tray sensor at PRN moves the record to PRN and begins its print, or, the printer in FAULT or no label to print, rejects it with PRINT_FAULT; a drop retires the record, counts it for its job, an orphan for none, enters it in the completion list and raises DISC_DONE; the other records stay, and the last record freed ends a drain, unless an orphan creation waits for it. A SWAP's first leg ends in the hold, any other leg in IDLE. That DISC_SET acts at PRN too is the model's choice (log 7), and so is that moves asked for wait their turn (log 9). -/
def Obligations.DestinationsAcceptTheDisc : Prop :=
  ∀ (s : State) (older younger : List MoveReq) (r : MoveReq) (d : Disc), s.granting older r younger →
    let n := s.trans.legDisc r
    s.trans.arm = .carrying → s.disc n = some d →
    (∀ b, s.trans.legDest r = .bay b → s.trans.handover = some .trayReady →
      exec .discSet s = .next { s with
        sensors := { s.sensors with pick := false }
        trans := { s.trans with handover := some .discMoved }
        bays := s.bays.set b.val ((s.bay b).withRequest .trayClose (s.now + 8000)) }) ∧
    (s.trans.legDest r = .prn → s.trans.handover = some .arrived →
      exec .discSet s = .next { s with
        sensors := { s.sensors with pick := false }, trans := { s.trans with handover := some .discMoved } }) ∧
    (∀ p : Printer, s.trans.legDest r = .prn →
      s.trans.handover = some .arrived ∨ s.trans.handover = some .discMoved → s.trans.ackTimer ≠ none →
      s.printer = some p → (∀ q ∈ s.trans.waiting, q.disc ≠ n) →
      let moved := { d with location := .prn, stage := if d.stage = .toOut then .toOut else .inPrinter }
      (∀ (k : JobSlot) (j : Job) (l : LabelId) (m : Label), p.state = .idle → d.job = some k → s.job k = some j →
        j.label = some l → s.label l = some m → headTemp s.sensors ≠ none →
        ∃ t q, exec .prnTrayConfirmed s = .next t ∧ t.disc n = some moved ∧
          t.sensors = { s.sensors with pick := false, tray := true } ∧ s.legEnds t older r younger ∧
          t.printer = some q ∧ q.trayDisc = some n ∧
          (65 ≤ s.sensors.headReading → q.state = .cooling) ∧
          (s.sensors.headReading < 65 → q.state = .printing ∧
            ∃ x, q.print = some x ∧ x.label = l ∧ x.band = 0 ∧ x.line = 0 ∧
              x.period = some (128 * s.settingNat 12))) ∧
      (p.state = .fault ∨ (p.state = .idle ∧ ∀ j, s.jobOf d = some j → j.label = none) →
        ∃ t e v, exec .prnTrayConfirmed s = .next t ∧ t.disc n = some e ∧ e.location = .prn ∧
          e.disposition = d.disposition.rejectedWith .printFault ∧
          t.printer = some { p with trayDisc := some n, state := .fault, print := none, trayMove := true } ∧
          t.sensors = { s.sensors with pick := false, tray := true } ∧
          (s.trans.lastLeg r → t.trans.arm = .idle ∧ s.trans.leaves v (older ++ younger)) ∧
          (¬ s.trans.lastLeg r → t.trans.arm = .held ∧ v = s.trans ∧ t.trans.handover = none ∧
            t.trans.ackTimer = none ∧ t.trans.holdTimer = some (s.now + s.settingNat 9)) ∧
          v.asked t.trans (MoveReq.posted .printOut .printer .prn (.bin .reject) n none) ∧
          ((∀ q ∈ v.queue, q.requester ≠ .printer) → e.stage = .toOut) ∧
          (p.state = .idle → t.cond .printerFault = true ∧ t.status.pending.getLsbD 12 = true) ∧
          (∀ j b, s.jobOf d = some j → j.label.isSome = true → j.printOrder = some .printFirst →
            d.target = some b → s.stopsAwaiting t b n))) ∧
    (∀ (bin : BinId) (before after : List Disc), s.trans.legDest r = .bin bin → s.trans.handover = some .arrived →
      s.trans.ackTimer ≠ none → s.discs.records = before ++ d :: after → (∀ e ∈ before ++ after, e.number ≠ n) →
      let breach := (bin = .out ∧ d.disposition ≠ .good) ∨ (bin = .reject ∧ d.disposition.isReject = false)
      ∃ t, exec .dropConfirmed s = .next t ∧
        s.retires t before d after (if breach then .reject .handling else d.disposition) ∧
        (breach → t.cond .handling = true) ∧ t.sensors = { s.sensors with pick := false } ∧
        s.legEnds t older r younger ∧ s.changesOnly [.discs, .jobs, .status, .sensors, .trans, .dispatch] t)

/-- The acknowledgement timer's expiry: at the source, a spindle, a bay or PRN, under a SWAP's first leg too, a forced release with one more retry at the tail, a second leg as a LOAD, or, the retries spent (a second leg's at once where the setting is 1), the spindle JAMMED and the record deleted, the bay or the printer in FAULT with its disc REJECT; a hand-over given up resets the bay's port if a TRAY request is outstanding there, and closes the printer's clamp; at a bay or PRN, or over OUT, a disc still held is carried on to REJECT, one not held is retaken or lost, reported set or not (log 46); over REJECT a disc still held is retired and stops the arm with HANDLING, a SWAP's second leg as a LOAD. A lost disc is retired and its leg is over; the other records stay. The pick sensor's reading comes with the expiry (log 7); moves that waited follow (log 9). -/
def Obligations.AcknowledgementTimeoutFailsTheHandOver : Prop :=
  (∀ (s : State) (older younger : List MoveReq) (r : MoveReq) (d : Disc) (held : Bool),
    s.granting older r younger → s.trans.ackTimer ≠ none →
    let n := s.trans.legDisc r
    s.disc n = some d →
    let tray := fun o : Outstanding => o.req = .trayOpen ∨ o.req = .trayClose
    let tries := match s.trans.secondOf r with
      | none => r.retries + 1
      | some _ => 1
    (s.trans.arm = .granted → s.trans.secondOf r = none → r.retries + 1 < s.settingNat 10 →
      (∀ i, r.source = .spindle i →
        ∃ t, exec (.ackTimerExpiry held) s = .next t ∧ s.forcedFree t older r.again younger ∧
          s.changesOnly [.trans, .status] t) ∧
      (∀ b, r.source = .bay b →
        ∃ t, exec (.ackTimerExpiry held) s = .next t ∧ s.forcedFree t older r.again younger ∧
          (∀ o, (s.bay b).out = some o → tray o → t.bay b = { s.bay b with out := none, susp := none }) ∧
          ((∀ o, (s.bay b).out = some o → ¬ tray o) → t.bay b = s.bay b) ∧ (∀ m, m ≠ b → t.bay m = s.bay m) ∧
          s.changesOnly [.bays, .trans, .status] t) ∧
      (∀ p, r.source = .prn → s.printer = some p →
        ∃ t, exec (.ackTimerExpiry held) s = .next t ∧ s.forcedFree t older r.again younger ∧
          t.printer = some { p with clampOpen := false } ∧ s.changesOnly [.printer, .trans, .status] t)) ∧
    (∀ (i : SpindleId) (b : BayId) (k : JobSlot) (j : Job), s.trans.arm = .granted → s.settingNat 10 ≤ tries →
      s.trans.legSource r = .spindle i → s.spindle i ≠ .jammed → s.trans.legBay r = some b → d.job = some k →
      s.job k = some j →
      ∃ t, exec (.ackTimerExpiry held) s = .next t ∧ s.spentRelease t older younger ∧ t.spindle i = .jammed ∧
        t.cond .spindleEmpty = true ∧ t.status.pending.getLsbD 11 = true ∧ t.disc n = none ∧
        s.stopsAwaiting t b n ∧
        (∃ x, t.job k = some x ∧ x.started = j.started - 1 ∧ x.inFlight = j.inFlight - 1)) ∧
    (∀ p : Printer, s.trans.arm = .granted → s.settingNat 10 ≤ r.retries + 1 → s.trans.legSource r = .prn →
      s.printer = some p → ∃ t, exec (.ackTimerExpiry held) s = .next t ∧ s.spentAtPrn t older r younger p) ∧
    (∀ b : BayId, s.trans.arm = .granted → s.settingNat 10 ≤ r.retries + 1 → s.trans.legSource r = .bay b →
      ∃ t, exec (.ackTimerExpiry held) s = .next t ∧ s.spentAtBay t older r younger b) ∧
    (∀ l : SecondLeg, s.trans.arm = .granted → s.trans.leg = .second → r.second = some l →
      r.requester = .bay l.bay → 1 < s.settingNat 10 →
      ∃ t, exec (.ackTimerExpiry held) s = .next t ∧ s.changesOnly [.trans, .status, .dispatch] t ∧
        s.forcedFree t older
          { MoveReq.posted .load (.bay l.bay) (.spindle l.spindle) (.bay l.bay) l.disc none with retries := 1 }
          younger) ∧
    (s.trans.arm = .carrying → s.trans.handover ≠ some .retake →
      (s.trans.legDest r = .prn ∨ (∃ b, s.trans.legDest r = .bay b) ∨ s.trans.legDest r = .bin .out →
        ∃ t, exec (.ackTimerExpiry true) s = .next t ∧ s.goesToReject t older r younger ∧
          s.rejectsDisc t n .handling ∧ t.sensors = { s.sensors with pick := true } ∧ t.cond .handling = true ∧
          (∀ b, s.trans.legDest r = .bay b → s.failsAcceptance t b n) ∧
          (∀ b o, s.trans.legDest r = .bay b → (s.bay b).out = some o → tray o → (t.bay b).out = none) ∧
          (∀ p, s.trans.legDest r = .prn → s.printer = some p → t.printer = some { p with clampOpen := false }) ∧
          (∀ b, s.trans.legDest r = .prn → r.kind = .printIn → r.requester = .bay b → s.stopsAwaiting t b n)) ∧
      (s.trans.legDest r = .prn ∨ (∃ b, s.trans.legDest r = .bay b) →
        ∃ t, exec (.ackTimerExpiry false) s = .next t ∧ t.discs = s.discs ∧ t.cond .handling = true ∧
          t.trans = { s.trans with
            moveTimer := none, handover := some .retake, ackTimer := some (s.now + s.settingNat 8) } ∧
          t.sensors = { s.sensors with pick := false } ∧
          (∀ b o, s.trans.legDest r = .bay b → (s.bay b).out = some o → tray o → (t.bay b).out = none) ∧
          (∀ p, s.trans.legDest r = .prn → s.printer = some p → t.printer = some { p with clampOpen := false })) ∧
      (∀ before after : List Disc, s.trans.legDest r = .bin .reject → s.discs.records = before ++ d :: after →
        (∀ e ∈ before ++ after, e.number ≠ n) →
        (∀ q ∈ s.trans.waiting, q.granted = false ∧ q.interrupted = false) →
        ∃ t, exec (.ackTimerExpiry true) s = .next t ∧
          s.retires t before d after (d.disposition.rejectedWith .handling) ∧
          (s.trans.lastLeg r → s.trans.leaves t.trans (older ++ younger)) ∧
          (∀ l, s.trans.leg = .first → r.second = some l → r.requester = .bay l.bay →
            s.trans.leaves t.trans (older ++ younger ++
              [MoveReq.posted .load (.bay l.bay) (.spindle l.spindle) (.bay l.bay) l.disc none])) ∧
          t.trans.arm = .fault ∧ t.trans.faultCause = some .handling ∧ t.trans.moveTimer = none ∧
          t.trans.ackTimer = none ∧ t.trans.holdTimer = none ∧ t.sensors = { s.sensors with pick := true } ∧
          t.cond .handling = true ∧ t.cond .armFault = true ∧ t.status.pending.getLsbD 9 = true)) ∧
    (∀ before after : List Disc, s.trans.arm = .carrying →
      s.trans.handover = some .retake ∨ (∃ k, s.trans.legDest r = .bin k) →
      s.discs.records = before ++ d :: after → (∀ e ∈ before ++ after, e.number ≠ n) →
      ∃ t, exec (.ackTimerExpiry false) s = .next t ∧
        s.retires t before d after (d.disposition.rejectedWith .handling) ∧ s.legEnds t older r younger ∧
        t.sensors = { s.sensors with pick := false } ∧ t.cond .handling = true ∧
        (∀ b, s.trans.legDest r = .bay b → s.failsAcceptance t b n) ∧
        (∀ b, s.trans.legDest r = .prn → r.kind = .printIn → r.requester = .bay b → s.stopsAwaiting t b n))) ∧
  (∀ (s : State) (held : Bool), s.trans.ackTimer = none → exec (.ackTimerExpiry held) s = .next s)

/-- The hold of a SWAP: with its spindle READY the second leg starts; at the hold timer's expiry without it, the SWAP leaves the queue, wherever it stands there, its second leg becomes a LOAD at the tail with retry count 0, and the arm is IDLE. Moves that waited follow (log 9). -/
def Obligations.HoldEndsInTheSecondLegOrALoad : Prop :=
  ∀ (s : State) (older younger : List MoveReq) (r : MoveReq) (l : SecondLeg), s.trans.arm = .held →
    s.granting older r younger → r.second = some l →
    (s.spindle l.spindle = .ready →
      ∃ t, exec .swapSecondLegStart s = .next t ∧ s.changesOnly [.trans, .status] t ∧
        t.trans = { s.trans with
          arm := .granted, leg := .second, holdTimer := none, moveTimer := some (s.now + 12000)
          ackTimer := none, handover := none } ∧
        t.trans.classOfReq r = 3 ∧ t.status.pending = s.status.pending) ∧
    (s.spindle l.spindle ≠ .ready → exec .swapSecondLegStart s = .next s) ∧
    (s.spindle l.spindle ≠ .ready → s.trans.holdTimer ≠ none → r.requester = .bay l.bay →
      ∃ t, exec .holdTimerExpiry s = .next t ∧ s.changesOnly [.trans, .discs, .status, .dispatch] t ∧
        s.trans.leaves t.trans (older ++ younger ++
          [{ kind := .load, requester := .bay l.bay, source := .spindle l.spindle, dest := .bay l.bay,
             disc := l.disc, second := none, retries := 0, granted := false, interrupted := false }]) ∧
        t.trans = { s.trans.freed with queue := t.trans.queue, waiting := t.trans.waiting } ∧
        t.status.pending = s.status.pending)

/-- A change of the strip code, whose step count comes with the event, moves both trackers (log 7); one that breaks either test is a position fault of the arm, which makes of its grant what any fault does (log 40). While the trackers are not set, and in the descent, no check is made (log 21). That a change in STOPPED is checked against the trackers of an earlier homing when a later one's descent was cut short is the model's choice (log 47). -/
def Obligations.StripCodeChangeIsChecked : Prop :=
  (∀ (s : State) (steps code s0 q0 : Nat), s.trans.pos = some (s0, q0) → s.trans.arm ≠ .homing .descent →
    let good := (code = q0 + 1 ∨ q0 = code + 1) ∧ steps / 4 ≤ code + 1 ∧ code ≤ steps / 4 + 1
    (good → exec (.stripCodeChange steps code) s =
      .next { s with trans := { s.trans with pos := some (steps, code) } }) ∧
    (¬ good → s.trans.arm ≠ .fault → (∀ q ∈ s.trans.waiting, q.granted = false) →
      let u : State := { s with trans := { s.trans with pos := some (steps, code) } }
      ∃ t, exec (.stripCodeChange steps code) s = .next t ∧ u.faulted t .position ∧
        t.trans.pos = some (steps, code) ∧
        s.changesOnly [.trans, .discs, .bays, .printer, .status, .dispatch] t)) ∧
  (∀ (s : State) (steps code : Nat), s.trans.pos = none ∨ s.trans.arm = .homing .descent →
    exec (.stripCodeChange steps code) s = .next s)

/-- The door: each change raises DOOR and sets its condition; an opening stops the arm, makes the granted request the interrupted one, and gives up a hand-over in progress, the bay's port reset or the printer's clamp closed; a closing frees jammed spindles and sends a STOPPED arm to homing. Spindles and bins follow their sensors, a JAMMED spindle stays so. An event that repeats the door's present level changes nothing, by the model's choice (log 4). -/
def Obligations.DoorSpindlesAndBinsFollowTheirSensors : Prop :=
  (∀ (s : State), s.sensors.doorOpen = false →
    ∃ t, exec .doorOpen s = .next t ∧ t.sensors = { s.sensors with doorOpen := true } ∧
      t.cond .doorOpen = true ∧ t.status.pending.getLsbD 10 = true ∧
      (s.trans.arm = .unhomed ∨ s.trans.arm = .fault ∨ s.trans.arm = .stopped → t.trans = s.trans) ∧
      (s.trans.arm ≠ .unhomed → s.trans.arm ≠ .fault → s.trans.arm ≠ .stopped →
        t.trans.arm = .stopped ∧ t.trans.moveTimer = none ∧ t.trans.ackTimer = none ∧ t.trans.holdTimer = none) ∧
      (s.trans.arm = .granted ∨ s.trans.arm = .carrying ∨ s.trans.arm = .held →
        t.trans.queue = s.trans.queue.map (fun r =>
          if r.granted || r.interrupted then { r with granted := false, interrupted := true } else r) ∧
        t.trans.leg = s.trans.leg ∧ t.trans.handover = s.trans.handover) ∧
      (∀ older r younger, s.granting older r younger → s.trans.handover ≠ none → ∀ at_ : Station,
        (s.trans.arm = .granted ∧ s.trans.legSource r = at_) ∨ (s.trans.arm = .carrying ∧ s.trans.legDest r = at_) →
        (∀ b o, at_ = .bay b → (s.bay b).out = some o → o.req = .trayOpen ∨ o.req = .trayClose →
          t.bay b = { s.bay b with out := none, susp := none }) ∧
        (∀ p, at_ = .prn → s.printer = some p → t.printer = some { p with clampOpen := false })) ∧
      (∀ m, s.trans.arm = .homing m → t.trans.homingPending = true)) ∧
  (∀ s : State, s.sensors.doorOpen = true →
    ∃ t, exec .doorClose s = .next t ∧ t.sensors = { s.sensors with doorOpen := false } ∧
      t.cond .doorOpen = false ∧ t.status.pending.getLsbD 10 = true ∧
      t.trans.spindleA = (if s.trans.spindleA = .jammed then (if s.sensors.emptyA then .empty else .ready)
        else s.trans.spindleA) ∧
      t.trans.spindleB = (if s.trans.spindleB = .jammed then (if s.sensors.emptyB then .empty else .ready)
        else s.trans.spindleB) ∧
      (s.trans.arm = .stopped → t.trans.arm = .homing .descent ∧ t.trans.moveTimer = some (s.now + 12000)) ∧
      (s.trans.arm ≠ .stopped → t.trans.arm = s.trans.arm)) ∧
  (∀ s : State, (s.sensors.doorOpen = true → exec .doorOpen s = .next s) ∧
    (s.sensors.doorOpen = false → exec .doorClose s = .next s)) ∧
  (∀ (s : State) (empty : Bool), s.conditionsHold →
    (s.trans.spindleA = .jammed →
      exec (.spindleSensorChange .a empty) s = .next { s with sensors := { s.sensors with emptyA := empty } }) ∧
    (s.trans.spindleA ≠ .jammed →
      ∃ t, exec (.spindleSensorChange .a empty) s = .next t ∧ t.sensors = { s.sensors with emptyA := empty } ∧
        t.trans = { s.trans with spindleA := if empty then .empty else .ready } ∧
        (t.cond .spindleEmpty = true ↔ empty = true ∨ s.trans.spindleB ≠ .ready) ∧
        t.status.pending = (if s.trans.spindleA = (if empty then SpindleState.empty else .ready) then s.status.pending
          else s.status.pending ||| (1#16 <<< 11)) ∧ s.changesOnly [.sensors, .trans, .status, .dispatch] t) ∧
    (s.trans.spindleB = .jammed →
      exec (.spindleSensorChange .b empty) s = .next { s with sensors := { s.sensors with emptyB := empty } }) ∧
    (s.trans.spindleB ≠ .jammed →
      ∃ t, exec (.spindleSensorChange .b empty) s = .next t ∧ t.sensors = { s.sensors with emptyB := empty } ∧
        t.trans = { s.trans with spindleB := if empty then .empty else .ready } ∧
        (t.cond .spindleEmpty = true ↔ empty = true ∨ s.trans.spindleA ≠ .ready) ∧
        t.status.pending = (if s.trans.spindleB = (if empty then SpindleState.empty else .ready) then s.status.pending
          else s.status.pending ||| (1#16 <<< 11)) ∧ s.changesOnly [.sensors, .trans, .status, .dispatch] t)) ∧
  (∀ (s : State) (full : Bool),
    (∃ t, exec (.binFullSensorChange .out full) s = .next t ∧ t.sensors = { s.sensors with outFull := full } ∧
      t.cond .outputFull = full ∧ s.changesOnly [.sensors, .status] t ∧
      t.status.pending = (if full = true ∧ s.sensors.outFull = false then s.status.pending ||| (1#16 <<< 11)
        else s.status.pending)) ∧
    (∃ t, exec (.binFullSensorChange .reject full) s = .next t ∧ t.sensors = { s.sensors with rejectFull := full } ∧
      t.cond .rejectFull = full ∧ s.changesOnly [.sensors, .status] t ∧
      t.status.pending = (if full = true ∧ s.sensors.rejectFull = false then s.status.pending ||| (1#16 <<< 11)
        else s.status.pending)))

/-! ## The printer -/

/-- A line period prints one line of the band; after the band's last line the next band starts with its head check and its timing, and after the last band the print ends: printed, AWAIT_REMOVE, and a PRINT_OUT asked for to the place that the record's disposition gives; it waits while the printer has a request in the queue, by the model's choice (log 9). The head shows each line's dots, the label's last line too (that they stand in the printer is log 25). The on-time is clamped. -/
def Obligations.PrintingGoesLineByLineToItsEnd : Prop :=
  (∀ (p : Nat) (base darkness t : Int), 1 ≤ p → onTime p base darkness t =
    (max 32 (min (128 * (p : Int) - 16)
      (base + 8 * darkness - (if 25 < t then 4 * (t - 25) else 0)))).toNat) ∧
  (∀ (s : State) (p : Printer) (r : Print) (l : Label), s.printer = some p → p.state = .printing →
    p.print = some r → s.label r.label = some l →
    let dots := (List.range l.width).map fun x =>
      (((l.band r.band).drop (r.line * ((l.width + 7) / 8))).getD (x / 8) 0#8).getLsbD (7 - x % 8)
    let lines := min 64 (l.lines - 64 * r.band)
    let bands := (l.lines + 63) / 64
    (r.line + 1 < lines → exec .printerLinePeriod s = .next { s with
      printer := some { p with print := some { r with line := r.line + 1 }, dots := dots } }) ∧
    (lines ≤ r.line + 1 → r.band + 1 < bands →
      (headTemp s.sensors = some s.sensors.headReading → 65 ≤ s.sensors.headReading →
        exec .printerLinePeriod s = .next { s with printer := some { p with
          state := .cooling, dots := dots
          print := some { r with band := r.band + 1, line := 0, period := none, onTime := none } } }) ∧
      (headTemp s.sensors = some s.sensors.headReading → s.sensors.headReading < 65 →
        exec .printerLinePeriod s = .next { s with printer := some { p with
          dots := dots
          print := some { r with
            band := r.band + 1, line := 0
            period := some (128 * s.settingNat 12)
            onTime := some (onTime (s.settingNat 12) (s.setting 13) l.darkness s.sensors.headReading) } } })) ∧
    (∀ (n : Nat) (d : Disc), lines ≤ r.line + 1 → bands ≤ r.band + 1 → p.trayDisc = some n →
      s.disc n = some d →
      let outbound := fun (t : State) (e : Disc) => t.disc n = some e ∧ e = { d with printed := true, stage := e.stage } ∧
        ((∀ q ∈ s.trans.queue, q.requester ≠ .printer) → e.stage = .toOut)
      (∀ b, d.disposition = .pending → d.target = some b →
        ∃ t, exec .printerLinePeriod s = .next t ∧ t.disc n = some { d with printed := true } ∧
          t.printer = some { p with state := .awaitRemove, print := none, trayMove := true, dots := dots } ∧
          s.trans.asked t.trans (MoveReq.posted .printOut .printer .prn (.bay b) n none) ∧
          s.changesOnly [.discs, .printer, .trans] t) ∧
      (d.disposition = .good →
        ∃ t e, exec .printerLinePeriod s = .next t ∧ outbound t e ∧
          t.printer = some { p with state := .awaitRemove, print := none, trayMove := true, dots := dots } ∧
          s.trans.asked t.trans (MoveReq.posted .printOut .printer .prn (.bin .out) n none) ∧
          s.changesOnly [.discs, .printer, .trans] t) ∧
      (d.disposition.isReject = true →
        ∃ t e, exec .printerLinePeriod s = .next t ∧ outbound t e ∧
          t.printer = some { p with state := .awaitRemove, print := none, trayMove := true, dots := dots } ∧
          s.trans.asked t.trans (MoveReq.posted .printOut .printer .prn (.bin .reject) n none) ∧
          (∀ j b, s.jobOf d = some j → j.label.isSome = true → j.printOrder = some .printFirst →
            d.target = some b → s.stopsAwaiting t b n))))

/-- A sensor that reads bad, the ribbon's or the head's, puts the printer in FAULT: with PRINT_FAULT on the disc of an aborted print and its PRINT_OUT to REJECT; a finished print's disc and move stand. A reading of 60 or below ends COOLING. Readings set HEAD_HOT and RIBBON_LOW. PRINTER RESUME leaves FAULT by what the tray holds. A move asked for that waits is log 9. -/
def Obligations.PrinterFaultsCoolsAndResumes : Prop :=
  (∀ (s : State) (p : Printer) (c : Instr) (r : Readings), s.printer = some p →
    (c = .ribbonSensorChange true ∧ r = { s.sensors with ribbonOut := true }) ∨
      (∃ v, (v < -10 ∨ 100 < v) ∧ c = .headTemperatureReading v ∧ r = { s.sensors with headReading := v }) →
    let hot := -10 ≤ r.headReading ∧ r.headReading ≤ 100 ∧ 65 ≤ r.headReading
    (p.state = .fault → c = .ribbonSensorChange true → exec c s = .next { s with sensors := r }) ∧
    (p.state = .fault → c ≠ .ribbonSensorChange true →
      ∃ t, exec c s = .next t ∧ t.sensors = r ∧ t.cond .printerFault = true ∧ t.cond .headHot = false ∧
        t.status.pending = s.status.pending ∧ s.changesOnly [.sensors, .status] t) ∧
    (p.state = .idle ∨ p.state = .awaitRemove →
      ∃ t, exec c s = .next t ∧ t.sensors = r ∧
        t.printer = some { p with state := .fault } ∧ t.cond .printerFault = true ∧ (t.cond .headHot = true ↔ hot) ∧
        t.status.pending.getLsbD 12 = true ∧ s.changesOnly [.sensors, .printer, .status] t) ∧
    (∀ (n : Nat) (d : Disc), p.state = .printing ∨ p.state = .cooling → p.trayDisc = some n → s.disc n = some d →
      ∃ t e, exec c s = .next t ∧ t.sensors = r ∧ (t.cond .headHot = true ↔ hot) ∧
        t.printer = some { p with state := .fault, print := none, trayMove := true } ∧ t.disc n = some e ∧
        e.disposition = d.disposition.rejectedWith .printFault ∧
        ((∀ q ∈ s.trans.queue, q.requester ≠ .printer) → e.stage = .toOut) ∧ e.printed = d.printed ∧
        s.trans.asked t.trans (MoveReq.posted .printOut .printer .prn (.bin .reject) n none) ∧
        (∀ j b, s.jobOf d = some j → j.label.isSome = true → j.printOrder = some .printFirst →
          d.target = some b → s.stopsAwaiting t b n) ∧
        t.cond .printerFault = true ∧ t.status.pending.getLsbD 12 = true)) ∧
  (∀ s : State, headTemp s.sensors ≠ none → exec (.ribbonSensorChange false) s =
    .next { s with sensors := { s.sensors with ribbonOut := false } }) ∧
  (∀ (s : State) (low : Bool), ∃ t, exec (.ribbonLowSensorChange low) s = .next t ∧
    t.sensors = { s.sensors with ribbonLow := low } ∧ t.cond .ribbonLow = (s.printer.isSome && low) ∧
    t.status.pending = s.status.pending ∧ s.changesOnly [.sensors, .status] t) ∧
  (∀ (s : State) (p : Printer) (v : Int), s.printer = some p → s.sensors.ribbonOut = false →
    (-10 ≤ v → v ≤ 100 → p.state ≠ .cooling →
      ∃ t, exec (.headTemperatureReading v) s = .next t ∧ t.sensors = { s.sensors with headReading := v } ∧
        t.printer = some p ∧ (t.cond .headHot = true ↔ 65 ≤ v) ∧ s.changesOnly [.sensors, .status] t) ∧
    (∀ (r : Print) (l : Label), -10 ≤ v → v ≤ 60 → p.state = .cooling → p.print = some r → s.label r.label = some l →
      ∃ t, exec (.headTemperatureReading v) s = .next t ∧ t.printer = some { p with
          state := .printing
          print := some { r with
            line := 0, period := some (128 * s.settingNat 12)
            onTime := some (onTime (s.settingNat 12) (s.setting 13) l.darkness v) } } ∧
        t.cond .headHot = false ∧ s.changesOnly [.sensors, .printer, .status] t) ∧
    (60 < v → v ≤ 100 → p.state = .cooling →
      ∃ t, exec (.headTemperatureReading v) s = .next t ∧ t.printer = some p ∧
        (t.cond .headHot = true ↔ 65 ≤ v))) ∧
  (∀ s : State,
    (s.settings.stage ≠ .ready → exec .printerResume s = .next (s.answer 0x71 .busy .none)) ∧
    (s.settings.stage = .ready → s.printer = none → exec .printerResume s = .next (s.answer 0x71 .notFitted .none)) ∧
    (∀ p, s.settings.stage = .ready → s.printer = some p → p.state ≠ .fault →
      exec .printerResume s = .next (s.answer 0x71 .state .none)) ∧
    (∀ p, s.settings.stage = .ready → s.printer = some p → p.state = .fault →
      s.sensors.ribbonOut = true ∨ headTemp s.sensors = none →
      exec .printerResume s = .next (s.answer 0x71 .state
        (.printerBad s.sensors.ribbonOut (headTemp s.sensors).isNone))) ∧
    (∀ p, s.settings.stage = .ready → s.printer = some p → p.state = .fault → s.sensors.ribbonOut = false →
      headTemp s.sensors ≠ none →
      (p.trayDisc = none →
        ∃ u : State, exec .printerResume s = .next (u.answer 0x71 .ok (.printerState .idle)) ∧
          u.printer = some { p with state := .idle } ∧ u.cond .printerFault = false ∧
          u.status.pending.getLsbD 12 = true ∧ s.changesOnly [.printer, .status, .dispatch] u) ∧
      (∀ n, p.trayDisc = some n → p.trayMove = true →
        ∃ u : State, exec .printerResume s = .next (u.answer 0x71 .ok (.printerState .awaitRemove)) ∧
          u.printer = some { p with state := .awaitRemove } ∧ s.changesOnly [.printer, .status] u) ∧
      (∀ n d, p.trayDisc = some n → p.trayMove = false → s.disc n = some d →
        ∃ u : State, exec .printerResume s = .next (u.answer 0x71 .ok (.printerState .awaitRemove)) ∧
          u.printer = some { p with state := .awaitRemove, trayMove := true } ∧
          s.trans.asked u.trans
            (MoveReq.posted (if d.job = none then .clear else .printOut) .printer .prn (.bin .reject) n none))))
end

