-- ==== Sys2Proof/Laws/State.lean ====
section
/-! SUPPORT. One lemma per field per update of the state, and what each record reads after an update. -/

namespace Sys2Proof.Machine

/-! ## Primitive updates -/

/-- What `setBay` leaves alone. -/
@[simp] theorem State.setBay_frame (s : State) (b : BayId) (r : Bay) :
    (State.setBay s b r).link = s.link ∧
      (State.setBay s b r).jobs = s.jobs ∧
      (State.setBay s b r).discs = s.discs ∧
      (State.setBay s b r).staging = s.staging ∧
      (State.setBay s b r).governor = s.governor ∧
      (State.setBay s b r).verify = s.verify ∧
      (State.setBay s b r).trans = s.trans ∧
      (State.setBay s b r).labels = s.labels ∧
      (State.setBay s b r).printer = s.printer ∧
      (State.setBay s b r).status = s.status ∧
      (State.setBay s b r).settings = s.settings ∧
      (State.setBay s b r).sensors = s.sensors ∧
      (State.setBay s b r).now = s.now ∧
      (State.setBay s b r).dispatchWanted = s.dispatchWanted ∧
      (State.setBay s b r).pending = s.pending := ⟨rfl, rfl, rfl, rfl, rfl, rfl, rfl, rfl, rfl, rfl, rfl, rfl, rfl, rfl, rfl⟩

@[simp] theorem State.setBay_bays (s : State) (b : BayId) (r : Bay) : (State.setBay s b r).bays = s.bays.set b.val r := rfl

/-- What `modBay` leaves alone. -/
@[simp] theorem State.modBay_frame (s : State) (b : BayId) (f : Bay → Bay) :
    (State.modBay s b f).link = s.link ∧
      (State.modBay s b f).jobs = s.jobs ∧
      (State.modBay s b f).discs = s.discs ∧
      (State.modBay s b f).staging = s.staging ∧
      (State.modBay s b f).governor = s.governor ∧
      (State.modBay s b f).verify = s.verify ∧
      (State.modBay s b f).trans = s.trans ∧
      (State.modBay s b f).labels = s.labels ∧
      (State.modBay s b f).printer = s.printer ∧
      (State.modBay s b f).status = s.status ∧
      (State.modBay s b f).settings = s.settings ∧
      (State.modBay s b f).sensors = s.sensors ∧
      (State.modBay s b f).now = s.now ∧
      (State.modBay s b f).dispatchWanted = s.dispatchWanted ∧
      (State.modBay s b f).pending = s.pending := ⟨rfl, rfl, rfl, rfl, rfl, rfl, rfl, rfl, rfl, rfl, rfl, rfl, rfl, rfl, rfl⟩

@[simp] theorem State.modBay_bays (s : State) (b : BayId) (f : Bay → Bay) : (State.modBay s b f).bays = s.bays.set b.val (f (s.bay b)) := rfl

/-- What `setJob` leaves alone. -/
@[simp] theorem State.setJob_frame (s : State) (j : JobSlot) (r : Option Job) :
    (State.setJob s j r).link = s.link ∧
      (State.setJob s j r).discs = s.discs ∧
      (State.setJob s j r).staging = s.staging ∧
      (State.setJob s j r).bays = s.bays ∧
      (State.setJob s j r).governor = s.governor ∧
      (State.setJob s j r).verify = s.verify ∧
      (State.setJob s j r).trans = s.trans ∧
      (State.setJob s j r).labels = s.labels ∧
      (State.setJob s j r).printer = s.printer ∧
      (State.setJob s j r).status = s.status ∧
      (State.setJob s j r).settings = s.settings ∧
      (State.setJob s j r).sensors = s.sensors ∧
      (State.setJob s j r).now = s.now ∧
      (State.setJob s j r).dispatchWanted = s.dispatchWanted ∧
      (State.setJob s j r).pending = s.pending := ⟨rfl, rfl, rfl, rfl, rfl, rfl, rfl, rfl, rfl, rfl, rfl, rfl, rfl, rfl, rfl⟩

@[simp] theorem State.setJob_jobs (s : State) (j : JobSlot) (r : Option Job) : (State.setJob s j r).jobs = { s.jobs with slots := s.jobs.slots.set j.val r } := rfl

/-- What `setImage` leaves alone. -/
@[simp] theorem State.setImage_frame (s : State) (i : ImageId) (r : Option Image) :
    (State.setImage s i r).link = s.link ∧
      (State.setImage s i r).jobs = s.jobs ∧
      (State.setImage s i r).discs = s.discs ∧
      (State.setImage s i r).bays = s.bays ∧
      (State.setImage s i r).governor = s.governor ∧
      (State.setImage s i r).verify = s.verify ∧
      (State.setImage s i r).trans = s.trans ∧
      (State.setImage s i r).labels = s.labels ∧
      (State.setImage s i r).printer = s.printer ∧
      (State.setImage s i r).status = s.status ∧
      (State.setImage s i r).settings = s.settings ∧
      (State.setImage s i r).sensors = s.sensors ∧
      (State.setImage s i r).now = s.now ∧
      (State.setImage s i r).dispatchWanted = s.dispatchWanted ∧
      (State.setImage s i r).pending = s.pending := ⟨rfl, rfl, rfl, rfl, rfl, rfl, rfl, rfl, rfl, rfl, rfl, rfl, rfl, rfl, rfl⟩

@[simp] theorem State.setImage_staging (s : State) (i : ImageId) (r : Option Image) : (State.setImage s i r).staging = { s.staging with slots := s.staging.slots.set i.val r } := rfl

/-- What `setLabel` leaves alone. -/
@[simp] theorem State.setLabel_frame (s : State) (l : LabelId) (r : Option Label) :
    (State.setLabel s l r).link = s.link ∧
      (State.setLabel s l r).jobs = s.jobs ∧
      (State.setLabel s l r).discs = s.discs ∧
      (State.setLabel s l r).staging = s.staging ∧
      (State.setLabel s l r).bays = s.bays ∧
      (State.setLabel s l r).governor = s.governor ∧
      (State.setLabel s l r).verify = s.verify ∧
      (State.setLabel s l r).trans = s.trans ∧
      (State.setLabel s l r).printer = s.printer ∧
      (State.setLabel s l r).status = s.status ∧
      (State.setLabel s l r).settings = s.settings ∧
      (State.setLabel s l r).sensors = s.sensors ∧
      (State.setLabel s l r).now = s.now ∧
      (State.setLabel s l r).dispatchWanted = s.dispatchWanted ∧
      (State.setLabel s l r).pending = s.pending := ⟨rfl, rfl, rfl, rfl, rfl, rfl, rfl, rfl, rfl, rfl, rfl, rfl, rfl, rfl, rfl⟩

@[simp] theorem State.setLabel_labels (s : State) (l : LabelId) (r : Option Label) : (State.setLabel s l r).labels = { s.labels with slots := s.labels.slots.set l.val r } := rfl

/-- What `setLane` leaves alone. -/
@[simp] theorem State.setLane_frame (s : State) (l : LaneId) (r : Option Lane) :
    (State.setLane s l r).link = s.link ∧
      (State.setLane s l r).jobs = s.jobs ∧
      (State.setLane s l r).discs = s.discs ∧
      (State.setLane s l r).staging = s.staging ∧
      (State.setLane s l r).bays = s.bays ∧
      (State.setLane s l r).governor = s.governor ∧
      (State.setLane s l r).trans = s.trans ∧
      (State.setLane s l r).labels = s.labels ∧
      (State.setLane s l r).printer = s.printer ∧
      (State.setLane s l r).status = s.status ∧
      (State.setLane s l r).settings = s.settings ∧
      (State.setLane s l r).sensors = s.sensors ∧
      (State.setLane s l r).now = s.now ∧
      (State.setLane s l r).dispatchWanted = s.dispatchWanted ∧
      (State.setLane s l r).pending = s.pending := ⟨rfl, rfl, rfl, rfl, rfl, rfl, rfl, rfl, rfl, rfl, rfl, rfl, rfl, rfl, rfl⟩

@[simp] theorem State.setLane_verify (s : State) (l : LaneId) (r : Option Lane) : (State.setLane s l r).verify = { s.verify with lanes := s.verify.lanes.set l.val r } := rfl

/-- What `modDisc` leaves alone. -/
@[simp] theorem State.modDisc_frame (s : State) (n : Nat) (f : Disc → Disc) :
    (State.modDisc s n f).link = s.link ∧
      (State.modDisc s n f).jobs = s.jobs ∧
      (State.modDisc s n f).staging = s.staging ∧
      (State.modDisc s n f).bays = s.bays ∧
      (State.modDisc s n f).governor = s.governor ∧
      (State.modDisc s n f).verify = s.verify ∧
      (State.modDisc s n f).trans = s.trans ∧
      (State.modDisc s n f).labels = s.labels ∧
      (State.modDisc s n f).printer = s.printer ∧
      (State.modDisc s n f).status = s.status ∧
      (State.modDisc s n f).settings = s.settings ∧
      (State.modDisc s n f).sensors = s.sensors ∧
      (State.modDisc s n f).now = s.now ∧
      (State.modDisc s n f).dispatchWanted = s.dispatchWanted ∧
      (State.modDisc s n f).pending = s.pending := ⟨rfl, rfl, rfl, rfl, rfl, rfl, rfl, rfl, rfl, rfl, rfl, rfl, rfl, rfl, rfl⟩

/-- What `report` leaves alone. -/
@[simp] theorem State.report_frame (s : State) (c : Cond) (v : Bool) :
    (State.report s c v).link = s.link ∧
      (State.report s c v).jobs = s.jobs ∧
      (State.report s c v).discs = s.discs ∧
      (State.report s c v).staging = s.staging ∧
      (State.report s c v).bays = s.bays ∧
      (State.report s c v).governor = s.governor ∧
      (State.report s c v).verify = s.verify ∧
      (State.report s c v).trans = s.trans ∧
      (State.report s c v).labels = s.labels ∧
      (State.report s c v).printer = s.printer ∧
      (State.report s c v).settings = s.settings ∧
      (State.report s c v).sensors = s.sensors ∧
      (State.report s c v).now = s.now ∧
      (State.report s c v).dispatchWanted = s.dispatchWanted ∧
      (State.report s c v).pending = s.pending := ⟨rfl, rfl, rfl, rfl, rfl, rfl, rfl, rfl, rfl, rfl, rfl, rfl, rfl, rfl, rfl⟩

/-- What `latch` leaves alone. -/
@[simp] theorem State.latch_frame (s : State) (c : Cond) :
    (State.latch s c).link = s.link ∧
      (State.latch s c).jobs = s.jobs ∧
      (State.latch s c).discs = s.discs ∧
      (State.latch s c).staging = s.staging ∧
      (State.latch s c).bays = s.bays ∧
      (State.latch s c).governor = s.governor ∧
      (State.latch s c).verify = s.verify ∧
      (State.latch s c).trans = s.trans ∧
      (State.latch s c).labels = s.labels ∧
      (State.latch s c).printer = s.printer ∧
      (State.latch s c).settings = s.settings ∧
      (State.latch s c).sensors = s.sensors ∧
      (State.latch s c).now = s.now ∧
      (State.latch s c).dispatchWanted = s.dispatchWanted ∧
      (State.latch s c).pending = s.pending := ⟨rfl, rfl, rfl, rfl, rfl, rfl, rfl, rfl, rfl, rfl, rfl, rfl, rfl, rfl, rfl⟩

/-- What `raise` leaves alone. -/
@[simp] theorem State.raise_frame (s : State) (e : Event) :
    (State.raise s e).link = s.link ∧
      (State.raise s e).jobs = s.jobs ∧
      (State.raise s e).discs = s.discs ∧
      (State.raise s e).staging = s.staging ∧
      (State.raise s e).bays = s.bays ∧
      (State.raise s e).governor = s.governor ∧
      (State.raise s e).verify = s.verify ∧
      (State.raise s e).trans = s.trans ∧
      (State.raise s e).labels = s.labels ∧
      (State.raise s e).printer = s.printer ∧
      (State.raise s e).settings = s.settings ∧
      (State.raise s e).sensors = s.sensors ∧
      (State.raise s e).now = s.now ∧
      (State.raise s e).dispatchWanted = s.dispatchWanted ∧
      (State.raise s e).pending = s.pending := ⟨rfl, rfl, rfl, rfl, rfl, rfl, rfl, rfl, rfl, rfl, rfl, rfl, rfl, rfl, rfl⟩

/-- What `clearCaptured` leaves alone. -/
@[simp] theorem State.clearCaptured_frame (s : State) :
    (State.clearCaptured s).link = s.link ∧
      (State.clearCaptured s).jobs = s.jobs ∧
      (State.clearCaptured s).discs = s.discs ∧
      (State.clearCaptured s).staging = s.staging ∧
      (State.clearCaptured s).bays = s.bays ∧
      (State.clearCaptured s).governor = s.governor ∧
      (State.clearCaptured s).verify = s.verify ∧
      (State.clearCaptured s).trans = s.trans ∧
      (State.clearCaptured s).labels = s.labels ∧
      (State.clearCaptured s).printer = s.printer ∧
      (State.clearCaptured s).settings = s.settings ∧
      (State.clearCaptured s).sensors = s.sensors ∧
      (State.clearCaptured s).now = s.now ∧
      (State.clearCaptured s).dispatchWanted = s.dispatchWanted ∧
      (State.clearCaptured s).pending = s.pending := ⟨rfl, rfl, rfl, rfl, rfl, rfl, rfl, rfl, rfl, rfl, rfl, rfl, rfl, rfl, rfl⟩

/-- What `answer` leaves alone. -/
@[simp] theorem State.answer_frame (s : State) (kind : Byte) (result : Result) (data : ReplyData) :
    (State.answer s kind result data).jobs = s.jobs ∧
      (State.answer s kind result data).discs = s.discs ∧
      (State.answer s kind result data).staging = s.staging ∧
      (State.answer s kind result data).bays = s.bays ∧
      (State.answer s kind result data).governor = s.governor ∧
      (State.answer s kind result data).verify = s.verify ∧
      (State.answer s kind result data).trans = s.trans ∧
      (State.answer s kind result data).labels = s.labels ∧
      (State.answer s kind result data).printer = s.printer ∧
      (State.answer s kind result data).settings = s.settings ∧
      (State.answer s kind result data).sensors = s.sensors ∧
      (State.answer s kind result data).now = s.now ∧
      (State.answer s kind result data).dispatchWanted = s.dispatchWanted ∧
      (State.answer s kind result data).pending = s.pending := ⟨rfl, rfl, rfl, rfl, rfl, rfl, rfl, rfl, rfl, rfl, rfl, rfl, rfl, rfl⟩

/-- What `refuse` leaves alone. -/
@[simp] theorem State.refuse_frame (s : State) (kind : Byte) (result : Result) :
    (State.refuse s kind result).jobs = s.jobs ∧
      (State.refuse s kind result).discs = s.discs ∧
      (State.refuse s kind result).staging = s.staging ∧
      (State.refuse s kind result).bays = s.bays ∧
      (State.refuse s kind result).governor = s.governor ∧
      (State.refuse s kind result).verify = s.verify ∧
      (State.refuse s kind result).trans = s.trans ∧
      (State.refuse s kind result).labels = s.labels ∧
      (State.refuse s kind result).printer = s.printer ∧
      (State.refuse s kind result).settings = s.settings ∧
      (State.refuse s kind result).sensors = s.sensors ∧
      (State.refuse s kind result).now = s.now ∧
      (State.refuse s kind result).dispatchWanted = s.dispatchWanted ∧
      (State.refuse s kind result).pending = s.pending := ⟨rfl, rfl, rfl, rfl, rfl, rfl, rfl, rfl, rfl, rfl, rfl, rfl, rfl, rfl⟩

/-- What `setGood` leaves alone. -/
@[simp] theorem State.setGood_frame (s : State) (n : Nat) :
    (State.setGood s n).link = s.link ∧
      (State.setGood s n).jobs = s.jobs ∧
      (State.setGood s n).staging = s.staging ∧
      (State.setGood s n).bays = s.bays ∧
      (State.setGood s n).governor = s.governor ∧
      (State.setGood s n).verify = s.verify ∧
      (State.setGood s n).trans = s.trans ∧
      (State.setGood s n).labels = s.labels ∧
      (State.setGood s n).printer = s.printer ∧
      (State.setGood s n).status = s.status ∧
      (State.setGood s n).settings = s.settings ∧
      (State.setGood s n).sensors = s.sensors ∧
      (State.setGood s n).now = s.now ∧
      (State.setGood s n).dispatchWanted = s.dispatchWanted ∧
      (State.setGood s n).pending = s.pending := ⟨rfl, rfl, rfl, rfl, rfl, rfl, rfl, rfl, rfl, rfl, rfl, rfl, rfl, rfl, rfl⟩

/-- What `setReject` leaves alone. -/
@[simp] theorem State.setReject_frame (s : State) (n : Nat) (r : RejectReason) :
    (State.setReject s n r).link = s.link ∧
      (State.setReject s n r).jobs = s.jobs ∧
      (State.setReject s n r).staging = s.staging ∧
      (State.setReject s n r).bays = s.bays ∧
      (State.setReject s n r).governor = s.governor ∧
      (State.setReject s n r).verify = s.verify ∧
      (State.setReject s n r).trans = s.trans ∧
      (State.setReject s n r).labels = s.labels ∧
      (State.setReject s n r).printer = s.printer ∧
      (State.setReject s n r).status = s.status ∧
      (State.setReject s n r).settings = s.settings ∧
      (State.setReject s n r).sensors = s.sensors ∧
      (State.setReject s n r).now = s.now ∧
      (State.setReject s n r).dispatchWanted = s.dispatchWanted ∧
      (State.setReject s n r).pending = s.pending := ⟨rfl, rfl, rfl, rfl, rfl, rfl, rfl, rfl, rfl, rfl, rfl, rfl, rfl, rfl, rfl⟩

/-- What `setToOut` leaves alone. -/
@[simp] theorem State.setToOut_frame (s : State) (n : Nat) :
    (State.setToOut s n).link = s.link ∧
      (State.setToOut s n).jobs = s.jobs ∧
      (State.setToOut s n).staging = s.staging ∧
      (State.setToOut s n).bays = s.bays ∧
      (State.setToOut s n).governor = s.governor ∧
      (State.setToOut s n).verify = s.verify ∧
      (State.setToOut s n).trans = s.trans ∧
      (State.setToOut s n).labels = s.labels ∧
      (State.setToOut s n).printer = s.printer ∧
      (State.setToOut s n).status = s.status ∧
      (State.setToOut s n).settings = s.settings ∧
      (State.setToOut s n).sensors = s.sensors ∧
      (State.setToOut s n).now = s.now ∧
      (State.setToOut s n).dispatchWanted = s.dispatchWanted ∧
      (State.setToOut s n).pending = s.pending := ⟨rfl, rfl, rfl, rfl, rfl, rfl, rfl, rfl, rfl, rfl, rfl, rfl, rfl, rfl, rfl⟩

/-- What `moveDisc` leaves alone. -/
@[simp] theorem State.moveDisc_frame (s : State) (n : Nat) (at_ : Station) (st : DiscStage) :
    (State.moveDisc s n at_ st).link = s.link ∧
      (State.moveDisc s n at_ st).jobs = s.jobs ∧
      (State.moveDisc s n at_ st).staging = s.staging ∧
      (State.moveDisc s n at_ st).bays = s.bays ∧
      (State.moveDisc s n at_ st).governor = s.governor ∧
      (State.moveDisc s n at_ st).verify = s.verify ∧
      (State.moveDisc s n at_ st).trans = s.trans ∧
      (State.moveDisc s n at_ st).labels = s.labels ∧
      (State.moveDisc s n at_ st).printer = s.printer ∧
      (State.moveDisc s n at_ st).status = s.status ∧
      (State.moveDisc s n at_ st).settings = s.settings ∧
      (State.moveDisc s n at_ st).sensors = s.sensors ∧
      (State.moveDisc s n at_ st).now = s.now ∧
      (State.moveDisc s n at_ st).dispatchWanted = s.dispatchWanted ∧
      (State.moveDisc s n at_ st).pending = s.pending := ⟨rfl, rfl, rfl, rfl, rfl, rfl, rfl, rfl, rfl, rfl, rfl, rfl, rfl, rfl, rfl⟩

/-- What `modGov` leaves alone. -/
@[simp] theorem State.modGov_frame (s : State) (f : Governor → Governor) :
    (State.modGov s f).link = s.link ∧
      (State.modGov s f).jobs = s.jobs ∧
      (State.modGov s f).discs = s.discs ∧
      (State.modGov s f).staging = s.staging ∧
      (State.modGov s f).bays = s.bays ∧
      (State.modGov s f).verify = s.verify ∧
      (State.modGov s f).trans = s.trans ∧
      (State.modGov s f).labels = s.labels ∧
      (State.modGov s f).printer = s.printer ∧
      (State.modGov s f).status = s.status ∧
      (State.modGov s f).settings = s.settings ∧
      (State.modGov s f).sensors = s.sensors ∧
      (State.modGov s f).now = s.now ∧
      (State.modGov s f).dispatchWanted = s.dispatchWanted ∧
      (State.modGov s f).pending = s.pending := ⟨rfl, rfl, rfl, rfl, rfl, rfl, rfl, rfl, rfl, rfl, rfl, rfl, rfl, rfl, rfl⟩

@[simp] theorem State.modGov_governor (s : State) (f : Governor → Governor) : (State.modGov s f).governor = f s.governor := rfl

/-- What `modVerify` leaves alone. -/
@[simp] theorem State.modVerify_frame (s : State) (f : VerifyEngine → VerifyEngine) :
    (State.modVerify s f).link = s.link ∧
      (State.modVerify s f).jobs = s.jobs ∧
      (State.modVerify s f).discs = s.discs ∧
      (State.modVerify s f).staging = s.staging ∧
      (State.modVerify s f).bays = s.bays ∧
      (State.modVerify s f).governor = s.governor ∧
      (State.modVerify s f).trans = s.trans ∧
      (State.modVerify s f).labels = s.labels ∧
      (State.modVerify s f).printer = s.printer ∧
      (State.modVerify s f).status = s.status ∧
      (State.modVerify s f).settings = s.settings ∧
      (State.modVerify s f).sensors = s.sensors ∧
      (State.modVerify s f).now = s.now ∧
      (State.modVerify s f).dispatchWanted = s.dispatchWanted ∧
      (State.modVerify s f).pending = s.pending := ⟨rfl, rfl, rfl, rfl, rfl, rfl, rfl, rfl, rfl, rfl, rfl, rfl, rfl, rfl, rfl⟩

@[simp] theorem State.modVerify_verify (s : State) (f : VerifyEngine → VerifyEngine) : (State.modVerify s f).verify = f s.verify := rfl

/-- What `modTrans` leaves alone. -/
@[simp] theorem State.modTrans_frame (s : State) (f : Transport → Transport) :
    (State.modTrans s f).link = s.link ∧
      (State.modTrans s f).jobs = s.jobs ∧
      (State.modTrans s f).discs = s.discs ∧
      (State.modTrans s f).staging = s.staging ∧
      (State.modTrans s f).bays = s.bays ∧
      (State.modTrans s f).governor = s.governor ∧
      (State.modTrans s f).verify = s.verify ∧
      (State.modTrans s f).labels = s.labels ∧
      (State.modTrans s f).printer = s.printer ∧
      (State.modTrans s f).status = s.status ∧
      (State.modTrans s f).settings = s.settings ∧
      (State.modTrans s f).sensors = s.sensors ∧
      (State.modTrans s f).now = s.now ∧
      (State.modTrans s f).dispatchWanted = s.dispatchWanted ∧
      (State.modTrans s f).pending = s.pending := ⟨rfl, rfl, rfl, rfl, rfl, rfl, rfl, rfl, rfl, rfl, rfl, rfl, rfl, rfl, rfl⟩

@[simp] theorem State.modTrans_trans (s : State) (f : Transport → Transport) : (State.modTrans s f).trans = f s.trans := rfl

/-- What `setPrinter` leaves alone. -/
@[simp] theorem State.setPrinter_frame (s : State) (p : Printer) :
    (State.setPrinter s p).link = s.link ∧
      (State.setPrinter s p).jobs = s.jobs ∧
      (State.setPrinter s p).discs = s.discs ∧
      (State.setPrinter s p).staging = s.staging ∧
      (State.setPrinter s p).bays = s.bays ∧
      (State.setPrinter s p).governor = s.governor ∧
      (State.setPrinter s p).verify = s.verify ∧
      (State.setPrinter s p).trans = s.trans ∧
      (State.setPrinter s p).labels = s.labels ∧
      (State.setPrinter s p).status = s.status ∧
      (State.setPrinter s p).settings = s.settings ∧
      (State.setPrinter s p).sensors = s.sensors ∧
      (State.setPrinter s p).now = s.now ∧
      (State.setPrinter s p).dispatchWanted = s.dispatchWanted ∧
      (State.setPrinter s p).pending = s.pending := ⟨rfl, rfl, rfl, rfl, rfl, rfl, rfl, rfl, rfl, rfl, rfl, rfl, rfl, rfl, rfl⟩

@[simp] theorem State.setPrinter_printer (s : State) (p : Printer) : (State.setPrinter s p).printer = some p := rfl

/-- What `setPick` leaves alone. -/
@[simp] theorem State.setPick_frame (s : State) (held : Bool) :
    (State.setPick s held).link = s.link ∧
      (State.setPick s held).jobs = s.jobs ∧
      (State.setPick s held).discs = s.discs ∧
      (State.setPick s held).staging = s.staging ∧
      (State.setPick s held).bays = s.bays ∧
      (State.setPick s held).governor = s.governor ∧
      (State.setPick s held).verify = s.verify ∧
      (State.setPick s held).trans = s.trans ∧
      (State.setPick s held).labels = s.labels ∧
      (State.setPick s held).printer = s.printer ∧
      (State.setPick s held).status = s.status ∧
      (State.setPick s held).settings = s.settings ∧
      (State.setPick s held).now = s.now ∧
      (State.setPick s held).dispatchWanted = s.dispatchWanted ∧
      (State.setPick s held).pending = s.pending := ⟨rfl, rfl, rfl, rfl, rfl, rfl, rfl, rfl, rfl, rfl, rfl, rfl, rfl, rfl, rfl⟩

@[simp] theorem State.setPick_sensors (s : State) (held : Bool) : (State.setPick s held).sensors = { s.sensors with pick := held } := rfl

/-- What `modSettings` leaves alone. -/
@[simp] theorem State.modSettings_frame (s : State) (f : Settings → Settings) :
    (State.modSettings s f).link = s.link ∧
      (State.modSettings s f).jobs = s.jobs ∧
      (State.modSettings s f).discs = s.discs ∧
      (State.modSettings s f).staging = s.staging ∧
      (State.modSettings s f).bays = s.bays ∧
      (State.modSettings s f).governor = s.governor ∧
      (State.modSettings s f).verify = s.verify ∧
      (State.modSettings s f).trans = s.trans ∧
      (State.modSettings s f).labels = s.labels ∧
      (State.modSettings s f).printer = s.printer ∧
      (State.modSettings s f).status = s.status ∧
      (State.modSettings s f).sensors = s.sensors ∧
      (State.modSettings s f).now = s.now ∧
      (State.modSettings s f).dispatchWanted = s.dispatchWanted ∧
      (State.modSettings s f).pending = s.pending := ⟨rfl, rfl, rfl, rfl, rfl, rfl, rfl, rfl, rfl, rfl, rfl, rfl, rfl, rfl, rfl⟩

@[simp] theorem State.modSettings_settings (s : State) (f : Settings → Settings) : (State.modSettings s f).settings = f s.settings := rfl

/-- What `modLink` leaves alone. -/
@[simp] theorem State.modLink_frame (s : State) (f : Link → Link) :
    (State.modLink s f).jobs = s.jobs ∧
      (State.modLink s f).discs = s.discs ∧
      (State.modLink s f).staging = s.staging ∧
      (State.modLink s f).bays = s.bays ∧
      (State.modLink s f).governor = s.governor ∧
      (State.modLink s f).verify = s.verify ∧
      (State.modLink s f).trans = s.trans ∧
      (State.modLink s f).labels = s.labels ∧
      (State.modLink s f).printer = s.printer ∧
      (State.modLink s f).status = s.status ∧
      (State.modLink s f).settings = s.settings ∧
      (State.modLink s f).sensors = s.sensors ∧
      (State.modLink s f).now = s.now ∧
      (State.modLink s f).dispatchWanted = s.dispatchWanted ∧
      (State.modLink s f).pending = s.pending := ⟨rfl, rfl, rfl, rfl, rfl, rfl, rfl, rfl, rfl, rfl, rfl, rfl, rfl, rfl, rfl⟩

@[simp] theorem State.modLink_link (s : State) (f : Link → Link) : (State.modLink s f).link = f s.link := rfl

/-- What `modStatus` leaves alone. -/
@[simp] theorem State.modStatus_frame (s : State) (f : StatusUnit → StatusUnit) :
    (State.modStatus s f).link = s.link ∧
      (State.modStatus s f).jobs = s.jobs ∧
      (State.modStatus s f).discs = s.discs ∧
      (State.modStatus s f).staging = s.staging ∧
      (State.modStatus s f).bays = s.bays ∧
      (State.modStatus s f).governor = s.governor ∧
      (State.modStatus s f).verify = s.verify ∧
      (State.modStatus s f).trans = s.trans ∧
      (State.modStatus s f).labels = s.labels ∧
      (State.modStatus s f).printer = s.printer ∧
      (State.modStatus s f).settings = s.settings ∧
      (State.modStatus s f).sensors = s.sensors ∧
      (State.modStatus s f).now = s.now ∧
      (State.modStatus s f).dispatchWanted = s.dispatchWanted ∧
      (State.modStatus s f).pending = s.pending := ⟨rfl, rfl, rfl, rfl, rfl, rfl, rfl, rfl, rfl, rfl, rfl, rfl, rfl, rfl, rfl⟩

@[simp] theorem State.modStatus_status (s : State) (f : StatusUnit → StatusUnit) : (State.modStatus s f).status = f s.status := rfl

/-- What `setRunMode` leaves alone. -/
@[simp] theorem State.setRunMode_frame (s : State) (m : RunMode) :
    (State.setRunMode s m).link = s.link ∧
      (State.setRunMode s m).discs = s.discs ∧
      (State.setRunMode s m).staging = s.staging ∧
      (State.setRunMode s m).bays = s.bays ∧
      (State.setRunMode s m).governor = s.governor ∧
      (State.setRunMode s m).verify = s.verify ∧
      (State.setRunMode s m).trans = s.trans ∧
      (State.setRunMode s m).labels = s.labels ∧
      (State.setRunMode s m).printer = s.printer ∧
      (State.setRunMode s m).status = s.status ∧
      (State.setRunMode s m).settings = s.settings ∧
      (State.setRunMode s m).sensors = s.sensors ∧
      (State.setRunMode s m).now = s.now ∧
      (State.setRunMode s m).dispatchWanted = s.dispatchWanted ∧
      (State.setRunMode s m).pending = s.pending := ⟨rfl, rfl, rfl, rfl, rfl, rfl, rfl, rfl, rfl, rfl, rfl, rfl, rfl, rfl, rfl⟩

@[simp] theorem State.setRunMode_jobs (s : State) (m : RunMode) : (State.setRunMode s m).jobs = { s.jobs with runMode := m } := rfl

/-- What `setEmptySensor` leaves alone. -/
@[simp] theorem State.setEmptySensor_frame (s : State) (i : SpindleId) (empty : Bool) :
    (State.setEmptySensor s i empty).link = s.link ∧
      (State.setEmptySensor s i empty).jobs = s.jobs ∧
      (State.setEmptySensor s i empty).discs = s.discs ∧
      (State.setEmptySensor s i empty).staging = s.staging ∧
      (State.setEmptySensor s i empty).bays = s.bays ∧
      (State.setEmptySensor s i empty).governor = s.governor ∧
      (State.setEmptySensor s i empty).verify = s.verify ∧
      (State.setEmptySensor s i empty).trans = s.trans ∧
      (State.setEmptySensor s i empty).labels = s.labels ∧
      (State.setEmptySensor s i empty).printer = s.printer ∧
      (State.setEmptySensor s i empty).status = s.status ∧
      (State.setEmptySensor s i empty).settings = s.settings ∧
      (State.setEmptySensor s i empty).now = s.now ∧
      (State.setEmptySensor s i empty).dispatchWanted = s.dispatchWanted ∧
      (State.setEmptySensor s i empty).pending = s.pending := by
  unfold State.setEmptySensor; cases i <;> simp

/-- What `tick` leaves alone. -/
@[simp] theorem State.tick_frame (s : State) :
    (State.tick s).link = s.link ∧
      (State.tick s).jobs = s.jobs ∧
      (State.tick s).discs = s.discs ∧
      (State.tick s).staging = s.staging ∧
      (State.tick s).bays = s.bays ∧
      (State.tick s).governor = s.governor ∧
      (State.tick s).verify = s.verify ∧
      (State.tick s).trans = s.trans ∧
      (State.tick s).labels = s.labels ∧
      (State.tick s).printer = s.printer ∧
      (State.tick s).status = s.status ∧
      (State.tick s).settings = s.settings ∧
      (State.tick s).sensors = s.sensors ∧
      (State.tick s).dispatchWanted = s.dispatchWanted ∧
      (State.tick s).pending = s.pending := ⟨rfl, rfl, rfl, rfl, rfl, rfl, rfl, rfl, rfl, rfl, rfl, rfl, rfl, rfl, rfl⟩

@[simp] theorem State.tick_now (s : State) : (State.tick s).now = s.now + 1 := rfl

/-! ## What a record reads after an update -/

@[simp] theorem State.setBay_bay (s : State) (b : BayId) (r : Bay) : (s.setBay b r).bay b = r := by
  simp [State.bay, State.setBay]

theorem State.setBay_bay_ne (s : State) {b c : BayId} (r : Bay) (h : c ≠ b) : (s.setBay b r).bay c = s.bay c := by
  have : b.val ≠ c.val := fun e => h (Fin.ext e.symm)
  simp [State.bay, State.setBay, this]

@[simp] theorem State.modBay_bay (s : State) (b : BayId) (f : Bay → Bay) : (s.modBay b f).bay b = f (s.bay b) := by
  simp [State.modBay]

theorem State.modBay_bay_ne (s : State) {b c : BayId} (f : Bay → Bay) (h : c ≠ b) :
    (s.modBay b f).bay c = s.bay c := by
  simp [State.modBay, State.setBay_bay_ne, h]

@[simp] theorem State.setJob_job (s : State) (j : JobSlot) (r : Option Job) : (s.setJob j r).job j = r := by
  simp [State.job, State.setJob]

theorem State.setJob_job_ne (s : State) {j k : JobSlot} (r : Option Job) (h : k ≠ j) :
    (s.setJob j r).job k = s.job k := by
  have : j.val ≠ k.val := fun e => h (Fin.ext e.symm)
  simp [State.job, State.setJob, this]

@[simp] theorem State.setImage_image (s : State) (i : ImageId) (r : Option Image) :
    (s.setImage i r).image i = r := by
  simp [State.image, State.setImage]

theorem State.setImage_image_ne (s : State) {i k : ImageId} (r : Option Image) (h : k ≠ i) :
    (s.setImage i r).image k = s.image k := by
  have : i.val ≠ k.val := fun e => h (Fin.ext e.symm)
  simp [State.image, State.setImage, this]

@[simp] theorem State.setLabel_label (s : State) (l : LabelId) (r : Option Label) :
    (s.setLabel l r).label l = r := by
  simp [State.label, State.setLabel]

theorem State.setLabel_label_ne (s : State) {l k : LabelId} (r : Option Label) (h : k ≠ l) :
    (s.setLabel l r).label k = s.label k := by
  have : l.val ≠ k.val := fun e => h (Fin.ext e.symm)
  simp [State.label, State.setLabel, this]

@[simp] theorem State.setLane_lane (s : State) (l : LaneId) (r : Option Lane) : (s.setLane l r).lane l = r := by
  simp [State.lane, State.setLane]

/-! ## The mark of a wanted evaluation -/

/-- What `watched` leaves as it is in the state after. -/
@[simp] theorem State.watched_frame (s t : State) :
    (s.watched t).link = t.link ∧
      (s.watched t).jobs = t.jobs ∧
      (s.watched t).discs = t.discs ∧
      (s.watched t).staging = t.staging ∧
      (s.watched t).bays = t.bays ∧
      (s.watched t).governor = t.governor ∧
      (s.watched t).verify = t.verify ∧
      (s.watched t).trans = t.trans ∧
      (s.watched t).labels = t.labels ∧
      (s.watched t).printer = t.printer ∧
      (s.watched t).status = t.status ∧
      (s.watched t).settings = t.settings ∧
      (s.watched t).sensors = t.sensors ∧
      (s.watched t).now = t.now ∧
      (s.watched t).pending = t.pending := ⟨rfl, rfl, rfl, rfl, rfl, rfl, rfl, rfl, rfl, rfl, rfl, rfl, rfl, rfl, rfl⟩

/-- The mark stands, or a trigger sets it (R19). -/
@[simp] theorem State.watched_dispatchWanted (s t : State) :
    (s.watched t).dispatchWanted = (t.dispatchWanted || s.dispatchTrigger t) := rfl

@[simp] theorem State.watched_bay (s t : State) (b : BayId) : (s.watched t).bay b = t.bay b := rfl
@[simp] theorem State.watched_job (s t : State) (k : JobSlot) : (s.watched t).job k = t.job k := rfl
@[simp] theorem State.watched_image (s t : State) (k : ImageId) : (s.watched t).image k = t.image k := rfl
@[simp] theorem State.watched_disc (s t : State) (n : Nat) : (s.watched t).disc n = t.disc n := rfl
@[simp] theorem State.watched_lane (s t : State) (l : LaneId) : (s.watched t).lane l = t.lane l := rfl
@[simp] theorem State.watched_label (s t : State) (l : LabelId) : (s.watched t).label l = t.label l := rfl
@[simp] theorem State.watched_cond (s t : State) (c : Cond) : (s.watched t).cond c = t.cond c := rfl
@[simp] theorem State.watched_spindle (s t : State) (i : SpindleId) : (s.watched t).spindle i = t.spindle i := rfl

/-! ## Conditions and events -/

/-- A condition set reads its own bit as put, the others as before. -/
theorem putBit_get {w : Nat} (v : BitVec w) {n m : Nat} (b : Bool) (hn : n < w) (hm : m < w) :
    (putBit v n b).getLsbD m = if m = n then b else v.getLsbD m := by
  unfold putBit
  by_cases h : m = n
  · subst h
    cases b <;> simp [hm]
  · cases b <;> simp [h] <;> intros <;> omega

theorem Cond.bit_lt (c : Cond) : c.bit < 15 := by cases c <;> decide

theorem Event.bit_lt (e : Event) : e.bit < 16 := by cases e <;> decide

theorem Cond.bit_inj {c d : Cond} (h : c.bit = d.bit) : c = d := by cases c <;> cases d <;> simp_all [Cond.bit]

theorem Event.bit_inj {c d : Event} (h : c.bit = d.bit) : c = d := by cases c <;> cases d <;> simp_all [Event.bit]

/-- A report sets its own condition and no other (R178). -/
@[simp] theorem State.report_cond (s : State) (c d : Cond) (v : Bool) :
    (s.report c v).cond d = if d = c then v else s.cond d := by
  unfold State.cond State.report
  rw [putBit_get _ _ c.bit_lt d.bit_lt]
  by_cases h : d = c
  · simp [h]
  · have : d.bit ≠ c.bit := fun e => h (Cond.bit_inj e)
    simp [h, this]

/-- A latch sets its own condition and no other (R178). -/
@[simp] theorem State.latch_cond (s : State) (c d : Cond) :
    (s.latch c).cond d = if d = c then true else s.cond d := by
  unfold State.cond State.latch
  rw [putBit_get _ _ c.bit_lt d.bit_lt]
  by_cases h : d = c
  · simp [h]
  · have : d.bit ≠ c.bit := fun e => h (Cond.bit_inj e)
    simp [h, this]

/-- A raise changes no condition (R178). -/
@[simp] theorem State.raise_cond (s : State) (e : Event) (d : Cond) : (s.raise e).cond d = s.cond d := rfl

/-- A raise adds its kind to the pending set and no other (R183). -/
theorem State.raise_pending (s : State) (e d : Event) :
    (s.raise e).status.pending.getLsbD d.bit = if d = e then true else s.status.pending.getLsbD d.bit := by
  unfold State.raise
  rw [putBit_get _ _ e.bit_lt d.bit_lt]
  by_cases h : d = e
  · simp [h]
  · have : d.bit ≠ e.bit := fun f => h (Event.bit_inj f)
    simp [h, this]

end Sys2Proof.Machine
end

