-- ==== Sys2Proof/Laws/Cancels.lean ====
section
/-! SUPPORT. A cancel of a job: what it makes of one disc's record, and of the discs of a list from what it makes of each (R152 to R156). -/

namespace Sys2Proof.Machine

theorem State.setReject_cancels (s : State) (n : Nat) :
    s.setReject n .cancelled = { s with discs := s.discs.cancels n false } := by
  simp only [State.setReject, DiscTable.cancels, State.modDisc, Disc.rejected, Disposition.rejectedWith, beq_iff_eq,
    Bool.false_eq_true, if_false]
  congr 3
  funext e
  split_ifs <;> rfl

/-- A disc that is not PENDING goes on (R154 to R156). -/
theorem State.cancelDisc_goesOn (s : State) (d : Disc) (hq : d.stage ≠ .queued) (hp : d.disposition ≠ .pending) :
    s.cancelDisc d = s := by
  unfold State.cancelDisc
  rw [if_neg hq]
  cases h : d.location <;> simp [State.cancelOnArm, State.cancelInBay, State.cancelInPrinter, hp]

/-- A PENDING disc in the printer's charge is CANCELLED, nothing else (R156). -/
theorem State.cancelDisc_inPrinter (s : State) (d : Disc) (hq : d.stage ≠ .queued) (hp : d.disposition = .pending)
    (hl : d.location = .prn) : s.cancelDisc d = { s with discs := s.discs.cancels d.number false } := by
  simp [State.cancelDisc, State.cancelInPrinter, hq, hp, hl, State.setReject_cancels]

/-- The cancel of each disc gives that of the list (R152, log 41). -/
theorem State.cancelsAll_foldl : ∀ (l : List Disc) (s : State),
    (∀ t : State, ∀ d ∈ l, t.cancelsDisc (t.cancelDisc d) d) → (l.foldl State.cancelDisc s).cancelsAll l s
  | [], _, _ => rfl
  | d :: l, s, h => ⟨s.cancelDisc d, h s d (List.mem_cons_self ..),
      State.cancelsAll_foldl l _ fun t e he => h t e (List.mem_cons_of_mem _ he)⟩

end Sys2Proof.Machine
end

