-- ==== Sys2Proof/Laws/Frames.lean ====
section
/-! SUPPORT. One lemma for each shared operation: the parts of the state that it leaves alone. -/

set_option linter.unusedTactic false
set_option linter.unreachableTactic false
set_option linter.unnecessarySeqFocus false
set_option linter.unusedSimpArgs false

namespace Sys2Proof.Machine

/-- A fold keeps what each of its steps keeps. -/
theorem foldl_frame {α β : Type} (g : State → β) (f : State → α → State) (h : ∀ s a, g (f s a) = g s)
    (l : List α) (s : State) : g (l.foldl f s) = g s := by
  induction l generalizing s with
  | nil => rfl
  | cons a r ih => exact (ih (f s a)).trans (h s a)

/-- What `setSpindle` leaves alone. -/
@[simp] theorem State.setSpindle_frame (s : State) (i : SpindleId) (st : SpindleState) :
    (State.setSpindle s i st).link = s.link ∧
      (State.setSpindle s i st).jobs = s.jobs ∧
      (State.setSpindle s i st).discs = s.discs ∧
      (State.setSpindle s i st).staging = s.staging ∧
      (State.setSpindle s i st).bays = s.bays ∧
      (State.setSpindle s i st).governor = s.governor ∧
      (State.setSpindle s i st).verify = s.verify ∧
      (State.setSpindle s i st).labels = s.labels ∧
      (State.setSpindle s i st).printer = s.printer ∧
      (State.setSpindle s i st).settings = s.settings ∧
      (State.setSpindle s i st).sensors = s.sensors ∧
      (State.setSpindle s i st).now = s.now ∧
      (State.setSpindle s i st).dispatchWanted = s.dispatchWanted ∧
      (State.setSpindle s i st).pending = s.pending := by
  unfold State.setSpindle
  (repeat' split) <;> simp

/-- What `askOrphan` leaves alone. -/
@[simp] theorem State.askOrphan_frame (s : State) (w : OrphanAt) :
    (State.askOrphan s w).1.link = s.link ∧
      (State.askOrphan s w).1.jobs = s.jobs ∧
      (State.askOrphan s w).1.staging = s.staging ∧
      (State.askOrphan s w).1.bays = s.bays ∧
      (State.askOrphan s w).1.governor = s.governor ∧
      (State.askOrphan s w).1.verify = s.verify ∧
      (State.askOrphan s w).1.trans = s.trans ∧
      (State.askOrphan s w).1.labels = s.labels ∧
      (State.askOrphan s w).1.printer = s.printer ∧
      (State.askOrphan s w).1.status = s.status ∧
      (State.askOrphan s w).1.settings = s.settings ∧
      (State.askOrphan s w).1.sensors = s.sensors ∧
      (State.askOrphan s w).1.now = s.now ∧
      (State.askOrphan s w).1.dispatchWanted = s.dispatchWanted ∧
      (State.askOrphan s w).1.pending = s.pending := by
  unfold State.askOrphan
  split <;> simp

/-- What `countJob` leaves alone. -/
@[simp] theorem State.countJob_frame (s : State) (slot : JobSlot) (f : Job → Job) :
    (State.countJob s slot f).link = s.link ∧
      (State.countJob s slot f).discs = s.discs ∧
      (State.countJob s slot f).staging = s.staging ∧
      (State.countJob s slot f).bays = s.bays ∧
      (State.countJob s slot f).governor = s.governor ∧
      (State.countJob s slot f).verify = s.verify ∧
      (State.countJob s slot f).trans = s.trans ∧
      (State.countJob s slot f).labels = s.labels ∧
      (State.countJob s slot f).printer = s.printer ∧
      (State.countJob s slot f).settings = s.settings ∧
      (State.countJob s slot f).sensors = s.sensors ∧
      (State.countJob s slot f).now = s.now ∧
      (State.countJob s slot f).dispatchWanted = s.dispatchWanted ∧
      (State.countJob s slot f).pending = s.pending := by
  unfold State.countJob
  (repeat' split) <;> (try simp) <;> (repeat' split) <;> (try simp) <;> (repeat' split) <;> simp

/-- What `drainTest` leaves alone. -/
@[simp] theorem State.drainTest_frame (s : State) :
    (State.drainTest s).link = s.link ∧
      (State.drainTest s).discs = s.discs ∧
      (State.drainTest s).staging = s.staging ∧
      (State.drainTest s).bays = s.bays ∧
      (State.drainTest s).governor = s.governor ∧
      (State.drainTest s).verify = s.verify ∧
      (State.drainTest s).trans = s.trans ∧
      (State.drainTest s).labels = s.labels ∧
      (State.drainTest s).printer = s.printer ∧
      (State.drainTest s).settings = s.settings ∧
      (State.drainTest s).sensors = s.sensors ∧
      (State.drainTest s).now = s.now ∧
      (State.drainTest s).dispatchWanted = s.dispatchWanted ∧
      (State.drainTest s).pending = s.pending := by
  unfold State.drainTest
  (repeat' split) <;> simp

/-- What `freeRecord` leaves alone. -/
@[simp] theorem State.freeRecord_frame (s : State) (n : Nat) :
    (State.freeRecord s n).link = s.link ∧
      (State.freeRecord s n).staging = s.staging ∧
      (State.freeRecord s n).bays = s.bays ∧
      (State.freeRecord s n).governor = s.governor ∧
      (State.freeRecord s n).verify = s.verify ∧
      (State.freeRecord s n).trans = s.trans ∧
      (State.freeRecord s n).labels = s.labels ∧
      (State.freeRecord s n).printer = s.printer ∧
      (State.freeRecord s n).settings = s.settings ∧
      (State.freeRecord s n).sensors = s.sensors ∧
      (State.freeRecord s n).now = s.now ∧
      (State.freeRecord s n).dispatchWanted = s.dispatchWanted ∧
      (State.freeRecord s n).pending = s.pending := by
  unfold State.freeRecord
  simp

/-- What `deleteRecord` leaves alone. -/
@[simp] theorem State.deleteRecord_frame (s : State) (n : Nat) :
    (State.deleteRecord s n).link = s.link ∧
      (State.deleteRecord s n).staging = s.staging ∧
      (State.deleteRecord s n).bays = s.bays ∧
      (State.deleteRecord s n).governor = s.governor ∧
      (State.deleteRecord s n).verify = s.verify ∧
      (State.deleteRecord s n).trans = s.trans ∧
      (State.deleteRecord s n).labels = s.labels ∧
      (State.deleteRecord s n).printer = s.printer ∧
      (State.deleteRecord s n).settings = s.settings ∧
      (State.deleteRecord s n).sensors = s.sensors ∧
      (State.deleteRecord s n).now = s.now ∧
      (State.deleteRecord s n).dispatchWanted = s.dispatchWanted ∧
      (State.deleteRecord s n).pending = s.pending := by
  unfold State.deleteRecord
  (repeat' split) <;> simp

/-- What `retire` leaves alone. -/
@[simp] theorem State.retire_frame (s : State) (n : Nat) (at_ : BinId) :
    (State.retire s n at_).link = s.link ∧
      (State.retire s n at_).staging = s.staging ∧
      (State.retire s n at_).bays = s.bays ∧
      (State.retire s n at_).governor = s.governor ∧
      (State.retire s n at_).verify = s.verify ∧
      (State.retire s n at_).trans = s.trans ∧
      (State.retire s n at_).labels = s.labels ∧
      (State.retire s n at_).printer = s.printer ∧
      (State.retire s n at_).settings = s.settings ∧
      (State.retire s n at_).sensors = s.sensors ∧
      (State.retire s n at_).now = s.now ∧
      (State.retire s n at_).dispatchWanted = s.dispatchWanted ∧
      (State.retire s n at_).pending = s.pending := by
  unfold State.retire
  (repeat' split) <;> simp

/-- What `stageSpace` leaves alone. -/
@[simp] theorem State.stageSpace_frame (s : State) :
    (State.stageSpace s).link = s.link ∧
      (State.stageSpace s).jobs = s.jobs ∧
      (State.stageSpace s).discs = s.discs ∧
      (State.stageSpace s).bays = s.bays ∧
      (State.stageSpace s).governor = s.governor ∧
      (State.stageSpace s).verify = s.verify ∧
      (State.stageSpace s).trans = s.trans ∧
      (State.stageSpace s).labels = s.labels ∧
      (State.stageSpace s).printer = s.printer ∧
      (State.stageSpace s).settings = s.settings ∧
      (State.stageSpace s).sensors = s.sensors ∧
      (State.stageSpace s).now = s.now ∧
      (State.stageSpace s).dispatchWanted = s.dispatchWanted ∧
      (State.stageSpace s).pending = s.pending := by
  unfold State.stageSpace
  (repeat' split) <;> simp

/-- What `returnSegments` leaves alone. -/
@[simp] theorem State.returnSegments_frame (s : State) (k : Nat) :
    (State.returnSegments s k).link = s.link ∧
      (State.returnSegments s k).jobs = s.jobs ∧
      (State.returnSegments s k).discs = s.discs ∧
      (State.returnSegments s k).bays = s.bays ∧
      (State.returnSegments s k).governor = s.governor ∧
      (State.returnSegments s k).verify = s.verify ∧
      (State.returnSegments s k).trans = s.trans ∧
      (State.returnSegments s k).labels = s.labels ∧
      (State.returnSegments s k).printer = s.printer ∧
      (State.returnSegments s k).settings = s.settings ∧
      (State.returnSegments s k).sensors = s.sensors ∧
      (State.returnSegments s k).now = s.now ∧
      (State.returnSegments s k).dispatchWanted = s.dispatchWanted ∧
      (State.returnSegments s k).pending = s.pending := by
  unfold State.returnSegments
  (repeat' split) <;> simp

/-- What `endPass` leaves alone. -/
@[simp] theorem State.endPass_frame (s : State) (k : ImageId) (i : Image) :
    (State.endPass s k i).link = s.link ∧
      (State.endPass s k i).jobs = s.jobs ∧
      (State.endPass s k i).discs = s.discs ∧
      (State.endPass s k i).bays = s.bays ∧
      (State.endPass s k i).governor = s.governor ∧
      (State.endPass s k i).verify = s.verify ∧
      (State.endPass s k i).trans = s.trans ∧
      (State.endPass s k i).labels = s.labels ∧
      (State.endPass s k i).printer = s.printer ∧
      (State.endPass s k i).settings = s.settings ∧
      (State.endPass s k i).sensors = s.sensors ∧
      (State.endPass s k i).now = s.now ∧
      (State.endPass s k i).dispatchWanted = s.dispatchWanted ∧
      (State.endPass s k i).pending = s.pending := by
  unfold State.endPass
  simp

/-- What `passEndTest` leaves alone. -/
@[simp] theorem State.passEndTest_frame (s : State) (k : ImageId) :
    (State.passEndTest s k).link = s.link ∧
      (State.passEndTest s k).jobs = s.jobs ∧
      (State.passEndTest s k).discs = s.discs ∧
      (State.passEndTest s k).bays = s.bays ∧
      (State.passEndTest s k).governor = s.governor ∧
      (State.passEndTest s k).verify = s.verify ∧
      (State.passEndTest s k).trans = s.trans ∧
      (State.passEndTest s k).labels = s.labels ∧
      (State.passEndTest s k).printer = s.printer ∧
      (State.passEndTest s k).settings = s.settings ∧
      (State.passEndTest s k).sensors = s.sensors ∧
      (State.passEndTest s k).now = s.now ∧
      (State.passEndTest s k).dispatchWanted = s.dispatchWanted ∧
      (State.passEndTest s k).pending = s.pending := by
  unfold State.passEndTest
  (repeat' split) <;> simp

/-- What `releaseHead` leaves alone. -/
@[simp] theorem State.releaseHead_frame (s : State) (k : ImageId) (i : Image) :
    (State.releaseHead s k i).link = s.link ∧
      (State.releaseHead s k i).jobs = s.jobs ∧
      (State.releaseHead s k i).discs = s.discs ∧
      (State.releaseHead s k i).bays = s.bays ∧
      (State.releaseHead s k i).governor = s.governor ∧
      (State.releaseHead s k i).verify = s.verify ∧
      (State.releaseHead s k i).trans = s.trans ∧
      (State.releaseHead s k i).labels = s.labels ∧
      (State.releaseHead s k i).printer = s.printer ∧
      (State.releaseHead s k i).settings = s.settings ∧
      (State.releaseHead s k i).sensors = s.sensors ∧
      (State.releaseHead s k i).now = s.now ∧
      (State.releaseHead s k i).dispatchWanted = s.dispatchWanted ∧
      (State.releaseHead s k i).pending = s.pending := by
  unfold State.releaseHead
  simp

/-- What `releaseLoop` leaves alone. -/
@[simp] theorem State.releaseLoop_frame (k : ImageId) (m : Nat) (s : State) :
    (State.releaseLoop k m s).link = s.link ∧
      (State.releaseLoop k m s).jobs = s.jobs ∧
      (State.releaseLoop k m s).discs = s.discs ∧
      (State.releaseLoop k m s).bays = s.bays ∧
      (State.releaseLoop k m s).governor = s.governor ∧
      (State.releaseLoop k m s).verify = s.verify ∧
      (State.releaseLoop k m s).trans = s.trans ∧
      (State.releaseLoop k m s).labels = s.labels ∧
      (State.releaseLoop k m s).printer = s.printer ∧
      (State.releaseLoop k m s).settings = s.settings ∧
      (State.releaseLoop k m s).sensors = s.sensors ∧
      (State.releaseLoop k m s).now = s.now ∧
      (State.releaseLoop k m s).dispatchWanted = s.dispatchWanted ∧
      (State.releaseLoop k m s).pending = s.pending := by
  induction m generalizing s with
  | zero => simp [State.releaseLoop]
  | succ m ih =>
    unfold State.releaseLoop
    (repeat' split) <;> simp_all

/-- What `releaseEvaluation` leaves alone. -/
@[simp] theorem State.releaseEvaluation_frame (s : State) (k : ImageId) :
    (State.releaseEvaluation s k).link = s.link ∧
      (State.releaseEvaluation s k).jobs = s.jobs ∧
      (State.releaseEvaluation s k).discs = s.discs ∧
      (State.releaseEvaluation s k).bays = s.bays ∧
      (State.releaseEvaluation s k).governor = s.governor ∧
      (State.releaseEvaluation s k).verify = s.verify ∧
      (State.releaseEvaluation s k).trans = s.trans ∧
      (State.releaseEvaluation s k).labels = s.labels ∧
      (State.releaseEvaluation s k).printer = s.printer ∧
      (State.releaseEvaluation s k).settings = s.settings ∧
      (State.releaseEvaluation s k).sensors = s.sensors ∧
      (State.releaseEvaluation s k).now = s.now ∧
      (State.releaseEvaluation s k).dispatchWanted = s.dispatchWanted ∧
      (State.releaseEvaluation s k).pending = s.pending := by
  unfold State.releaseEvaluation
  (repeat' split) <;> simp

/-- What `poolEmptied` leaves alone. -/
@[simp] theorem State.poolEmptied_frame (s : State) :
    (State.poolEmptied s).link = s.link ∧
      (State.poolEmptied s).jobs = s.jobs ∧
      (State.poolEmptied s).discs = s.discs ∧
      (State.poolEmptied s).bays = s.bays ∧
      (State.poolEmptied s).governor = s.governor ∧
      (State.poolEmptied s).verify = s.verify ∧
      (State.poolEmptied s).trans = s.trans ∧
      (State.poolEmptied s).labels = s.labels ∧
      (State.poolEmptied s).printer = s.printer ∧
      (State.poolEmptied s).settings = s.settings ∧
      (State.poolEmptied s).sensors = s.sensors ∧
      (State.poolEmptied s).now = s.now ∧
      (State.poolEmptied s).dispatchWanted = s.dispatchWanted ∧
      (State.poolEmptied s).pending = s.pending := by
  unfold State.poolEmptied
  simp

/-- What `leaveConsumers` leaves alone. -/
@[simp] theorem State.leaveConsumers_frame (s : State) (k : ImageId) (b : BayId) :
    (State.leaveConsumers s k b).link = s.link ∧
      (State.leaveConsumers s k b).jobs = s.jobs ∧
      (State.leaveConsumers s k b).discs = s.discs ∧
      (State.leaveConsumers s k b).bays = s.bays ∧
      (State.leaveConsumers s k b).governor = s.governor ∧
      (State.leaveConsumers s k b).verify = s.verify ∧
      (State.leaveConsumers s k b).trans = s.trans ∧
      (State.leaveConsumers s k b).labels = s.labels ∧
      (State.leaveConsumers s k b).printer = s.printer ∧
      (State.leaveConsumers s k b).settings = s.settings ∧
      (State.leaveConsumers s k b).sensors = s.sensors ∧
      (State.leaveConsumers s k b).now = s.now ∧
      (State.leaveConsumers s k b).dispatchWanted = s.dispatchWanted ∧
      (State.leaveConsumers s k b).pending = s.pending := by
  unfold State.leaveConsumers
  (repeat' split) <;> simp

/-- What `joinConsumers` leaves alone. -/
@[simp] theorem State.joinConsumers_frame (s : State) (k : ImageId) (b : BayId) :
    (State.joinConsumers s k b).link = s.link ∧
      (State.joinConsumers s k b).jobs = s.jobs ∧
      (State.joinConsumers s k b).discs = s.discs ∧
      (State.joinConsumers s k b).bays = s.bays ∧
      (State.joinConsumers s k b).governor = s.governor ∧
      (State.joinConsumers s k b).verify = s.verify ∧
      (State.joinConsumers s k b).trans = s.trans ∧
      (State.joinConsumers s k b).labels = s.labels ∧
      (State.joinConsumers s k b).printer = s.printer ∧
      (State.joinConsumers s k b).status = s.status ∧
      (State.joinConsumers s k b).settings = s.settings ∧
      (State.joinConsumers s k b).sensors = s.sensors ∧
      (State.joinConsumers s k b).now = s.now ∧
      (State.joinConsumers s k b).dispatchWanted = s.dispatchWanted ∧
      (State.joinConsumers s k b).pending = s.pending := by
  unfold State.joinConsumers
  (repeat' split) <;> simp

/-- What `growWindow` leaves alone. -/
@[simp] theorem State.growWindow_frame (s : State) (k : ImageId) (i : Image) :
    (State.growWindow s k i).link = s.link ∧
      (State.growWindow s k i).jobs = s.jobs ∧
      (State.growWindow s k i).discs = s.discs ∧
      (State.growWindow s k i).bays = s.bays ∧
      (State.growWindow s k i).governor = s.governor ∧
      (State.growWindow s k i).verify = s.verify ∧
      (State.growWindow s k i).trans = s.trans ∧
      (State.growWindow s k i).labels = s.labels ∧
      (State.growWindow s k i).printer = s.printer ∧
      (State.growWindow s k i).settings = s.settings ∧
      (State.growWindow s k i).sensors = s.sensors ∧
      (State.growWindow s k i).now = s.now ∧
      (State.growWindow s k i).dispatchWanted = s.dispatchWanted ∧
      (State.growWindow s k i).pending = s.pending := by
  unfold State.growWindow
  (repeat' split) <;> (try simp) <;> (repeat' split) <;> (try simp) <;> (repeat' split) <;> simp

/-- What `turnWindow` leaves alone. -/
@[simp] theorem State.turnWindow_frame (s : State) (k : ImageId) (i : Image) :
    (State.turnWindow s k i).link = s.link ∧
      (State.turnWindow s k i).jobs = s.jobs ∧
      (State.turnWindow s k i).discs = s.discs ∧
      (State.turnWindow s k i).bays = s.bays ∧
      (State.turnWindow s k i).governor = s.governor ∧
      (State.turnWindow s k i).verify = s.verify ∧
      (State.turnWindow s k i).trans = s.trans ∧
      (State.turnWindow s k i).labels = s.labels ∧
      (State.turnWindow s k i).printer = s.printer ∧
      (State.turnWindow s k i).settings = s.settings ∧
      (State.turnWindow s k i).sensors = s.sensors ∧
      (State.turnWindow s k i).now = s.now ∧
      (State.turnWindow s k i).dispatchWanted = s.dispatchWanted ∧
      (State.turnWindow s k i).pending = s.pending := by
  unfold State.turnWindow
  simp

/-- What `findSegment` leaves alone. -/
theorem State.findSegment_frame (s : State) (k : ImageId) (i : Image) (count : Nat) {t : State} (h : State.findSegment s k i count = some t) :
    t.link = s.link ∧
      t.jobs = s.jobs ∧
      t.discs = s.discs ∧
      t.bays = s.bays ∧
      t.governor = s.governor ∧
      t.verify = s.verify ∧
      t.trans = s.trans ∧
      t.labels = s.labels ∧
      t.printer = s.printer ∧
      t.settings = s.settings ∧
      t.sensors = s.sensors ∧
      t.now = s.now ∧
      t.dispatchWanted = s.dispatchWanted ∧
      t.pending = s.pending := by
  unfold State.findSegment at h
  split at h
  · split at h
    · cases h; simp
    · split at h
      · cases h; simp
      · cases h
  · cases h; simp

/-- What `releaseAllocation` leaves alone. -/
@[simp] theorem State.releaseAllocation_frame (s : State) (b : BayId) :
    (State.releaseAllocation s b).link = s.link ∧
      (State.releaseAllocation s b).jobs = s.jobs ∧
      (State.releaseAllocation s b).discs = s.discs ∧
      (State.releaseAllocation s b).staging = s.staging ∧
      (State.releaseAllocation s b).verify = s.verify ∧
      (State.releaseAllocation s b).trans = s.trans ∧
      (State.releaseAllocation s b).labels = s.labels ∧
      (State.releaseAllocation s b).printer = s.printer ∧
      (State.releaseAllocation s b).status = s.status ∧
      (State.releaseAllocation s b).settings = s.settings ∧
      (State.releaseAllocation s b).sensors = s.sensors ∧
      (State.releaseAllocation s b).now = s.now ∧
      (State.releaseAllocation s b).dispatchWanted = s.dispatchWanted ∧
      (State.releaseAllocation s b).pending = s.pending := by
  unfold State.releaseAllocation
  (repeat' split) <;> simp

/-- What `leaveAdmission` leaves alone. -/
@[simp] theorem State.leaveAdmission_frame (s : State) (b : BayId) :
    (State.leaveAdmission s b).link = s.link ∧
      (State.leaveAdmission s b).jobs = s.jobs ∧
      (State.leaveAdmission s b).discs = s.discs ∧
      (State.leaveAdmission s b).staging = s.staging ∧
      (State.leaveAdmission s b).verify = s.verify ∧
      (State.leaveAdmission s b).trans = s.trans ∧
      (State.leaveAdmission s b).labels = s.labels ∧
      (State.leaveAdmission s b).printer = s.printer ∧
      (State.leaveAdmission s b).status = s.status ∧
      (State.leaveAdmission s b).settings = s.settings ∧
      (State.leaveAdmission s b).sensors = s.sensors ∧
      (State.leaveAdmission s b).now = s.now ∧
      (State.leaveAdmission s b).dispatchWanted = s.dispatchWanted ∧
      (State.leaveAdmission s b).pending = s.pending := by
  unfold State.leaveAdmission
  simp

/-- What `joinAdmission` leaves alone. -/
@[simp] theorem State.joinAdmission_frame (s : State) (b : BayId) :
    (State.joinAdmission s b).link = s.link ∧
      (State.joinAdmission s b).jobs = s.jobs ∧
      (State.joinAdmission s b).discs = s.discs ∧
      (State.joinAdmission s b).staging = s.staging ∧
      (State.joinAdmission s b).bays = s.bays ∧
      (State.joinAdmission s b).verify = s.verify ∧
      (State.joinAdmission s b).trans = s.trans ∧
      (State.joinAdmission s b).labels = s.labels ∧
      (State.joinAdmission s b).printer = s.printer ∧
      (State.joinAdmission s b).status = s.status ∧
      (State.joinAdmission s b).settings = s.settings ∧
      (State.joinAdmission s b).sensors = s.sensors ∧
      (State.joinAdmission s b).now = s.now ∧
      (State.joinAdmission s b).dispatchWanted = s.dispatchWanted ∧
      (State.joinAdmission s b).pending = s.pending := by
  unfold State.joinAdmission
  simp

/-- What `admitAt` leaves alone. -/
@[simp] theorem State.admitAt_frame (s : State) (b : BayId) (step : Nat) :
    (State.admitAt s b step).link = s.link ∧
      (State.admitAt s b step).jobs = s.jobs ∧
      (State.admitAt s b step).discs = s.discs ∧
      (State.admitAt s b step).staging = s.staging ∧
      (State.admitAt s b step).verify = s.verify ∧
      (State.admitAt s b step).trans = s.trans ∧
      (State.admitAt s b step).labels = s.labels ∧
      (State.admitAt s b step).printer = s.printer ∧
      (State.admitAt s b step).status = s.status ∧
      (State.admitAt s b step).settings = s.settings ∧
      (State.admitAt s b step).sensors = s.sensors ∧
      (State.admitAt s b step).now = s.now ∧
      (State.admitAt s b step).dispatchWanted = s.dispatchWanted ∧
      (State.admitAt s b step).pending = s.pending := by
  unfold State.admitAt
  (repeat' split) <;> simp

/-- What `admissionWalk` leaves alone. -/
@[simp] theorem State.admissionWalk_frame (l : List AdmEntry) (s : State) :
    (State.admissionWalk l s).link = s.link ∧
      (State.admissionWalk l s).jobs = s.jobs ∧
      (State.admissionWalk l s).discs = s.discs ∧
      (State.admissionWalk l s).staging = s.staging ∧
      (State.admissionWalk l s).verify = s.verify ∧
      (State.admissionWalk l s).trans = s.trans ∧
      (State.admissionWalk l s).labels = s.labels ∧
      (State.admissionWalk l s).printer = s.printer ∧
      (State.admissionWalk l s).status = s.status ∧
      (State.admissionWalk l s).settings = s.settings ∧
      (State.admissionWalk l s).sensors = s.sensors ∧
      (State.admissionWalk l s).now = s.now ∧
      (State.admissionWalk l s).dispatchWanted = s.dispatchWanted ∧
      (State.admissionWalk l s).pending = s.pending := by
  induction l generalizing s with
  | nil => simp [State.admissionWalk]
  | cons e r ih =>
    unfold State.admissionWalk
    (repeat' split) <;> simp_all

/-- What `leaveVerify` leaves alone. -/
@[simp] theorem State.leaveVerify_frame (s : State) (b : BayId) :
    (State.leaveVerify s b).link = s.link ∧
      (State.leaveVerify s b).jobs = s.jobs ∧
      (State.leaveVerify s b).discs = s.discs ∧
      (State.leaveVerify s b).staging = s.staging ∧
      (State.leaveVerify s b).bays = s.bays ∧
      (State.leaveVerify s b).governor = s.governor ∧
      (State.leaveVerify s b).trans = s.trans ∧
      (State.leaveVerify s b).labels = s.labels ∧
      (State.leaveVerify s b).printer = s.printer ∧
      (State.leaveVerify s b).status = s.status ∧
      (State.leaveVerify s b).settings = s.settings ∧
      (State.leaveVerify s b).sensors = s.sensors ∧
      (State.leaveVerify s b).now = s.now ∧
      (State.leaveVerify s b).dispatchWanted = s.dispatchWanted ∧
      (State.leaveVerify s b).pending = s.pending := by
  unfold State.leaveVerify
  simp

/-- What `joinVerify` leaves alone. -/
@[simp] theorem State.joinVerify_frame (s : State) (b : BayId) :
    (State.joinVerify s b).link = s.link ∧
      (State.joinVerify s b).jobs = s.jobs ∧
      (State.joinVerify s b).discs = s.discs ∧
      (State.joinVerify s b).staging = s.staging ∧
      (State.joinVerify s b).bays = s.bays ∧
      (State.joinVerify s b).governor = s.governor ∧
      (State.joinVerify s b).trans = s.trans ∧
      (State.joinVerify s b).labels = s.labels ∧
      (State.joinVerify s b).printer = s.printer ∧
      (State.joinVerify s b).status = s.status ∧
      (State.joinVerify s b).settings = s.settings ∧
      (State.joinVerify s b).sensors = s.sensors ∧
      (State.joinVerify s b).now = s.now ∧
      (State.joinVerify s b).dispatchWanted = s.dispatchWanted ∧
      (State.joinVerify s b).pending = s.pending := by
  unfold State.joinVerify
  simp

/-- What `joinQueue` leaves alone. -/
@[simp] theorem State.joinQueue_frame (s : State) (r : MoveReq) :
    (State.joinQueue s r).link = s.link ∧
      (State.joinQueue s r).jobs = s.jobs ∧
      (State.joinQueue s r).discs = s.discs ∧
      (State.joinQueue s r).staging = s.staging ∧
      (State.joinQueue s r).bays = s.bays ∧
      (State.joinQueue s r).governor = s.governor ∧
      (State.joinQueue s r).verify = s.verify ∧
      (State.joinQueue s r).labels = s.labels ∧
      (State.joinQueue s r).printer = s.printer ∧
      (State.joinQueue s r).status = s.status ∧
      (State.joinQueue s r).settings = s.settings ∧
      (State.joinQueue s r).sensors = s.sensors ∧
      (State.joinQueue s r).now = s.now ∧
      (State.joinQueue s r).dispatchWanted = s.dispatchWanted ∧
      (State.joinQueue s r).pending = s.pending := by
  unfold State.joinQueue
  simp

/-- What `postMove` leaves alone. -/
@[simp] theorem State.postMove_frame (s : State) (r : MoveReq) :
    (State.postMove s r).link = s.link ∧
      (State.postMove s r).jobs = s.jobs ∧
      (State.postMove s r).staging = s.staging ∧
      (State.postMove s r).bays = s.bays ∧
      (State.postMove s r).governor = s.governor ∧
      (State.postMove s r).verify = s.verify ∧
      (State.postMove s r).labels = s.labels ∧
      (State.postMove s r).printer = s.printer ∧
      (State.postMove s r).status = s.status ∧
      (State.postMove s r).settings = s.settings ∧
      (State.postMove s r).sensors = s.sensors ∧
      (State.postMove s r).now = s.now ∧
      (State.postMove s r).dispatchWanted = s.dispatchWanted ∧
      (State.postMove s r).pending = s.pending := by
  unfold State.postMove
  (repeat' split) <;> simp

/-- What `postWaiting` leaves alone. -/
@[simp] theorem State.postWaiting_frame (s : State) :
    (State.postWaiting s).link = s.link ∧
      (State.postWaiting s).jobs = s.jobs ∧
      (State.postWaiting s).staging = s.staging ∧
      (State.postWaiting s).bays = s.bays ∧
      (State.postWaiting s).governor = s.governor ∧
      (State.postWaiting s).verify = s.verify ∧
      (State.postWaiting s).labels = s.labels ∧
      (State.postWaiting s).printer = s.printer ∧
      (State.postWaiting s).status = s.status ∧
      (State.postWaiting s).settings = s.settings ∧
      (State.postWaiting s).sensors = s.sensors ∧
      (State.postWaiting s).now = s.now ∧
      (State.postWaiting s).dispatchWanted = s.dispatchWanted ∧
      (State.postWaiting s).pending = s.pending := by
  unfold State.postWaiting
  exact ⟨foldl_frame (fun s : State => s.link) _ (by intro s a; simp) _ _,
    foldl_frame (fun s : State => s.jobs) _ (by intro s a; simp) _ _,
    foldl_frame (fun s : State => s.staging) _ (by intro s a; simp) _ _,
    foldl_frame (fun s : State => s.bays) _ (by intro s a; simp) _ _,
    foldl_frame (fun s : State => s.governor) _ (by intro s a; simp) _ _,
    foldl_frame (fun s : State => s.verify) _ (by intro s a; simp) _ _,
    foldl_frame (fun s : State => s.labels) _ (by intro s a; simp) _ _,
    foldl_frame (fun s : State => s.printer) _ (by intro s a; simp) _ _,
    foldl_frame (fun s : State => s.status) _ (by intro s a; simp) _ _,
    foldl_frame (fun s : State => s.settings) _ (by intro s a; simp) _ _,
    foldl_frame (fun s : State => s.sensors) _ (by intro s a; simp) _ _,
    foldl_frame (fun s : State => s.now) _ (by intro s a; simp) _ _,
    foldl_frame (fun s : State => s.dispatchWanted) _ (by intro s a; simp) _ _,
    foldl_frame (fun s : State => s.pending) _ (by intro s a; simp) _ _⟩

/-- With no post waiting, nothing is posted (R113). -/
theorem State.postWaiting_none {s : State} (h : s.trans.waiting = []) : s.postWaiting = s := by
  obtain ⟨_, _, _, _, _, _, _, ⟨⟩, _⟩ := s
  cases h
  rfl

/-- What `createDispatch` leaves alone. -/
@[simp] theorem State.createDispatch_frame (s : State) (slot : JobSlot) (i : SpindleId) (b : BayId) :
    (State.createDispatch s slot i b).link = s.link ∧
      (State.createDispatch s slot i b).staging = s.staging ∧
      (State.createDispatch s slot i b).bays = s.bays ∧
      (State.createDispatch s slot i b).governor = s.governor ∧
      (State.createDispatch s slot i b).verify = s.verify ∧
      (State.createDispatch s slot i b).trans = s.trans ∧
      (State.createDispatch s slot i b).labels = s.labels ∧
      (State.createDispatch s slot i b).printer = s.printer ∧
      (State.createDispatch s slot i b).settings = s.settings ∧
      (State.createDispatch s slot i b).sensors = s.sensors ∧
      (State.createDispatch s slot i b).now = s.now ∧
      (State.createDispatch s slot i b).dispatchWanted = s.dispatchWanted ∧
      (State.createDispatch s slot i b).pending = s.pending := by
  unfold State.createDispatch
  simp

/-- What `dispatch` leaves alone. -/
@[simp] theorem State.dispatch_frame (s : State) (b : BayId) (slot : JobSlot) (j : Job) (i : SpindleId) :
    (State.dispatch s b slot j i).link = s.link ∧
      (State.dispatch s b slot j i).staging = s.staging ∧
      (State.dispatch s b slot j i).governor = s.governor ∧
      (State.dispatch s b slot j i).verify = s.verify ∧
      (State.dispatch s b slot j i).labels = s.labels ∧
      (State.dispatch s b slot j i).printer = s.printer ∧
      (State.dispatch s b slot j i).settings = s.settings ∧
      (State.dispatch s b slot j i).sensors = s.sensors ∧
      (State.dispatch s b slot j i).now = s.now ∧
      (State.dispatch s b slot j i).dispatchWanted = s.dispatchWanted ∧
      (State.dispatch s b slot j i).pending = s.pending := by
  unfold State.dispatch
  simp

/-- What `dispatchBay` leaves alone. -/
@[simp] theorem State.dispatchBay_frame (s : State) (b : BayId) :
    (State.dispatchBay s b).link = s.link ∧
      (State.dispatchBay s b).staging = s.staging ∧
      (State.dispatchBay s b).governor = s.governor ∧
      (State.dispatchBay s b).verify = s.verify ∧
      (State.dispatchBay s b).labels = s.labels ∧
      (State.dispatchBay s b).printer = s.printer ∧
      (State.dispatchBay s b).settings = s.settings ∧
      (State.dispatchBay s b).sensors = s.sensors ∧
      (State.dispatchBay s b).now = s.now ∧
      (State.dispatchBay s b).dispatchWanted = s.dispatchWanted ∧
      (State.dispatchBay s b).pending = s.pending := by
  unfold State.dispatchBay
  (repeat' split) <;> simp

/-- What `dispatchAll` leaves alone. -/
@[simp] theorem State.dispatchAll_frame (s : State) :
    (State.dispatchAll s).link = s.link ∧
      (State.dispatchAll s).staging = s.staging ∧
      (State.dispatchAll s).governor = s.governor ∧
      (State.dispatchAll s).verify = s.verify ∧
      (State.dispatchAll s).labels = s.labels ∧
      (State.dispatchAll s).printer = s.printer ∧
      (State.dispatchAll s).settings = s.settings ∧
      (State.dispatchAll s).sensors = s.sensors ∧
      (State.dispatchAll s).now = s.now ∧
      (State.dispatchAll s).dispatchWanted = s.dispatchWanted ∧
      (State.dispatchAll s).pending = s.pending := by
  unfold State.dispatchAll
  exact ⟨foldl_frame (fun s : State => s.link) _ (by intro s a; simp) _ _,
    foldl_frame (fun s : State => s.staging) _ (by intro s a; simp) _ _,
    foldl_frame (fun s : State => s.governor) _ (by intro s a; simp) _ _,
    foldl_frame (fun s : State => s.verify) _ (by intro s a; simp) _ _,
    foldl_frame (fun s : State => s.labels) _ (by intro s a; simp) _ _,
    foldl_frame (fun s : State => s.printer) _ (by intro s a; simp) _ _,
    foldl_frame (fun s : State => s.settings) _ (by intro s a; simp) _ _,
    foldl_frame (fun s : State => s.sensors) _ (by intro s a; simp) _ _,
    foldl_frame (fun s : State => s.now) _ (by intro s a; simp) _ _,
    foldl_frame (fun s : State => s.dispatchWanted) _ (by intro s a; simp) _ _,
    foldl_frame (fun s : State => s.pending) _ (by intro s a; simp) _ _⟩

/-- What `postUnload` leaves alone. -/
@[simp] theorem State.postUnload_frame (s : State) (b : BayId) (n : Nat) (dest : Station) :
    (State.postUnload s b n dest).link = s.link ∧
      (State.postUnload s b n dest).staging = s.staging ∧
      (State.postUnload s b n dest).bays = s.bays ∧
      (State.postUnload s b n dest).governor = s.governor ∧
      (State.postUnload s b n dest).verify = s.verify ∧
      (State.postUnload s b n dest).labels = s.labels ∧
      (State.postUnload s b n dest).printer = s.printer ∧
      (State.postUnload s b n dest).settings = s.settings ∧
      (State.postUnload s b n dest).sensors = s.sensors ∧
      (State.postUnload s b n dest).now = s.now ∧
      (State.postUnload s b n dest).dispatchWanted = s.dispatchWanted ∧
      (State.postUnload s b n dest).pending = s.pending := by
  unfold State.postUnload
  (repeat' split) <;> simp

/-- What `enterAwaitUnload` leaves alone. -/
@[simp] theorem State.enterAwaitUnload_frame (s : State) (b : BayId) (n : Nat) :
    (State.enterAwaitUnload s b n).link = s.link ∧
      (State.enterAwaitUnload s b n).staging = s.staging ∧
      (State.enterAwaitUnload s b n).governor = s.governor ∧
      (State.enterAwaitUnload s b n).verify = s.verify ∧
      (State.enterAwaitUnload s b n).labels = s.labels ∧
      (State.enterAwaitUnload s b n).printer = s.printer ∧
      (State.enterAwaitUnload s b n).settings = s.settings ∧
      (State.enterAwaitUnload s b n).sensors = s.sensors ∧
      (State.enterAwaitUnload s b n).now = s.now ∧
      (State.enterAwaitUnload s b n).dispatchWanted = s.dispatchWanted ∧
      (State.enterAwaitUnload s b n).pending = s.pending := by
  unfold State.enterAwaitUnload
  simp

/-- What `issue` leaves alone. -/
@[simp] theorem State.issue_frame (s : State) (b : BayId) (req : DriveReq) :
    (State.issue s b req).link = s.link ∧
      (State.issue s b req).jobs = s.jobs ∧
      (State.issue s b req).discs = s.discs ∧
      (State.issue s b req).staging = s.staging ∧
      (State.issue s b req).governor = s.governor ∧
      (State.issue s b req).verify = s.verify ∧
      (State.issue s b req).trans = s.trans ∧
      (State.issue s b req).labels = s.labels ∧
      (State.issue s b req).printer = s.printer ∧
      (State.issue s b req).status = s.status ∧
      (State.issue s b req).settings = s.settings ∧
      (State.issue s b req).sensors = s.sensors ∧
      (State.issue s b req).now = s.now ∧
      (State.issue s b req).dispatchWanted = s.dispatchWanted ∧
      (State.issue s b req).pending = s.pending := by
  unfold State.issue
  simp

/-- What `issueSuspend` leaves alone. -/
@[simp] theorem State.issueSuspend_frame (s : State) (b : BayId) :
    (State.issueSuspend s b).link = s.link ∧
      (State.issueSuspend s b).jobs = s.jobs ∧
      (State.issueSuspend s b).discs = s.discs ∧
      (State.issueSuspend s b).staging = s.staging ∧
      (State.issueSuspend s b).governor = s.governor ∧
      (State.issueSuspend s b).verify = s.verify ∧
      (State.issueSuspend s b).trans = s.trans ∧
      (State.issueSuspend s b).labels = s.labels ∧
      (State.issueSuspend s b).printer = s.printer ∧
      (State.issueSuspend s b).status = s.status ∧
      (State.issueSuspend s b).settings = s.settings ∧
      (State.issueSuspend s b).sensors = s.sensors ∧
      (State.issueSuspend s b).now = s.now ∧
      (State.issueSuspend s b).dispatchWanted = s.dispatchWanted ∧
      (State.issueSuspend s b).pending = s.pending := by
  unfold State.issueSuspend
  simp

/-- What `issueIdentify` leaves alone. -/
@[simp] theorem State.issueIdentify_frame (s : State) (b : BayId) :
    (State.issueIdentify s b).link = s.link ∧
      (State.issueIdentify s b).jobs = s.jobs ∧
      (State.issueIdentify s b).discs = s.discs ∧
      (State.issueIdentify s b).staging = s.staging ∧
      (State.issueIdentify s b).governor = s.governor ∧
      (State.issueIdentify s b).verify = s.verify ∧
      (State.issueIdentify s b).trans = s.trans ∧
      (State.issueIdentify s b).labels = s.labels ∧
      (State.issueIdentify s b).printer = s.printer ∧
      (State.issueIdentify s b).status = s.status ∧
      (State.issueIdentify s b).settings = s.settings ∧
      (State.issueIdentify s b).sensors = s.sensors ∧
      (State.issueIdentify s b).now = s.now ∧
      (State.issueIdentify s b).dispatchWanted = s.dispatchWanted ∧
      (State.issueIdentify s b).pending = s.pending := by
  unfold State.issueIdentify
  simp

/-- What `reissueIdentify` leaves alone. -/
@[simp] theorem State.reissueIdentify_frame (s : State) (b : BayId) :
    (State.reissueIdentify s b).link = s.link ∧
      (State.reissueIdentify s b).jobs = s.jobs ∧
      (State.reissueIdentify s b).discs = s.discs ∧
      (State.reissueIdentify s b).staging = s.staging ∧
      (State.reissueIdentify s b).governor = s.governor ∧
      (State.reissueIdentify s b).verify = s.verify ∧
      (State.reissueIdentify s b).trans = s.trans ∧
      (State.reissueIdentify s b).labels = s.labels ∧
      (State.reissueIdentify s b).printer = s.printer ∧
      (State.reissueIdentify s b).status = s.status ∧
      (State.reissueIdentify s b).settings = s.settings ∧
      (State.reissueIdentify s b).sensors = s.sensors ∧
      (State.reissueIdentify s b).now = s.now ∧
      (State.reissueIdentify s b).dispatchWanted = s.dispatchWanted ∧
      (State.reissueIdentify s b).pending = s.pending := by
  unfold State.reissueIdentify
  simp

/-- What `portReset` leaves alone. -/
@[simp] theorem State.portReset_frame (s : State) (b : BayId) :
    (State.portReset s b).link = s.link ∧
      (State.portReset s b).jobs = s.jobs ∧
      (State.portReset s b).discs = s.discs ∧
      (State.portReset s b).staging = s.staging ∧
      (State.portReset s b).governor = s.governor ∧
      (State.portReset s b).verify = s.verify ∧
      (State.portReset s b).trans = s.trans ∧
      (State.portReset s b).labels = s.labels ∧
      (State.portReset s b).printer = s.printer ∧
      (State.portReset s b).status = s.status ∧
      (State.portReset s b).settings = s.settings ∧
      (State.portReset s b).sensors = s.sensors ∧
      (State.portReset s b).now = s.now ∧
      (State.portReset s b).dispatchWanted = s.dispatchWanted ∧
      (State.portReset s b).pending = s.pending := by
  unfold State.portReset
  simp

/-- What `handoverGivenUp` leaves alone. -/
@[simp] theorem State.handoverGivenUp_frame (s : State) (b : BayId) :
    (State.handoverGivenUp s b).link = s.link ∧
      (State.handoverGivenUp s b).jobs = s.jobs ∧
      (State.handoverGivenUp s b).discs = s.discs ∧
      (State.handoverGivenUp s b).staging = s.staging ∧
      (State.handoverGivenUp s b).governor = s.governor ∧
      (State.handoverGivenUp s b).verify = s.verify ∧
      (State.handoverGivenUp s b).trans = s.trans ∧
      (State.handoverGivenUp s b).labels = s.labels ∧
      (State.handoverGivenUp s b).printer = s.printer ∧
      (State.handoverGivenUp s b).status = s.status ∧
      (State.handoverGivenUp s b).settings = s.settings ∧
      (State.handoverGivenUp s b).sensors = s.sensors ∧
      (State.handoverGivenUp s b).now = s.now ∧
      (State.handoverGivenUp s b).dispatchWanted = s.dispatchWanted ∧
      (State.handoverGivenUp s b).pending = s.pending := by
  unfold State.handoverGivenUp
  (repeat' split) <;> simp

/-- What `feedTest` leaves alone. -/
@[simp] theorem State.feedTest_frame (s : State) (b : BayId) :
    (State.feedTest s b).link = s.link ∧
      (State.feedTest s b).jobs = s.jobs ∧
      (State.feedTest s b).discs = s.discs ∧
      (State.feedTest s b).staging = s.staging ∧
      (State.feedTest s b).governor = s.governor ∧
      (State.feedTest s b).verify = s.verify ∧
      (State.feedTest s b).trans = s.trans ∧
      (State.feedTest s b).labels = s.labels ∧
      (State.feedTest s b).printer = s.printer ∧
      (State.feedTest s b).status = s.status ∧
      (State.feedTest s b).settings = s.settings ∧
      (State.feedTest s b).sensors = s.sensors ∧
      (State.feedTest s b).now = s.now ∧
      (State.feedTest s b).dispatchWanted = s.dispatchWanted ∧
      (State.feedTest s b).pending = s.pending := by
  unfold State.feedTest
  (repeat' split) <;> (try simp) <;> (repeat' split) <;> (try simp) <;> (repeat' split) <;> simp

/-- What `leaveImage` leaves alone. -/
@[simp] theorem State.leaveImage_frame (s : State) (b : BayId) :
    (State.leaveImage s b).link = s.link ∧
      (State.leaveImage s b).jobs = s.jobs ∧
      (State.leaveImage s b).discs = s.discs ∧
      (State.leaveImage s b).bays = s.bays ∧
      (State.leaveImage s b).governor = s.governor ∧
      (State.leaveImage s b).verify = s.verify ∧
      (State.leaveImage s b).trans = s.trans ∧
      (State.leaveImage s b).labels = s.labels ∧
      (State.leaveImage s b).printer = s.printer ∧
      (State.leaveImage s b).settings = s.settings ∧
      (State.leaveImage s b).sensors = s.sensors ∧
      (State.leaveImage s b).now = s.now ∧
      (State.leaveImage s b).dispatchWanted = s.dispatchWanted ∧
      (State.leaveImage s b).pending = s.pending := by
  unfold State.leaveImage
  (repeat' split) <;> simp

/-- What `abandonWork` leaves alone. -/
@[simp] theorem State.abandonWork_frame (s : State) (b : BayId) :
    (State.abandonWork s b).link = s.link ∧
      (State.abandonWork s b).jobs = s.jobs ∧
      (State.abandonWork s b).discs = s.discs ∧
      (State.abandonWork s b).trans = s.trans ∧
      (State.abandonWork s b).labels = s.labels ∧
      (State.abandonWork s b).printer = s.printer ∧
      (State.abandonWork s b).settings = s.settings ∧
      (State.abandonWork s b).sensors = s.sensors ∧
      (State.abandonWork s b).now = s.now ∧
      (State.abandonWork s b).dispatchWanted = s.dispatchWanted ∧
      (State.abandonWork s b).pending = s.pending := by
  unfold State.abandonWork
  simp

/-- What `bayReject` leaves alone. -/
@[simp] theorem State.bayReject_frame (s : State) (b : BayId) (why : RejectReason) :
    (State.bayReject s b why).link = s.link ∧
      (State.bayReject s b why).labels = s.labels ∧
      (State.bayReject s b why).printer = s.printer ∧
      (State.bayReject s b why).settings = s.settings ∧
      (State.bayReject s b why).sensors = s.sensors ∧
      (State.bayReject s b why).now = s.now ∧
      (State.bayReject s b why).dispatchWanted = s.dispatchWanted ∧
      (State.bayReject s b why).pending = s.pending := by
  unfold State.bayReject
  (repeat' split) <;> simp

/-- What `reportBayFault` leaves alone. -/
@[simp] theorem State.reportBayFault_frame (s : State) :
    (State.reportBayFault s).link = s.link ∧
      (State.reportBayFault s).jobs = s.jobs ∧
      (State.reportBayFault s).discs = s.discs ∧
      (State.reportBayFault s).staging = s.staging ∧
      (State.reportBayFault s).bays = s.bays ∧
      (State.reportBayFault s).governor = s.governor ∧
      (State.reportBayFault s).verify = s.verify ∧
      (State.reportBayFault s).trans = s.trans ∧
      (State.reportBayFault s).labels = s.labels ∧
      (State.reportBayFault s).printer = s.printer ∧
      (State.reportBayFault s).settings = s.settings ∧
      (State.reportBayFault s).sensors = s.sensors ∧
      (State.reportBayFault s).now = s.now ∧
      (State.reportBayFault s).dispatchWanted = s.dispatchWanted ∧
      (State.reportBayFault s).pending = s.pending := by
  unfold State.reportBayFault
  simp

/-- What `bayFaultEntry` leaves alone. -/
@[simp] theorem State.bayFaultEntry_frame (s : State) (b : BayId) :
    (State.bayFaultEntry s b).link = s.link ∧
      (State.bayFaultEntry s b).jobs = s.jobs ∧
      (State.bayFaultEntry s b).discs = s.discs ∧
      (State.bayFaultEntry s b).trans = s.trans ∧
      (State.bayFaultEntry s b).labels = s.labels ∧
      (State.bayFaultEntry s b).printer = s.printer ∧
      (State.bayFaultEntry s b).settings = s.settings ∧
      (State.bayFaultEntry s b).sensors = s.sensors ∧
      (State.bayFaultEntry s b).now = s.now ∧
      (State.bayFaultEntry s b).dispatchWanted = s.dispatchWanted ∧
      (State.bayFaultEntry s b).pending = s.pending := by
  unfold State.bayFaultEntry
  simp

/-- What `ranDry` leaves alone. -/
@[simp] theorem State.ranDry_frame (s : State) (b : BayId) :
    (State.ranDry s b).link = s.link ∧
      (State.ranDry s b).labels = s.labels ∧
      (State.ranDry s b).printer = s.printer ∧
      (State.ranDry s b).settings = s.settings ∧
      (State.ranDry s b).sensors = s.sensors ∧
      (State.ranDry s b).now = s.now ∧
      (State.ranDry s b).dispatchWanted = s.dispatchWanted ∧
      (State.ranDry s b).pending = s.pending := by
  unfold State.ranDry
  simp

/-- What `awaitDiscEnd` leaves alone. -/
@[simp] theorem State.awaitDiscEnd_frame (s : State) (b : BayId) (accept : Bool) :
    (State.awaitDiscEnd s b accept).link = s.link ∧
      (State.awaitDiscEnd s b accept).jobs = s.jobs ∧
      (State.awaitDiscEnd s b accept).discs = s.discs ∧
      (State.awaitDiscEnd s b accept).trans = s.trans ∧
      (State.awaitDiscEnd s b accept).labels = s.labels ∧
      (State.awaitDiscEnd s b accept).printer = s.printer ∧
      (State.awaitDiscEnd s b accept).settings = s.settings ∧
      (State.awaitDiscEnd s b accept).sensors = s.sensors ∧
      (State.awaitDiscEnd s b accept).now = s.now ∧
      (State.awaitDiscEnd s b accept).dispatchWanted = s.dispatchWanted ∧
      (State.awaitDiscEnd s b accept).pending = s.pending := by
  unfold State.awaitDiscEnd
  (repeat' split) <;> (try simp) <;> (repeat' split) <;> (try simp) <;> (repeat' split) <;> simp

/-- What `discWillNotCome` leaves alone. -/
@[simp] theorem State.discWillNotCome_frame (s : State) (b : BayId) (n : Nat) (accept : Bool) :
    (State.discWillNotCome s b n accept).link = s.link ∧
      (State.discWillNotCome s b n accept).jobs = s.jobs ∧
      (State.discWillNotCome s b n accept).discs = s.discs ∧
      (State.discWillNotCome s b n accept).trans = s.trans ∧
      (State.discWillNotCome s b n accept).labels = s.labels ∧
      (State.discWillNotCome s b n accept).printer = s.printer ∧
      (State.discWillNotCome s b n accept).settings = s.settings ∧
      (State.discWillNotCome s b n accept).sensors = s.sensors ∧
      (State.discWillNotCome s b n accept).now = s.now ∧
      (State.discWillNotCome s b n accept).dispatchWanted = s.dispatchWanted ∧
      (State.discWillNotCome s b n accept).pending = s.pending := by
  unfold State.discWillNotCome
  (repeat' split) <;> simp

/-- What `tellTarget` leaves alone. -/
@[simp] theorem State.tellTarget_frame (s : State) (n : Nat) :
    (State.tellTarget s n).link = s.link ∧
      (State.tellTarget s n).jobs = s.jobs ∧
      (State.tellTarget s n).discs = s.discs ∧
      (State.tellTarget s n).trans = s.trans ∧
      (State.tellTarget s n).labels = s.labels ∧
      (State.tellTarget s n).printer = s.printer ∧
      (State.tellTarget s n).settings = s.settings ∧
      (State.tellTarget s n).sensors = s.sensors ∧
      (State.tellTarget s n).now = s.now ∧
      (State.tellTarget s n).dispatchWanted = s.dispatchWanted ∧
      (State.tellTarget s n).pending = s.pending := by
  unfold State.tellTarget
  (repeat' split) <;> simp

/-- What `discLeaves` leaves alone. -/
@[simp] theorem State.discLeaves_frame (s : State) (b : BayId) (second : Option SecondLeg) :
    (State.discLeaves s b second).link = s.link ∧
      (State.discLeaves s b second).jobs = s.jobs ∧
      (State.discLeaves s b second).discs = s.discs ∧
      (State.discLeaves s b second).staging = s.staging ∧
      (State.discLeaves s b second).governor = s.governor ∧
      (State.discLeaves s b second).verify = s.verify ∧
      (State.discLeaves s b second).trans = s.trans ∧
      (State.discLeaves s b second).labels = s.labels ∧
      (State.discLeaves s b second).printer = s.printer ∧
      (State.discLeaves s b second).status = s.status ∧
      (State.discLeaves s b second).settings = s.settings ∧
      (State.discLeaves s b second).sensors = s.sensors ∧
      (State.discLeaves s b second).now = s.now ∧
      (State.discLeaves s b second).dispatchWanted = s.dispatchWanted ∧
      (State.discLeaves s b second).pending = s.pending := by
  unfold State.discLeaves
  (repeat' split) <;> simp

/-- What `identified` leaves alone. -/
@[simp] theorem State.identified_frame (s : State) (b : BayId) (n : Nat) (f : DriveFacts) :
    (State.identified s b n f).link = s.link ∧
      (State.identified s b n f).labels = s.labels ∧
      (State.identified s b n f).printer = s.printer ∧
      (State.identified s b n f).settings = s.settings ∧
      (State.identified s b n f).sensors = s.sensors ∧
      (State.identified s b n f).now = s.now ∧
      (State.identified s b n f).dispatchWanted = s.dispatchWanted ∧
      (State.identified s b n f).pending = s.pending := by
  unfold State.identified
  (repeat' split) <;> (try simp) <;> (repeat' split) <;> (try simp) <;> (repeat' split) <;> simp

/-- What `startSurvey` leaves alone. -/
@[simp] theorem State.startSurvey_frame (s : State) (b : BayId) :
    (State.startSurvey s b).link = s.link ∧
      (State.startSurvey s b).jobs = s.jobs ∧
      (State.startSurvey s b).discs = s.discs ∧
      (State.startSurvey s b).staging = s.staging ∧
      (State.startSurvey s b).governor = s.governor ∧
      (State.startSurvey s b).verify = s.verify ∧
      (State.startSurvey s b).trans = s.trans ∧
      (State.startSurvey s b).labels = s.labels ∧
      (State.startSurvey s b).printer = s.printer ∧
      (State.startSurvey s b).status = s.status ∧
      (State.startSurvey s b).settings = s.settings ∧
      (State.startSurvey s b).sensors = s.sensors ∧
      (State.startSurvey s b).now = s.now ∧
      (State.startSurvey s b).dispatchWanted = s.dispatchWanted ∧
      (State.startSurvey s b).pending = s.pending := by
  unfold State.startSurvey
  simp

/-- What `bayTakesOrphan` leaves alone. -/
@[simp] theorem State.bayTakesOrphan_frame (s : State) (b : BayId) (n : Nat) :
    (State.bayTakesOrphan s b n).link = s.link ∧
      (State.bayTakesOrphan s b n).staging = s.staging ∧
      (State.bayTakesOrphan s b n).governor = s.governor ∧
      (State.bayTakesOrphan s b n).verify = s.verify ∧
      (State.bayTakesOrphan s b n).labels = s.labels ∧
      (State.bayTakesOrphan s b n).printer = s.printer ∧
      (State.bayTakesOrphan s b n).settings = s.settings ∧
      (State.bayTakesOrphan s b n).sensors = s.sensors ∧
      (State.bayTakesOrphan s b n).now = s.now ∧
      (State.bayTakesOrphan s b n).dispatchWanted = s.dispatchWanted ∧
      (State.bayTakesOrphan s b n).pending = s.pending := by
  unfold State.bayTakesOrphan
  simp

/-- What `surveyFoundDisc` leaves alone. -/
@[simp] theorem State.surveyFoundDisc_frame (s : State) (b : BayId) :
    (State.surveyFoundDisc s b).link = s.link ∧
      (State.surveyFoundDisc s b).staging = s.staging ∧
      (State.surveyFoundDisc s b).governor = s.governor ∧
      (State.surveyFoundDisc s b).verify = s.verify ∧
      (State.surveyFoundDisc s b).labels = s.labels ∧
      (State.surveyFoundDisc s b).printer = s.printer ∧
      (State.surveyFoundDisc s b).settings = s.settings ∧
      (State.surveyFoundDisc s b).sensors = s.sensors ∧
      (State.surveyFoundDisc s b).now = s.now ∧
      (State.surveyFoundDisc s b).dispatchWanted = s.dispatchWanted ∧
      (State.surveyFoundDisc s b).pending = s.pending := by
  unfold State.surveyFoundDisc
  (repeat' split) <;> (try simp) <;> (repeat' split) <;> (try simp) <;> (repeat' split) <;> simp

/-- What `lostDisc` leaves alone. -/
@[simp] theorem State.lostDisc_frame (s : State) (n : Nat) :
    (State.lostDisc s n).link = s.link ∧
      (State.lostDisc s n).staging = s.staging ∧
      (State.lostDisc s n).bays = s.bays ∧
      (State.lostDisc s n).governor = s.governor ∧
      (State.lostDisc s n).verify = s.verify ∧
      (State.lostDisc s n).trans = s.trans ∧
      (State.lostDisc s n).labels = s.labels ∧
      (State.lostDisc s n).printer = s.printer ∧
      (State.lostDisc s n).settings = s.settings ∧
      (State.lostDisc s n).sensors = s.sensors ∧
      (State.lostDisc s n).now = s.now ∧
      (State.lostDisc s n).dispatchWanted = s.dispatchWanted ∧
      (State.lostDisc s n).pending = s.pending := by
  unfold State.lostDisc
  simp

/-- What `surveyFoundNone` leaves alone. -/
@[simp] theorem State.surveyFoundNone_frame (s : State) (b : BayId) :
    (State.surveyFoundNone s b).link = s.link ∧
      (State.surveyFoundNone s b).staging = s.staging ∧
      (State.surveyFoundNone s b).governor = s.governor ∧
      (State.surveyFoundNone s b).verify = s.verify ∧
      (State.surveyFoundNone s b).trans = s.trans ∧
      (State.surveyFoundNone s b).labels = s.labels ∧
      (State.surveyFoundNone s b).printer = s.printer ∧
      (State.surveyFoundNone s b).settings = s.settings ∧
      (State.surveyFoundNone s b).sensors = s.sensors ∧
      (State.surveyFoundNone s b).now = s.now ∧
      (State.surveyFoundNone s b).dispatchWanted = s.dispatchWanted ∧
      (State.surveyFoundNone s b).pending = s.pending := by
  unfold State.surveyFoundNone
  (repeat' split) <;> simp

/-- What `order` leaves alone. -/
@[simp] theorem State.order_frame (s : State) (b : BayId) (req : DriveReq) :
    (State.order s b req).link = s.link ∧
      (State.order s b req).jobs = s.jobs ∧
      (State.order s b req).discs = s.discs ∧
      (State.order s b req).staging = s.staging ∧
      (State.order s b req).governor = s.governor ∧
      (State.order s b req).verify = s.verify ∧
      (State.order s b req).trans = s.trans ∧
      (State.order s b req).labels = s.labels ∧
      (State.order s b req).printer = s.printer ∧
      (State.order s b req).status = s.status ∧
      (State.order s b req).settings = s.settings ∧
      (State.order s b req).sensors = s.sensors ∧
      (State.order s b req).now = s.now ∧
      (State.order s b req).dispatchWanted = s.dispatchWanted ∧
      (State.order s b req).pending = s.pending := by
  unfold State.order
  (repeat' split) <;> simp

/-- What `setReserveLow` leaves alone. -/
@[simp] theorem State.setReserveLow_frame (s : State) :
    (State.setReserveLow s).link = s.link ∧
      (State.setReserveLow s).jobs = s.jobs ∧
      (State.setReserveLow s).discs = s.discs ∧
      (State.setReserveLow s).staging = s.staging ∧
      (State.setReserveLow s).bays = s.bays ∧
      (State.setReserveLow s).governor = s.governor ∧
      (State.setReserveLow s).verify = s.verify ∧
      (State.setReserveLow s).trans = s.trans ∧
      (State.setReserveLow s).labels = s.labels ∧
      (State.setReserveLow s).printer = s.printer ∧
      (State.setReserveLow s).settings = s.settings ∧
      (State.setReserveLow s).sensors = s.sensors ∧
      (State.setReserveLow s).now = s.now ∧
      (State.setReserveLow s).dispatchWanted = s.dispatchWanted ∧
      (State.setReserveLow s).pending = s.pending := by
  unfold State.setReserveLow
  simp

/-- What `setStable` leaves alone. -/
@[simp] theorem State.setStable_frame (s : State) (b : BayId) (n : Nat) :
    (State.setStable s b n).link = s.link ∧
      (State.setStable s b n).jobs = s.jobs ∧
      (State.setStable s b n).discs = s.discs ∧
      (State.setStable s b n).staging = s.staging ∧
      (State.setStable s b n).governor = s.governor ∧
      (State.setStable s b n).verify = s.verify ∧
      (State.setStable s b n).trans = s.trans ∧
      (State.setStable s b n).labels = s.labels ∧
      (State.setStable s b n).printer = s.printer ∧
      (State.setStable s b n).status = s.status ∧
      (State.setStable s b n).settings = s.settings ∧
      (State.setStable s b n).sensors = s.sensors ∧
      (State.setStable s b n).now = s.now ∧
      (State.setStable s b n).dispatchWanted = s.dispatchWanted ∧
      (State.setStable s b n).pending = s.pending := by
  unfold State.setStable
  simp

/-- What `stepUpTest` leaves alone. -/
@[simp] theorem State.stepUpTest_frame (s : State) (b : BayId) :
    (State.stepUpTest s b).link = s.link ∧
      (State.stepUpTest s b).jobs = s.jobs ∧
      (State.stepUpTest s b).discs = s.discs ∧
      (State.stepUpTest s b).staging = s.staging ∧
      (State.stepUpTest s b).verify = s.verify ∧
      (State.stepUpTest s b).trans = s.trans ∧
      (State.stepUpTest s b).labels = s.labels ∧
      (State.stepUpTest s b).printer = s.printer ∧
      (State.stepUpTest s b).status = s.status ∧
      (State.stepUpTest s b).settings = s.settings ∧
      (State.stepUpTest s b).sensors = s.sensors ∧
      (State.stepUpTest s b).now = s.now ∧
      (State.stepUpTest s b).dispatchWanted = s.dispatchWanted ∧
      (State.stepUpTest s b).pending = s.pending := by
  unfold State.stepUpTest
  (repeat' split) <;> (try simp) <;> (repeat' split) <;> (try simp) <;> (repeat' split) <;> simp

/-- What `burningCheck` leaves alone. -/
@[simp] theorem State.burningCheck_frame (s : State) (b : BayId) (a : Burn) (lead : Nat) :
    (State.burningCheck s b a lead).link = s.link ∧
      (State.burningCheck s b a lead).jobs = s.jobs ∧
      (State.burningCheck s b a lead).discs = s.discs ∧
      (State.burningCheck s b a lead).staging = s.staging ∧
      (State.burningCheck s b a lead).verify = s.verify ∧
      (State.burningCheck s b a lead).trans = s.trans ∧
      (State.burningCheck s b a lead).labels = s.labels ∧
      (State.burningCheck s b a lead).printer = s.printer ∧
      (State.burningCheck s b a lead).settings = s.settings ∧
      (State.burningCheck s b a lead).sensors = s.sensors ∧
      (State.burningCheck s b a lead).now = s.now ∧
      (State.burningCheck s b a lead).dispatchWanted = s.dispatchWanted ∧
      (State.burningCheck s b a lead).pending = s.pending := by
  unfold State.burningCheck
  (repeat' split) <;> (try simp) <;> (repeat' split) <;> (try simp) <;> (repeat' split) <;> simp

/-- What `reserveCheck` leaves alone. -/
@[simp] theorem State.reserveCheck_frame (s : State) (b : BayId) :
    (State.reserveCheck s b).link = s.link ∧
      (State.reserveCheck s b).jobs = s.jobs ∧
      (State.reserveCheck s b).discs = s.discs ∧
      (State.reserveCheck s b).staging = s.staging ∧
      (State.reserveCheck s b).verify = s.verify ∧
      (State.reserveCheck s b).trans = s.trans ∧
      (State.reserveCheck s b).labels = s.labels ∧
      (State.reserveCheck s b).printer = s.printer ∧
      (State.reserveCheck s b).settings = s.settings ∧
      (State.reserveCheck s b).sensors = s.sensors ∧
      (State.reserveCheck s b).now = s.now ∧
      (State.reserveCheck s b).dispatchWanted = s.dispatchWanted ∧
      (State.reserveCheck s b).pending = s.pending := by
  unfold State.reserveCheck
  (repeat' split) <;> simp

/-- What `beginBurn` leaves alone. -/
@[simp] theorem State.beginBurn_frame (s : State) (b : BayId) (k : ImageId) (step : Nat) :
    (State.beginBurn s b k step).link = s.link ∧
      (State.beginBurn s b k step).jobs = s.jobs ∧
      (State.beginBurn s b k step).discs = s.discs ∧
      (State.beginBurn s b k step).verify = s.verify ∧
      (State.beginBurn s b k step).trans = s.trans ∧
      (State.beginBurn s b k step).labels = s.labels ∧
      (State.beginBurn s b k step).printer = s.printer ∧
      (State.beginBurn s b k step).status = s.status ∧
      (State.beginBurn s b k step).settings = s.settings ∧
      (State.beginBurn s b k step).sensors = s.sensors ∧
      (State.beginBurn s b k step).now = s.now ∧
      (State.beginBurn s b k step).dispatchWanted = s.dispatchWanted ∧
      (State.beginBurn s b k step).pending = s.pending := by
  unfold State.beginBurn
  simp

/-- What `withdrawAdmission` leaves alone. -/
@[simp] theorem State.withdrawAdmission_frame (s : State) (b : BayId) :
    (State.withdrawAdmission s b).link = s.link ∧
      (State.withdrawAdmission s b).jobs = s.jobs ∧
      (State.withdrawAdmission s b).discs = s.discs ∧
      (State.withdrawAdmission s b).staging = s.staging ∧
      (State.withdrawAdmission s b).verify = s.verify ∧
      (State.withdrawAdmission s b).trans = s.trans ∧
      (State.withdrawAdmission s b).labels = s.labels ∧
      (State.withdrawAdmission s b).printer = s.printer ∧
      (State.withdrawAdmission s b).status = s.status ∧
      (State.withdrawAdmission s b).settings = s.settings ∧
      (State.withdrawAdmission s b).sensors = s.sensors ∧
      (State.withdrawAdmission s b).now = s.now ∧
      (State.withdrawAdmission s b).dispatchWanted = s.dispatchWanted ∧
      (State.withdrawAdmission s b).pending = s.pending := by
  unfold State.withdrawAdmission
  (repeat' split) <;> simp

/-- What `answerJoin` leaves alone. -/
@[simp] theorem State.answerJoin_frame (s : State) (e : AdmEntry) :
    (State.answerJoin s e).link = s.link ∧
      (State.answerJoin s e).jobs = s.jobs ∧
      (State.answerJoin s e).discs = s.discs ∧
      (State.answerJoin s e).verify = s.verify ∧
      (State.answerJoin s e).trans = s.trans ∧
      (State.answerJoin s e).labels = s.labels ∧
      (State.answerJoin s e).printer = s.printer ∧
      (State.answerJoin s e).status = s.status ∧
      (State.answerJoin s e).settings = s.settings ∧
      (State.answerJoin s e).sensors = s.sensors ∧
      (State.answerJoin s e).now = s.now ∧
      (State.answerJoin s e).dispatchWanted = s.dispatchWanted ∧
      (State.answerJoin s e).pending = s.pending := by
  unfold State.answerJoin
  (repeat' split) <;> simp

/-- What `endBurn` leaves alone. -/
@[simp] theorem State.endBurn_frame (s : State) (b : BayId) :
    (State.endBurn s b).link = s.link ∧
      (State.endBurn s b).jobs = s.jobs ∧
      (State.endBurn s b).discs = s.discs ∧
      (State.endBurn s b).verify = s.verify ∧
      (State.endBurn s b).trans = s.trans ∧
      (State.endBurn s b).labels = s.labels ∧
      (State.endBurn s b).printer = s.printer ∧
      (State.endBurn s b).settings = s.settings ∧
      (State.endBurn s b).sensors = s.sensors ∧
      (State.endBurn s b).now = s.now ∧
      (State.endBurn s b).dispatchWanted = s.dispatchWanted ∧
      (State.endBurn s b).pending = s.pending := by
  unfold State.endBurn
  simp

/-- What `reportPrinter` leaves alone. -/
@[simp] theorem State.reportPrinter_frame (s : State) :
    (State.reportPrinter s).link = s.link ∧
      (State.reportPrinter s).jobs = s.jobs ∧
      (State.reportPrinter s).discs = s.discs ∧
      (State.reportPrinter s).staging = s.staging ∧
      (State.reportPrinter s).bays = s.bays ∧
      (State.reportPrinter s).governor = s.governor ∧
      (State.reportPrinter s).verify = s.verify ∧
      (State.reportPrinter s).trans = s.trans ∧
      (State.reportPrinter s).labels = s.labels ∧
      (State.reportPrinter s).printer = s.printer ∧
      (State.reportPrinter s).settings = s.settings ∧
      (State.reportPrinter s).sensors = s.sensors ∧
      (State.reportPrinter s).now = s.now ∧
      (State.reportPrinter s).dispatchWanted = s.dispatchWanted ∧
      (State.reportPrinter s).pending = s.pending := by
  unfold State.reportPrinter
  simp

/-- What `postTrayMove` leaves alone. -/
@[simp] theorem State.postTrayMove_frame (s : State) (p : Printer) (kind : MoveKind) (n : Nat) (dest : Station) :
    (State.postTrayMove s p kind n dest).link = s.link ∧
      (State.postTrayMove s p kind n dest).jobs = s.jobs ∧
      (State.postTrayMove s p kind n dest).staging = s.staging ∧
      (State.postTrayMove s p kind n dest).bays = s.bays ∧
      (State.postTrayMove s p kind n dest).governor = s.governor ∧
      (State.postTrayMove s p kind n dest).verify = s.verify ∧
      (State.postTrayMove s p kind n dest).labels = s.labels ∧
      (State.postTrayMove s p kind n dest).status = s.status ∧
      (State.postTrayMove s p kind n dest).settings = s.settings ∧
      (State.postTrayMove s p kind n dest).sensors = s.sensors ∧
      (State.postTrayMove s p kind n dest).now = s.now ∧
      (State.postTrayMove s p kind n dest).dispatchWanted = s.dispatchWanted ∧
      (State.postTrayMove s p kind n dest).pending = s.pending := by
  unfold State.postTrayMove
  simp

/-- What `bandStart` leaves alone. -/
@[simp] theorem State.bandStart_frame (s : State) (p : Printer) (r : Print) (check : Bool) :
    (State.bandStart s p r check).link = s.link ∧
      (State.bandStart s p r check).jobs = s.jobs ∧
      (State.bandStart s p r check).discs = s.discs ∧
      (State.bandStart s p r check).staging = s.staging ∧
      (State.bandStart s p r check).bays = s.bays ∧
      (State.bandStart s p r check).governor = s.governor ∧
      (State.bandStart s p r check).verify = s.verify ∧
      (State.bandStart s p r check).trans = s.trans ∧
      (State.bandStart s p r check).labels = s.labels ∧
      (State.bandStart s p r check).status = s.status ∧
      (State.bandStart s p r check).settings = s.settings ∧
      (State.bandStart s p r check).sensors = s.sensors ∧
      (State.bandStart s p r check).now = s.now ∧
      (State.bandStart s p r check).dispatchWanted = s.dispatchWanted ∧
      (State.bandStart s p r check).pending = s.pending := by
  unfold State.bandStart
  (repeat' split) <;> simp

/-- What `printEnd` leaves alone. -/
@[simp] theorem State.printEnd_frame (s : State) (p : Printer) :
    (State.printEnd s p).link = s.link ∧
      (State.printEnd s p).jobs = s.jobs ∧
      (State.printEnd s p).labels = s.labels ∧
      (State.printEnd s p).settings = s.settings ∧
      (State.printEnd s p).sensors = s.sensors ∧
      (State.printEnd s p).now = s.now ∧
      (State.printEnd s p).dispatchWanted = s.dispatchWanted ∧
      (State.printEnd s p).pending = s.pending := by
  unfold State.printEnd
  (repeat' split) <;> (try simp) <;> (repeat' split) <;> (try simp) <;> (repeat' split) <;> simp

/-- What `linePrinted` leaves alone. -/
@[simp] theorem State.linePrinted_frame (s : State) (p : Printer) (r : Print) (l : Label) :
    (State.linePrinted s p r l).link = s.link ∧
      (State.linePrinted s p r l).jobs = s.jobs ∧
      (State.linePrinted s p r l).labels = s.labels ∧
      (State.linePrinted s p r l).settings = s.settings ∧
      (State.linePrinted s p r l).sensors = s.sensors ∧
      (State.linePrinted s p r l).now = s.now ∧
      (State.linePrinted s p r l).dispatchWanted = s.dispatchWanted ∧
      (State.linePrinted s p r l).pending = s.pending := by
  unfold State.linePrinted
  (repeat' split) <;> (try simp) <;> (repeat' split) <;> (try simp) <;> (repeat' split) <;> simp

/-- What `printSpoiled` leaves alone. -/
@[simp] theorem State.printSpoiled_frame (s : State) (p : Printer) (n : Nat) :
    (State.printSpoiled s p n).link = s.link ∧
      (State.printSpoiled s p n).jobs = s.jobs ∧
      (State.printSpoiled s p n).labels = s.labels ∧
      (State.printSpoiled s p n).settings = s.settings ∧
      (State.printSpoiled s p n).sensors = s.sensors ∧
      (State.printSpoiled s p n).now = s.now ∧
      (State.printSpoiled s p n).dispatchWanted = s.dispatchWanted ∧
      (State.printSpoiled s p n).pending = s.pending := by
  unfold State.printSpoiled
  (repeat' split) <;> (try simp) <;> (repeat' split) <;> (try simp) <;> (repeat' split) <;> simp

/-- What `printerFaultEntry` leaves alone. -/
@[simp] theorem State.printerFaultEntry_frame (s : State) (p : Printer) :
    (State.printerFaultEntry s p).link = s.link ∧
      (State.printerFaultEntry s p).jobs = s.jobs ∧
      (State.printerFaultEntry s p).labels = s.labels ∧
      (State.printerFaultEntry s p).settings = s.settings ∧
      (State.printerFaultEntry s p).sensors = s.sensors ∧
      (State.printerFaultEntry s p).now = s.now ∧
      (State.printerFaultEntry s p).dispatchWanted = s.dispatchWanted ∧
      (State.printerFaultEntry s p).pending = s.pending := by
  unfold State.printerFaultEntry
  (repeat' split) <;> simp

/-- What `printerAccept` leaves alone. -/
@[simp] theorem State.printerAccept_frame (s : State) (n : Nat) :
    (State.printerAccept s n).link = s.link ∧
      (State.printerAccept s n).jobs = s.jobs ∧
      (State.printerAccept s n).labels = s.labels ∧
      (State.printerAccept s n).settings = s.settings ∧
      (State.printerAccept s n).sensors = s.sensors ∧
      (State.printerAccept s n).now = s.now ∧
      (State.printerAccept s n).dispatchWanted = s.dispatchWanted ∧
      (State.printerAccept s n).pending = s.pending := by
  unfold State.printerAccept
  (repeat' split) <;> simp

/-- What `setClamp` leaves alone. -/
@[simp] theorem State.setClamp_frame (s : State) (opened : Bool) :
    (State.setClamp s opened).link = s.link ∧
      (State.setClamp s opened).jobs = s.jobs ∧
      (State.setClamp s opened).discs = s.discs ∧
      (State.setClamp s opened).staging = s.staging ∧
      (State.setClamp s opened).bays = s.bays ∧
      (State.setClamp s opened).governor = s.governor ∧
      (State.setClamp s opened).verify = s.verify ∧
      (State.setClamp s opened).trans = s.trans ∧
      (State.setClamp s opened).labels = s.labels ∧
      (State.setClamp s opened).status = s.status ∧
      (State.setClamp s opened).settings = s.settings ∧
      (State.setClamp s opened).sensors = s.sensors ∧
      (State.setClamp s opened).now = s.now ∧
      (State.setClamp s opened).dispatchWanted = s.dispatchWanted ∧
      (State.setClamp s opened).pending = s.pending := by
  unfold State.setClamp
  (repeat' split) <;> simp

/-- What `trayTaken` leaves alone. -/
@[simp] theorem State.trayTaken_frame (s : State) :
    (State.trayTaken s).link = s.link ∧
      (State.trayTaken s).jobs = s.jobs ∧
      (State.trayTaken s).discs = s.discs ∧
      (State.trayTaken s).staging = s.staging ∧
      (State.trayTaken s).bays = s.bays ∧
      (State.trayTaken s).governor = s.governor ∧
      (State.trayTaken s).verify = s.verify ∧
      (State.trayTaken s).trans = s.trans ∧
      (State.trayTaken s).labels = s.labels ∧
      (State.trayTaken s).status = s.status ∧
      (State.trayTaken s).settings = s.settings ∧
      (State.trayTaken s).sensors = s.sensors ∧
      (State.trayTaken s).now = s.now ∧
      (State.trayTaken s).dispatchWanted = s.dispatchWanted ∧
      (State.trayTaken s).pending = s.pending := by
  unfold State.trayTaken
  (repeat' split) <;> simp

/-- What `trayMoveSpent` leaves alone. -/
@[simp] theorem State.trayMoveSpent_frame (s : State) (n : Nat) :
    (State.trayMoveSpent s n).link = s.link ∧
      (State.trayMoveSpent s n).jobs = s.jobs ∧
      (State.trayMoveSpent s n).discs = s.discs ∧
      (State.trayMoveSpent s n).trans = s.trans ∧
      (State.trayMoveSpent s n).labels = s.labels ∧
      (State.trayMoveSpent s n).settings = s.settings ∧
      (State.trayMoveSpent s n).sensors = s.sensors ∧
      (State.trayMoveSpent s n).now = s.now ∧
      (State.trayMoveSpent s n).dispatchWanted = s.dispatchWanted ∧
      (State.trayMoveSpent s n).pending = s.pending := by
  unfold State.trayMoveSpent
  (repeat' split) <;> (try simp) <;> (repeat' split) <;> (try simp) <;> (repeat' split) <;> simp

/-- What `printerTakesOrphan` leaves alone. -/
@[simp] theorem State.printerTakesOrphan_frame (s : State) (n : Nat) :
    (State.printerTakesOrphan s n).link = s.link ∧
      (State.printerTakesOrphan s n).jobs = s.jobs ∧
      (State.printerTakesOrphan s n).staging = s.staging ∧
      (State.printerTakesOrphan s n).bays = s.bays ∧
      (State.printerTakesOrphan s n).governor = s.governor ∧
      (State.printerTakesOrphan s n).verify = s.verify ∧
      (State.printerTakesOrphan s n).labels = s.labels ∧
      (State.printerTakesOrphan s n).status = s.status ∧
      (State.printerTakesOrphan s n).settings = s.settings ∧
      (State.printerTakesOrphan s n).sensors = s.sensors ∧
      (State.printerTakesOrphan s n).now = s.now ∧
      (State.printerTakesOrphan s n).dispatchWanted = s.dispatchWanted ∧
      (State.printerTakesOrphan s n).pending = s.pending := by
  unfold State.printerTakesOrphan
  (repeat' split) <;> simp

/-- What `surveyPrinter` leaves alone. -/
@[simp] theorem State.surveyPrinter_frame (s : State) :
    (State.surveyPrinter s).link = s.link ∧
      (State.surveyPrinter s).jobs = s.jobs ∧
      (State.surveyPrinter s).staging = s.staging ∧
      (State.surveyPrinter s).bays = s.bays ∧
      (State.surveyPrinter s).governor = s.governor ∧
      (State.surveyPrinter s).verify = s.verify ∧
      (State.surveyPrinter s).labels = s.labels ∧
      (State.surveyPrinter s).status = s.status ∧
      (State.surveyPrinter s).settings = s.settings ∧
      (State.surveyPrinter s).sensors = s.sensors ∧
      (State.surveyPrinter s).now = s.now ∧
      (State.surveyPrinter s).dispatchWanted = s.dispatchWanted ∧
      (State.surveyPrinter s).pending = s.pending := by
  unfold State.surveyPrinter
  (repeat' split) <;> (try simp) <;> (repeat' split) <;> (try simp) <;> (repeat' split) <;> simp

/-- What `modCurrent` leaves alone. -/
@[simp] theorem State.modCurrent_frame (s : State) (f : MoveReq → MoveReq) :
    (State.modCurrent s f).link = s.link ∧
      (State.modCurrent s f).jobs = s.jobs ∧
      (State.modCurrent s f).discs = s.discs ∧
      (State.modCurrent s f).staging = s.staging ∧
      (State.modCurrent s f).bays = s.bays ∧
      (State.modCurrent s f).governor = s.governor ∧
      (State.modCurrent s f).verify = s.verify ∧
      (State.modCurrent s f).labels = s.labels ∧
      (State.modCurrent s f).printer = s.printer ∧
      (State.modCurrent s f).status = s.status ∧
      (State.modCurrent s f).settings = s.settings ∧
      (State.modCurrent s f).sensors = s.sensors ∧
      (State.modCurrent s f).now = s.now ∧
      (State.modCurrent s f).dispatchWanted = s.dispatchWanted ∧
      (State.modCurrent s f).pending = s.pending := by
  unfold State.modCurrent
  (repeat' split) <;> simp

/-- What `takeCurrent` leaves alone. -/
@[simp] theorem State.takeCurrent_frame (s : State) :
    (State.takeCurrent s).link = s.link ∧
      (State.takeCurrent s).jobs = s.jobs ∧
      (State.takeCurrent s).discs = s.discs ∧
      (State.takeCurrent s).staging = s.staging ∧
      (State.takeCurrent s).bays = s.bays ∧
      (State.takeCurrent s).governor = s.governor ∧
      (State.takeCurrent s).verify = s.verify ∧
      (State.takeCurrent s).labels = s.labels ∧
      (State.takeCurrent s).printer = s.printer ∧
      (State.takeCurrent s).status = s.status ∧
      (State.takeCurrent s).settings = s.settings ∧
      (State.takeCurrent s).sensors = s.sensors ∧
      (State.takeCurrent s).now = s.now ∧
      (State.takeCurrent s).dispatchWanted = s.dispatchWanted ∧
      (State.takeCurrent s).pending = s.pending := by
  unfold State.takeCurrent
  simp

/-- What `dropCurrent` leaves alone. -/
@[simp] theorem State.dropCurrent_frame (s : State) :
    (State.dropCurrent s).link = s.link ∧
      (State.dropCurrent s).jobs = s.jobs ∧
      (State.dropCurrent s).staging = s.staging ∧
      (State.dropCurrent s).bays = s.bays ∧
      (State.dropCurrent s).governor = s.governor ∧
      (State.dropCurrent s).verify = s.verify ∧
      (State.dropCurrent s).labels = s.labels ∧
      (State.dropCurrent s).printer = s.printer ∧
      (State.dropCurrent s).status = s.status ∧
      (State.dropCurrent s).settings = s.settings ∧
      (State.dropCurrent s).sensors = s.sensors ∧
      (State.dropCurrent s).now = s.now ∧
      (State.dropCurrent s).dispatchWanted = s.dispatchWanted ∧
      (State.dropCurrent s).pending = s.pending := by
  unfold State.dropCurrent
  simp

/-- What `setArm` leaves alone. -/
@[simp] theorem State.setArm_frame (s : State) (a : ArmState) :
    (State.setArm s a).link = s.link ∧
      (State.setArm s a).jobs = s.jobs ∧
      (State.setArm s a).discs = s.discs ∧
      (State.setArm s a).staging = s.staging ∧
      (State.setArm s a).bays = s.bays ∧
      (State.setArm s a).governor = s.governor ∧
      (State.setArm s a).verify = s.verify ∧
      (State.setArm s a).labels = s.labels ∧
      (State.setArm s a).printer = s.printer ∧
      (State.setArm s a).settings = s.settings ∧
      (State.setArm s a).sensors = s.sensors ∧
      (State.setArm s a).now = s.now ∧
      (State.setArm s a).dispatchWanted = s.dispatchWanted ∧
      (State.setArm s a).pending = s.pending := by
  unfold State.setArm
  simp

/-- What `depart` leaves alone. -/
@[simp] theorem State.depart_frame (s : State) :
    (State.depart s).link = s.link ∧
      (State.depart s).jobs = s.jobs ∧
      (State.depart s).discs = s.discs ∧
      (State.depart s).staging = s.staging ∧
      (State.depart s).bays = s.bays ∧
      (State.depart s).governor = s.governor ∧
      (State.depart s).verify = s.verify ∧
      (State.depart s).labels = s.labels ∧
      (State.depart s).printer = s.printer ∧
      (State.depart s).status = s.status ∧
      (State.depart s).settings = s.settings ∧
      (State.depart s).sensors = s.sensors ∧
      (State.depart s).now = s.now ∧
      (State.depart s).dispatchWanted = s.dispatchWanted ∧
      (State.depart s).pending = s.pending := by
  unfold State.depart
  simp

/-- What `departResuming` leaves alone. -/
@[simp] theorem State.departResuming_frame (s : State) :
    (State.departResuming s).link = s.link ∧
      (State.departResuming s).jobs = s.jobs ∧
      (State.departResuming s).discs = s.discs ∧
      (State.departResuming s).staging = s.staging ∧
      (State.departResuming s).bays = s.bays ∧
      (State.departResuming s).governor = s.governor ∧
      (State.departResuming s).verify = s.verify ∧
      (State.departResuming s).labels = s.labels ∧
      (State.departResuming s).printer = s.printer ∧
      (State.departResuming s).status = s.status ∧
      (State.departResuming s).settings = s.settings ∧
      (State.departResuming s).sensors = s.sensors ∧
      (State.departResuming s).now = s.now ∧
      (State.departResuming s).dispatchWanted = s.dispatchWanted ∧
      (State.departResuming s).pending = s.pending := by
  unfold State.departResuming
  simp

/-- What `startAck` leaves alone. -/
@[simp] theorem State.startAck_frame (s : State) (step : HandStep) :
    (State.startAck s step).link = s.link ∧
      (State.startAck s step).jobs = s.jobs ∧
      (State.startAck s step).discs = s.discs ∧
      (State.startAck s step).staging = s.staging ∧
      (State.startAck s step).bays = s.bays ∧
      (State.startAck s step).governor = s.governor ∧
      (State.startAck s step).verify = s.verify ∧
      (State.startAck s step).labels = s.labels ∧
      (State.startAck s step).printer = s.printer ∧
      (State.startAck s step).status = s.status ∧
      (State.startAck s step).settings = s.settings ∧
      (State.startAck s step).sensors = s.sensors ∧
      (State.startAck s step).now = s.now ∧
      (State.startAck s step).dispatchWanted = s.dispatchWanted ∧
      (State.startAck s step).pending = s.pending := by
  unfold State.startAck
  simp

/-- What `setStep` leaves alone. -/
@[simp] theorem State.setStep_frame (s : State) (step : HandStep) :
    (State.setStep s step).link = s.link ∧
      (State.setStep s step).jobs = s.jobs ∧
      (State.setStep s step).discs = s.discs ∧
      (State.setStep s step).staging = s.staging ∧
      (State.setStep s step).bays = s.bays ∧
      (State.setStep s step).governor = s.governor ∧
      (State.setStep s step).verify = s.verify ∧
      (State.setStep s step).labels = s.labels ∧
      (State.setStep s step).printer = s.printer ∧
      (State.setStep s step).status = s.status ∧
      (State.setStep s step).settings = s.settings ∧
      (State.setStep s step).sensors = s.sensors ∧
      (State.setStep s step).now = s.now ∧
      (State.setStep s step).dispatchWanted = s.dispatchWanted ∧
      (State.setStep s step).pending = s.pending := by
  unfold State.setStep
  simp

/-- What `armIdle` leaves alone. -/
@[simp] theorem State.armIdle_frame (s : State) :
    (State.armIdle s).link = s.link ∧
      (State.armIdle s).jobs = s.jobs ∧
      (State.armIdle s).discs = s.discs ∧
      (State.armIdle s).staging = s.staging ∧
      (State.armIdle s).bays = s.bays ∧
      (State.armIdle s).governor = s.governor ∧
      (State.armIdle s).verify = s.verify ∧
      (State.armIdle s).labels = s.labels ∧
      (State.armIdle s).printer = s.printer ∧
      (State.armIdle s).settings = s.settings ∧
      (State.armIdle s).sensors = s.sensors ∧
      (State.armIdle s).now = s.now ∧
      (State.armIdle s).dispatchWanted = s.dispatchWanted ∧
      (State.armIdle s).pending = s.pending := by
  unfold State.armIdle
  simp

/-- What `grantTo` leaves alone. -/
@[simp] theorem State.grantTo_frame (s : State) (r : MoveReq) :
    (State.grantTo s r).link = s.link ∧
      (State.grantTo s r).jobs = s.jobs ∧
      (State.grantTo s r).discs = s.discs ∧
      (State.grantTo s r).staging = s.staging ∧
      (State.grantTo s r).bays = s.bays ∧
      (State.grantTo s r).governor = s.governor ∧
      (State.grantTo s r).verify = s.verify ∧
      (State.grantTo s r).labels = s.labels ∧
      (State.grantTo s r).printer = s.printer ∧
      (State.grantTo s r).settings = s.settings ∧
      (State.grantTo s r).sensors = s.sensors ∧
      (State.grantTo s r).now = s.now ∧
      (State.grantTo s r).dispatchWanted = s.dispatchWanted ∧
      (State.grantTo s r).pending = s.pending := by
  unfold State.grantTo
  (repeat' split) <;> simp

/-- What `grantEvaluation` leaves alone. -/
@[simp] theorem State.grantEvaluation_frame (s : State) :
    (State.grantEvaluation s).link = s.link ∧
      (State.grantEvaluation s).jobs = s.jobs ∧
      (State.grantEvaluation s).discs = s.discs ∧
      (State.grantEvaluation s).staging = s.staging ∧
      (State.grantEvaluation s).bays = s.bays ∧
      (State.grantEvaluation s).governor = s.governor ∧
      (State.grantEvaluation s).verify = s.verify ∧
      (State.grantEvaluation s).labels = s.labels ∧
      (State.grantEvaluation s).printer = s.printer ∧
      (State.grantEvaluation s).settings = s.settings ∧
      (State.grantEvaluation s).sensors = s.sensors ∧
      (State.grantEvaluation s).now = s.now ∧
      (State.grantEvaluation s).dispatchWanted = s.dispatchWanted ∧
      (State.grantEvaluation s).pending = s.pending := by
  unfold State.grantEvaluation
  (repeat' split) <;> simp

/-- What `moveDone` leaves alone. -/
@[simp] theorem State.moveDone_frame (s : State) :
    (State.moveDone s).link = s.link ∧
      (State.moveDone s).jobs = s.jobs ∧
      (State.moveDone s).staging = s.staging ∧
      (State.moveDone s).bays = s.bays ∧
      (State.moveDone s).governor = s.governor ∧
      (State.moveDone s).verify = s.verify ∧
      (State.moveDone s).labels = s.labels ∧
      (State.moveDone s).printer = s.printer ∧
      (State.moveDone s).settings = s.settings ∧
      (State.moveDone s).sensors = s.sensors ∧
      (State.moveDone s).now = s.now ∧
      (State.moveDone s).dispatchWanted = s.dispatchWanted ∧
      (State.moveDone s).pending = s.pending := by
  unfold State.moveDone
  simp

/-- What `legDone` leaves alone. -/
@[simp] theorem State.legDone_frame (s : State) :
    (State.legDone s).link = s.link ∧
      (State.legDone s).jobs = s.jobs ∧
      (State.legDone s).staging = s.staging ∧
      (State.legDone s).bays = s.bays ∧
      (State.legDone s).governor = s.governor ∧
      (State.legDone s).verify = s.verify ∧
      (State.legDone s).labels = s.labels ∧
      (State.legDone s).printer = s.printer ∧
      (State.legDone s).settings = s.settings ∧
      (State.legDone s).sensors = s.sensors ∧
      (State.legDone s).now = s.now ∧
      (State.legDone s).dispatchWanted = s.dispatchWanted ∧
      (State.legDone s).pending = s.pending := by
  unfold State.legDone
  (repeat' split) <;> simp

/-- What `startSecondLeg` leaves alone. -/
@[simp] theorem State.startSecondLeg_frame (s : State) :
    (State.startSecondLeg s).link = s.link ∧
      (State.startSecondLeg s).jobs = s.jobs ∧
      (State.startSecondLeg s).discs = s.discs ∧
      (State.startSecondLeg s).staging = s.staging ∧
      (State.startSecondLeg s).bays = s.bays ∧
      (State.startSecondLeg s).governor = s.governor ∧
      (State.startSecondLeg s).verify = s.verify ∧
      (State.startSecondLeg s).labels = s.labels ∧
      (State.startSecondLeg s).printer = s.printer ∧
      (State.startSecondLeg s).settings = s.settings ∧
      (State.startSecondLeg s).sensors = s.sensors ∧
      (State.startSecondLeg s).now = s.now ∧
      (State.startSecondLeg s).dispatchWanted = s.dispatchWanted ∧
      (State.startSecondLeg s).pending = s.pending := by
  unfold State.startSecondLeg
  simp

/-- What `secondBecomesLoad` leaves alone. -/
@[simp] theorem State.secondBecomesLoad_frame (s : State) (second : Option SecondLeg) :
    (State.secondBecomesLoad s second).link = s.link ∧
      (State.secondBecomesLoad s second).jobs = s.jobs ∧
      (State.secondBecomesLoad s second).staging = s.staging ∧
      (State.secondBecomesLoad s second).bays = s.bays ∧
      (State.secondBecomesLoad s second).governor = s.governor ∧
      (State.secondBecomesLoad s second).verify = s.verify ∧
      (State.secondBecomesLoad s second).labels = s.labels ∧
      (State.secondBecomesLoad s second).printer = s.printer ∧
      (State.secondBecomesLoad s second).status = s.status ∧
      (State.secondBecomesLoad s second).settings = s.settings ∧
      (State.secondBecomesLoad s second).sensors = s.sensors ∧
      (State.secondBecomesLoad s second).now = s.now ∧
      (State.secondBecomesLoad s second).dispatchWanted = s.dispatchWanted ∧
      (State.secondBecomesLoad s second).pending = s.pending := by
  unfold State.secondBecomesLoad
  (repeat' split) <;> simp

/-- What `giveUpAt` leaves alone. -/
@[simp] theorem State.giveUpAt_frame (s : State) (at_ : Station) :
    (s.giveUpAt at_).link = s.link ∧
      (s.giveUpAt at_).jobs = s.jobs ∧
      (s.giveUpAt at_).discs = s.discs ∧
      (s.giveUpAt at_).staging = s.staging ∧
      (s.giveUpAt at_).governor = s.governor ∧
      (s.giveUpAt at_).verify = s.verify ∧
      (s.giveUpAt at_).trans = s.trans ∧
      (s.giveUpAt at_).labels = s.labels ∧
      (s.giveUpAt at_).status = s.status ∧
      (s.giveUpAt at_).settings = s.settings ∧
      (s.giveUpAt at_).sensors = s.sensors ∧
      (s.giveUpAt at_).now = s.now ∧
      (s.giveUpAt at_).dispatchWanted = s.dispatchWanted ∧
      (s.giveUpAt at_).pending = s.pending := by
  unfold State.giveUpAt
  split <;> simp

/-- What `giveUp` leaves alone. -/
@[simp] theorem State.giveUp_frame (s : State) :
    (State.giveUp s).link = s.link ∧
      (State.giveUp s).jobs = s.jobs ∧
      (State.giveUp s).discs = s.discs ∧
      (State.giveUp s).staging = s.staging ∧
      (State.giveUp s).governor = s.governor ∧
      (State.giveUp s).verify = s.verify ∧
      (State.giveUp s).trans = s.trans ∧
      (State.giveUp s).labels = s.labels ∧
      (State.giveUp s).status = s.status ∧
      (State.giveUp s).settings = s.settings ∧
      (State.giveUp s).sensors = s.sensors ∧
      (State.giveUp s).now = s.now ∧
      (State.giveUp s).dispatchWanted = s.dispatchWanted ∧
      (State.giveUp s).pending = s.pending := by
  unfold State.giveUp
  (repeat' split) <;> simp

/-- What `pickFailed` leaves alone. -/
@[simp] theorem State.pickFailed_frame (s : State) (b : Option BayId) (n : Nat) :
    (State.pickFailed s b n).link = s.link ∧
      (State.pickFailed s b n).trans = s.trans ∧
      (State.pickFailed s b n).labels = s.labels ∧
      (State.pickFailed s b n).printer = s.printer ∧
      (State.pickFailed s b n).settings = s.settings ∧
      (State.pickFailed s b n).sensors = s.sensors ∧
      (State.pickFailed s b n).now = s.now ∧
      (State.pickFailed s b n).dispatchWanted = s.dispatchWanted ∧
      (State.pickFailed s b n).pending = s.pending := by
  unfold State.pickFailed
  (repeat' split) <;> simp

/-- What `retriesSpent` leaves alone. -/
@[simp] theorem State.retriesSpent_frame (s : State) (r : MoveReq) (source : Station) (n : Nat) (b : Option BayId) :
    (State.retriesSpent s r source n b).link = s.link ∧
      (State.retriesSpent s r source n b).labels = s.labels ∧
      (State.retriesSpent s r source n b).settings = s.settings ∧
      (State.retriesSpent s r source n b).sensors = s.sensors ∧
      (State.retriesSpent s r source n b).now = s.now ∧
      (State.retriesSpent s r source n b).dispatchWanted = s.dispatchWanted ∧
      (State.retriesSpent s r source n b).pending = s.pending := by
  unfold State.retriesSpent
  (repeat' split) <;> simp

/-- What `forcedRelease` leaves alone. -/
@[simp] theorem State.forcedRelease_frame (s : State) :
    (State.forcedRelease s).link = s.link ∧
      (State.forcedRelease s).labels = s.labels ∧
      (State.forcedRelease s).settings = s.settings ∧
      (State.forcedRelease s).sensors = s.sensors ∧
      (State.forcedRelease s).now = s.now ∧
      (State.forcedRelease s).dispatchWanted = s.dispatchWanted ∧
      (State.forcedRelease s).pending = s.pending := by
  unfold State.forcedRelease
  (repeat' split) <;> (try simp) <;> (repeat' split) <;> (try simp) <;> (repeat' split) <;> simp

/-- What `foundEmpty` leaves alone. -/
@[simp] theorem State.foundEmpty_frame (s : State) (r : MoveReq) (i : SpindleId) :
    (State.foundEmpty s r i).link = s.link ∧
      (State.foundEmpty s r i).labels = s.labels ∧
      (State.foundEmpty s r i).printer = s.printer ∧
      (State.foundEmpty s r i).settings = s.settings ∧
      (State.foundEmpty s r i).sensors = s.sensors ∧
      (State.foundEmpty s r i).now = s.now ∧
      (State.foundEmpty s r i).dispatchWanted = s.dispatchWanted ∧
      (State.foundEmpty s r i).pending = s.pending := by
  unfold State.foundEmpty
  simp

/-- What `tellAwaiting` leaves alone. -/
@[simp] theorem State.tellAwaiting_frame (s : State) (r : MoveReq) (at_ : Station) (n : Nat) (accept : Bool) :
    (State.tellAwaiting s r at_ n accept).link = s.link ∧
      (State.tellAwaiting s r at_ n accept).jobs = s.jobs ∧
      (State.tellAwaiting s r at_ n accept).discs = s.discs ∧
      (State.tellAwaiting s r at_ n accept).trans = s.trans ∧
      (State.tellAwaiting s r at_ n accept).labels = s.labels ∧
      (State.tellAwaiting s r at_ n accept).printer = s.printer ∧
      (State.tellAwaiting s r at_ n accept).settings = s.settings ∧
      (State.tellAwaiting s r at_ n accept).sensors = s.sensors ∧
      (State.tellAwaiting s r at_ n accept).now = s.now ∧
      (State.tellAwaiting s r at_ n accept).dispatchWanted = s.dispatchWanted ∧
      (State.tellAwaiting s r at_ n accept).pending = s.pending := by
  unfold State.tellAwaiting
  (repeat' split) <;> simp

/-- What `toReject` leaves alone. -/
@[simp] theorem State.toReject_frame (s : State) :
    (State.toReject s).link = s.link ∧
      (State.toReject s).jobs = s.jobs ∧
      (State.toReject s).discs = s.discs ∧
      (State.toReject s).staging = s.staging ∧
      (State.toReject s).bays = s.bays ∧
      (State.toReject s).governor = s.governor ∧
      (State.toReject s).verify = s.verify ∧
      (State.toReject s).labels = s.labels ∧
      (State.toReject s).printer = s.printer ∧
      (State.toReject s).status = s.status ∧
      (State.toReject s).settings = s.settings ∧
      (State.toReject s).sensors = s.sensors ∧
      (State.toReject s).now = s.now ∧
      (State.toReject s).dispatchWanted = s.dispatchWanted ∧
      (State.toReject s).pending = s.pending := by
  unfold State.toReject
  simp

/-- What `divert` leaves alone. -/
@[simp] theorem State.divert_frame (s : State) (r : MoveReq) :
    (State.divert s r).link = s.link ∧
      (State.divert s r).jobs = s.jobs ∧
      (State.divert s r).labels = s.labels ∧
      (State.divert s r).printer = s.printer ∧
      (State.divert s r).settings = s.settings ∧
      (State.divert s r).sensors = s.sensors ∧
      (State.divert s r).now = s.now ∧
      (State.divert s r).dispatchWanted = s.dispatchWanted ∧
      (State.divert s r).pending = s.pending := by
  unfold State.divert
  simp

/-- What `destFailure` leaves alone. -/
@[simp] theorem State.destFailure_frame (s : State) :
    (State.destFailure s).link = s.link ∧
      (State.destFailure s).jobs = s.jobs ∧
      (State.destFailure s).labels = s.labels ∧
      (State.destFailure s).settings = s.settings ∧
      (State.destFailure s).sensors = s.sensors ∧
      (State.destFailure s).now = s.now ∧
      (State.destFailure s).dispatchWanted = s.dispatchWanted ∧
      (State.destFailure s).pending = s.pending := by
  unfold State.destFailure
  (repeat' split) <;> (try simp) <;> (repeat' split) <;> (try simp) <;> (repeat' split) <;> simp

/-- What `retakeFailed` leaves alone. -/
@[simp] theorem State.retakeFailed_frame (s : State) (r : MoveReq) :
    (State.retakeFailed s r).link = s.link ∧
      (State.retakeFailed s r).labels = s.labels ∧
      (State.retakeFailed s r).printer = s.printer ∧
      (State.retakeFailed s r).settings = s.settings ∧
      (State.retakeFailed s r).sensors = s.sensors ∧
      (State.retakeFailed s r).now = s.now ∧
      (State.retakeFailed s r).dispatchWanted = s.dispatchWanted ∧
      (State.retakeFailed s r).pending = s.pending := by
  unfold State.retakeFailed
  simp

/-- What `armFaultEntry` leaves alone. -/
@[simp] theorem State.armFaultEntry_frame (s : State) (why : FaultCause) :
    (State.armFaultEntry s why).link = s.link ∧
      (State.armFaultEntry s why).jobs = s.jobs ∧
      (State.armFaultEntry s why).labels = s.labels ∧
      (State.armFaultEntry s why).settings = s.settings ∧
      (State.armFaultEntry s why).sensors = s.sensors ∧
      (State.armFaultEntry s why).now = s.now ∧
      (State.armFaultEntry s why).dispatchWanted = s.dispatchWanted ∧
      (State.armFaultEntry s why).pending = s.pending := by
  unfold State.armFaultEntry
  (repeat' split) <;> (try simp) <;> (repeat' split) <;> (try simp) <;> (repeat' split) <;> simp

/-- What `startHoming` leaves alone. -/
@[simp] theorem State.startHoming_frame (s : State) :
    (State.startHoming s).link = s.link ∧
      (State.startHoming s).jobs = s.jobs ∧
      (State.startHoming s).discs = s.discs ∧
      (State.startHoming s).staging = s.staging ∧
      (State.startHoming s).bays = s.bays ∧
      (State.startHoming s).governor = s.governor ∧
      (State.startHoming s).verify = s.verify ∧
      (State.startHoming s).labels = s.labels ∧
      (State.startHoming s).printer = s.printer ∧
      (State.startHoming s).settings = s.settings ∧
      (State.startHoming s).sensors = s.sensors ∧
      (State.startHoming s).now = s.now ∧
      (State.startHoming s).dispatchWanted = s.dispatchWanted ∧
      (State.startHoming s).pending = s.pending := by
  unfold State.startHoming
  (repeat' split) <;> simp

/-- What `resumeGrant` leaves alone. -/
@[simp] theorem State.resumeGrant_frame (s : State) :
    (State.resumeGrant s).link = s.link ∧
      (State.resumeGrant s).jobs = s.jobs ∧
      (State.resumeGrant s).discs = s.discs ∧
      (State.resumeGrant s).staging = s.staging ∧
      (State.resumeGrant s).bays = s.bays ∧
      (State.resumeGrant s).governor = s.governor ∧
      (State.resumeGrant s).verify = s.verify ∧
      (State.resumeGrant s).labels = s.labels ∧
      (State.resumeGrant s).printer = s.printer ∧
      (State.resumeGrant s).settings = s.settings ∧
      (State.resumeGrant s).sensors = s.sensors ∧
      (State.resumeGrant s).now = s.now ∧
      (State.resumeGrant s).dispatchWanted = s.dispatchWanted ∧
      (State.resumeGrant s).pending = s.pending := by
  unfold State.resumeGrant
  (repeat' split) <;> (try simp) <;> (repeat' split) <;> (try simp) <;> (repeat' split) <;> simp

/-- What `homingEnd` leaves alone. -/
@[simp] theorem State.homingEnd_frame (s : State) :
    (State.homingEnd s).link = s.link ∧
      (State.homingEnd s).jobs = s.jobs ∧
      (State.homingEnd s).discs = s.discs ∧
      (State.homingEnd s).staging = s.staging ∧
      (State.homingEnd s).bays = s.bays ∧
      (State.homingEnd s).governor = s.governor ∧
      (State.homingEnd s).verify = s.verify ∧
      (State.homingEnd s).labels = s.labels ∧
      (State.homingEnd s).printer = s.printer ∧
      (State.homingEnd s).settings = s.settings ∧
      (State.homingEnd s).sensors = s.sensors ∧
      (State.homingEnd s).now = s.now ∧
      (State.homingEnd s).dispatchWanted = s.dispatchWanted ∧
      (State.homingEnd s).pending = s.pending := by
  unfold State.homingEnd
  (repeat' split) <;> (try simp) <;> (repeat' split) <;> (try simp) <;> (repeat' split) <;> simp

/-- What `clearArm` leaves alone. -/
@[simp] theorem State.clearArm_frame (s : State) (n : Nat) :
    (State.clearArm s n).link = s.link ∧
      (State.clearArm s n).jobs = s.jobs ∧
      (State.clearArm s n).staging = s.staging ∧
      (State.clearArm s n).bays = s.bays ∧
      (State.clearArm s n).governor = s.governor ∧
      (State.clearArm s n).verify = s.verify ∧
      (State.clearArm s n).labels = s.labels ∧
      (State.clearArm s n).printer = s.printer ∧
      (State.clearArm s n).settings = s.settings ∧
      (State.clearArm s n).sensors = s.sensors ∧
      (State.clearArm s n).now = s.now ∧
      (State.clearArm s n).dispatchWanted = s.dispatchWanted ∧
      (State.clearArm s n).pending = s.pending := by
  unfold State.clearArm
  simp

/-- What `homingClear` leaves alone. -/
@[simp] theorem State.homingClear_frame (s : State) :
    (State.homingClear s).link = s.link ∧
      (State.homingClear s).jobs = s.jobs ∧
      (State.homingClear s).staging = s.staging ∧
      (State.homingClear s).bays = s.bays ∧
      (State.homingClear s).governor = s.governor ∧
      (State.homingClear s).verify = s.verify ∧
      (State.homingClear s).labels = s.labels ∧
      (State.homingClear s).printer = s.printer ∧
      (State.homingClear s).settings = s.settings ∧
      (State.homingClear s).sensors = s.sensors ∧
      (State.homingClear s).now = s.now ∧
      (State.homingClear s).dispatchWanted = s.dispatchWanted ∧
      (State.homingClear s).pending = s.pending := by
  unfold State.homingClear
  (repeat' split) <;> (try simp) <;> (repeat' split) <;> (try simp) <;> (repeat' split) <;> simp

/-- What `dropStuck` leaves alone. -/
@[simp] theorem State.dropStuck_frame (s : State) (second : Option SecondLeg) (n : Nat) :
    (State.dropStuck s second n).link = s.link ∧
      (State.dropStuck s second n).labels = s.labels ∧
      (State.dropStuck s second n).settings = s.settings ∧
      (State.dropStuck s second n).sensors = s.sensors ∧
      (State.dropStuck s second n).now = s.now ∧
      (State.dropStuck s second n).dispatchWanted = s.dispatchWanted ∧
      (State.dropStuck s second n).pending = s.pending := by
  unfold State.dropStuck
  simp

/-- What `dropFailure` leaves alone. -/
@[simp] theorem State.dropFailure_frame (s : State) (r : MoveReq) (at_ : BinId) :
    (State.dropFailure s r at_).link = s.link ∧
      (State.dropFailure s r at_).labels = s.labels ∧
      (State.dropFailure s r at_).settings = s.settings ∧
      (State.dropFailure s r at_).sensors = s.sensors ∧
      (State.dropFailure s r at_).now = s.now ∧
      (State.dropFailure s r at_).dispatchWanted = s.dispatchWanted ∧
      (State.dropFailure s r at_).pending = s.pending := by
  unfold State.dropFailure
  (repeat' split) <;> (try simp) <;> (repeat' split) <;> (try simp) <;> (repeat' split) <;> simp

/-- What `homingDropFailure` leaves alone. -/
@[simp] theorem State.homingDropFailure_frame (s : State) :
    (State.homingDropFailure s).link = s.link ∧
      (State.homingDropFailure s).labels = s.labels ∧
      (State.homingDropFailure s).settings = s.settings ∧
      (State.homingDropFailure s).sensors = s.sensors ∧
      (State.homingDropFailure s).now = s.now ∧
      (State.homingDropFailure s).dispatchWanted = s.dispatchWanted ∧
      (State.homingDropFailure s).pending = s.pending := by
  unfold State.homingDropFailure
  (repeat' split) <;> (try simp) <;> (repeat' split) <;> (try simp) <;> (repeat' split) <;> simp

/-- What `withdrawCurrent` leaves alone. -/
@[simp] theorem State.withdrawCurrent_frame (s : State) (r : MoveReq) :
    (State.withdrawCurrent s r).link = s.link ∧
      (State.withdrawCurrent s r).jobs = s.jobs ∧
      (State.withdrawCurrent s r).staging = s.staging ∧
      (State.withdrawCurrent s r).governor = s.governor ∧
      (State.withdrawCurrent s r).verify = s.verify ∧
      (State.withdrawCurrent s r).labels = s.labels ∧
      (State.withdrawCurrent s r).settings = s.settings ∧
      (State.withdrawCurrent s r).sensors = s.sensors ∧
      (State.withdrawCurrent s r).now = s.now ∧
      (State.withdrawCurrent s r).dispatchWanted = s.dispatchWanted ∧
      (State.withdrawCurrent s r).pending = s.pending := by
  unfold State.withdrawCurrent
  (repeat' split) <;> simp

/-- What `withdraw` leaves alone. -/
@[simp] theorem State.withdraw_frame (s : State) (n : Nat) :
    (State.withdraw s n).link = s.link ∧
      (State.withdraw s n).jobs = s.jobs ∧
      (State.withdraw s n).staging = s.staging ∧
      (State.withdraw s n).governor = s.governor ∧
      (State.withdraw s n).verify = s.verify ∧
      (State.withdraw s n).labels = s.labels ∧
      (State.withdraw s n).settings = s.settings ∧
      (State.withdraw s n).sensors = s.sensors ∧
      (State.withdraw s n).now = s.now ∧
      (State.withdraw s n).dispatchWanted = s.dispatchWanted ∧
      (State.withdraw s n).pending = s.pending := by
  unfold State.withdraw
  (repeat' split) <;> simp

/-- What `changeDest` leaves alone. -/
@[simp] theorem State.changeDest_frame (s : State) (n : Nat) :
    (State.changeDest s n).link = s.link ∧
      (State.changeDest s n).jobs = s.jobs ∧
      (State.changeDest s n).labels = s.labels ∧
      (State.changeDest s n).settings = s.settings ∧
      (State.changeDest s n).sensors = s.sensors ∧
      (State.changeDest s n).now = s.now ∧
      (State.changeDest s n).dispatchWanted = s.dispatchWanted ∧
      (State.changeDest s n).pending = s.pending := by
  unfold State.changeDest
  (repeat' split) <;> (try simp) <;> (repeat' split) <;> (try simp) <;> (repeat' split) <;> simp

/-- What `cancelCarried` leaves alone. -/
@[simp] theorem State.cancelCarried_frame (s : State) (n : Nat) :
    (State.cancelCarried s n).link = s.link ∧
      (State.cancelCarried s n).jobs = s.jobs ∧
      (State.cancelCarried s n).labels = s.labels ∧
      (State.cancelCarried s n).settings = s.settings ∧
      (State.cancelCarried s n).sensors = s.sensors ∧
      (State.cancelCarried s n).now = s.now ∧
      (State.cancelCarried s n).dispatchWanted = s.dispatchWanted ∧
      (State.cancelCarried s n).pending = s.pending := by
  unfold State.cancelCarried
  (repeat' split) <;> simp

/-- What `doublePick` leaves alone. -/
@[simp] theorem State.doublePick_frame (s : State) (r : MoveReq) (n : Nat) :
    (State.doublePick s r n).link = s.link ∧
      (State.doublePick s r n).jobs = s.jobs ∧
      (State.doublePick s r n).labels = s.labels ∧
      (State.doublePick s r n).printer = s.printer ∧
      (State.doublePick s r n).settings = s.settings ∧
      (State.doublePick s r n).sensors = s.sensors ∧
      (State.doublePick s r n).now = s.now ∧
      (State.doublePick s r n).dispatchWanted = s.dispatchWanted ∧
      (State.doublePick s r n).pending = s.pending := by
  unfold State.doublePick
  (repeat' split) <;> (try simp) <;> (repeat' split) <;> (try simp) <;> (repeat' split) <;> simp

/-- What `pickDone` leaves alone. -/
@[simp] theorem State.pickDone_frame (s : State) (r : MoveReq) (two : Bool) :
    (State.pickDone s r two).link = s.link ∧
      (State.pickDone s r two).jobs = s.jobs ∧
      (State.pickDone s r two).labels = s.labels ∧
      (State.pickDone s r two).settings = s.settings ∧
      (State.pickDone s r two).now = s.now ∧
      (State.pickDone s r two).dispatchWanted = s.dispatchWanted ∧
      (State.pickDone s r two).pending = s.pending := by
  unfold State.pickDone
  (repeat' split) <;> (try simp) <;> (repeat' split) <;> (try simp) <;> (repeat' split) <;> simp

/-- What `retaken` leaves alone. -/
@[simp] theorem State.retaken_frame (s : State) (r : MoveReq) :
    (State.retaken s r).link = s.link ∧
      (State.retaken s r).jobs = s.jobs ∧
      (State.retaken s r).labels = s.labels ∧
      (State.retaken s r).printer = s.printer ∧
      (State.retaken s r).settings = s.settings ∧
      (State.retaken s r).now = s.now ∧
      (State.retaken s r).dispatchWanted = s.dispatchWanted ∧
      (State.retaken s r).pending = s.pending := by
  unfold State.retaken
  (repeat' split) <;> (try simp) <;> (repeat' split) <;> (try simp) <;> (repeat' split) <;> simp

/-- What `accepted` leaves alone. -/
@[simp] theorem State.accepted_frame (s : State) (n : Nat) (at_ : Station) (st : DiscStage) :
    (State.accepted s n at_ st).link = s.link ∧
      (State.accepted s n at_ st).jobs = s.jobs ∧
      (State.accepted s n at_ st).staging = s.staging ∧
      (State.accepted s n at_ st).bays = s.bays ∧
      (State.accepted s n at_ st).governor = s.governor ∧
      (State.accepted s n at_ st).verify = s.verify ∧
      (State.accepted s n at_ st).labels = s.labels ∧
      (State.accepted s n at_ st).printer = s.printer ∧
      (State.accepted s n at_ st).settings = s.settings ∧
      (State.accepted s n at_ st).now = s.now ∧
      (State.accepted s n at_ st).dispatchWanted = s.dispatchWanted ∧
      (State.accepted s n at_ st).pending = s.pending := by
  unfold State.accepted
  simp

/-- What `cancelQueued` leaves alone. -/
@[simp] theorem State.cancelQueued_frame (s : State) (d : Disc) :
    (State.cancelQueued s d).link = s.link ∧
      (State.cancelQueued s d).labels = s.labels ∧
      (State.cancelQueued s d).settings = s.settings ∧
      (State.cancelQueued s d).sensors = s.sensors ∧
      (State.cancelQueued s d).now = s.now ∧
      (State.cancelQueued s d).dispatchWanted = s.dispatchWanted ∧
      (State.cancelQueued s d).pending = s.pending := by
  unfold State.cancelQueued
  simp

/-- What `cancelOnArm` leaves alone. -/
@[simp] theorem State.cancelOnArm_frame (s : State) (d : Disc) :
    (State.cancelOnArm s d).link = s.link ∧
      (State.cancelOnArm s d).jobs = s.jobs ∧
      (State.cancelOnArm s d).labels = s.labels ∧
      (State.cancelOnArm s d).settings = s.settings ∧
      (State.cancelOnArm s d).sensors = s.sensors ∧
      (State.cancelOnArm s d).now = s.now ∧
      (State.cancelOnArm s d).dispatchWanted = s.dispatchWanted ∧
      (State.cancelOnArm s d).pending = s.pending := by
  unfold State.cancelOnArm
  (repeat' split) <;> simp

/-- What `cancelInBay` leaves alone. -/
@[simp] theorem State.cancelInBay_frame (s : State) (d : Disc) (b : BayId) :
    (State.cancelInBay s d b).link = s.link ∧
      (State.cancelInBay s d b).labels = s.labels ∧
      (State.cancelInBay s d b).printer = s.printer ∧
      (State.cancelInBay s d b).settings = s.settings ∧
      (State.cancelInBay s d b).sensors = s.sensors ∧
      (State.cancelInBay s d b).now = s.now ∧
      (State.cancelInBay s d b).dispatchWanted = s.dispatchWanted ∧
      (State.cancelInBay s d b).pending = s.pending := by
  unfold State.cancelInBay
  (repeat' split) <;> simp

/-- What `cancelInPrinter` leaves alone. -/
@[simp] theorem State.cancelInPrinter_frame (s : State) (d : Disc) :
    (State.cancelInPrinter s d).link = s.link ∧
      (State.cancelInPrinter s d).jobs = s.jobs ∧
      (State.cancelInPrinter s d).staging = s.staging ∧
      (State.cancelInPrinter s d).bays = s.bays ∧
      (State.cancelInPrinter s d).governor = s.governor ∧
      (State.cancelInPrinter s d).verify = s.verify ∧
      (State.cancelInPrinter s d).trans = s.trans ∧
      (State.cancelInPrinter s d).labels = s.labels ∧
      (State.cancelInPrinter s d).printer = s.printer ∧
      (State.cancelInPrinter s d).status = s.status ∧
      (State.cancelInPrinter s d).settings = s.settings ∧
      (State.cancelInPrinter s d).sensors = s.sensors ∧
      (State.cancelInPrinter s d).now = s.now ∧
      (State.cancelInPrinter s d).dispatchWanted = s.dispatchWanted ∧
      (State.cancelInPrinter s d).pending = s.pending := by
  unfold State.cancelInPrinter
  (repeat' split) <;> simp

/-- What `cancelDisc` leaves alone. -/
@[simp] theorem State.cancelDisc_frame (s : State) (d : Disc) :
    (State.cancelDisc s d).link = s.link ∧
      (State.cancelDisc s d).labels = s.labels ∧
      (State.cancelDisc s d).settings = s.settings ∧
      (State.cancelDisc s d).sensors = s.sensors ∧
      (State.cancelDisc s d).now = s.now ∧
      (State.cancelDisc s d).dispatchWanted = s.dispatchWanted ∧
      (State.cancelDisc s d).pending = s.pending := by
  unfold State.cancelDisc
  (repeat' split) <;> simp

/-- What `cancelJob` leaves alone. -/
@[simp] theorem State.cancelJob_frame (s : State) (slot : JobSlot) (j : Job) :
    (State.cancelJob s slot j).link = s.link ∧
      (State.cancelJob s slot j).labels = s.labels ∧
      (State.cancelJob s slot j).settings = s.settings ∧
      (State.cancelJob s slot j).sensors = s.sensors ∧
      (State.cancelJob s slot j).now = s.now ∧
      (State.cancelJob s slot j).dispatchWanted = s.dispatchWanted ∧
      (State.cancelJob s slot j).pending = s.pending := by
  unfold State.cancelJob
  refine ⟨?_, ?_, ?_, ?_, ?_, ?_, ?_⟩
  · simp [foldl_frame (fun s : State => s.link) State.cancelDisc (by intro s a; simp)]
  · simp [foldl_frame (fun s : State => s.labels) State.cancelDisc (by intro s a; simp)]
  · simp [foldl_frame (fun s : State => s.settings) State.cancelDisc (by intro s a; simp)]
  · simp [foldl_frame (fun s : State => s.sensors) State.cancelDisc (by intro s a; simp)]
  · simp [foldl_frame (fun s : State => s.now) State.cancelDisc (by intro s a; simp)]
  · simp [foldl_frame (fun s : State => s.dispatchWanted) State.cancelDisc (by intro s a; simp)]
  · simp [foldl_frame (fun s : State => s.pending) State.cancelDisc (by intro s a; simp)]

/-- What `loadSettings` leaves alone. -/
@[simp] theorem State.loadSettings_frame (s : State) :
    (State.loadSettings s).link = s.link ∧
      (State.loadSettings s).jobs = s.jobs ∧
      (State.loadSettings s).discs = s.discs ∧
      (State.loadSettings s).staging = s.staging ∧
      (State.loadSettings s).bays = s.bays ∧
      (State.loadSettings s).governor = s.governor ∧
      (State.loadSettings s).verify = s.verify ∧
      (State.loadSettings s).trans = s.trans ∧
      (State.loadSettings s).labels = s.labels ∧
      (State.loadSettings s).printer = s.printer ∧
      (State.loadSettings s).sensors = s.sensors ∧
      (State.loadSettings s).now = s.now ∧
      (State.loadSettings s).dispatchWanted = s.dispatchWanted ∧
      (State.loadSettings s).pending = s.pending := by
  unfold State.loadSettings
  (repeat' split) <;> simp

/-- What `sampleStraps` leaves alone. -/
@[simp] theorem State.sampleStraps_frame (s : State) :
    (State.sampleStraps s).link = s.link ∧
      (State.sampleStraps s).jobs = s.jobs ∧
      (State.sampleStraps s).discs = s.discs ∧
      (State.sampleStraps s).staging = s.staging ∧
      (State.sampleStraps s).bays = s.bays ∧
      (State.sampleStraps s).governor = s.governor ∧
      (State.sampleStraps s).verify = s.verify ∧
      (State.sampleStraps s).trans = s.trans ∧
      (State.sampleStraps s).labels = s.labels ∧
      (State.sampleStraps s).printer = s.printer ∧
      (State.sampleStraps s).status = s.status ∧
      (State.sampleStraps s).sensors = s.sensors ∧
      (State.sampleStraps s).now = s.now ∧
      (State.sampleStraps s).dispatchWanted = s.dispatchWanted ∧
      (State.sampleStraps s).pending = s.pending := by
  unfold State.sampleStraps
  simp

/-- What `strapsFor` leaves alone. -/
@[simp] theorem State.strapsFor_frame (s : State) (mode : RestartMode) :
    (s.strapsFor mode).link = s.link ∧
      (s.strapsFor mode).jobs = s.jobs ∧
      (s.strapsFor mode).discs = s.discs ∧
      (s.strapsFor mode).staging = s.staging ∧
      (s.strapsFor mode).bays = s.bays ∧
      (s.strapsFor mode).governor = s.governor ∧
      (s.strapsFor mode).verify = s.verify ∧
      (s.strapsFor mode).trans = s.trans ∧
      (s.strapsFor mode).labels = s.labels ∧
      (s.strapsFor mode).printer = s.printer ∧
      (s.strapsFor mode).status = s.status ∧
      (s.strapsFor mode).sensors = s.sensors ∧
      (s.strapsFor mode).now = s.now ∧
      (s.strapsFor mode).dispatchWanted = s.dispatchWanted ∧
      (s.strapsFor mode).pending = s.pending := by
  cases mode <;> simp [State.strapsFor]

/-- What `resetBlocks` leaves alone. -/
@[simp] theorem State.resetBlocks_frame (s : State) :
    (State.resetBlocks s).link = s.link ∧
      (State.resetBlocks s).settings = s.settings ∧
      (State.resetBlocks s).sensors = s.sensors ∧
      (State.resetBlocks s).now = s.now ∧
      (State.resetBlocks s).pending = s.pending := by
  unfold State.resetBlocks
  (repeat' split) <;> simp

/-- No evaluation is wanted after a reset of the blocks. -/
@[simp] theorem State.resetBlocks_dispatchWanted (s : State) : (State.resetBlocks s).dispatchWanted = false := rfl

/-- What `applyBuild` leaves alone. -/
@[simp] theorem State.applyBuild_frame (s : State) :
    (State.applyBuild s).link = s.link ∧
      (State.applyBuild s).jobs = s.jobs ∧
      (State.applyBuild s).discs = s.discs ∧
      (State.applyBuild s).bays = s.bays ∧
      (State.applyBuild s).governor = s.governor ∧
      (State.applyBuild s).verify = s.verify ∧
      (State.applyBuild s).trans = s.trans ∧
      (State.applyBuild s).labels = s.labels ∧
      (State.applyBuild s).printer = s.printer ∧
      (State.applyBuild s).status = s.status ∧
      (State.applyBuild s).settings = s.settings ∧
      (State.applyBuild s).sensors = s.sensors ∧
      (State.applyBuild s).now = s.now ∧
      (State.applyBuild s).dispatchWanted = s.dispatchWanted ∧
      (State.applyBuild s).pending = s.pending := by
  unfold State.applyBuild
  (repeat' split) <;> simp

/-- What `reportAll` leaves alone. -/
@[simp] theorem State.reportAll_frame (s : State) :
    (State.reportAll s).link = s.link ∧
      (State.reportAll s).jobs = s.jobs ∧
      (State.reportAll s).discs = s.discs ∧
      (State.reportAll s).staging = s.staging ∧
      (State.reportAll s).bays = s.bays ∧
      (State.reportAll s).governor = s.governor ∧
      (State.reportAll s).verify = s.verify ∧
      (State.reportAll s).trans = s.trans ∧
      (State.reportAll s).labels = s.labels ∧
      (State.reportAll s).printer = s.printer ∧
      (State.reportAll s).settings = s.settings ∧
      (State.reportAll s).sensors = s.sensors ∧
      (State.reportAll s).now = s.now ∧
      (State.reportAll s).dispatchWanted = s.dispatchWanted ∧
      (State.reportAll s).pending = s.pending := by
  unfold State.reportAll
  simp

/-- What `surveyBays` leaves alone. -/
@[simp] theorem State.surveyBays_frame (s : State) :
    (State.surveyBays s).link = s.link ∧
      (State.surveyBays s).jobs = s.jobs ∧
      (State.surveyBays s).discs = s.discs ∧
      (State.surveyBays s).staging = s.staging ∧
      (State.surveyBays s).governor = s.governor ∧
      (State.surveyBays s).verify = s.verify ∧
      (State.surveyBays s).trans = s.trans ∧
      (State.surveyBays s).labels = s.labels ∧
      (State.surveyBays s).printer = s.printer ∧
      (State.surveyBays s).status = s.status ∧
      (State.surveyBays s).settings = s.settings ∧
      (State.surveyBays s).sensors = s.sensors ∧
      (State.surveyBays s).now = s.now ∧
      (State.surveyBays s).dispatchWanted = s.dispatchWanted ∧
      (State.surveyBays s).pending = s.pending := by
  unfold State.surveyBays
  exact ⟨foldl_frame (fun s : State => s.link) _ (by intro s a; split <;> simp) _ _,
    foldl_frame (fun s : State => s.jobs) _ (by intro s a; split <;> simp) _ _,
    foldl_frame (fun s : State => s.discs) _ (by intro s a; split <;> simp) _ _,
    foldl_frame (fun s : State => s.staging) _ (by intro s a; split <;> simp) _ _,
    foldl_frame (fun s : State => s.governor) _ (by intro s a; split <;> simp) _ _,
    foldl_frame (fun s : State => s.verify) _ (by intro s a; split <;> simp) _ _,
    foldl_frame (fun s : State => s.trans) _ (by intro s a; split <;> simp) _ _,
    foldl_frame (fun s : State => s.labels) _ (by intro s a; split <;> simp) _ _,
    foldl_frame (fun s : State => s.printer) _ (by intro s a; split <;> simp) _ _,
    foldl_frame (fun s : State => s.status) _ (by intro s a; split <;> simp) _ _,
    foldl_frame (fun s : State => s.settings) _ (by intro s a; split <;> simp) _ _,
    foldl_frame (fun s : State => s.sensors) _ (by intro s a; split <;> simp) _ _,
    foldl_frame (fun s : State => s.now) _ (by intro s a; split <;> simp) _ _,
    foldl_frame (fun s : State => s.dispatchWanted) _ (by intro s a; split <;> simp) _ _,
    foldl_frame (fun s : State => s.pending) _ (by intro s a; split <;> simp) _ _⟩

/-- What `surveyArm` leaves alone. -/
@[simp] theorem State.surveyArm_frame (s : State) :
    (State.surveyArm s).link = s.link ∧
      (State.surveyArm s).jobs = s.jobs ∧
      (State.surveyArm s).staging = s.staging ∧
      (State.surveyArm s).bays = s.bays ∧
      (State.surveyArm s).governor = s.governor ∧
      (State.surveyArm s).verify = s.verify ∧
      (State.surveyArm s).trans = s.trans ∧
      (State.surveyArm s).labels = s.labels ∧
      (State.surveyArm s).printer = s.printer ∧
      (State.surveyArm s).status = s.status ∧
      (State.surveyArm s).settings = s.settings ∧
      (State.surveyArm s).sensors = s.sensors ∧
      (State.surveyArm s).now = s.now ∧
      (State.surveyArm s).dispatchWanted = s.dispatchWanted ∧
      (State.surveyArm s).pending = s.pending := by
  unfold State.surveyArm
  (repeat' split) <;> simp

/-- What `setStage` leaves alone. -/
@[simp] theorem State.setStage_frame (s : State) (st : Stage) :
    (State.setStage s st).link = s.link ∧
      (State.setStage s st).jobs = s.jobs ∧
      (State.setStage s st).discs = s.discs ∧
      (State.setStage s st).staging = s.staging ∧
      (State.setStage s st).bays = s.bays ∧
      (State.setStage s st).governor = s.governor ∧
      (State.setStage s st).verify = s.verify ∧
      (State.setStage s st).trans = s.trans ∧
      (State.setStage s st).labels = s.labels ∧
      (State.setStage s st).printer = s.printer ∧
      (State.setStage s st).status = s.status ∧
      (State.setStage s st).sensors = s.sensors ∧
      (State.setStage s st).now = s.now ∧
      (State.setStage s st).dispatchWanted = s.dispatchWanted ∧
      (State.setStage s st).pending = s.pending := by
  unfold State.setStage
  simp

/-- What `beginInventory` leaves alone. -/
@[simp] theorem State.beginInventory_frame (s : State) :
    (State.beginInventory s).link = s.link ∧
      (State.beginInventory s).jobs = s.jobs ∧
      (State.beginInventory s).staging = s.staging ∧
      (State.beginInventory s).governor = s.governor ∧
      (State.beginInventory s).verify = s.verify ∧
      (State.beginInventory s).labels = s.labels ∧
      (State.beginInventory s).status = s.status ∧
      (State.beginInventory s).sensors = s.sensors ∧
      (State.beginInventory s).now = s.now ∧
      (State.beginInventory s).dispatchWanted = s.dispatchWanted ∧
      (State.beginInventory s).pending = s.pending := by
  unfold State.beginInventory
  simp

/-- What `finishStarting` leaves alone. -/
@[simp] theorem State.finishStarting_frame (s : State) (mode : RestartMode) :
    (State.finishStarting s mode).link = s.link ∧
      (State.finishStarting s mode).jobs = s.jobs ∧
      (State.finishStarting s mode).governor = s.governor ∧
      (State.finishStarting s mode).verify = s.verify ∧
      (State.finishStarting s mode).labels = s.labels ∧
      (State.finishStarting s mode).sensors = s.sensors ∧
      (State.finishStarting s mode).now = s.now ∧
      (State.finishStarting s mode).dispatchWanted = s.dispatchWanted ∧
      (State.finishStarting s mode).pending = s.pending := by
  unfold State.finishStarting
  (repeat' split) <;> simp

/-- What `startup` leaves alone. -/
@[simp] theorem State.startup_frame (s : State) (mode : RestartMode) :
    (State.startup s mode).link = s.link ∧
      (State.startup s mode).sensors = s.sensors ∧
      (State.startup s mode).now = s.now ∧
      (State.startup s mode).dispatchWanted = false ∧
      (State.startup s mode).pending = s.pending := by
  unfold State.startup
  (repeat' split) <;> (try simp) <;> (repeat' split) <;> (try simp) <;> (repeat' split) <;> simp

/-- What `powerUp` leaves alone. -/
@[simp] theorem State.powerUp_frame (s : State) (readings : Readings) (flash : List Byte) :
    (State.powerUp s readings flash).jobs = s.jobs ∧
      (State.powerUp s readings flash).discs = s.discs ∧
      (State.powerUp s readings flash).staging = s.staging ∧
      (State.powerUp s readings flash).bays = s.bays ∧
      (State.powerUp s readings flash).governor = s.governor ∧
      (State.powerUp s readings flash).verify = s.verify ∧
      (State.powerUp s readings flash).trans = s.trans ∧
      (State.powerUp s readings flash).labels = s.labels ∧
      (State.powerUp s readings flash).printer = s.printer ∧
      (State.powerUp s readings flash).status = s.status ∧
      (State.powerUp s readings flash).now = s.now ∧
      (State.powerUp s readings flash).dispatchWanted = s.dispatchWanted ∧
      (State.powerUp s readings flash).pending = s.pending := by
  unfold State.powerUp
  simp

/-- What `saveEnded` leaves alone. -/
@[simp] theorem State.saveEnded_frame (s : State) (w : Saving) (readBack : List Byte) :
    (State.saveEnded s w readBack).link = s.link ∧
      (State.saveEnded s w readBack).jobs = s.jobs ∧
      (State.saveEnded s w readBack).discs = s.discs ∧
      (State.saveEnded s w readBack).staging = s.staging ∧
      (State.saveEnded s w readBack).bays = s.bays ∧
      (State.saveEnded s w readBack).governor = s.governor ∧
      (State.saveEnded s w readBack).verify = s.verify ∧
      (State.saveEnded s w readBack).trans = s.trans ∧
      (State.saveEnded s w readBack).labels = s.labels ∧
      (State.saveEnded s w readBack).printer = s.printer ∧
      (State.saveEnded s w readBack).sensors = s.sensors ∧
      (State.saveEnded s w readBack).now = s.now ∧
      (State.saveEnded s w readBack).dispatchWanted = s.dispatchWanted ∧
      (State.saveEnded s w readBack).pending = s.pending := by
  unfold State.saveEnded
  (repeat' split) <;> simp

/-- What `answerRefused` leaves alone. -/
@[simp] theorem State.answerRefused_frame (s : State) (kind : Byte) (tag : BitVec 16) (result : Result) :
    (State.answerRefused s kind tag result).jobs = s.jobs ∧
      (State.answerRefused s kind tag result).discs = s.discs ∧
      (State.answerRefused s kind tag result).staging = s.staging ∧
      (State.answerRefused s kind tag result).bays = s.bays ∧
      (State.answerRefused s kind tag result).governor = s.governor ∧
      (State.answerRefused s kind tag result).verify = s.verify ∧
      (State.answerRefused s kind tag result).trans = s.trans ∧
      (State.answerRefused s kind tag result).labels = s.labels ∧
      (State.answerRefused s kind tag result).printer = s.printer ∧
      (State.answerRefused s kind tag result).settings = s.settings ∧
      (State.answerRefused s kind tag result).sensors = s.sensors ∧
      (State.answerRefused s kind tag result).now = s.now ∧
      (State.answerRefused s kind tag result).dispatchWanted = s.dispatchWanted ∧
      (State.answerRefused s kind tag result).pending = s.pending := by
  unfold State.answerRefused
  simp

/-- What `takeEntry` leaves alone. -/
@[simp] theorem State.takeEntry_frame (s : State) :
    s.takeEntry.jobs = s.jobs ∧
      s.takeEntry.discs = s.discs ∧
      s.takeEntry.staging = s.staging ∧
      s.takeEntry.bays = s.bays ∧
      s.takeEntry.governor = s.governor ∧
      s.takeEntry.verify = s.verify ∧
      s.takeEntry.trans = s.trans ∧
      s.takeEntry.labels = s.labels ∧
      s.takeEntry.printer = s.printer ∧
      s.takeEntry.settings = s.settings ∧
      s.takeEntry.sensors = s.sensors ∧
      s.takeEntry.now = s.now ∧
      s.takeEntry.dispatchWanted = s.dispatchWanted ∧
      s.takeEntry.pending = s.pending := by
  unfold State.takeEntry
  split <;> simp

/-- What `acknowledge` leaves alone. -/
@[simp] theorem State.acknowledge_frame (s : State) (events : BitVec 16) :
    (State.acknowledge s events).link = s.link ∧
      (State.acknowledge s events).jobs = s.jobs ∧
      (State.acknowledge s events).discs = s.discs ∧
      (State.acknowledge s events).staging = s.staging ∧
      (State.acknowledge s events).bays = s.bays ∧
      (State.acknowledge s events).governor = s.governor ∧
      (State.acknowledge s events).verify = s.verify ∧
      (State.acknowledge s events).trans = s.trans ∧
      (State.acknowledge s events).labels = s.labels ∧
      (State.acknowledge s events).printer = s.printer ∧
      (State.acknowledge s events).settings = s.settings ∧
      (State.acknowledge s events).sensors = s.sensors ∧
      (State.acknowledge s events).now = s.now ∧
      (State.acknowledge s events).dispatchWanted = s.dispatchWanted ∧
      (State.acknowledge s events).pending = s.pending := by
  unfold State.acknowledge
  (repeat' split) <;> simp

/-- What `fillSlot` leaves alone. -/
@[simp] theorem State.fillSlot_frame (s : State) (k : ImageId) (i : Image) :
    (State.fillSlot s k i).link = s.link ∧
      (State.fillSlot s k i).jobs = s.jobs ∧
      (State.fillSlot s k i).discs = s.discs ∧
      (State.fillSlot s k i).bays = s.bays ∧
      (State.fillSlot s k i).governor = s.governor ∧
      (State.fillSlot s k i).verify = s.verify ∧
      (State.fillSlot s k i).trans = s.trans ∧
      (State.fillSlot s k i).labels = s.labels ∧
      (State.fillSlot s k i).printer = s.printer ∧
      (State.fillSlot s k i).status = s.status ∧
      (State.fillSlot s k i).settings = s.settings ∧
      (State.fillSlot s k i).sensors = s.sensors ∧
      (State.fillSlot s k i).now = s.now ∧
      (State.fillSlot s k i).dispatchWanted = s.dispatchWanted ∧
      (State.fillSlot s k i).pending = s.pending := by
  unfold State.fillSlot
  simp

/-- What `openSlot` leaves alone. -/
@[simp] theorem State.openSlot_frame (s : State) (k : ImageId) (i : Image) :
    (State.openSlot s k i).link = s.link ∧
      (State.openSlot s k i).jobs = s.jobs ∧
      (State.openSlot s k i).discs = s.discs ∧
      (State.openSlot s k i).bays = s.bays ∧
      (State.openSlot s k i).governor = s.governor ∧
      (State.openSlot s k i).verify = s.verify ∧
      (State.openSlot s k i).trans = s.trans ∧
      (State.openSlot s k i).labels = s.labels ∧
      (State.openSlot s k i).printer = s.printer ∧
      (State.openSlot s k i).settings = s.settings ∧
      (State.openSlot s k i).sensors = s.sensors ∧
      (State.openSlot s k i).now = s.now ∧
      (State.openSlot s k i).dispatchWanted = s.dispatchWanted ∧
      (State.openSlot s k i).pending = s.pending := by
  unfold State.openSlot
  (repeat' split) <;> (try simp) <;> (repeat' split) <;> (try simp) <;> (repeat' split) <;> simp

/-- What `feedImage` leaves alone. -/
@[simp] theorem State.feedImage_frame (s : State) (k : ImageId) :
    (State.feedImage s k).link = s.link ∧
      (State.feedImage s k).jobs = s.jobs ∧
      (State.feedImage s k).discs = s.discs ∧
      (State.feedImage s k).staging = s.staging ∧
      (State.feedImage s k).governor = s.governor ∧
      (State.feedImage s k).verify = s.verify ∧
      (State.feedImage s k).trans = s.trans ∧
      (State.feedImage s k).labels = s.labels ∧
      (State.feedImage s k).printer = s.printer ∧
      (State.feedImage s k).status = s.status ∧
      (State.feedImage s k).settings = s.settings ∧
      (State.feedImage s k).sensors = s.sensors ∧
      (State.feedImage s k).now = s.now ∧
      (State.feedImage s k).dispatchWanted = s.dispatchWanted ∧
      (State.feedImage s k).pending = s.pending := by
  unfold State.feedImage
  exact ⟨foldl_frame (fun s : State => s.link) _ (by intro s a; split <;> simp) _ _,
    foldl_frame (fun s : State => s.jobs) _ (by intro s a; split <;> simp) _ _,
    foldl_frame (fun s : State => s.discs) _ (by intro s a; split <;> simp) _ _,
    foldl_frame (fun s : State => s.staging) _ (by intro s a; split <;> simp) _ _,
    foldl_frame (fun s : State => s.governor) _ (by intro s a; split <;> simp) _ _,
    foldl_frame (fun s : State => s.verify) _ (by intro s a; split <;> simp) _ _,
    foldl_frame (fun s : State => s.trans) _ (by intro s a; split <;> simp) _ _,
    foldl_frame (fun s : State => s.labels) _ (by intro s a; split <;> simp) _ _,
    foldl_frame (fun s : State => s.printer) _ (by intro s a; split <;> simp) _ _,
    foldl_frame (fun s : State => s.status) _ (by intro s a; split <;> simp) _ _,
    foldl_frame (fun s : State => s.settings) _ (by intro s a; split <;> simp) _ _,
    foldl_frame (fun s : State => s.sensors) _ (by intro s a; split <;> simp) _ _,
    foldl_frame (fun s : State => s.now) _ (by intro s a; split <;> simp) _ _,
    foldl_frame (fun s : State => s.dispatchWanted) _ (by intro s a; split <;> simp) _ _,
    foldl_frame (fun s : State => s.pending) _ (by intro s a; split <;> simp) _ _⟩

/-- What `storeSectors` leaves alone. -/
@[simp] theorem State.storeSectors_frame (s : State) (k : ImageId) (i : Image) (d : List Sector) :
    (State.storeSectors s k i d).link = s.link ∧
      (State.storeSectors s k i d).jobs = s.jobs ∧
      (State.storeSectors s k i d).discs = s.discs ∧
      (State.storeSectors s k i d).governor = s.governor ∧
      (State.storeSectors s k i d).verify = s.verify ∧
      (State.storeSectors s k i d).trans = s.trans ∧
      (State.storeSectors s k i d).labels = s.labels ∧
      (State.storeSectors s k i d).printer = s.printer ∧
      (State.storeSectors s k i d).settings = s.settings ∧
      (State.storeSectors s k i d).sensors = s.sensors ∧
      (State.storeSectors s k i d).now = s.now ∧
      (State.storeSectors s k i d).dispatchWanted = s.dispatchWanted ∧
      (State.storeSectors s k i d).pending = s.pending := by
  unfold State.storeSectors
  (repeat' split) <;> (try simp) <;> (repeat' split) <;> (try simp) <;> (repeat' split) <;> simp

/-- What `stageFull` leaves alone. -/
@[simp] theorem State.stageFull_frame (s : State) (k : ImageId) (i : Image) :
    (State.stageFull s k i).link = s.link ∧
      (State.stageFull s k i).jobs = s.jobs ∧
      (State.stageFull s k i).discs = s.discs ∧
      (State.stageFull s k i).bays = s.bays ∧
      (State.stageFull s k i).governor = s.governor ∧
      (State.stageFull s k i).verify = s.verify ∧
      (State.stageFull s k i).trans = s.trans ∧
      (State.stageFull s k i).labels = s.labels ∧
      (State.stageFull s k i).printer = s.printer ∧
      (State.stageFull s k i).status = s.status ∧
      (State.stageFull s k i).settings = s.settings ∧
      (State.stageFull s k i).sensors = s.sensors ∧
      (State.stageFull s k i).now = s.now ∧
      (State.stageFull s k i).dispatchWanted = s.dispatchWanted ∧
      (State.stageFull s k i).pending = s.pending := by
  unfold State.stageFull
  simp

/-- What `closePass` leaves alone. -/
@[simp] theorem State.closePass_frame (s : State) (k : ImageId) (i : Image) :
    (State.closePass s k i).link = s.link ∧
      (State.closePass s k i).jobs = s.jobs ∧
      (State.closePass s k i).discs = s.discs ∧
      (State.closePass s k i).bays = s.bays ∧
      (State.closePass s k i).governor = s.governor ∧
      (State.closePass s k i).verify = s.verify ∧
      (State.closePass s k i).trans = s.trans ∧
      (State.closePass s k i).labels = s.labels ∧
      (State.closePass s k i).printer = s.printer ∧
      (State.closePass s k i).settings = s.settings ∧
      (State.closePass s k i).sensors = s.sensors ∧
      (State.closePass s k i).now = s.now ∧
      (State.closePass s k i).dispatchWanted = s.dispatchWanted ∧
      (State.closePass s k i).pending = s.pending := by
  unfold State.closePass
  (repeat' split) <;> (try simp) <;> (repeat' split) <;> (try simp) <;> (repeat' split) <;> simp

/-- What `closeSlot` leaves alone. -/
@[simp] theorem State.closeSlot_frame (s : State) (k : ImageId) (i : Image) :
    (State.closeSlot s k i).link = s.link ∧
      (State.closeSlot s k i).jobs = s.jobs ∧
      (State.closeSlot s k i).discs = s.discs ∧
      (State.closeSlot s k i).bays = s.bays ∧
      (State.closeSlot s k i).governor = s.governor ∧
      (State.closeSlot s k i).verify = s.verify ∧
      (State.closeSlot s k i).trans = s.trans ∧
      (State.closeSlot s k i).labels = s.labels ∧
      (State.closeSlot s k i).printer = s.printer ∧
      (State.closeSlot s k i).settings = s.settings ∧
      (State.closeSlot s k i).sensors = s.sensors ∧
      (State.closeSlot s k i).now = s.now ∧
      (State.closeSlot s k i).dispatchWanted = s.dispatchWanted ∧
      (State.closeSlot s k i).pending = s.pending := by
  unfold State.closeSlot
  simp

/-- What `openLabel` leaves alone. -/
@[simp] theorem State.openLabel_frame (s : State) (k : LabelId) (l : Label) :
    (State.openLabel s k l).link = s.link ∧
      (State.openLabel s k l).jobs = s.jobs ∧
      (State.openLabel s k l).discs = s.discs ∧
      (State.openLabel s k l).staging = s.staging ∧
      (State.openLabel s k l).bays = s.bays ∧
      (State.openLabel s k l).governor = s.governor ∧
      (State.openLabel s k l).verify = s.verify ∧
      (State.openLabel s k l).trans = s.trans ∧
      (State.openLabel s k l).printer = s.printer ∧
      (State.openLabel s k l).status = s.status ∧
      (State.openLabel s k l).settings = s.settings ∧
      (State.openLabel s k l).sensors = s.sensors ∧
      (State.openLabel s k l).now = s.now ∧
      (State.openLabel s k l).dispatchWanted = s.dispatchWanted ∧
      (State.openLabel s k l).pending = s.pending := by
  unfold State.openLabel
  simp

/-- What `dropLabel` leaves alone. -/
@[simp] theorem State.dropLabel_frame (s : State) (k : LabelId) (l : Label) :
    (State.dropLabel s k l).link = s.link ∧
      (State.dropLabel s k l).jobs = s.jobs ∧
      (State.dropLabel s k l).discs = s.discs ∧
      (State.dropLabel s k l).staging = s.staging ∧
      (State.dropLabel s k l).bays = s.bays ∧
      (State.dropLabel s k l).governor = s.governor ∧
      (State.dropLabel s k l).verify = s.verify ∧
      (State.dropLabel s k l).trans = s.trans ∧
      (State.dropLabel s k l).printer = s.printer ∧
      (State.dropLabel s k l).status = s.status ∧
      (State.dropLabel s k l).settings = s.settings ∧
      (State.dropLabel s k l).sensors = s.sensors ∧
      (State.dropLabel s k l).now = s.now ∧
      (State.dropLabel s k l).dispatchWanted = s.dispatchWanted ∧
      (State.dropLabel s k l).pending = s.pending := by
  unfold State.dropLabel
  simp

/-- What `resumePrinter` leaves alone. -/
@[simp] theorem State.resumePrinter_frame (s : State) (p : Printer) :
    (State.resumePrinter s p).link = s.link ∧
      (State.resumePrinter s p).jobs = s.jobs ∧
      (State.resumePrinter s p).staging = s.staging ∧
      (State.resumePrinter s p).bays = s.bays ∧
      (State.resumePrinter s p).governor = s.governor ∧
      (State.resumePrinter s p).verify = s.verify ∧
      (State.resumePrinter s p).labels = s.labels ∧
      (State.resumePrinter s p).settings = s.settings ∧
      (State.resumePrinter s p).sensors = s.sensors ∧
      (State.resumePrinter s p).now = s.now ∧
      (State.resumePrinter s p).dispatchWanted = s.dispatchWanted ∧
      (State.resumePrinter s p).pending = s.pending := by
  unfold State.resumePrinter
  (repeat' split) <;> simp

/-- What `readingTaken` leaves alone. -/
@[simp] theorem State.readingTaken_frame (s : State) :
    (State.readingTaken s).link = s.link ∧
      (State.readingTaken s).jobs = s.jobs ∧
      (State.readingTaken s).labels = s.labels ∧
      (State.readingTaken s).settings = s.settings ∧
      (State.readingTaken s).sensors = s.sensors ∧
      (State.readingTaken s).now = s.now ∧
      (State.readingTaken s).dispatchWanted = s.dispatchWanted ∧
      (State.readingTaken s).pending = s.pending := by
  unfold State.readingTaken
  (repeat' split) <;> (try simp) <;> (repeat' split) <;> (try simp) <;> (repeat' split) <;> simp

/-- What `addJob` leaves alone. -/
@[simp] theorem State.addJob_frame (s : State) (k : JobSlot) (j : Job) :
    (State.addJob s k j).link = s.link ∧
      (State.addJob s k j).discs = s.discs ∧
      (State.addJob s k j).staging = s.staging ∧
      (State.addJob s k j).bays = s.bays ∧
      (State.addJob s k j).governor = s.governor ∧
      (State.addJob s k j).verify = s.verify ∧
      (State.addJob s k j).trans = s.trans ∧
      (State.addJob s k j).labels = s.labels ∧
      (State.addJob s k j).printer = s.printer ∧
      (State.addJob s k j).status = s.status ∧
      (State.addJob s k j).settings = s.settings ∧
      (State.addJob s k j).sensors = s.sensors ∧
      (State.addJob s k j).now = s.now ∧
      (State.addJob s k j).dispatchWanted = s.dispatchWanted ∧
      (State.addJob s k j).pending = s.pending := by
  unfold State.addJob
  simp

/-- What `removeJob` leaves alone. -/
@[simp] theorem State.removeJob_frame (s : State) (k : JobSlot) :
    (State.removeJob s k).link = s.link ∧
      (State.removeJob s k).discs = s.discs ∧
      (State.removeJob s k).staging = s.staging ∧
      (State.removeJob s k).bays = s.bays ∧
      (State.removeJob s k).governor = s.governor ∧
      (State.removeJob s k).verify = s.verify ∧
      (State.removeJob s k).trans = s.trans ∧
      (State.removeJob s k).labels = s.labels ∧
      (State.removeJob s k).printer = s.printer ∧
      (State.removeJob s k).status = s.status ∧
      (State.removeJob s k).settings = s.settings ∧
      (State.removeJob s k).sensors = s.sensors ∧
      (State.removeJob s k).now = s.now ∧
      (State.removeJob s k).dispatchWanted = s.dispatchWanted ∧
      (State.removeJob s k).pending = s.pending := by
  unfold State.removeJob
  simp

/-- What `answerMode` leaves alone. -/
@[simp] theorem State.answerMode_frame (s : State) (kind : Byte) (result : Result) :
    (State.answerMode s kind result).jobs = s.jobs ∧
      (State.answerMode s kind result).discs = s.discs ∧
      (State.answerMode s kind result).staging = s.staging ∧
      (State.answerMode s kind result).bays = s.bays ∧
      (State.answerMode s kind result).governor = s.governor ∧
      (State.answerMode s kind result).verify = s.verify ∧
      (State.answerMode s kind result).trans = s.trans ∧
      (State.answerMode s kind result).labels = s.labels ∧
      (State.answerMode s kind result).printer = s.printer ∧
      (State.answerMode s kind result).settings = s.settings ∧
      (State.answerMode s kind result).sensors = s.sensors ∧
      (State.answerMode s kind result).now = s.now ∧
      (State.answerMode s kind result).dispatchWanted = s.dispatchWanted ∧
      (State.answerMode s kind result).pending = s.pending := by
  unfold State.answerMode
  simp

/-- What `orphanGiven` leaves alone. -/
@[simp] theorem State.orphanGiven_frame (s : State) (w : OrphanAt) (n : Nat) :
    (State.orphanGiven s w n).link = s.link ∧
      (State.orphanGiven s w n).staging = s.staging ∧
      (State.orphanGiven s w n).governor = s.governor ∧
      (State.orphanGiven s w n).verify = s.verify ∧
      (State.orphanGiven s w n).labels = s.labels ∧
      (State.orphanGiven s w n).settings = s.settings ∧
      (State.orphanGiven s w n).sensors = s.sensors ∧
      (State.orphanGiven s w n).now = s.now ∧
      (State.orphanGiven s w n).dispatchWanted = s.dispatchWanted ∧
      (State.orphanGiven s w n).pending = s.pending := by
  unfold State.orphanGiven
  (repeat' split) <;> simp

/-- What `grantOrphan` leaves alone. -/
@[simp] theorem State.grantOrphan_frame (s : State) :
    (State.grantOrphan s).link = s.link ∧
      (State.grantOrphan s).staging = s.staging ∧
      (State.grantOrphan s).governor = s.governor ∧
      (State.grantOrphan s).verify = s.verify ∧
      (State.grantOrphan s).labels = s.labels ∧
      (State.grantOrphan s).settings = s.settings ∧
      (State.grantOrphan s).sensors = s.sensors ∧
      (State.grantOrphan s).now = s.now ∧
      (State.grantOrphan s).dispatchWanted = s.dispatchWanted ∧
      (State.grantOrphan s).pending = s.pending := by
  unfold State.grantOrphan
  (repeat' split) <;> simp

/-- What `bringOnline` leaves alone. -/
@[simp] theorem State.bringOnline_frame (s : State) (b : BayId) :
    (State.bringOnline s b).link = s.link ∧
      (State.bringOnline s b).jobs = s.jobs ∧
      (State.bringOnline s b).discs = s.discs ∧
      (State.bringOnline s b).staging = s.staging ∧
      (State.bringOnline s b).governor = s.governor ∧
      (State.bringOnline s b).verify = s.verify ∧
      (State.bringOnline s b).trans = s.trans ∧
      (State.bringOnline s b).labels = s.labels ∧
      (State.bringOnline s b).printer = s.printer ∧
      (State.bringOnline s b).settings = s.settings ∧
      (State.bringOnline s b).sensors = s.sensors ∧
      (State.bringOnline s b).now = s.now ∧
      (State.bringOnline s b).dispatchWanted = s.dispatchWanted ∧
      (State.bringOnline s b).pending = s.pending := by
  unfold State.bringOnline
  simp

/-- What `identResult` leaves alone. -/
@[simp] theorem State.identResult_frame (s : State) (b : BayId) (kind : CompletionKind) (facts : DriveFacts) :
    (State.identResult s b kind facts).link = s.link ∧
      (State.identResult s b kind facts).labels = s.labels ∧
      (State.identResult s b kind facts).printer = s.printer ∧
      (State.identResult s b kind facts).settings = s.settings ∧
      (State.identResult s b kind facts).sensors = s.sensors ∧
      (State.identResult s b kind facts).now = s.now ∧
      (State.identResult s b kind facts).dispatchWanted = s.dispatchWanted ∧
      (State.identResult s b kind facts).pending = s.pending := by
  unfold State.identResult
  (repeat' split) <;> simp

/-- What `modDiscOf` leaves alone. -/
@[simp] theorem State.modDiscOf_frame (s : State) (b : BayId) (f : Disc → Disc) :
    (State.modDiscOf s b f).link = s.link ∧
      (State.modDiscOf s b f).jobs = s.jobs ∧
      (State.modDiscOf s b f).staging = s.staging ∧
      (State.modDiscOf s b f).bays = s.bays ∧
      (State.modDiscOf s b f).governor = s.governor ∧
      (State.modDiscOf s b f).verify = s.verify ∧
      (State.modDiscOf s b f).trans = s.trans ∧
      (State.modDiscOf s b f).labels = s.labels ∧
      (State.modDiscOf s b f).printer = s.printer ∧
      (State.modDiscOf s b f).status = s.status ∧
      (State.modDiscOf s b f).settings = s.settings ∧
      (State.modDiscOf s b f).sensors = s.sensors ∧
      (State.modDiscOf s b f).now = s.now ∧
      (State.modDiscOf s b f).dispatchWanted = s.dispatchWanted ∧
      (State.modDiscOf s b f).pending = s.pending := by
  unfold State.modDiscOf
  (repeat' split) <;> simp

/-- What `surveyResult` leaves alone. -/
@[simp] theorem State.surveyResult_frame (s : State) (b : BayId) (kind : CompletionKind) (facts : DriveFacts) :
    (State.surveyResult s b kind facts).link = s.link ∧
      (State.surveyResult s b kind facts).staging = s.staging ∧
      (State.surveyResult s b kind facts).governor = s.governor ∧
      (State.surveyResult s b kind facts).verify = s.verify ∧
      (State.surveyResult s b kind facts).labels = s.labels ∧
      (State.surveyResult s b kind facts).printer = s.printer ∧
      (State.surveyResult s b kind facts).settings = s.settings ∧
      (State.surveyResult s b kind facts).sensors = s.sensors ∧
      (State.surveyResult s b kind facts).now = s.now ∧
      (State.surveyResult s b kind facts).dispatchWanted = s.dispatchWanted ∧
      (State.surveyResult s b kind facts).pending = s.pending := by
  unfold State.surveyResult
  (repeat' split) <;> simp

/-- What `written` leaves alone. -/
@[simp] theorem State.written_frame (s : State) (b : BayId) (count buffer : Nat) :
    (State.written s b count buffer).link = s.link ∧
      (State.written s b count buffer).jobs = s.jobs ∧
      (State.written s b count buffer).discs = s.discs ∧
      (State.written s b count buffer).verify = s.verify ∧
      (State.written s b count buffer).trans = s.trans ∧
      (State.written s b count buffer).labels = s.labels ∧
      (State.written s b count buffer).printer = s.printer ∧
      (State.written s b count buffer).settings = s.settings ∧
      (State.written s b count buffer).sensors = s.sensors ∧
      (State.written s b count buffer).now = s.now ∧
      (State.written s b count buffer).dispatchWanted = s.dispatchWanted ∧
      (State.written s b count buffer).pending = s.pending := by
  unfold State.written
  (repeat' split) <;> (try simp) <;> (repeat' split) <;> (try simp) <;> (repeat' split) <;> simp

/-- What `reallocate` leaves alone. -/
@[simp] theorem State.reallocate_frame (s : State) (b : BayId) (a : Burn) (step stable : Nat) :
    (State.reallocate s b a step stable).link = s.link ∧
      (State.reallocate s b a step stable).jobs = s.jobs ∧
      (State.reallocate s b a step stable).discs = s.discs ∧
      (State.reallocate s b a step stable).staging = s.staging ∧
      (State.reallocate s b a step stable).verify = s.verify ∧
      (State.reallocate s b a step stable).trans = s.trans ∧
      (State.reallocate s b a step stable).labels = s.labels ∧
      (State.reallocate s b a step stable).printer = s.printer ∧
      (State.reallocate s b a step stable).status = s.status ∧
      (State.reallocate s b a step stable).settings = s.settings ∧
      (State.reallocate s b a step stable).sensors = s.sensors ∧
      (State.reallocate s b a step stable).now = s.now ∧
      (State.reallocate s b a step stable).dispatchWanted = s.dispatchWanted ∧
      (State.reallocate s b a step stable).pending = s.pending := by
  unfold State.reallocate
  simp


/-- What `speedOk` leaves alone. -/
@[simp] theorem State.speedOk_frame (s : State) (b : BayId) (a : Burn) (step : Nat) :
    (State.speedOk s b a step).link = s.link ∧
      (State.speedOk s b a step).jobs = s.jobs ∧
      (State.speedOk s b a step).staging = s.staging ∧
      (State.speedOk s b a step).verify = s.verify ∧
      (State.speedOk s b a step).trans = s.trans ∧
      (State.speedOk s b a step).labels = s.labels ∧
      (State.speedOk s b a step).printer = s.printer ∧
      (State.speedOk s b a step).status = s.status ∧
      (State.speedOk s b a step).settings = s.settings ∧
      (State.speedOk s b a step).sensors = s.sensors ∧
      (State.speedOk s b a step).now = s.now ∧
      (State.speedOk s b a step).dispatchWanted = s.dispatchWanted ∧
      (State.speedOk s b a step).pending = s.pending := by
  unfold State.speedOk
  (repeat' split) <;> simp

/-- What `speedRefused` leaves alone. -/
@[simp] theorem State.speedRefused_frame (s : State) (b : BayId) (a : Burn) (step : Nat) :
    (State.speedRefused s b a step).link = s.link ∧
      (State.speedRefused s b a step).jobs = s.jobs ∧
      (State.speedRefused s b a step).discs = s.discs ∧
      (State.speedRefused s b a step).staging = s.staging ∧
      (State.speedRefused s b a step).verify = s.verify ∧
      (State.speedRefused s b a step).trans = s.trans ∧
      (State.speedRefused s b a step).labels = s.labels ∧
      (State.speedRefused s b a step).printer = s.printer ∧
      (State.speedRefused s b a step).status = s.status ∧
      (State.speedRefused s b a step).settings = s.settings ∧
      (State.speedRefused s b a step).sensors = s.sensors ∧
      (State.speedRefused s b a step).now = s.now ∧
      (State.speedRefused s b a step).dispatchWanted = s.dispatchWanted ∧
      (State.speedRefused s b a step).pending = s.pending := by
  unfold State.speedRefused
  (repeat' split) <;> simp

/-- What `closed` leaves alone. -/
@[simp] theorem State.closed_frame (s : State) (b : BayId) :
    (State.closed s b).link = s.link ∧
      (State.closed s b).staging = s.staging ∧
      (State.closed s b).governor = s.governor ∧
      (State.closed s b).labels = s.labels ∧
      (State.closed s b).printer = s.printer ∧
      (State.closed s b).settings = s.settings ∧
      (State.closed s b).sensors = s.sensors ∧
      (State.closed s b).now = s.now ∧
      (State.closed s b).dispatchWanted = s.dispatchWanted ∧
      (State.closed s b).pending = s.pending := by
  unfold State.closed
  (repeat' split) <;> (try simp) <;> (repeat' split) <;> (try simp) <;> (repeat' split) <;> simp

/-- What `verifySucceeds` leaves alone. -/
@[simp] theorem State.verifySucceeds_frame (s : State) (b : BayId) (n : Nat) :
    (State.verifySucceeds s b n).link = s.link ∧
      (State.verifySucceeds s b n).staging = s.staging ∧
      (State.verifySucceeds s b n).governor = s.governor ∧
      (State.verifySucceeds s b n).labels = s.labels ∧
      (State.verifySucceeds s b n).printer = s.printer ∧
      (State.verifySucceeds s b n).settings = s.settings ∧
      (State.verifySucceeds s b n).sensors = s.sensors ∧
      (State.verifySucceeds s b n).now = s.now ∧
      (State.verifySucceeds s b n).dispatchWanted = s.dispatchWanted ∧
      (State.verifySucceeds s b n).pending = s.pending := by
  unfold State.verifySucceeds
  simp

/-- What `verifyFails` leaves alone. -/
@[simp] theorem State.verifyFails_frame (s : State) (b : BayId) (why : RejectReason) :
    (State.verifyFails s b why).link = s.link ∧
      (State.verifyFails s b why).labels = s.labels ∧
      (State.verifyFails s b why).printer = s.printer ∧
      (State.verifyFails s b why).settings = s.settings ∧
      (State.verifyFails s b why).sensors = s.sensors ∧
      (State.verifyFails s b why).now = s.now ∧
      (State.verifyFails s b why).dispatchWanted = s.dispatchWanted ∧
      (State.verifyFails s b why).pending = s.pending := by
  unfold State.verifyFails
  simp

/-- What `chunkHandled` leaves alone. -/
@[simp] theorem State.chunkHandled_frame (s : State) (b : BayId) (l : LaneId) (y : Lane) (good : Bool) :
    (State.chunkHandled s b l y good).link = s.link ∧
      (State.chunkHandled s b l y good).labels = s.labels ∧
      (State.chunkHandled s b l y good).printer = s.printer ∧
      (State.chunkHandled s b l y good).settings = s.settings ∧
      (State.chunkHandled s b l y good).sensors = s.sensors ∧
      (State.chunkHandled s b l y good).now = s.now ∧
      (State.chunkHandled s b l y good).dispatchWanted = s.dispatchWanted ∧
      (State.chunkHandled s b l y good).pending = s.pending := by
  unfold State.chunkHandled
  (repeat' split) <;> (try simp) <;> (repeat' split) <;> (try simp) <;> (repeat' split) <;> simp

/-- What `readOk` leaves alone. -/
@[simp] theorem State.readOk_frame (s : State) (b : BayId) (l : LaneId) (y : Lane) (index : Nat) (data : List Byte) :
    (State.readOk s b l y index data).link = s.link ∧
      (State.readOk s b l y index data).labels = s.labels ∧
      (State.readOk s b l y index data).printer = s.printer ∧
      (State.readOk s b l y index data).settings = s.settings ∧
      (State.readOk s b l y index data).sensors = s.sensors ∧
      (State.readOk s b l y index data).now = s.now ∧
      (State.readOk s b l y index data).dispatchWanted = s.dispatchWanted ∧
      (State.readOk s b l y index data).pending = s.pending := by
  unfold State.readOk
  (repeat' split) <;> simp

/-- What `takeHead` leaves alone. -/
@[simp] theorem State.takeHead_frame (s : State) (l : LaneId) (b : BayId) :
    (State.takeHead s l b).link = s.link ∧
      (State.takeHead s l b).jobs = s.jobs ∧
      (State.takeHead s l b).discs = s.discs ∧
      (State.takeHead s l b).staging = s.staging ∧
      (State.takeHead s l b).governor = s.governor ∧
      (State.takeHead s l b).trans = s.trans ∧
      (State.takeHead s l b).labels = s.labels ∧
      (State.takeHead s l b).printer = s.printer ∧
      (State.takeHead s l b).status = s.status ∧
      (State.takeHead s l b).settings = s.settings ∧
      (State.takeHead s l b).sensors = s.sensors ∧
      (State.takeHead s l b).now = s.now ∧
      (State.takeHead s l b).dispatchWanted = s.dispatchWanted ∧
      (State.takeHead s l b).pending = s.pending := by
  unfold State.takeHead
  (repeat' split) <;> (try simp) <;> (repeat' split) <;> (try simp) <;> (repeat' split) <;> simp

/-- What `takeLanes` leaves alone. -/
@[simp] theorem State.takeLanes_frame (m : Nat) (s : State) :
    (State.takeLanes m s).link = s.link ∧
      (State.takeLanes m s).jobs = s.jobs ∧
      (State.takeLanes m s).discs = s.discs ∧
      (State.takeLanes m s).staging = s.staging ∧
      (State.takeLanes m s).governor = s.governor ∧
      (State.takeLanes m s).trans = s.trans ∧
      (State.takeLanes m s).labels = s.labels ∧
      (State.takeLanes m s).printer = s.printer ∧
      (State.takeLanes m s).status = s.status ∧
      (State.takeLanes m s).settings = s.settings ∧
      (State.takeLanes m s).sensors = s.sensors ∧
      (State.takeLanes m s).now = s.now ∧
      (State.takeLanes m s).dispatchWanted = s.dispatchWanted ∧
      (State.takeLanes m s).pending = s.pending := by
  induction m generalizing s with
  | zero => simp [State.takeLanes]
  | succ m ih =>
    unfold State.takeLanes
    (repeat' split) <;> simp_all

/-- What `workTimedOut` leaves alone. -/
@[simp] theorem State.workTimedOut_frame (s : State) (b : BayId) :
    (State.workTimedOut s b).link = s.link ∧
      (State.workTimedOut s b).labels = s.labels ∧
      (State.workTimedOut s b).printer = s.printer ∧
      (State.workTimedOut s b).settings = s.settings ∧
      (State.workTimedOut s b).sensors = s.sensors ∧
      (State.workTimedOut s b).now = s.now ∧
      (State.workTimedOut s b).dispatchWanted = s.dispatchWanted ∧
      (State.workTimedOut s b).pending = s.pending := by
  unfold State.workTimedOut
  (repeat' split) <;> (try simp) <;> (repeat' split) <;> (try simp) <;> (repeat' split) <;> simp

/-- What `identTimedOut` leaves alone. -/
@[simp] theorem State.identTimedOut_frame (s : State) (b : BayId) :
    (State.identTimedOut s b).link = s.link ∧
      (State.identTimedOut s b).labels = s.labels ∧
      (State.identTimedOut s b).printer = s.printer ∧
      (State.identTimedOut s b).settings = s.settings ∧
      (State.identTimedOut s b).sensors = s.sensors ∧
      (State.identTimedOut s b).now = s.now ∧
      (State.identTimedOut s b).dispatchWanted = s.dispatchWanted ∧
      (State.identTimedOut s b).pending = s.pending := by
  unfold State.identTimedOut
  (repeat' split) <;> simp

/-- What `trayFailed` leaves alone. -/
@[simp] theorem State.trayFailed_frame (s : State) (b : BayId) :
    (State.trayFailed s b).link = s.link ∧
      (State.trayFailed s b).labels = s.labels ∧
      (State.trayFailed s b).settings = s.settings ∧
      (State.trayFailed s b).sensors = s.sensors ∧
      (State.trayFailed s b).now = s.now ∧
      (State.trayFailed s b).dispatchWanted = s.dispatchWanted ∧
      (State.trayFailed s b).pending = s.pending := by
  unfold State.trayFailed
  (repeat' split) <;> simp

/-- What `admissionEvaluation` leaves alone. -/
@[simp] theorem State.admissionEvaluation_frame (s : State) :
    (State.admissionEvaluation s).link = s.link ∧
      (State.admissionEvaluation s).jobs = s.jobs ∧
      (State.admissionEvaluation s).discs = s.discs ∧
      (State.admissionEvaluation s).verify = s.verify ∧
      (State.admissionEvaluation s).trans = s.trans ∧
      (State.admissionEvaluation s).labels = s.labels ∧
      (State.admissionEvaluation s).printer = s.printer ∧
      (State.admissionEvaluation s).status = s.status ∧
      (State.admissionEvaluation s).settings = s.settings ∧
      (State.admissionEvaluation s).sensors = s.sensors ∧
      (State.admissionEvaluation s).now = s.now ∧
      (State.admissionEvaluation s).dispatchWanted = s.dispatchWanted ∧
      (State.admissionEvaluation s).pending = s.pending := by
  unfold State.admissionEvaluation
  refine ⟨?_, ?_, ?_, ?_, ?_, ?_, ?_, ?_, ?_, ?_, ?_, ?_, ?_⟩
  · simp [foldl_frame (fun s : State => s.link) State.answerJoin (by intro s a; simp)]
  · simp [foldl_frame (fun s : State => s.jobs) State.answerJoin (by intro s a; simp)]
  · simp [foldl_frame (fun s : State => s.discs) State.answerJoin (by intro s a; simp)]
  · simp [foldl_frame (fun s : State => s.verify) State.answerJoin (by intro s a; simp)]
  · simp [foldl_frame (fun s : State => s.trans) State.answerJoin (by intro s a; simp)]
  · simp [foldl_frame (fun s : State => s.labels) State.answerJoin (by intro s a; simp)]
  · simp [foldl_frame (fun s : State => s.printer) State.answerJoin (by intro s a; simp)]
  · simp [foldl_frame (fun s : State => s.status) State.answerJoin (by intro s a; simp)]
  · simp [foldl_frame (fun s : State => s.settings) State.answerJoin (by intro s a; simp)]
  · simp [foldl_frame (fun s : State => s.sensors) State.answerJoin (by intro s a; simp)]
  · simp [foldl_frame (fun s : State => s.now) State.answerJoin (by intro s a; simp)]
  · simp [foldl_frame (fun s : State => s.dispatchWanted) State.answerJoin (by intro s a; simp)]
  · simp [foldl_frame (fun s : State => s.pending) State.answerJoin (by intro s a; simp)]

/-- What `trayOpened` leaves alone. -/
@[simp] theorem State.trayOpened_frame (s : State) (b : BayId) :
    (State.trayOpened s b).link = s.link ∧
      (State.trayOpened s b).jobs = s.jobs ∧
      (State.trayOpened s b).discs = s.discs ∧
      (State.trayOpened s b).staging = s.staging ∧
      (State.trayOpened s b).bays = s.bays ∧
      (State.trayOpened s b).governor = s.governor ∧
      (State.trayOpened s b).verify = s.verify ∧
      (State.trayOpened s b).labels = s.labels ∧
      (State.trayOpened s b).printer = s.printer ∧
      (State.trayOpened s b).status = s.status ∧
      (State.trayOpened s b).settings = s.settings ∧
      (State.trayOpened s b).sensors = s.sensors ∧
      (State.trayOpened s b).now = s.now ∧
      (State.trayOpened s b).dispatchWanted = s.dispatchWanted ∧
      (State.trayOpened s b).pending = s.pending := by
  unfold State.trayOpened
  (repeat' split) <;> simp

/-- What `bayAccepts` leaves alone. -/
@[simp] theorem State.bayAccepts_frame (s : State) (b : BayId) :
    (State.bayAccepts s b).link = s.link ∧
      (State.bayAccepts s b).jobs = s.jobs ∧
      (State.bayAccepts s b).staging = s.staging ∧
      (State.bayAccepts s b).governor = s.governor ∧
      (State.bayAccepts s b).verify = s.verify ∧
      (State.bayAccepts s b).labels = s.labels ∧
      (State.bayAccepts s b).printer = s.printer ∧
      (State.bayAccepts s b).settings = s.settings ∧
      (State.bayAccepts s b).now = s.now ∧
      (State.bayAccepts s b).dispatchWanted = s.dispatchWanted ∧
      (State.bayAccepts s b).pending = s.pending := by
  unfold State.bayAccepts
  (repeat' split) <;> simp

/-- What `atSource` leaves alone. -/
@[simp] theorem State.atSource_frame (s : State) (r : MoveReq) (seen : Bool) :
    (State.atSource s r seen).link = s.link ∧
      (State.atSource s r seen).labels = s.labels ∧
      (State.atSource s r seen).settings = s.settings ∧
      (State.atSource s r seen).now = s.now ∧
      (State.atSource s r seen).dispatchWanted = s.dispatchWanted ∧
      (State.atSource s r seen).pending = s.pending := by
  unfold State.atSource
  (repeat' split) <;> (try simp) <;> (repeat' split) <;> (try simp) <;> (repeat' split) <;> simp

/-- What `atDest` leaves alone. -/
@[simp] theorem State.atDest_frame (s : State) (r : MoveReq) :
    (State.atDest s r).link = s.link ∧
      (State.atDest s r).jobs = s.jobs ∧
      (State.atDest s r).discs = s.discs ∧
      (State.atDest s r).staging = s.staging ∧
      (State.atDest s r).governor = s.governor ∧
      (State.atDest s r).verify = s.verify ∧
      (State.atDest s r).labels = s.labels ∧
      (State.atDest s r).printer = s.printer ∧
      (State.atDest s r).status = s.status ∧
      (State.atDest s r).settings = s.settings ∧
      (State.atDest s r).sensors = s.sensors ∧
      (State.atDest s r).now = s.now ∧
      (State.atDest s r).dispatchWanted = s.dispatchWanted ∧
      (State.atDest s r).pending = s.pending := by
  unfold State.atDest
  (repeat' split) <;> (try simp) <;> (repeat' split) <;> (try simp) <;> (repeat' split) <;> simp

/-- What `discSet` leaves alone. -/
@[simp] theorem State.discSet_frame (s : State) :
    (State.discSet s).link = s.link ∧
      (State.discSet s).jobs = s.jobs ∧
      (State.discSet s).discs = s.discs ∧
      (State.discSet s).staging = s.staging ∧
      (State.discSet s).bays = s.bays ∧
      (State.discSet s).governor = s.governor ∧
      (State.discSet s).verify = s.verify ∧
      (State.discSet s).labels = s.labels ∧
      (State.discSet s).printer = s.printer ∧
      (State.discSet s).status = s.status ∧
      (State.discSet s).settings = s.settings ∧
      (State.discSet s).now = s.now ∧
      (State.discSet s).dispatchWanted = s.dispatchWanted ∧
      (State.discSet s).pending = s.pending := by
  unfold State.discSet
  simp

/-- What `dropped` leaves alone. -/
@[simp] theorem State.dropped_frame (s : State) (r : MoveReq) (at_ : BinId) :
    (State.dropped s r at_).link = s.link ∧
      (State.dropped s r at_).staging = s.staging ∧
      (State.dropped s r at_).bays = s.bays ∧
      (State.dropped s r at_).governor = s.governor ∧
      (State.dropped s r at_).verify = s.verify ∧
      (State.dropped s r at_).labels = s.labels ∧
      (State.dropped s r at_).printer = s.printer ∧
      (State.dropped s r at_).settings = s.settings ∧
      (State.dropped s r at_).now = s.now ∧
      (State.dropped s r at_).dispatchWanted = s.dispatchWanted ∧
      (State.dropped s r at_).pending = s.pending := by
  unfold State.dropped
  simp

/-- What `homingDropped` leaves alone. -/
@[simp] theorem State.homingDropped_frame (s : State) :
    (State.homingDropped s).link = s.link ∧
      (State.homingDropped s).staging = s.staging ∧
      (State.homingDropped s).bays = s.bays ∧
      (State.homingDropped s).governor = s.governor ∧
      (State.homingDropped s).verify = s.verify ∧
      (State.homingDropped s).labels = s.labels ∧
      (State.homingDropped s).printer = s.printer ∧
      (State.homingDropped s).settings = s.settings ∧
      (State.homingDropped s).now = s.now ∧
      (State.homingDropped s).dispatchWanted = s.dispatchWanted ∧
      (State.homingDropped s).pending = s.pending := by
  unfold State.homingDropped
  (repeat' split) <;> (try simp) <;> (repeat' split) <;> (try simp) <;> (repeat' split) <;> simp

/-- What `carryFailed` leaves alone. -/
@[simp] theorem State.carryFailed_frame (s : State) (r : MoveReq) :
    (State.carryFailed s r).link = s.link ∧
      (State.carryFailed s r).labels = s.labels ∧
      (State.carryFailed s r).settings = s.settings ∧
      (State.carryFailed s r).now = s.now ∧
      (State.carryFailed s r).dispatchWanted = s.dispatchWanted ∧
      (State.carryFailed s r).pending = s.pending := by
  unfold State.carryFailed
  (repeat' split) <;> simp

/-- What `holdTimedOut` leaves alone. -/
@[simp] theorem State.holdTimedOut_frame (s : State) :
    (State.holdTimedOut s).link = s.link ∧
      (State.holdTimedOut s).jobs = s.jobs ∧
      (State.holdTimedOut s).staging = s.staging ∧
      (State.holdTimedOut s).bays = s.bays ∧
      (State.holdTimedOut s).governor = s.governor ∧
      (State.holdTimedOut s).verify = s.verify ∧
      (State.holdTimedOut s).labels = s.labels ∧
      (State.holdTimedOut s).printer = s.printer ∧
      (State.holdTimedOut s).settings = s.settings ∧
      (State.holdTimedOut s).sensors = s.sensors ∧
      (State.holdTimedOut s).now = s.now ∧
      (State.holdTimedOut s).dispatchWanted = s.dispatchWanted ∧
      (State.holdTimedOut s).pending = s.pending := by
  unfold State.holdTimedOut
  simp

/-- What `stopForDoor` leaves alone. -/
@[simp] theorem State.stopForDoor_frame (s : State) :
    (State.stopForDoor s).link = s.link ∧
      (State.stopForDoor s).jobs = s.jobs ∧
      (State.stopForDoor s).discs = s.discs ∧
      (State.stopForDoor s).staging = s.staging ∧
      (State.stopForDoor s).governor = s.governor ∧
      (State.stopForDoor s).verify = s.verify ∧
      (State.stopForDoor s).labels = s.labels ∧
      (State.stopForDoor s).settings = s.settings ∧
      (State.stopForDoor s).sensors = s.sensors ∧
      (State.stopForDoor s).now = s.now ∧
      (State.stopForDoor s).dispatchWanted = s.dispatchWanted ∧
      (State.stopForDoor s).pending = s.pending := by
  unfold State.stopForDoor
  (repeat' split) <;> simp

/-- What `doorChanged` leaves alone. -/
@[simp] theorem State.doorChanged_frame (s : State) (opened : Bool) :
    (State.doorChanged s opened).link = s.link ∧
      (State.doorChanged s opened).jobs = s.jobs ∧
      (State.doorChanged s opened).discs = s.discs ∧
      (State.doorChanged s opened).staging = s.staging ∧
      (State.doorChanged s opened).bays = s.bays ∧
      (State.doorChanged s opened).governor = s.governor ∧
      (State.doorChanged s opened).verify = s.verify ∧
      (State.doorChanged s opened).trans = s.trans ∧
      (State.doorChanged s opened).labels = s.labels ∧
      (State.doorChanged s opened).printer = s.printer ∧
      (State.doorChanged s opened).settings = s.settings ∧
      (State.doorChanged s opened).now = s.now ∧
      (State.doorChanged s opened).dispatchWanted = s.dispatchWanted ∧
      (State.doorChanged s opened).pending = s.pending := by
  unfold State.doorChanged
  simp

/-- What `unjam` leaves alone. -/
@[simp] theorem State.unjam_frame (s : State) (i : SpindleId) :
    (State.unjam s i).link = s.link ∧
      (State.unjam s i).jobs = s.jobs ∧
      (State.unjam s i).discs = s.discs ∧
      (State.unjam s i).staging = s.staging ∧
      (State.unjam s i).bays = s.bays ∧
      (State.unjam s i).governor = s.governor ∧
      (State.unjam s i).verify = s.verify ∧
      (State.unjam s i).labels = s.labels ∧
      (State.unjam s i).printer = s.printer ∧
      (State.unjam s i).settings = s.settings ∧
      (State.unjam s i).sensors = s.sensors ∧
      (State.unjam s i).now = s.now ∧
      (State.unjam s i).dispatchWanted = s.dispatchWanted ∧
      (State.unjam s i).pending = s.pending := by
  unfold State.unjam
  (repeat' split) <;> simp

end Sys2Proof.Machine
end

