-- ==== Sys2Proof/Laws/RowFrames.lean ====
section
/-! SUPPORT. One lemma for each command: the parts of the state that it leaves alone. -/

set_option linter.unusedTactic false
set_option linter.unreachableTactic false
set_option linter.unnecessarySeqFocus false
set_option linter.unusedSimpArgs false

namespace Sys2Proof.Machine

/-- What `execPowerOn` leaves alone. -/
theorem execPowerOn_frame {t : State} (readings : Readings) (flash : List Byte) (s : State) (h : execPowerOn readings flash s = .next t) :
    t.now = s.now ∧ t.dispatchWanted = false ∧ t.pending = s.pending := by
  unfold execPowerOn at h
  (try dsimp only at h)
  (repeat' split at h) <;> (injection h with h; subst h) <;> (try simp) <;> (repeat' split) <;> (try simp) <;> (repeat' split) <;> simp

/-- What `execRestartBegin` leaves alone. -/
theorem execRestartBegin_frame {t : State} (s : State) (h : execRestartBegin s = .next t) :
    t.sensors = s.sensors ∧ t.now = s.now ∧ t.pending = s.pending := by
  unfold execRestartBegin at h
  (try dsimp only at h)
  (repeat' split at h) <;> (injection h with h; subst h) <;> (try simp) <;> (repeat' split) <;> (try simp) <;> (repeat' split) <;> simp

/-- What `execStartupInventoryEnd` leaves alone. -/
theorem execStartupInventoryEnd_frame {t : State} (s : State) (h : execStartupInventoryEnd s = .next t) :
    t.link = s.link ∧ t.jobs = s.jobs ∧ t.discs = s.discs ∧ t.staging = s.staging ∧
      t.bays = s.bays ∧ t.governor = s.governor ∧ t.verify = s.verify ∧ t.labels = s.labels ∧
      t.printer = s.printer ∧ t.sensors = s.sensors ∧ t.now = s.now ∧ t.dispatchWanted = s.dispatchWanted ∧ t.pending = s.pending := by
  unfold execStartupInventoryEnd at h
  (try dsimp only at h)
  (repeat' split at h) <;> (injection h with h; subst h) <;> (try simp) <;> (repeat' split) <;> (try simp) <;> (repeat' split) <;> simp

/-- What `execStartupReady` leaves alone. -/
theorem execStartupReady_frame {t : State} (s : State) (h : execStartupReady s = .next t) :
    t.link = s.link ∧ t.jobs = s.jobs ∧ t.discs = s.discs ∧ t.staging = s.staging ∧
      t.bays = s.bays ∧ t.governor = s.governor ∧ t.verify = s.verify ∧ t.trans = s.trans ∧
      t.labels = s.labels ∧ t.printer = s.printer ∧ t.status = s.status ∧ t.sensors = s.sensors ∧
      t.now = s.now ∧ t.pending = s.pending := by
  unfold execStartupReady at h
  (try dsimp only at h)
  (repeat' split at h) <;> (injection h with h; subst h) <;> (try simp) <;> (repeat' split) <;> (try simp) <;> (repeat' split) <;> simp

/-- What `execStrapChange` leaves alone. -/
theorem execStrapChange_frame {t : State} (baysCode : Nat) (printer : Bool) (s : State) (h : execStrapChange baysCode printer s = .next t) :
    t.link = s.link ∧ t.jobs = s.jobs ∧ t.discs = s.discs ∧ t.staging = s.staging ∧
      t.bays = s.bays ∧ t.governor = s.governor ∧ t.verify = s.verify ∧ t.trans = s.trans ∧
      t.labels = s.labels ∧ t.printer = s.printer ∧ t.settings = s.settings ∧ t.now = s.now ∧
      t.dispatchWanted = s.dispatchWanted ∧ t.pending = s.pending := by
  unfold execStrapChange at h
  (try dsimp only at h)
  (repeat' split at h) <;> (injection h with h; subst h) <;> (try simp) <;> (repeat' split) <;> (try simp) <;> (repeat' split) <;> simp

/-- What `execRestart` leaves alone. -/
theorem execRestart_frame {t : State} (mode : Byte) (s : State) (h : execRestart mode s = .next t) :
    t.jobs = s.jobs ∧ t.discs = s.discs ∧ t.staging = s.staging ∧ t.bays = s.bays ∧
      t.governor = s.governor ∧ t.verify = s.verify ∧ t.trans = s.trans ∧ t.labels = s.labels ∧
      t.printer = s.printer ∧ t.settings = s.settings ∧ t.sensors = s.sensors ∧ t.now = s.now ∧
      t.dispatchWanted = s.dispatchWanted ∧ t.pending = s.pending := by
  unfold execRestart at h
  (try dsimp only at h)
  (repeat' split at h) <;> (injection h with h; subst h) <;> (try simp) <;> (repeat' split) <;> (try simp) <;> (repeat' split) <;> simp

/-- What `execSettingGet` leaves alone. -/
theorem execSettingGet_frame {t : State} (number : Byte) (s : State) (h : execSettingGet number s = .next t) :
    t.jobs = s.jobs ∧ t.discs = s.discs ∧ t.staging = s.staging ∧ t.bays = s.bays ∧
      t.governor = s.governor ∧ t.verify = s.verify ∧ t.trans = s.trans ∧ t.labels = s.labels ∧
      t.printer = s.printer ∧ t.settings = s.settings ∧ t.sensors = s.sensors ∧ t.now = s.now ∧
      t.dispatchWanted = s.dispatchWanted ∧ t.pending = s.pending := by
  unfold execSettingGet at h
  (try dsimp only at h)
  (repeat' split at h) <;> (injection h with h; subst h) <;> (try simp) <;> (repeat' split) <;> (try simp) <;> (repeat' split) <;> simp

/-- What `execSettingSet` leaves alone. -/
theorem execSettingSet_frame {t : State} (pairs : List (Byte × BitVec 32)) (s : State) (h : execSettingSet pairs s = .next t) :
    t.jobs = s.jobs ∧ t.discs = s.discs ∧ t.staging = s.staging ∧ t.bays = s.bays ∧
      t.governor = s.governor ∧ t.verify = s.verify ∧ t.trans = s.trans ∧ t.labels = s.labels ∧
      t.printer = s.printer ∧ t.sensors = s.sensors ∧ t.now = s.now ∧ t.dispatchWanted = s.dispatchWanted ∧ t.pending = s.pending := by
  unfold execSettingSet at h
  (try dsimp only at h)
  (repeat' split at h) <;> (injection h with h; subst h) <;> (try simp) <;> (repeat' split) <;> (try simp) <;> (repeat' split) <;> simp

/-- What `execSettingsSave` leaves alone. -/
theorem execSettingsSave_frame {t : State} (s : State) (h : execSettingsSave s = .next t) :
    t.jobs = s.jobs ∧ t.discs = s.discs ∧ t.staging = s.staging ∧ t.bays = s.bays ∧
      t.governor = s.governor ∧ t.verify = s.verify ∧ t.trans = s.trans ∧ t.labels = s.labels ∧
      t.printer = s.printer ∧ t.sensors = s.sensors ∧ t.now = s.now ∧ t.dispatchWanted = s.dispatchWanted ∧ t.pending = s.pending := by
  unfold execSettingsSave at h
  (try dsimp only at h)
  (repeat' split at h) <;> (injection h with h; subst h) <;> (try simp) <;> (repeat' split) <;> (try simp) <;> (repeat' split) <;> simp

/-- What `execSettingsWriteEnd` leaves alone. -/
theorem execSettingsWriteEnd_frame {t : State} (readBack : List Byte) (s : State) (h : execSettingsWriteEnd readBack s = .next t) :
    t.link = s.link ∧ t.jobs = s.jobs ∧ t.governor = s.governor ∧ t.verify = s.verify ∧
      t.labels = s.labels ∧ t.sensors = s.sensors ∧ t.now = s.now ∧ t.dispatchWanted = s.dispatchWanted ∧ t.pending = s.pending := by
  unfold execSettingsWriteEnd at h
  (try dsimp only at h)
  (repeat' split at h) <;> (injection h with h; subst h) <;> (try simp) <;> (repeat' split) <;> (try simp) <;> (repeat' split) <;> simp

/-- What `execPortEnumerated` leaves alone. -/
theorem execPortEnumerated_frame {t : State} (s : State) (h : execPortEnumerated s = .next t) :
    t.jobs = s.jobs ∧ t.discs = s.discs ∧ t.staging = s.staging ∧ t.bays = s.bays ∧
      t.governor = s.governor ∧ t.verify = s.verify ∧ t.trans = s.trans ∧ t.labels = s.labels ∧
      t.printer = s.printer ∧ t.status = s.status ∧ t.settings = s.settings ∧ t.sensors = s.sensors ∧
      t.now = s.now ∧ t.dispatchWanted = s.dispatchWanted ∧ t.pending = s.pending := by
  unfold execPortEnumerated at h
  (try dsimp only at h)
  (repeat' split at h) <;> (injection h with h; subst h) <;> (try simp) <;> (repeat' split) <;> (try simp) <;> (repeat' split) <;> simp

/-- What `execPortConfigured` leaves alone. -/
theorem execPortConfigured_frame {t : State} (s : State) (h : execPortConfigured s = .next t) :
    t.jobs = s.jobs ∧ t.discs = s.discs ∧ t.staging = s.staging ∧ t.bays = s.bays ∧
      t.governor = s.governor ∧ t.verify = s.verify ∧ t.trans = s.trans ∧ t.labels = s.labels ∧
      t.printer = s.printer ∧ t.status = s.status ∧ t.settings = s.settings ∧ t.sensors = s.sensors ∧
      t.now = s.now ∧ t.dispatchWanted = s.dispatchWanted ∧ t.pending = s.pending := by
  unfold execPortConfigured at h
  (try dsimp only at h)
  (repeat' split at h) <;> (injection h with h; subst h) <;> (try simp) <;> (repeat' split) <;> (try simp) <;> (repeat' split) <;> simp

/-- What `execLinkReset` leaves alone. -/
theorem execLinkReset_frame {t : State} (detach : Bool) (s : State) (h : execLinkReset detach s = .next t) :
    t.jobs = s.jobs ∧ t.discs = s.discs ∧ t.staging = s.staging ∧ t.bays = s.bays ∧
      t.governor = s.governor ∧ t.verify = s.verify ∧ t.trans = s.trans ∧ t.labels = s.labels ∧
      t.printer = s.printer ∧ t.settings = s.settings ∧ t.sensors = s.sensors ∧ t.now = s.now ∧
      t.dispatchWanted = s.dispatchWanted ∧ t.pending = s.pending := by
  unfold execLinkReset at h
  (try dsimp only at h)
  (repeat' split at h) <;> (injection h with h; subst h) <;> (try simp) <;> (repeat' split) <;> (try simp) <;> (repeat' split) <;> simp

/-- What `execFrameReceived` leaves alone. -/
theorem execFrameReceived_frame {t : State} (bytes : List Byte) (s : State) (h : execFrameReceived bytes s = .next t) :
    t.jobs = s.jobs ∧ t.discs = s.discs ∧ t.staging = s.staging ∧ t.bays = s.bays ∧
      t.governor = s.governor ∧ t.verify = s.verify ∧ t.trans = s.trans ∧ t.labels = s.labels ∧
      t.printer = s.printer ∧ t.status = s.status ∧ t.settings = s.settings ∧ t.sensors = s.sensors ∧
      t.now = s.now ∧ t.dispatchWanted = s.dispatchWanted ∧ t.pending = s.pending := by
  unfold execFrameReceived at h
  (try dsimp only at h)
  (repeat' split at h) <;> (injection h with h; subst h) <;> (try simp) <;> (repeat' split) <;> (try simp) <;> (repeat' split) <;> simp

/-- What `execOversizeHeaderReceived` leaves alone. -/
theorem execOversizeHeaderReceived_frame {t : State} (header : List Byte) (s : State) (h : execOversizeHeaderReceived header s = .next t) :
    t.jobs = s.jobs ∧ t.discs = s.discs ∧ t.staging = s.staging ∧ t.bays = s.bays ∧
      t.governor = s.governor ∧ t.verify = s.verify ∧ t.trans = s.trans ∧ t.labels = s.labels ∧
      t.printer = s.printer ∧ t.status = s.status ∧ t.settings = s.settings ∧ t.sensors = s.sensors ∧
      t.now = s.now ∧ t.dispatchWanted = s.dispatchWanted ∧ t.pending = s.pending := by
  unfold execOversizeHeaderReceived at h
  (try dsimp only at h)
  (repeat' split at h) <;> (injection h with h; subst h) <;> (try simp) <;> (repeat' split) <;> (try simp) <;> (repeat' split) <;> simp

/-- What `execInboundTake` leaves alone. -/
theorem execInboundTake_frame {t : State} (s : State) (h : execInboundTake s = .next t) :
    t.jobs = s.jobs ∧ t.discs = s.discs ∧ t.staging = s.staging ∧ t.bays = s.bays ∧
      t.governor = s.governor ∧ t.verify = s.verify ∧ t.trans = s.trans ∧ t.labels = s.labels ∧
      t.printer = s.printer ∧ t.settings = s.settings ∧ t.sensors = s.sensors ∧ t.now = s.now ∧
      t.dispatchWanted = s.dispatchWanted ∧ t.pending = s.pending := by
  unfold execInboundTake at h
  (try dsimp only at h)
  (repeat' split at h) <;> (injection h with h; subst h) <;> (try simp) <;> (repeat' split) <;> (try simp) <;> (repeat' split) <;> simp

/-- What `execInTransferComplete` leaves alone. -/
theorem execInTransferComplete_frame {t : State} (s : State) (h : execInTransferComplete s = .next t) :
    t.jobs = s.jobs ∧ t.discs = s.discs ∧ t.staging = s.staging ∧ t.bays = s.bays ∧
      t.governor = s.governor ∧ t.verify = s.verify ∧ t.trans = s.trans ∧ t.labels = s.labels ∧
      t.printer = s.printer ∧ t.status = s.status ∧ t.settings = s.settings ∧ t.sensors = s.sensors ∧
      t.now = s.now ∧ t.dispatchWanted = s.dispatchWanted ∧ t.pending = s.pending := by
  unfold execInTransferComplete at h
  (try dsimp only at h)
  (repeat' split at h) <;> (injection h with h; subst h) <;> (try simp) <;> (repeat' split) <;> (try simp) <;> (repeat' split) <;> simp

/-- What `execIdent` leaves alone. -/
theorem execIdent_frame {t : State} (s : State) (h : execIdent s = .next t) :
    t.jobs = s.jobs ∧ t.discs = s.discs ∧ t.staging = s.staging ∧ t.bays = s.bays ∧
      t.governor = s.governor ∧ t.verify = s.verify ∧ t.trans = s.trans ∧ t.labels = s.labels ∧
      t.printer = s.printer ∧ t.settings = s.settings ∧ t.sensors = s.sensors ∧ t.now = s.now ∧
      t.dispatchWanted = s.dispatchWanted ∧ t.pending = s.pending := by
  unfold execIdent at h
  (try dsimp only at h)
  (repeat' split at h) <;> (injection h with h; subst h) <;> (try simp) <;> (repeat' split) <;> (try simp) <;> (repeat' split) <;> simp

/-- What `execNoticeOffer` leaves alone. -/
theorem execNoticeOffer_frame {t : State} (s : State) (h : execNoticeOffer s = .next t) :
    t.jobs = s.jobs ∧ t.discs = s.discs ∧ t.staging = s.staging ∧ t.bays = s.bays ∧
      t.governor = s.governor ∧ t.verify = s.verify ∧ t.trans = s.trans ∧ t.labels = s.labels ∧
      t.printer = s.printer ∧ t.settings = s.settings ∧ t.sensors = s.sensors ∧ t.now = s.now ∧
      t.dispatchWanted = s.dispatchWanted ∧ t.pending = s.pending := by
  unfold execNoticeOffer at h
  (try dsimp only at h)
  (repeat' split at h) <;> (injection h with h; subst h) <;> (try simp) <;> (repeat' split) <;> (try simp) <;> (repeat' split) <;> simp

/-- What `execGapTimerExpiry` leaves alone. -/
theorem execGapTimerExpiry_frame {t : State} (s : State) (h : execGapTimerExpiry s = .next t) :
    t.link = s.link ∧ t.jobs = s.jobs ∧ t.discs = s.discs ∧ t.staging = s.staging ∧
      t.bays = s.bays ∧ t.governor = s.governor ∧ t.verify = s.verify ∧ t.trans = s.trans ∧
      t.labels = s.labels ∧ t.printer = s.printer ∧ t.settings = s.settings ∧ t.sensors = s.sensors ∧
      t.now = s.now ∧ t.dispatchWanted = s.dispatchWanted ∧ t.pending = s.pending := by
  unfold execGapTimerExpiry at h
  (try dsimp only at h)
  (repeat' split at h) <;> (injection h with h; subst h) <;> (try simp) <;> (repeat' split) <;> (try simp) <;> (repeat' split) <;> simp

/-- What `execStatusGet` leaves alone. -/
theorem execStatusGet_frame {t : State} (s : State) (h : execStatusGet s = .next t) :
    t.jobs = s.jobs ∧ t.discs = s.discs ∧ t.staging = s.staging ∧ t.bays = s.bays ∧
      t.governor = s.governor ∧ t.verify = s.verify ∧ t.trans = s.trans ∧ t.labels = s.labels ∧
      t.printer = s.printer ∧ t.settings = s.settings ∧ t.sensors = s.sensors ∧ t.now = s.now ∧
      t.dispatchWanted = s.dispatchWanted ∧ t.pending = s.pending := by
  unfold execStatusGet at h
  (try dsimp only at h)
  (repeat' split at h) <;> (injection h with h; subst h) <;> (try simp) <;> (repeat' split) <;> (try simp) <;> (repeat' split) <;> simp

/-- What `execStatusClear` leaves alone. -/
theorem execStatusClear_frame {t : State} (s : State) (h : execStatusClear s = .next t) :
    t.jobs = s.jobs ∧ t.discs = s.discs ∧ t.staging = s.staging ∧ t.bays = s.bays ∧
      t.governor = s.governor ∧ t.verify = s.verify ∧ t.trans = s.trans ∧ t.labels = s.labels ∧
      t.printer = s.printer ∧ t.settings = s.settings ∧ t.sensors = s.sensors ∧ t.now = s.now ∧
      t.dispatchWanted = s.dispatchWanted ∧ t.pending = s.pending := by
  unfold execStatusClear at h
  (try dsimp only at h)
  (repeat' split at h) <;> (injection h with h; subst h) <;> (try simp) <;> (repeat' split) <;> (try simp) <;> (repeat' split) <;> simp

/-- What `execFlagForce` leaves alone. -/
theorem execFlagForce_frame {t : State} (flags : Byte) (s : State) (h : execFlagForce flags s = .next t) :
    t.jobs = s.jobs ∧ t.discs = s.discs ∧ t.staging = s.staging ∧ t.bays = s.bays ∧
      t.governor = s.governor ∧ t.verify = s.verify ∧ t.trans = s.trans ∧ t.labels = s.labels ∧
      t.printer = s.printer ∧ t.settings = s.settings ∧ t.sensors = s.sensors ∧ t.now = s.now ∧
      t.dispatchWanted = s.dispatchWanted ∧ t.pending = s.pending := by
  unfold execFlagForce at h
  (try dsimp only at h)
  (repeat' split at h) <;> (injection h with h; subst h) <;> (try simp) <;> (repeat' split) <;> (try simp) <;> (repeat' split) <;> simp

/-- What `execFlagRelease` leaves alone. -/
theorem execFlagRelease_frame {t : State} (flags : Byte) (s : State) (h : execFlagRelease flags s = .next t) :
    t.jobs = s.jobs ∧ t.discs = s.discs ∧ t.staging = s.staging ∧ t.bays = s.bays ∧
      t.governor = s.governor ∧ t.verify = s.verify ∧ t.trans = s.trans ∧ t.labels = s.labels ∧
      t.printer = s.printer ∧ t.settings = s.settings ∧ t.sensors = s.sensors ∧ t.now = s.now ∧
      t.dispatchWanted = s.dispatchWanted ∧ t.pending = s.pending := by
  unfold execFlagRelease at h
  (try dsimp only at h)
  (repeat' split at h) <;> (injection h with h; subst h) <;> (try simp) <;> (repeat' split) <;> (try simp) <;> (repeat' split) <;> simp

/-- What `execEventMask` leaves alone. -/
theorem execEventMask_frame {t : State} (mask : BitVec 16) (s : State) (h : execEventMask mask s = .next t) :
    t.jobs = s.jobs ∧ t.discs = s.discs ∧ t.staging = s.staging ∧ t.bays = s.bays ∧
      t.governor = s.governor ∧ t.verify = s.verify ∧ t.trans = s.trans ∧ t.labels = s.labels ∧
      t.printer = s.printer ∧ t.sensors = s.sensors ∧ t.now = s.now ∧ t.dispatchWanted = s.dispatchWanted ∧ t.pending = s.pending := by
  unfold execEventMask at h
  (try dsimp only at h)
  (repeat' split at h) <;> (injection h with h; subst h) <;> (try simp) <;> (repeat' split) <;> (try simp) <;> (repeat' split) <;> simp

/-- What `execEventAck` leaves alone. -/
theorem execEventAck_frame {t : State} (events : BitVec 16) (s : State) (h : execEventAck events s = .next t) :
    t.jobs = s.jobs ∧ t.discs = s.discs ∧ t.staging = s.staging ∧ t.bays = s.bays ∧
      t.governor = s.governor ∧ t.verify = s.verify ∧ t.trans = s.trans ∧ t.labels = s.labels ∧
      t.printer = s.printer ∧ t.settings = s.settings ∧ t.sensors = s.sensors ∧ t.now = s.now ∧
      t.dispatchWanted = s.dispatchWanted ∧ t.pending = s.pending := by
  unfold execEventAck at h
  (try dsimp only at h)
  (repeat' split at h) <;> (injection h with h; subst h) <;> (try simp) <;> (repeat' split) <;> (try simp) <;> (repeat' split) <;> simp

/-- What `execCountersGet` leaves alone. -/
theorem execCountersGet_frame {t : State} (s : State) (h : execCountersGet s = .next t) :
    t.jobs = s.jobs ∧ t.discs = s.discs ∧ t.staging = s.staging ∧ t.bays = s.bays ∧
      t.governor = s.governor ∧ t.verify = s.verify ∧ t.trans = s.trans ∧ t.labels = s.labels ∧
      t.printer = s.printer ∧ t.settings = s.settings ∧ t.sensors = s.sensors ∧ t.now = s.now ∧
      t.dispatchWanted = s.dispatchWanted ∧ t.pending = s.pending := by
  unfold execCountersGet at h
  (try dsimp only at h)
  (repeat' split at h) <;> (injection h with h; subst h) <;> (try simp) <;> (repeat' split) <;> (try simp) <;> (repeat' split) <;> simp

/-- What `execCountersClear` leaves alone. -/
theorem execCountersClear_frame {t : State} (s : State) (h : execCountersClear s = .next t) :
    t.jobs = s.jobs ∧ t.discs = s.discs ∧ t.staging = s.staging ∧ t.bays = s.bays ∧
      t.governor = s.governor ∧ t.trans = s.trans ∧ t.labels = s.labels ∧ t.printer = s.printer ∧
      t.settings = s.settings ∧ t.sensors = s.sensors ∧ t.now = s.now ∧ t.dispatchWanted = s.dispatchWanted ∧ t.pending = s.pending := by
  unfold execCountersClear at h
  (try dsimp only at h)
  (repeat' split at h) <;> (injection h with h; subst h) <;> (try simp) <;> (repeat' split) <;> (try simp) <;> (repeat' split) <;> simp

/-- What `execImageOpen` leaves alone. -/
theorem execImageOpen_frame {t : State} (slot media need : Byte) (size : BitVec 32) (s : State) (h : execImageOpen slot media need size s = .next t) :
    t.jobs = s.jobs ∧ t.discs = s.discs ∧ t.bays = s.bays ∧ t.governor = s.governor ∧
      t.verify = s.verify ∧ t.trans = s.trans ∧ t.labels = s.labels ∧ t.printer = s.printer ∧
      t.settings = s.settings ∧ t.sensors = s.sensors ∧ t.now = s.now ∧ t.pending = s.pending := by
  unfold execImageOpen at h
  (try dsimp only at h)
  (repeat' split at h) <;> (injection h with h; subst h) <;> (try simp) <;> (repeat' split) <;> (try simp) <;> (repeat' split) <;> simp

/-- What `execImageData` leaves alone. -/
theorem execImageData_frame {t : State} (slot count : Byte) (offset : BitVec 32) (data : List Byte) (s : State) (h : execImageData slot count offset data s = .next t) :
    t.jobs = s.jobs ∧ t.discs = s.discs ∧ t.governor = s.governor ∧ t.verify = s.verify ∧
      t.trans = s.trans ∧ t.labels = s.labels ∧ t.printer = s.printer ∧ t.settings = s.settings ∧
      t.sensors = s.sensors ∧ t.now = s.now ∧ t.pending = s.pending := by
  unfold execImageData at h
  dsimp only at h
  split at h
  · injection h with h; subst h; simp
  · split at h
    · injection h with h; subst h; simp
    · rename_i u hu
      have f := State.findSegment_frame s _ _ _ hu
      injection h with h; subst h; simp [f]

/-- What `execPassClose` leaves alone. -/
theorem execPassClose_frame {t : State} (slot : Byte) (pass : BitVec 16) (s : State) (h : execPassClose slot pass s = .next t) :
    t.jobs = s.jobs ∧ t.discs = s.discs ∧ t.bays = s.bays ∧ t.governor = s.governor ∧
      t.verify = s.verify ∧ t.trans = s.trans ∧ t.labels = s.labels ∧ t.printer = s.printer ∧
      t.settings = s.settings ∧ t.sensors = s.sensors ∧ t.now = s.now ∧ t.pending = s.pending := by
  unfold execPassClose at h
  (try dsimp only at h)
  (repeat' split at h) <;> (injection h with h; subst h) <;> (try simp) <;> (repeat' split) <;> (try simp) <;> (repeat' split) <;> simp

/-- What `execImageRewind` leaves alone. -/
theorem execImageRewind_frame {t : State} (slot : Byte) (s : State) (h : execImageRewind slot s = .next t) :
    t.jobs = s.jobs ∧ t.discs = s.discs ∧ t.bays = s.bays ∧ t.governor = s.governor ∧
      t.verify = s.verify ∧ t.trans = s.trans ∧ t.labels = s.labels ∧ t.printer = s.printer ∧
      t.settings = s.settings ∧ t.sensors = s.sensors ∧ t.now = s.now ∧ t.pending = s.pending := by
  unfold execImageRewind at h
  (try dsimp only at h)
  (repeat' split at h) <;> (injection h with h; subst h) <;> (try simp) <;> (repeat' split) <;> (try simp) <;> (repeat' split) <;> simp

/-- What `execImageRelease` leaves alone. -/
theorem execImageRelease_frame {t : State} (slot : Byte) (s : State) (h : execImageRelease slot s = .next t) :
    t.jobs = s.jobs ∧ t.discs = s.discs ∧ t.bays = s.bays ∧ t.governor = s.governor ∧
      t.verify = s.verify ∧ t.trans = s.trans ∧ t.labels = s.labels ∧ t.printer = s.printer ∧
      t.settings = s.settings ∧ t.sensors = s.sensors ∧ t.now = s.now ∧ t.pending = s.pending := by
  unfold execImageRelease at h
  (try dsimp only at h)
  (repeat' split at h) <;> (injection h with h; subst h) <;> (try simp) <;> (repeat' split) <;> (try simp) <;> (repeat' split) <;> simp

/-- What `execImageQuery` leaves alone. -/
theorem execImageQuery_frame {t : State} (slot : Byte) (s : State) (h : execImageQuery slot s = .next t) :
    t.jobs = s.jobs ∧ t.discs = s.discs ∧ t.staging = s.staging ∧ t.bays = s.bays ∧
      t.governor = s.governor ∧ t.verify = s.verify ∧ t.trans = s.trans ∧ t.labels = s.labels ∧
      t.printer = s.printer ∧ t.settings = s.settings ∧ t.sensors = s.sensors ∧ t.now = s.now ∧
      t.dispatchWanted = s.dispatchWanted ∧ t.pending = s.pending := by
  unfold execImageQuery at h
  (try dsimp only at h)
  (repeat' split at h) <;> (injection h with h; subst h) <;> (try simp) <;> (repeat' split) <;> (try simp) <;> (repeat' split) <;> simp

/-- What `execLabelOpen` leaves alone. -/
theorem execLabelOpen_frame {t : State} (label darkness : Byte) (width lines : BitVec 16) (s : State) (h : execLabelOpen label darkness width lines s = .next t) :
    t.jobs = s.jobs ∧ t.discs = s.discs ∧ t.staging = s.staging ∧ t.bays = s.bays ∧
      t.governor = s.governor ∧ t.verify = s.verify ∧ t.trans = s.trans ∧ t.printer = s.printer ∧
      t.settings = s.settings ∧ t.sensors = s.sensors ∧ t.now = s.now ∧ t.dispatchWanted = s.dispatchWanted ∧ t.pending = s.pending := by
  unfold execLabelOpen at h
  (try dsimp only at h)
  (repeat' split at h) <;> (injection h with h; subst h) <;> (try simp) <;> (repeat' split) <;> (try simp) <;> (repeat' split) <;> simp

/-- What `execLabelData` leaves alone. -/
theorem execLabelData_frame {t : State} (label band : Byte) (data : List Byte) (s : State) (h : execLabelData label band data s = .next t) :
    t.jobs = s.jobs ∧ t.discs = s.discs ∧ t.staging = s.staging ∧ t.bays = s.bays ∧
      t.governor = s.governor ∧ t.verify = s.verify ∧ t.trans = s.trans ∧ t.printer = s.printer ∧
      t.settings = s.settings ∧ t.sensors = s.sensors ∧ t.now = s.now ∧ t.dispatchWanted = s.dispatchWanted ∧ t.pending = s.pending := by
  unfold execLabelData at h
  (try dsimp only at h)
  (repeat' split at h) <;> (injection h with h; subst h) <;> (try simp) <;> (repeat' split) <;> (try simp) <;> (repeat' split) <;> simp

/-- What `execLabelDrop` leaves alone. -/
theorem execLabelDrop_frame {t : State} (label : Byte) (s : State) (h : execLabelDrop label s = .next t) :
    t.jobs = s.jobs ∧ t.discs = s.discs ∧ t.staging = s.staging ∧ t.bays = s.bays ∧
      t.governor = s.governor ∧ t.verify = s.verify ∧ t.trans = s.trans ∧ t.printer = s.printer ∧
      t.settings = s.settings ∧ t.sensors = s.sensors ∧ t.now = s.now ∧ t.dispatchWanted = s.dispatchWanted ∧ t.pending = s.pending := by
  unfold execLabelDrop at h
  (try dsimp only at h)
  (repeat' split at h) <;> (injection h with h; subst h) <;> (try simp) <;> (repeat' split) <;> (try simp) <;> (repeat' split) <;> simp

/-- What `execLabelQuery` leaves alone. -/
theorem execLabelQuery_frame {t : State} (label : Byte) (s : State) (h : execLabelQuery label s = .next t) :
    t.jobs = s.jobs ∧ t.discs = s.discs ∧ t.staging = s.staging ∧ t.bays = s.bays ∧
      t.governor = s.governor ∧ t.verify = s.verify ∧ t.trans = s.trans ∧ t.labels = s.labels ∧
      t.printer = s.printer ∧ t.settings = s.settings ∧ t.sensors = s.sensors ∧ t.now = s.now ∧
      t.dispatchWanted = s.dispatchWanted ∧ t.pending = s.pending := by
  unfold execLabelQuery at h
  (try dsimp only at h)
  (repeat' split at h) <;> (injection h with h; subst h) <;> (try simp) <;> (repeat' split) <;> (try simp) <;> (repeat' split) <;> simp

/-- What `execPrinterResume` leaves alone. -/
theorem execPrinterResume_frame {t : State} (s : State) (h : execPrinterResume s = .next t) :
    t.jobs = s.jobs ∧ t.staging = s.staging ∧ t.bays = s.bays ∧ t.governor = s.governor ∧
      t.verify = s.verify ∧ t.labels = s.labels ∧ t.settings = s.settings ∧ t.sensors = s.sensors ∧
      t.now = s.now ∧ t.pending = s.pending := by
  unfold execPrinterResume at h
  (try dsimp only at h)
  (repeat' split at h) <;> (injection h with h; subst h) <;> (try simp) <;> (repeat' split) <;> (try simp) <;> (repeat' split) <;> simp

/-- What `execPrinterLinePeriod` leaves alone. -/
theorem execPrinterLinePeriod_frame {t : State} (s : State) (h : execPrinterLinePeriod s = .next t) :
    t.link = s.link ∧ t.jobs = s.jobs ∧ t.labels = s.labels ∧ t.settings = s.settings ∧
      t.sensors = s.sensors ∧ t.now = s.now ∧ t.pending = s.pending := by
  unfold execPrinterLinePeriod at h
  (try dsimp only at h)
  (repeat' split at h) <;> (injection h with h; subst h) <;> (try simp) <;> (repeat' split) <;> (try simp) <;> (repeat' split) <;> simp

/-- What `execHeadTemperatureReading` leaves alone. -/
theorem execHeadTemperatureReading_frame {t : State} (reading : Int) (s : State) (h : execHeadTemperatureReading reading s = .next t) :
    t.link = s.link ∧ t.jobs = s.jobs ∧ t.labels = s.labels ∧ t.settings = s.settings ∧
      t.now = s.now ∧ t.pending = s.pending := by
  unfold execHeadTemperatureReading at h
  (try dsimp only at h)
  (repeat' split at h) <;> (injection h with h; subst h) <;> (try simp) <;> (repeat' split) <;> (try simp) <;> (repeat' split) <;> simp

/-- What `execRibbonSensorChange` leaves alone. -/
theorem execRibbonSensorChange_frame {t : State} (out : Bool) (s : State) (h : execRibbonSensorChange out s = .next t) :
    t.link = s.link ∧ t.jobs = s.jobs ∧ t.labels = s.labels ∧ t.settings = s.settings ∧
      t.now = s.now ∧ t.pending = s.pending := by
  unfold execRibbonSensorChange at h
  (try dsimp only at h)
  (repeat' split at h) <;> (injection h with h; subst h) <;> (try simp) <;> (repeat' split) <;> (try simp) <;> (repeat' split) <;> simp

/-- What `execRibbonLowSensorChange` leaves alone. -/
theorem execRibbonLowSensorChange_frame {t : State} (low : Bool) (s : State) (h : execRibbonLowSensorChange low s = .next t) :
    t.link = s.link ∧ t.jobs = s.jobs ∧ t.discs = s.discs ∧ t.staging = s.staging ∧
      t.bays = s.bays ∧ t.governor = s.governor ∧ t.verify = s.verify ∧ t.trans = s.trans ∧
      t.labels = s.labels ∧ t.printer = s.printer ∧ t.settings = s.settings ∧ t.now = s.now ∧
      t.dispatchWanted = s.dispatchWanted ∧ t.pending = s.pending := by
  unfold execRibbonLowSensorChange at h
  (try dsimp only at h)
  (repeat' split at h) <;> (injection h with h; subst h) <;> (try simp) <;> (repeat' split) <;> (try simp) <;> (repeat' split) <;> simp

/-- What `execJobCreate` leaves alone. -/
theorem execJobCreate_frame {t : State} (fields : JobFields) (s : State) (h : execJobCreate fields s = .next t) :
    t.discs = s.discs ∧ t.staging = s.staging ∧ t.bays = s.bays ∧ t.governor = s.governor ∧
      t.verify = s.verify ∧ t.trans = s.trans ∧ t.labels = s.labels ∧ t.printer = s.printer ∧
      t.settings = s.settings ∧ t.sensors = s.sensors ∧ t.now = s.now ∧ t.pending = s.pending := by
  unfold execJobCreate at h
  (try dsimp only at h)
  (repeat' split at h) <;> (injection h with h; subst h) <;> (try simp) <;> (repeat' split) <;> (try simp) <;> (repeat' split) <;> simp

/-- What `execJobHold` leaves alone. -/
theorem execJobHold_frame {t : State} (number : BitVec 16) (s : State) (h : execJobHold number s = .next t) :
    t.discs = s.discs ∧ t.staging = s.staging ∧ t.bays = s.bays ∧ t.governor = s.governor ∧
      t.verify = s.verify ∧ t.trans = s.trans ∧ t.labels = s.labels ∧ t.printer = s.printer ∧
      t.settings = s.settings ∧ t.sensors = s.sensors ∧ t.now = s.now ∧ t.dispatchWanted = s.dispatchWanted ∧ t.pending = s.pending := by
  unfold execJobHold at h
  (try dsimp only at h)
  (repeat' split at h) <;> (injection h with h; subst h) <;> (try simp) <;> (repeat' split) <;> (try simp) <;> (repeat' split) <;> simp

/-- What `execJobRelease` leaves alone. -/
theorem execJobRelease_frame {t : State} (number : BitVec 16) (s : State) (h : execJobRelease number s = .next t) :
    t.discs = s.discs ∧ t.staging = s.staging ∧ t.bays = s.bays ∧ t.governor = s.governor ∧
      t.verify = s.verify ∧ t.trans = s.trans ∧ t.labels = s.labels ∧ t.printer = s.printer ∧
      t.settings = s.settings ∧ t.sensors = s.sensors ∧ t.now = s.now ∧ t.pending = s.pending := by
  unfold execJobRelease at h
  (try dsimp only at h)
  (repeat' split at h) <;> (injection h with h; subst h) <;> (try simp) <;> (repeat' split) <;> (try simp) <;> (repeat' split) <;> simp

/-- What `execJobRemove` leaves alone. -/
theorem execJobRemove_frame {t : State} (number : BitVec 16) (s : State) (h : execJobRemove number s = .next t) :
    t.discs = s.discs ∧ t.staging = s.staging ∧ t.bays = s.bays ∧ t.governor = s.governor ∧
      t.verify = s.verify ∧ t.trans = s.trans ∧ t.labels = s.labels ∧ t.printer = s.printer ∧
      t.settings = s.settings ∧ t.sensors = s.sensors ∧ t.now = s.now ∧ t.dispatchWanted = s.dispatchWanted ∧ t.pending = s.pending := by
  unfold execJobRemove at h
  (try dsimp only at h)
  (repeat' split at h) <;> (injection h with h; subst h) <;> (try simp) <;> (repeat' split) <;> (try simp) <;> (repeat' split) <;> simp

/-- What `execJobCancel` leaves alone. -/
theorem execJobCancel_frame {t : State} (number : BitVec 16) (s : State) (h : execJobCancel number s = .next t) :
    t.labels = s.labels ∧ t.settings = s.settings ∧ t.sensors = s.sensors ∧ t.now = s.now ∧
      t.pending = s.pending := by
  unfold execJobCancel at h
  (try dsimp only at h)
  (repeat' split at h) <;> (injection h with h; subst h) <;> (try simp) <;> (repeat' split) <;> (try simp) <;> (repeat' split) <;> simp

/-- What `execJobQuery` leaves alone. -/
theorem execJobQuery_frame {t : State} (number : BitVec 16) (s : State) (h : execJobQuery number s = .next t) :
    t.jobs = s.jobs ∧ t.discs = s.discs ∧ t.staging = s.staging ∧ t.bays = s.bays ∧
      t.governor = s.governor ∧ t.verify = s.verify ∧ t.trans = s.trans ∧ t.labels = s.labels ∧
      t.printer = s.printer ∧ t.settings = s.settings ∧ t.sensors = s.sensors ∧ t.now = s.now ∧
      t.dispatchWanted = s.dispatchWanted ∧ t.pending = s.pending := by
  unfold execJobQuery at h
  (try dsimp only at h)
  (repeat' split at h) <;> (injection h with h; subst h) <;> (try simp) <;> (repeat' split) <;> (try simp) <;> (repeat' split) <;> simp

/-- What `execDiscResults` leaves alone. -/
theorem execDiscResults_frame {t : State} (s : State) (h : execDiscResults s = .next t) :
    t.jobs = s.jobs ∧ t.staging = s.staging ∧ t.bays = s.bays ∧ t.governor = s.governor ∧
      t.verify = s.verify ∧ t.trans = s.trans ∧ t.labels = s.labels ∧ t.printer = s.printer ∧
      t.settings = s.settings ∧ t.sensors = s.sensors ∧ t.now = s.now ∧ t.dispatchWanted = s.dispatchWanted ∧ t.pending = s.pending := by
  unfold execDiscResults at h
  (try dsimp only at h)
  (repeat' split at h) <;> (injection h with h; subst h) <;> (try simp) <;> (repeat' split) <;> (try simp) <;> (repeat' split) <;> simp

/-- What `execTowerPause` leaves alone. -/
theorem execTowerPause_frame {t : State} (s : State) (h : execTowerPause s = .next t) :
    t.discs = s.discs ∧ t.staging = s.staging ∧ t.bays = s.bays ∧ t.governor = s.governor ∧
      t.verify = s.verify ∧ t.trans = s.trans ∧ t.labels = s.labels ∧ t.printer = s.printer ∧
      t.settings = s.settings ∧ t.sensors = s.sensors ∧ t.now = s.now ∧ t.dispatchWanted = s.dispatchWanted ∧ t.pending = s.pending := by
  unfold execTowerPause at h
  (try dsimp only at h)
  (repeat' split at h) <;> (injection h with h; subst h) <;> (try simp) <;> (repeat' split) <;> (try simp) <;> (repeat' split) <;> simp

/-- What `execTowerResume` leaves alone. -/
theorem execTowerResume_frame {t : State} (s : State) (h : execTowerResume s = .next t) :
    t.discs = s.discs ∧ t.staging = s.staging ∧ t.bays = s.bays ∧ t.governor = s.governor ∧
      t.verify = s.verify ∧ t.trans = s.trans ∧ t.labels = s.labels ∧ t.printer = s.printer ∧
      t.settings = s.settings ∧ t.sensors = s.sensors ∧ t.now = s.now ∧ t.pending = s.pending := by
  unfold execTowerResume at h
  (try dsimp only at h)
  (repeat' split at h) <;> (injection h with h; subst h) <;> (try simp) <;> (repeat' split) <;> (try simp) <;> (repeat' split) <;> simp

/-- What `execTowerDrain` leaves alone. -/
theorem execTowerDrain_frame {t : State} (s : State) (h : execTowerDrain s = .next t) :
    t.discs = s.discs ∧ t.staging = s.staging ∧ t.bays = s.bays ∧ t.governor = s.governor ∧
      t.verify = s.verify ∧ t.trans = s.trans ∧ t.labels = s.labels ∧ t.printer = s.printer ∧
      t.settings = s.settings ∧ t.sensors = s.sensors ∧ t.now = s.now ∧ t.dispatchWanted = s.dispatchWanted ∧ t.pending = s.pending := by
  unfold execTowerDrain at h
  (try dsimp only at h)
  (repeat' split at h) <;> (injection h with h; subst h) <;> (try simp) <;> (repeat' split) <;> (try simp) <;> (repeat' split) <;> simp

/-- What `execDispatchEvaluation` leaves alone. -/
theorem execDispatchEvaluation_frame {t : State} (s : State) (h : execDispatchEvaluation s = .next t) :
    t.link = s.link ∧ t.staging = s.staging ∧ t.governor = s.governor ∧ t.verify = s.verify ∧
      t.labels = s.labels ∧ t.printer = s.printer ∧ t.settings = s.settings ∧ t.sensors = s.sensors ∧
      t.now = s.now ∧ t.pending = s.pending := by
  unfold execDispatchEvaluation at h
  (try dsimp only at h)
  (repeat' split at h) <;> (injection h with h; subst h) <;> (try simp) <;> (repeat' split) <;> (try simp) <;> (repeat' split) <;> simp

/-- What `execOrphanCreationGrant` leaves alone. -/
theorem execOrphanCreationGrant_frame {t : State} (s : State) (h : execOrphanCreationGrant s = .next t) :
    t.link = s.link ∧ t.staging = s.staging ∧ t.governor = s.governor ∧ t.verify = s.verify ∧
      t.labels = s.labels ∧ t.settings = s.settings ∧ t.sensors = s.sensors ∧ t.now = s.now ∧
      t.pending = s.pending := by
  unfold execOrphanCreationGrant at h
  (try dsimp only at h)
  (repeat' split at h) <;> (injection h with h; subst h) <;> (try simp) <;> (repeat' split) <;> (try simp) <;> (repeat' split) <;> simp

/-- What `execBayQuery` leaves alone. -/
theorem execBayQuery_frame {t : State} (bay : Byte) (s : State) (h : execBayQuery bay s = .next t) :
    t.jobs = s.jobs ∧ t.discs = s.discs ∧ t.staging = s.staging ∧ t.bays = s.bays ∧
      t.governor = s.governor ∧ t.verify = s.verify ∧ t.trans = s.trans ∧ t.labels = s.labels ∧
      t.printer = s.printer ∧ t.settings = s.settings ∧ t.sensors = s.sensors ∧ t.now = s.now ∧
      t.dispatchWanted = s.dispatchWanted ∧ t.pending = s.pending := by
  unfold execBayQuery at h
  (try dsimp only at h)
  (repeat' split at h) <;> (injection h with h; subst h) <;> (try simp) <;> (repeat' split) <;> (try simp) <;> (repeat' split) <;> simp

/-- What `execBayOffline` leaves alone. -/
theorem execBayOffline_frame {t : State} (bay : Byte) (s : State) (h : execBayOffline bay s = .next t) :
    t.jobs = s.jobs ∧ t.discs = s.discs ∧ t.staging = s.staging ∧ t.governor = s.governor ∧
      t.verify = s.verify ∧ t.trans = s.trans ∧ t.labels = s.labels ∧ t.printer = s.printer ∧
      t.settings = s.settings ∧ t.sensors = s.sensors ∧ t.now = s.now ∧ t.dispatchWanted = s.dispatchWanted ∧ t.pending = s.pending := by
  unfold execBayOffline at h
  (try dsimp only at h)
  (repeat' split at h) <;> (injection h with h; subst h) <;> (try simp) <;> (repeat' split) <;> (try simp) <;> (repeat' split) <;> simp

/-- What `execBayOnline` leaves alone. -/
theorem execBayOnline_frame {t : State} (bay : Byte) (s : State) (h : execBayOnline bay s = .next t) :
    t.jobs = s.jobs ∧ t.discs = s.discs ∧ t.staging = s.staging ∧ t.governor = s.governor ∧
      t.verify = s.verify ∧ t.trans = s.trans ∧ t.labels = s.labels ∧ t.printer = s.printer ∧
      t.settings = s.settings ∧ t.sensors = s.sensors ∧ t.now = s.now ∧ t.dispatchWanted = s.dispatchWanted ∧ t.pending = s.pending := by
  unfold execBayOnline at h
  (try dsimp only at h)
  (repeat' split at h) <;> (injection h with h; subst h) <;> (try simp) <;> (repeat' split) <;> (try simp) <;> (repeat' split) <;> simp

/-- What `execIdentifyComplete` leaves alone. -/
theorem execIdentifyComplete_frame {t : State} (b : BayId) (number : Byte) (kind : CompletionKind) (facts : DriveFacts) (s : State) (h : execIdentifyComplete b number kind facts s = .next t) :
    t.link = s.link ∧ t.labels = s.labels ∧ t.printer = s.printer ∧ t.settings = s.settings ∧
      t.sensors = s.sensors ∧ t.now = s.now ∧ t.pending = s.pending := by
  unfold execIdentifyComplete at h
  (try dsimp only at h)
  (repeat' split at h) <;> (injection h with h; subst h) <;> (try simp) <;> (repeat' split) <;> (try simp) <;> (repeat' split) <;> simp

/-- What `execIdentifyRetryTimerExpiry` leaves alone. -/
theorem execIdentifyRetryTimerExpiry_frame {t : State} (b : BayId) (s : State) (h : execIdentifyRetryTimerExpiry b s = .next t) :
    t.link = s.link ∧ t.jobs = s.jobs ∧ t.discs = s.discs ∧ t.staging = s.staging ∧
      t.governor = s.governor ∧ t.verify = s.verify ∧ t.trans = s.trans ∧ t.labels = s.labels ∧
      t.printer = s.printer ∧ t.status = s.status ∧ t.settings = s.settings ∧ t.sensors = s.sensors ∧
      t.now = s.now ∧ t.dispatchWanted = s.dispatchWanted ∧ t.pending = s.pending := by
  unfold execIdentifyRetryTimerExpiry at h
  (try dsimp only at h)
  (repeat' split at h) <;> (injection h with h; subst h) <;> (try simp) <;> (repeat' split) <;> (try simp) <;> (repeat' split) <;> simp

/-- What `execWriteComplete` leaves alone. -/
theorem execWriteComplete_frame {t : State} (b : BayId) (number : Byte) (kind : CompletionKind) (buffer : Nat) (s : State) (h : execWriteComplete b number kind buffer s = .next t) :
    t.link = s.link ∧ t.labels = s.labels ∧ t.printer = s.printer ∧ t.settings = s.settings ∧
      t.sensors = s.sensors ∧ t.now = s.now ∧ t.pending = s.pending := by
  unfold execWriteComplete at h
  (try dsimp only at h)
  (repeat' split at h) <;> (injection h with h; subst h) <;> (try simp) <;> (repeat' split) <;> (try simp) <;> (repeat' split) <;> simp

/-- What `execReserveTimerExpiry` leaves alone. -/
theorem execReserveTimerExpiry_frame {t : State} (b : BayId) (s : State) (h : execReserveTimerExpiry b s = .next t) :
    t.link = s.link ∧ t.jobs = s.jobs ∧ t.discs = s.discs ∧ t.staging = s.staging ∧
      t.verify = s.verify ∧ t.trans = s.trans ∧ t.labels = s.labels ∧ t.printer = s.printer ∧
      t.settings = s.settings ∧ t.sensors = s.sensors ∧ t.now = s.now ∧ t.dispatchWanted = s.dispatchWanted ∧ t.pending = s.pending := by
  unfold execReserveTimerExpiry at h
  (try dsimp only at h)
  (repeat' split at h) <;> (injection h with h; subst h) <;> (try simp) <;> (repeat' split) <;> (try simp) <;> (repeat' split) <;> simp

/-- What `execSpeedComplete` leaves alone. -/
theorem execSpeedComplete_frame {t : State} (b : BayId) (number : Byte) (kind : CompletionKind) (s : State) (h : execSpeedComplete b number kind s = .next t) :
    t.link = s.link ∧ t.labels = s.labels ∧ t.printer = s.printer ∧ t.settings = s.settings ∧
      t.sensors = s.sensors ∧ t.now = s.now ∧ t.pending = s.pending := by
  unfold execSpeedComplete at h
  (try dsimp only at h)
  (repeat' split at h) <;> (injection h with h; subst h) <;> (try simp) <;> (repeat' split) <;> (try simp) <;> (repeat' split) <;> simp

/-- What `execSuspendComplete` leaves alone. -/
theorem execSuspendComplete_frame {t : State} (b : BayId) (number : Byte) (kind : CompletionKind) (s : State) (h : execSuspendComplete b number kind s = .next t) :
    t.link = s.link ∧ t.labels = s.labels ∧ t.printer = s.printer ∧ t.settings = s.settings ∧
      t.sensors = s.sensors ∧ t.now = s.now ∧ t.pending = s.pending := by
  unfold execSuspendComplete at h
  (try dsimp only at h)
  (repeat' split at h) <;> (injection h with h; subst h) <;> (try simp) <;> (repeat' split) <;> (try simp) <;> (repeat' split) <;> simp

/-- What `execResumeComplete` leaves alone. -/
theorem execResumeComplete_frame {t : State} (b : BayId) (number : Byte) (kind : CompletionKind) (s : State) (h : execResumeComplete b number kind s = .next t) :
    t.link = s.link ∧ t.labels = s.labels ∧ t.printer = s.printer ∧ t.settings = s.settings ∧
      t.sensors = s.sensors ∧ t.now = s.now ∧ t.pending = s.pending := by
  unfold execResumeComplete at h
  (try dsimp only at h)
  (repeat' split at h) <;> (injection h with h; subst h) <;> (try simp) <;> (repeat' split) <;> (try simp) <;> (repeat' split) <;> simp

/-- What `execUnsolicitedUnderrun` leaves alone. -/
theorem execUnsolicitedUnderrun_frame {t : State} (b : BayId) (s : State) (h : execUnsolicitedUnderrun b s = .next t) :
    t.link = s.link ∧ t.labels = s.labels ∧ t.printer = s.printer ∧ t.settings = s.settings ∧
      t.sensors = s.sensors ∧ t.now = s.now ∧ t.pending = s.pending := by
  unfold execUnsolicitedUnderrun at h
  (try dsimp only at h)
  (repeat' split at h) <;> (injection h with h; subst h) <;> (try simp) <;> (repeat' split) <;> (try simp) <;> (repeat' split) <;> simp

/-- What `execCloseComplete` leaves alone. -/
theorem execCloseComplete_frame {t : State} (b : BayId) (number : Byte) (kind : CompletionKind) (s : State) (h : execCloseComplete b number kind s = .next t) :
    t.link = s.link ∧ t.labels = s.labels ∧ t.printer = s.printer ∧ t.settings = s.settings ∧
      t.sensors = s.sensors ∧ t.now = s.now ∧ t.pending = s.pending := by
  unfold execCloseComplete at h
  (try dsimp only at h)
  (repeat' split at h) <;> (injection h with h; subst h) <;> (try simp) <;> (repeat' split) <;> (try simp) <;> (repeat' split) <;> simp

/-- What `execReadComplete` leaves alone. -/
theorem execReadComplete_frame {t : State} (b : BayId) (number : Byte) (kind : CompletionKind) (index : Nat) (data : List Byte) (s : State) (h : execReadComplete b number kind index data s = .next t) :
    t.link = s.link ∧ t.labels = s.labels ∧ t.printer = s.printer ∧ t.settings = s.settings ∧
      t.sensors = s.sensors ∧ t.now = s.now ∧ t.pending = s.pending := by
  unfold execReadComplete at h
  (try dsimp only at h)
  (repeat' split at h) <;> (injection h with h; subst h) <;> (try simp) <;> (repeat' split) <;> (try simp) <;> (repeat' split) <;> simp

/-- What `execVerifyLaneTake` leaves alone. -/
theorem execVerifyLaneTake_frame {t : State} (s : State) (h : execVerifyLaneTake s = .next t) :
    t.link = s.link ∧ t.jobs = s.jobs ∧ t.discs = s.discs ∧ t.staging = s.staging ∧
      t.governor = s.governor ∧ t.trans = s.trans ∧ t.labels = s.labels ∧ t.printer = s.printer ∧
      t.status = s.status ∧ t.settings = s.settings ∧ t.sensors = s.sensors ∧ t.now = s.now ∧
      t.pending = s.pending := by
  unfold execVerifyLaneTake at h
  (try dsimp only at h)
  (repeat' split at h) <;> (injection h with h; subst h) <;> (try simp) <;> (repeat' split) <;> (try simp) <;> (repeat' split) <;> simp

/-- What `execDeadlineExpiry` leaves alone. -/
theorem execDeadlineExpiry_frame {t : State} (b : BayId) (ofSuspend : Bool) (s : State) (h : execDeadlineExpiry b ofSuspend s = .next t) :
    t.link = s.link ∧ t.labels = s.labels ∧ t.settings = s.settings ∧ t.sensors = s.sensors ∧
      t.now = s.now ∧ t.pending = s.pending := by
  unfold execDeadlineExpiry at h
  (try dsimp only at h)
  (repeat' split at h) <;> (injection h with h; subst h) <;> (try simp) <;> (repeat' split) <;> (try simp) <;> (repeat' split) <;> simp

/-- What `execAdmissionEvaluation` leaves alone. -/
theorem execAdmissionEvaluation_frame {t : State} (s : State) (h : execAdmissionEvaluation s = .next t) :
    t.jobs = s.jobs ∧ t.discs = s.discs ∧ t.verify = s.verify ∧ t.trans = s.trans ∧
      t.labels = s.labels ∧ t.printer = s.printer ∧ t.settings = s.settings ∧ t.sensors = s.sensors ∧
      t.now = s.now ∧ t.pending = s.pending := by
  unfold execAdmissionEvaluation at h
  (try dsimp only at h)
  (repeat' split at h) <;> (injection h with h; subst h) <;> (try simp) <;> (repeat' split) <;> (try simp) <;> (repeat' split) <;> simp

/-- What `execTrayOpenComplete` leaves alone. -/
theorem execTrayOpenComplete_frame {t : State} (b : BayId) (number : Byte) (kind : CompletionKind) (s : State) (h : execTrayOpenComplete b number kind s = .next t) :
    t.link = s.link ∧ t.labels = s.labels ∧ t.settings = s.settings ∧ t.sensors = s.sensors ∧
      t.now = s.now ∧ t.pending = s.pending := by
  unfold execTrayOpenComplete at h
  (try dsimp only at h)
  (repeat' split at h) <;> (injection h with h; subst h) <;> (try simp) <;> (repeat' split) <;> (try simp) <;> (repeat' split) <;> simp

/-- What `execTrayCloseComplete` leaves alone. -/
theorem execTrayCloseComplete_frame {t : State} (b : BayId) (number : Byte) (kind : CompletionKind) (s : State) (h : execTrayCloseComplete b number kind s = .next t) :
    t.link = s.link ∧ t.labels = s.labels ∧ t.settings = s.settings ∧ t.now = s.now ∧
      t.pending = s.pending := by
  unfold execTrayCloseComplete at h
  (try dsimp only at h)
  (repeat' split at h) <;> (injection h with h; subst h) <;> (try simp) <;> (repeat' split) <;> (try simp) <;> (repeat' split) <;> simp

/-- What `execArmHome` leaves alone. -/
theorem execArmHome_frame {t : State} (s : State) (h : execArmHome s = .next t) :
    t.jobs = s.jobs ∧ t.discs = s.discs ∧ t.staging = s.staging ∧ t.bays = s.bays ∧
      t.governor = s.governor ∧ t.verify = s.verify ∧ t.labels = s.labels ∧ t.printer = s.printer ∧
      t.settings = s.settings ∧ t.sensors = s.sensors ∧ t.now = s.now ∧ t.dispatchWanted = s.dispatchWanted ∧ t.pending = s.pending := by
  unfold execArmHome at h
  (try dsimp only at h)
  (repeat' split at h) <;> (injection h with h; subst h) <;> (try simp) <;> (repeat' split) <;> (try simp) <;> (repeat' split) <;> simp

/-- What `execGrantEvaluation` leaves alone. -/
theorem execGrantEvaluation_frame {t : State} (s : State) (h : execGrantEvaluation s = .next t) :
    t.link = s.link ∧ t.jobs = s.jobs ∧ t.discs = s.discs ∧ t.staging = s.staging ∧
      t.bays = s.bays ∧ t.governor = s.governor ∧ t.verify = s.verify ∧ t.labels = s.labels ∧
      t.printer = s.printer ∧ t.settings = s.settings ∧ t.sensors = s.sensors ∧ t.now = s.now ∧
      t.pending = s.pending := by
  unfold execGrantEvaluation at h
  (try dsimp only at h)
  (repeat' split at h) <;> (injection h with h; subst h) <;> (try simp) <;> (repeat' split) <;> (try simp) <;> (repeat' split) <;> simp

/-- What `execBottomReferenceReached` leaves alone. -/
theorem execBottomReferenceReached_frame {t : State} (s : State) (h : execBottomReferenceReached s = .next t) :
    t.link = s.link ∧ t.jobs = s.jobs ∧ t.staging = s.staging ∧ t.bays = s.bays ∧
      t.governor = s.governor ∧ t.verify = s.verify ∧ t.labels = s.labels ∧ t.printer = s.printer ∧
      t.settings = s.settings ∧ t.sensors = s.sensors ∧ t.now = s.now ∧ t.pending = s.pending := by
  unfold execBottomReferenceReached at h
  (try dsimp only at h)
  (repeat' split at h) <;> (injection h with h; subst h) <;> (try simp) <;> (repeat' split) <;> (try simp) <;> (repeat' split) <;> simp

/-- What `execArrival` leaves alone. -/
theorem execArrival_frame {t : State} (discSeen : Bool) (s : State) (h : execArrival discSeen s = .next t) :
    t.link = s.link ∧ t.labels = s.labels ∧ t.settings = s.settings ∧ t.now = s.now ∧
      t.pending = s.pending := by
  unfold execArrival at h
  (try dsimp only at h)
  (repeat' split at h) <;> (injection h with h; subst h) <;> (try simp) <;> (repeat' split) <;> (try simp) <;> (repeat' split) <;> simp

/-- What `execMoveTimerExpiry` leaves alone. -/
theorem execMoveTimerExpiry_frame {t : State} (s : State) (h : execMoveTimerExpiry s = .next t) :
    t.link = s.link ∧ t.jobs = s.jobs ∧ t.labels = s.labels ∧ t.settings = s.settings ∧
      t.sensors = s.sensors ∧ t.now = s.now ∧ t.pending = s.pending := by
  unfold execMoveTimerExpiry at h
  (try dsimp only at h)
  (repeat' split at h) <;> (injection h with h; subst h) <;> (try simp) <;> (repeat' split) <;> (try simp) <;> (repeat' split) <;> simp

/-- What `execPickConfirmed` leaves alone. -/
theorem execPickConfirmed_frame {t : State} (two : Bool) (s : State) (h : execPickConfirmed two s = .next t) :
    t.link = s.link ∧ t.jobs = s.jobs ∧ t.labels = s.labels ∧ t.settings = s.settings ∧
      t.now = s.now ∧ t.pending = s.pending := by
  unfold execPickConfirmed at h
  (try dsimp only at h)
  (repeat' split at h) <;> (injection h with h; subst h) <;> (try simp) <;> (repeat' split) <;> (try simp) <;> (repeat' split) <;> simp

/-- What `execDiscSet` leaves alone. -/
theorem execDiscSet_frame {t : State} (s : State) (h : execDiscSet s = .next t) :
    t.link = s.link ∧ t.jobs = s.jobs ∧ t.discs = s.discs ∧ t.staging = s.staging ∧
      t.governor = s.governor ∧ t.verify = s.verify ∧ t.labels = s.labels ∧ t.printer = s.printer ∧
      t.status = s.status ∧ t.settings = s.settings ∧ t.now = s.now ∧ t.dispatchWanted = s.dispatchWanted ∧ t.pending = s.pending := by
  unfold execDiscSet at h
  (try dsimp only at h)
  (repeat' split at h) <;> (injection h with h; subst h) <;> (try simp) <;> (repeat' split) <;> (try simp) <;> (repeat' split) <;> simp

/-- What `execPrnTrayConfirmed` leaves alone. -/
theorem execPrnTrayConfirmed_frame {t : State} (s : State) (h : execPrnTrayConfirmed s = .next t) :
    t.link = s.link ∧ t.jobs = s.jobs ∧ t.labels = s.labels ∧ t.settings = s.settings ∧
      t.now = s.now ∧ t.pending = s.pending := by
  unfold execPrnTrayConfirmed at h
  (try dsimp only at h)
  (repeat' split at h) <;> (injection h with h; subst h) <;> (try simp) <;> (repeat' split) <;> (try simp) <;> (repeat' split) <;> simp

/-- What `execDropConfirmed` leaves alone. -/
theorem execDropConfirmed_frame {t : State} (s : State) (h : execDropConfirmed s = .next t) :
    t.link = s.link ∧ t.staging = s.staging ∧ t.bays = s.bays ∧ t.governor = s.governor ∧
      t.verify = s.verify ∧ t.labels = s.labels ∧ t.printer = s.printer ∧ t.settings = s.settings ∧
      t.now = s.now ∧ t.pending = s.pending := by
  unfold execDropConfirmed at h
  (try dsimp only at h)
  (repeat' split at h) <;> (injection h with h; subst h) <;> (try simp) <;> (repeat' split) <;> (try simp) <;> (repeat' split) <;> simp

/-- What `execAckTimerExpiry` leaves alone. -/
theorem execAckTimerExpiry_frame {t : State} (held : Bool) (s : State) (h : execAckTimerExpiry held s = .next t) :
    t.link = s.link ∧ t.labels = s.labels ∧ t.settings = s.settings ∧ t.now = s.now ∧
      t.pending = s.pending := by
  unfold execAckTimerExpiry at h
  (try dsimp only at h)
  (repeat' split at h) <;> (injection h with h; subst h) <;> (try simp) <;> (repeat' split) <;> (try simp) <;> (repeat' split) <;> simp

/-- What `execSwapSecondLegStart` leaves alone. -/
theorem execSwapSecondLegStart_frame {t : State} (s : State) (h : execSwapSecondLegStart s = .next t) :
    t.link = s.link ∧ t.jobs = s.jobs ∧ t.discs = s.discs ∧ t.staging = s.staging ∧
      t.bays = s.bays ∧ t.governor = s.governor ∧ t.verify = s.verify ∧ t.labels = s.labels ∧
      t.printer = s.printer ∧ t.settings = s.settings ∧ t.sensors = s.sensors ∧ t.now = s.now ∧
      t.dispatchWanted = s.dispatchWanted ∧ t.pending = s.pending := by
  unfold execSwapSecondLegStart at h
  (try dsimp only at h)
  (repeat' split at h) <;> (injection h with h; subst h) <;> (try simp) <;> (repeat' split) <;> (try simp) <;> (repeat' split) <;> simp

/-- What `execHoldTimerExpiry` leaves alone. -/
theorem execHoldTimerExpiry_frame {t : State} (s : State) (h : execHoldTimerExpiry s = .next t) :
    t.link = s.link ∧ t.jobs = s.jobs ∧ t.staging = s.staging ∧ t.bays = s.bays ∧
      t.governor = s.governor ∧ t.verify = s.verify ∧ t.labels = s.labels ∧ t.printer = s.printer ∧
      t.settings = s.settings ∧ t.sensors = s.sensors ∧ t.now = s.now ∧ t.pending = s.pending := by
  unfold execHoldTimerExpiry at h
  (try dsimp only at h)
  (repeat' split at h) <;> (injection h with h; subst h) <;> (try simp) <;> (repeat' split) <;> (try simp) <;> (repeat' split) <;> simp

/-- What `execStripCodeChange` leaves alone. -/
theorem execStripCodeChange_frame {t : State} (steps code : Nat) (s : State) (h : execStripCodeChange steps code s = .next t) :
    t.link = s.link ∧ t.jobs = s.jobs ∧ t.labels = s.labels ∧ t.settings = s.settings ∧
      t.sensors = s.sensors ∧ t.now = s.now ∧ t.pending = s.pending := by
  unfold execStripCodeChange at h
  (try dsimp only at h)
  (repeat' split at h) <;> (injection h with h; subst h) <;> (try simp) <;> (repeat' split) <;> (try simp) <;> (repeat' split) <;> simp

/-- What `execDoorOpen` leaves alone. -/
theorem execDoorOpen_frame {t : State} (s : State) (h : execDoorOpen s = .next t) :
    t.link = s.link ∧ t.jobs = s.jobs ∧ t.discs = s.discs ∧ t.staging = s.staging ∧
      t.governor = s.governor ∧ t.verify = s.verify ∧ t.labels = s.labels ∧ t.settings = s.settings ∧
      t.now = s.now ∧ t.pending = s.pending := by
  unfold execDoorOpen at h
  (try dsimp only at h)
  (repeat' split at h) <;> (injection h with h; subst h) <;> (try simp) <;> (repeat' split) <;> (try simp) <;> (repeat' split) <;> simp

/-- What `execDoorClose` leaves alone. -/
theorem execDoorClose_frame {t : State} (s : State) (h : execDoorClose s = .next t) :
    t.link = s.link ∧ t.jobs = s.jobs ∧ t.discs = s.discs ∧ t.staging = s.staging ∧
      t.bays = s.bays ∧ t.governor = s.governor ∧ t.verify = s.verify ∧ t.labels = s.labels ∧
      t.printer = s.printer ∧ t.settings = s.settings ∧ t.now = s.now ∧ t.pending = s.pending := by
  unfold execDoorClose at h
  (try dsimp only at h)
  (repeat' split at h) <;> (injection h with h; subst h) <;> (try simp) <;> (repeat' split) <;> (try simp) <;> (repeat' split) <;> simp

/-- What `execSpindleSensorChange` leaves alone. -/
theorem execSpindleSensorChange_frame {t : State} (spindle : SpindleId) (empty : Bool) (s : State) (h : execSpindleSensorChange spindle empty s = .next t) :
    t.link = s.link ∧ t.jobs = s.jobs ∧ t.discs = s.discs ∧ t.staging = s.staging ∧
      t.bays = s.bays ∧ t.governor = s.governor ∧ t.verify = s.verify ∧ t.labels = s.labels ∧
      t.printer = s.printer ∧ t.settings = s.settings ∧ t.now = s.now ∧ t.pending = s.pending := by
  unfold execSpindleSensorChange at h
  (try dsimp only at h)
  (repeat' split at h) <;> (injection h with h; subst h) <;> (try simp) <;> (repeat' split) <;> (try simp) <;> (repeat' split) <;> simp

/-- What `execBinFullSensorChange` leaves alone. -/
theorem execBinFullSensorChange_frame {t : State} (bin : BinId) (full : Bool) (s : State) (h : execBinFullSensorChange bin full s = .next t) :
    t.link = s.link ∧ t.jobs = s.jobs ∧ t.discs = s.discs ∧ t.staging = s.staging ∧
      t.bays = s.bays ∧ t.governor = s.governor ∧ t.verify = s.verify ∧ t.trans = s.trans ∧
      t.labels = s.labels ∧ t.printer = s.printer ∧ t.settings = s.settings ∧ t.now = s.now ∧
      t.dispatchWanted = s.dispatchWanted ∧ t.pending = s.pending := by
  unfold execBinFullSensorChange at h
  (try dsimp only at h)
  (repeat' split at h) <;> (injection h with h; subst h) <;> (try simp) <;> (repeat' split) <;> (try simp) <;> (repeat' split) <;> simp

end Sys2Proof.Machine
end

