-- ==== Sys2Proof/Laws/Capacities.lean ====
section
/-! SUPPORT. The capacities of the Disc Table: what each operation makes of its lists (01 section 1.1, R8). -/

set_option linter.unusedTactic false
set_option linter.unreachableTactic false
set_option linter.unnecessarySeqFocus false
set_option linter.unusedSimpArgs false

namespace Sys2Proof.Machine

/-- The Disc Table's lists and its dropped count are within their capacities. -/
def DiscTable.within (t : DiscTable) : Prop :=
  t.records.length ≤ Config.discRecords ∧ t.completions.length ≤ Config.completionEntries ∧
    t.dropped ≤ Config.max16

theorem satInc_le {limit n : Nat} (_h : n ≤ limit) : satInc limit n ≤ limit := by
  unfold satInc; split <;> omega

/-! ## The table's own operations -/

theorem DiscTable.create_within {t : DiscTable} (d : Disc) (h : t.within) (hf : 0 < t.free) : (t.create d).within := by
  obtain ⟨a, b, c⟩ := h
  refine ⟨?_, b, c⟩
  simp [DiscTable.free] at hf
  simp [DiscTable.create]; omega

theorem DiscTable.append_within {t : DiscTable} (e : Completion) (h : t.within) : (t.append e).within := by
  obtain ⟨a, b, c⟩ := h
  unfold DiscTable.append
  split
  · exact ⟨a, by simp; omega, c⟩
  · refine ⟨a, ?_, satInc_le c⟩
    simp only [Config.completionEntries] at *
    simp; omega

@[simp] theorem State.modDisc_within {s : State} (n : Nat) (f : Disc → Disc) (h : s.discs.within) :
    (s.modDisc n f).discs.within := by
  obtain ⟨a, b, c⟩ := h
  exact ⟨by simpa [State.modDisc] using a, b, c⟩

@[simp] theorem State.setGood_within {s : State} (n : Nat) (h : s.discs.within) : (s.setGood n).discs.within :=
  State.modDisc_within _ _ h

@[simp] theorem State.setReject_within {s : State} (n : Nat) (r : RejectReason) (h : s.discs.within) :
    (s.setReject n r).discs.within := State.modDisc_within _ _ h

@[simp] theorem State.setToOut_within {s : State} (n : Nat) (h : s.discs.within) : (s.setToOut n).discs.within :=
  State.modDisc_within _ _ h

@[simp] theorem State.moveDisc_within {s : State} (n : Nat) (at_ : Station) (st : DiscStage) (h : s.discs.within) :
    (s.moveDisc n at_ st).discs.within := State.modDisc_within _ _ h

@[simp] theorem State.freeRecord_within {s : State} (n : Nat) (h : s.discs.within) :
    (s.freeRecord n).discs.within := by
  obtain ⟨a, b, c⟩ := h
  unfold State.freeRecord
  simp only [State.drainTest_frame]
  exact ⟨le_trans (List.length_filter_le ..) a, b, c⟩

@[simp] theorem State.askOrphan_within {s : State} (w : OrphanAt) (h : s.discs.within) :
    (s.askOrphan w).1.discs.within := by
  unfold State.askOrphan
  split
  · exact h
  · refine DiscTable.create_within _ h ?_
    rename_i g; simp at g; omega

@[simp] theorem State.deleteRecord_within {s : State} (n : Nat) (h : s.discs.within) :
    (s.deleteRecord n).discs.within := by
  unfold State.deleteRecord
  (repeat' split) <;> simp [h] <;> (apply State.freeRecord_within; split <;> simp [h])

@[simp] theorem State.retire_within {s : State} (n : Nat) (at_ : BinId) (h : s.discs.within) :
    (s.retire n at_).discs.within := by
  unfold State.retire
  split
  · exact h
  · rename_i d _
    have g := DiscTable.append_within (d.completion ((s.jobOf d).map Job.number) (d.retiredAs at_)) h
    dsimp only
    split <;> split <;> simp only [State.raise_frame, State.latch_frame] <;> apply State.freeRecord_within <;>
      simpa using g

@[simp] theorem State.createDispatch_within {s : State} (slot : JobSlot) (i : SpindleId) (b : BayId)
    (h : s.discs.within) (hf : 0 < s.discs.free) : (s.createDispatch slot i b).discs.within := by
  unfold State.createDispatch
  simp only [State.countJob_frame]
  exact DiscTable.create_within _ h hf

/-- A job is chosen only while a disc record is free (R20 condition 6). -/
theorem State.chooseFrom_free {s : State} {l : List JobSlot} {r : JobSlot × Job × SpindleId}
    (h : s.chooseFrom l = some r) : 0 < s.discs.free := by
  induction l with
  | nil => simp [State.chooseFrom] at h
  | cons k l ih =>
    unfold State.chooseFrom at h
    split at h
    · exact ih h
    · split at h
      · exact ih h
      · rename_i j _ _ i hi
        unfold State.eligible at hi
        split at hi
        · rename_i g; exact g.2.2.2.2.1
        · cases hi

@[simp] theorem State.postMove_within {s : State} (r : MoveReq) (h : s.discs.within) :
    (s.postMove r).discs.within := by
  unfold State.postMove
  split
  · exact State.setToOut_within _ (by simpa using h)
  · simpa using h

@[simp] theorem State.dispatch_within {s : State} (b : BayId) (slot : JobSlot) (j : Job) (i : SpindleId)
    (h : s.discs.within) (hf : 0 < s.discs.free) : (s.dispatch b slot j i).discs.within := by
  unfold State.dispatch
  simp only [State.modBay_frame]
  exact State.postMove_within _ (State.createDispatch_within _ _ _ h hf)

@[simp] theorem State.dispatchBay_within {s : State} (b : BayId) (h : s.discs.within) :
    (s.dispatchBay b).discs.within := by
  unfold State.dispatchBay
  split
  · split
    · rename_i g; exact State.dispatch_within _ _ _ _ h (State.chooseFrom_free g)
    · exact h
  · exact h

/-- A fold keeps what each of its steps keeps. -/
theorem foldl_keeps {α : Type} (p : State → Prop) (f : State → α → State) (g : ∀ s a, p s → p (f s a))
    (l : List α) (s : State) (h : p s) : p (l.foldl f s) := by
  induction l generalizing s with
  | nil => exact h
  | cons a r ih => exact ih _ (g _ _ h)

@[simp] theorem State.postWaiting_within {s : State} (h : s.discs.within) : s.postWaiting.discs.within :=
  foldl_keeps (fun s => s.discs.within) _ (fun _ _ => State.postMove_within _) _ _ h

@[simp] theorem State.dispatchAll_within {s : State} (h : s.discs.within) : s.dispatchAll.discs.within := by
  unfold State.dispatchAll
  exact foldl_keeps (fun s => s.discs.within) _ (fun _ _ => State.dispatchBay_within _) _ _ h

@[simp] theorem State.postUnload_within {s : State} (b : BayId) (n : Nat) (dest : Station) (h : s.discs.within) :
    (s.postUnload b n dest).discs.within := by
  unfold State.postUnload
  split
  · exact State.postMove_within _ h
  · rename_i g
    refine State.postMove_within _ (State.createDispatch_within _ _ _ h ?_)
    unfold State.swapJob at g
    split at g
    · split at g
      · rename_i e; exact State.chooseFrom_free e
      · cases g
    · cases g

/-! ## Operations that reach the table through those above -/

@[simp] theorem State.enterAwaitUnload_within {s : State} (b : BayId) (n : Nat) (h : s.discs.within) :
    (State.enterAwaitUnload s b n).discs.within := by
  unfold State.enterAwaitUnload
  (repeat' split) <;> (try simp (maxDischargeDepth := 9) [h]) <;> (repeat' split) <;> (try simp (maxDischargeDepth := 9) [h]) <;> (repeat' split) <;> simp (maxDischargeDepth := 9) [h]

@[simp] theorem State.bayReject_within {s : State} (b : BayId) (why : RejectReason) (h : s.discs.within) :
    (State.bayReject s b why).discs.within := by
  unfold State.bayReject
  (repeat' split) <;> (try simp (maxDischargeDepth := 9) [h]) <;> (repeat' split) <;> (try simp (maxDischargeDepth := 9) [h]) <;> (repeat' split) <;> simp (maxDischargeDepth := 9) [h]

@[simp] theorem State.ranDry_within {s : State} (b : BayId) (h : s.discs.within) :
    (State.ranDry s b).discs.within := by
  unfold State.ranDry
  (repeat' split) <;> (try simp (maxDischargeDepth := 9) [h]) <;> (repeat' split) <;> (try simp (maxDischargeDepth := 9) [h]) <;> (repeat' split) <;> simp (maxDischargeDepth := 9) [h]

@[simp] theorem State.identified_within {s : State} (b : BayId) (n : Nat) (f : DriveFacts) (h : s.discs.within) :
    (State.identified s b n f).discs.within := by
  unfold State.identified
  (repeat' split) <;> (try simp (maxDischargeDepth := 9) [h]) <;> (repeat' split) <;> (try simp (maxDischargeDepth := 9) [h]) <;> (repeat' split) <;> simp (maxDischargeDepth := 9) [h]

@[simp] theorem State.bayTakesOrphan_within {s : State} (b : BayId) (n : Nat) (h : s.discs.within) :
    (State.bayTakesOrphan s b n).discs.within := by
  unfold State.bayTakesOrphan
  (repeat' split) <;> (try simp (maxDischargeDepth := 9) [h]) <;> (repeat' split) <;> (try simp (maxDischargeDepth := 9) [h]) <;> (repeat' split) <;> simp (maxDischargeDepth := 9) [h]

@[simp] theorem State.surveyFoundDisc_within {s : State} (b : BayId) (h : s.discs.within) :
    (State.surveyFoundDisc s b).discs.within := by
  unfold State.surveyFoundDisc
  (repeat' split) <;> (try simp (maxDischargeDepth := 9) [h]) <;> (repeat' split) <;> (try simp (maxDischargeDepth := 9) [h]) <;> (repeat' split) <;> simp (maxDischargeDepth := 9) [h]

@[simp] theorem State.lostDisc_within {s : State} (n : Nat) (h : s.discs.within) :
    (State.lostDisc s n).discs.within := by
  unfold State.lostDisc
  (repeat' split) <;> (try simp (maxDischargeDepth := 9) [h]) <;> (repeat' split) <;> (try simp (maxDischargeDepth := 9) [h]) <;> (repeat' split) <;> simp (maxDischargeDepth := 9) [h]

@[simp] theorem State.surveyFoundNone_within {s : State} (b : BayId) (h : s.discs.within) :
    (State.surveyFoundNone s b).discs.within := by
  unfold State.surveyFoundNone
  (repeat' split) <;> (try simp (maxDischargeDepth := 9) [h]) <;> (repeat' split) <;> (try simp (maxDischargeDepth := 9) [h]) <;> (repeat' split) <;> simp (maxDischargeDepth := 9) [h]

@[simp] theorem State.postTrayMove_within {s : State} (p : Printer) (kind : MoveKind) (n : Nat) (dest : Station) (h : s.discs.within) :
    (State.postTrayMove s p kind n dest).discs.within := by
  unfold State.postTrayMove
  (repeat' split) <;> (try simp (maxDischargeDepth := 9) [h]) <;> (repeat' split) <;> (try simp (maxDischargeDepth := 9) [h]) <;> (repeat' split) <;> simp (maxDischargeDepth := 9) [h]

@[simp] theorem State.printEnd_within {s : State} (p : Printer) (h : s.discs.within) :
    (State.printEnd s p).discs.within := by
  unfold State.printEnd
  (repeat' split) <;> (try simp (maxDischargeDepth := 9) [h]) <;> (repeat' split) <;> (try simp (maxDischargeDepth := 9) [h]) <;> (repeat' split) <;> simp (maxDischargeDepth := 9) [h]

@[simp] theorem State.linePrinted_within {s : State} (p : Printer) (r : Print) (l : Label) (h : s.discs.within) :
    (State.linePrinted s p r l).discs.within := by
  unfold State.linePrinted
  (repeat' split) <;> (try simp (maxDischargeDepth := 9) [h]) <;> (repeat' split) <;> (try simp (maxDischargeDepth := 9) [h]) <;> (repeat' split) <;> simp (maxDischargeDepth := 9) [h]

@[simp] theorem State.printSpoiled_within {s : State} (p : Printer) (n : Nat) (h : s.discs.within) :
    (State.printSpoiled s p n).discs.within := by
  unfold State.printSpoiled
  (repeat' split) <;> (try simp (maxDischargeDepth := 9) [h]) <;> (repeat' split) <;> (try simp (maxDischargeDepth := 9) [h]) <;> (repeat' split) <;> simp (maxDischargeDepth := 9) [h]

@[simp] theorem State.printerFaultEntry_within {s : State} (p : Printer) (h : s.discs.within) :
    (State.printerFaultEntry s p).discs.within := by
  unfold State.printerFaultEntry
  (repeat' split) <;> (try simp (maxDischargeDepth := 9) [h]) <;> (repeat' split) <;> (try simp (maxDischargeDepth := 9) [h]) <;> (repeat' split) <;> simp (maxDischargeDepth := 9) [h]

@[simp] theorem State.printerAccept_within {s : State} (n : Nat) (h : s.discs.within) :
    (State.printerAccept s n).discs.within := by
  unfold State.printerAccept
  (repeat' split) <;> (try simp (maxDischargeDepth := 9) [h]) <;> (repeat' split) <;> (try simp (maxDischargeDepth := 9) [h]) <;> (repeat' split) <;> simp (maxDischargeDepth := 9) [h]

@[simp] theorem State.printerTakesOrphan_within {s : State} (n : Nat) (h : s.discs.within) :
    (State.printerTakesOrphan s n).discs.within := by
  unfold State.printerTakesOrphan
  (repeat' split) <;> (try simp (maxDischargeDepth := 9) [h]) <;> (repeat' split) <;> (try simp (maxDischargeDepth := 9) [h]) <;> (repeat' split) <;> simp (maxDischargeDepth := 9) [h]

@[simp] theorem State.surveyPrinter_within {s : State}  (h : s.discs.within) :
    (State.surveyPrinter s).discs.within := by
  unfold State.surveyPrinter
  (repeat' split) <;> (try simp (maxDischargeDepth := 9) [h]) <;> (repeat' split) <;> (try simp (maxDischargeDepth := 9) [h]) <;> (repeat' split) <;> simp (maxDischargeDepth := 9) [h]

@[simp] theorem State.dropCurrent_within {s : State}  (h : s.discs.within) :
    (State.dropCurrent s).discs.within := by
  unfold State.dropCurrent
  (repeat' split) <;> (try simp (maxDischargeDepth := 9) [h]) <;> (repeat' split) <;> (try simp (maxDischargeDepth := 9) [h]) <;> (repeat' split) <;> simp (maxDischargeDepth := 9) [h]

@[simp] theorem State.moveDone_within {s : State}  (h : s.discs.within) :
    (State.moveDone s).discs.within := by
  unfold State.moveDone
  (repeat' split) <;> (try simp (maxDischargeDepth := 9) [h]) <;> (repeat' split) <;> (try simp (maxDischargeDepth := 9) [h]) <;> (repeat' split) <;> simp (maxDischargeDepth := 9) [h]

@[simp] theorem State.legDone_within {s : State}  (h : s.discs.within) :
    (State.legDone s).discs.within := by
  unfold State.legDone
  (repeat' split) <;> (try simp (maxDischargeDepth := 9) [h]) <;> (repeat' split) <;> (try simp (maxDischargeDepth := 9) [h]) <;> (repeat' split) <;> simp (maxDischargeDepth := 9) [h]

@[simp] theorem State.secondBecomesLoad_within {s : State} (second : Option SecondLeg) (h : s.discs.within) :
    (State.secondBecomesLoad s second).discs.within := by
  unfold State.secondBecomesLoad
  (repeat' split) <;> (try simp (maxDischargeDepth := 9) [h]) <;> (repeat' split) <;> (try simp (maxDischargeDepth := 9) [h]) <;> (repeat' split) <;> simp (maxDischargeDepth := 9) [h]

@[simp] theorem State.pickFailed_within {s : State} (b : Option BayId) (n : Nat) (h : s.discs.within) :
    (State.pickFailed s b n).discs.within := by
  unfold State.pickFailed
  (repeat' split) <;> (try simp (maxDischargeDepth := 9) [h]) <;> (repeat' split) <;> (try simp (maxDischargeDepth := 9) [h]) <;> (repeat' split) <;> simp (maxDischargeDepth := 9) [h]

@[simp] theorem State.retriesSpent_within {s : State} (r : MoveReq) (source : Station) (n : Nat) (b : Option BayId) (h : s.discs.within) :
    (State.retriesSpent s r source n b).discs.within := by
  unfold State.retriesSpent
  (repeat' split) <;> (try simp (maxDischargeDepth := 9) [h]) <;> (repeat' split) <;> (try simp (maxDischargeDepth := 9) [h]) <;> (repeat' split) <;> simp (maxDischargeDepth := 9) [h]

@[simp] theorem State.forcedRelease_within {s : State}  (h : s.discs.within) :
    (State.forcedRelease s).discs.within := by
  unfold State.forcedRelease
  (repeat' split) <;> (try simp (maxDischargeDepth := 9) [h]) <;> (repeat' split) <;> (try simp (maxDischargeDepth := 9) [h]) <;> (repeat' split) <;> simp (maxDischargeDepth := 9) [h]

@[simp] theorem State.foundEmpty_within {s : State} (r : MoveReq) (i : SpindleId) (h : s.discs.within) :
    (State.foundEmpty s r i).discs.within := by
  unfold State.foundEmpty
  (repeat' split) <;> (try simp (maxDischargeDepth := 9) [h]) <;> (repeat' split) <;> (try simp (maxDischargeDepth := 9) [h]) <;> (repeat' split) <;> simp (maxDischargeDepth := 9) [h]

@[simp] theorem State.divert_within {s : State} (r : MoveReq) (h : s.discs.within) :
    (State.divert s r).discs.within := by
  unfold State.divert
  (repeat' split) <;> (try simp (maxDischargeDepth := 9) [h]) <;> (repeat' split) <;> (try simp (maxDischargeDepth := 9) [h]) <;> (repeat' split) <;> simp (maxDischargeDepth := 9) [h]

@[simp] theorem State.destFailure_within {s : State}  (h : s.discs.within) :
    (State.destFailure s).discs.within := by
  unfold State.destFailure
  (repeat' split) <;> (try simp (maxDischargeDepth := 9) [h]) <;> (repeat' split) <;> (try simp (maxDischargeDepth := 9) [h]) <;> (repeat' split) <;> simp (maxDischargeDepth := 9) [h]

@[simp] theorem State.retakeFailed_within {s : State} (r : MoveReq) (h : s.discs.within) :
    (State.retakeFailed s r).discs.within := by
  unfold State.retakeFailed
  (repeat' split) <;> (try simp (maxDischargeDepth := 9) [h]) <;> (repeat' split) <;> (try simp (maxDischargeDepth := 9) [h]) <;> (repeat' split) <;> simp (maxDischargeDepth := 9) [h]

@[simp] theorem State.armFaultEntry_within {s : State} (why : FaultCause) (h : s.discs.within) :
    (State.armFaultEntry s why).discs.within := by
  unfold State.armFaultEntry
  (repeat' split) <;> (try simp (maxDischargeDepth := 9) [h]) <;> (repeat' split) <;> (try simp (maxDischargeDepth := 9) [h]) <;> (repeat' split) <;> simp (maxDischargeDepth := 9) [h]

@[simp] theorem State.clearArm_within {s : State} (n : Nat) (h : s.discs.within) :
    (State.clearArm s n).discs.within := by
  unfold State.clearArm
  (repeat' split) <;> (try simp (maxDischargeDepth := 9) [h]) <;> (repeat' split) <;> (try simp (maxDischargeDepth := 9) [h]) <;> (repeat' split) <;> simp (maxDischargeDepth := 9) [h]

@[simp] theorem State.homingClear_within {s : State}  (h : s.discs.within) :
    (State.homingClear s).discs.within := by
  unfold State.homingClear
  (repeat' split) <;> (try simp (maxDischargeDepth := 9) [h]) <;> (repeat' split) <;> (try simp (maxDischargeDepth := 9) [h]) <;> (repeat' split) <;> simp (maxDischargeDepth := 9) [h]

@[simp] theorem State.dropStuck_within {s : State} (second : Option SecondLeg) (n : Nat) (h : s.discs.within) :
    (State.dropStuck s second n).discs.within := by
  unfold State.dropStuck
  (repeat' split) <;> (try simp (maxDischargeDepth := 9) [h]) <;> (repeat' split) <;> (try simp (maxDischargeDepth := 9) [h]) <;> (repeat' split) <;> simp (maxDischargeDepth := 9) [h]

@[simp] theorem State.dropFailure_within {s : State} (r : MoveReq) (at_ : BinId) (h : s.discs.within) :
    (State.dropFailure s r at_).discs.within := by
  unfold State.dropFailure
  (repeat' split) <;> (try simp (maxDischargeDepth := 9) [h]) <;> (repeat' split) <;> (try simp (maxDischargeDepth := 9) [h]) <;> (repeat' split) <;> simp (maxDischargeDepth := 9) [h]

@[simp] theorem State.homingDropFailure_within {s : State}  (h : s.discs.within) :
    (State.homingDropFailure s).discs.within := by
  unfold State.homingDropFailure
  (repeat' split) <;> (try simp (maxDischargeDepth := 9) [h]) <;> (repeat' split) <;> (try simp (maxDischargeDepth := 9) [h]) <;> (repeat' split) <;> simp (maxDischargeDepth := 9) [h]

@[simp] theorem State.withdrawCurrent_within {s : State} (r : MoveReq) (h : s.discs.within) :
    (State.withdrawCurrent s r).discs.within := by
  unfold State.withdrawCurrent
  (repeat' split) <;> (try simp (maxDischargeDepth := 9) [h]) <;> (repeat' split) <;> (try simp (maxDischargeDepth := 9) [h]) <;> (repeat' split) <;> simp (maxDischargeDepth := 9) [h]

@[simp] theorem State.withdraw_within {s : State} (n : Nat) (h : s.discs.within) :
    (State.withdraw s n).discs.within := by
  unfold State.withdraw
  (repeat' split) <;> (try simp (maxDischargeDepth := 9) [h]) <;> (repeat' split) <;> (try simp (maxDischargeDepth := 9) [h]) <;> (repeat' split) <;> simp (maxDischargeDepth := 9) [h]

@[simp] theorem State.changeDest_within {s : State} (n : Nat) (h : s.discs.within) :
    (State.changeDest s n).discs.within := by
  unfold State.changeDest
  (repeat' split) <;> (try simp (maxDischargeDepth := 9) [h]) <;> (repeat' split) <;> (try simp (maxDischargeDepth := 9) [h]) <;> (repeat' split) <;> simp (maxDischargeDepth := 9) [h]

@[simp] theorem State.cancelCarried_within {s : State} (n : Nat) (h : s.discs.within) :
    (State.cancelCarried s n).discs.within := by
  unfold State.cancelCarried
  (repeat' split) <;> (try simp (maxDischargeDepth := 9) [h]) <;> (repeat' split) <;> (try simp (maxDischargeDepth := 9) [h]) <;> (repeat' split) <;> simp (maxDischargeDepth := 9) [h]

@[simp] theorem State.doublePick_within {s : State} (r : MoveReq) (n : Nat) (h : s.discs.within) :
    (State.doublePick s r n).discs.within := by
  unfold State.doublePick
  (repeat' split) <;> (try simp (maxDischargeDepth := 9) [h]) <;> (repeat' split) <;> (try simp (maxDischargeDepth := 9) [h]) <;> (repeat' split) <;> simp (maxDischargeDepth := 9) [h]

@[simp] theorem State.pickDone_within {s : State} (r : MoveReq) (two : Bool) (h : s.discs.within) :
    (State.pickDone s r two).discs.within := by
  unfold State.pickDone
  (repeat' split) <;> (try simp (maxDischargeDepth := 9) [h]) <;> (repeat' split) <;> (try simp (maxDischargeDepth := 9) [h]) <;> (repeat' split) <;> simp (maxDischargeDepth := 9) [h]

@[simp] theorem State.retaken_within {s : State} (r : MoveReq) (h : s.discs.within) :
    (State.retaken s r).discs.within := by
  unfold State.retaken
  (repeat' split) <;> (try simp (maxDischargeDepth := 9) [h]) <;> (repeat' split) <;> (try simp (maxDischargeDepth := 9) [h]) <;> (repeat' split) <;> simp (maxDischargeDepth := 9) [h]

@[simp] theorem State.accepted_within {s : State} (n : Nat) (at_ : Station) (st : DiscStage) (h : s.discs.within) :
    (State.accepted s n at_ st).discs.within := by
  unfold State.accepted
  (repeat' split) <;> (try simp (maxDischargeDepth := 9) [h]) <;> (repeat' split) <;> (try simp (maxDischargeDepth := 9) [h]) <;> (repeat' split) <;> simp (maxDischargeDepth := 9) [h]

@[simp] theorem State.cancelQueued_within {s : State} (d : Disc) (h : s.discs.within) :
    (State.cancelQueued s d).discs.within := by
  unfold State.cancelQueued
  (repeat' split) <;> (try simp (maxDischargeDepth := 9) [h]) <;> (repeat' split) <;> (try simp (maxDischargeDepth := 9) [h]) <;> (repeat' split) <;> simp (maxDischargeDepth := 9) [h]

@[simp] theorem State.cancelOnArm_within {s : State} (d : Disc) (h : s.discs.within) :
    (State.cancelOnArm s d).discs.within := by
  unfold State.cancelOnArm
  (repeat' split) <;> (try simp (maxDischargeDepth := 9) [h]) <;> (repeat' split) <;> (try simp (maxDischargeDepth := 9) [h]) <;> (repeat' split) <;> simp (maxDischargeDepth := 9) [h]

@[simp] theorem State.cancelInBay_within {s : State} (d : Disc) (b : BayId) (h : s.discs.within) :
    (State.cancelInBay s d b).discs.within := by
  unfold State.cancelInBay
  (repeat' split) <;> (try simp (maxDischargeDepth := 9) [h]) <;> (repeat' split) <;> (try simp (maxDischargeDepth := 9) [h]) <;> (repeat' split) <;> simp (maxDischargeDepth := 9) [h]

@[simp] theorem State.cancelInPrinter_within {s : State} (d : Disc) (h : s.discs.within) :
    (State.cancelInPrinter s d).discs.within := by
  unfold State.cancelInPrinter
  (repeat' split) <;> (try simp (maxDischargeDepth := 9) [h]) <;> (repeat' split) <;> (try simp (maxDischargeDepth := 9) [h]) <;> (repeat' split) <;> simp (maxDischargeDepth := 9) [h]

@[simp] theorem State.cancelDisc_within {s : State} (d : Disc) (h : s.discs.within) :
    (State.cancelDisc s d).discs.within := by
  unfold State.cancelDisc
  (repeat' split) <;> (try simp (maxDischargeDepth := 9) [h]) <;> (repeat' split) <;> (try simp (maxDischargeDepth := 9) [h]) <;> (repeat' split) <;> simp (maxDischargeDepth := 9) [h]

@[simp] theorem State.cancelJob_within {s : State} (slot : JobSlot) (j : Job) (h : s.discs.within) :
    (s.cancelJob slot j).discs.within := by
  unfold State.cancelJob
  simp only [State.countJob_frame]
  exact foldl_keeps (fun s => s.discs.within) _ (fun _ _ => State.cancelDisc_within _) _ _ (by simpa using h)

@[simp] theorem State.surveyArm_within {s : State}  (h : s.discs.within) :
    (State.surveyArm s).discs.within := by
  unfold State.surveyArm
  (repeat' split) <;> (try simp (maxDischargeDepth := 9) [h]) <;> (repeat' split) <;> (try simp (maxDischargeDepth := 9) [h]) <;> (repeat' split) <;> simp (maxDischargeDepth := 9) [h]

@[simp] theorem State.beginInventory_within {s : State}  (h : s.discs.within) :
    (State.beginInventory s).discs.within := by
  unfold State.beginInventory
  (repeat' split) <;> (try simp (maxDischargeDepth := 9) [h]) <;> (repeat' split) <;> (try simp (maxDischargeDepth := 9) [h]) <;> (repeat' split) <;> simp (maxDischargeDepth := 9) [h]

@[simp] theorem State.resumePrinter_within {s : State} (p : Printer) (h : s.discs.within) :
    (State.resumePrinter s p).discs.within := by
  unfold State.resumePrinter
  (repeat' split) <;> (try simp (maxDischargeDepth := 9) [h]) <;> (repeat' split) <;> (try simp (maxDischargeDepth := 9) [h]) <;> (repeat' split) <;> simp (maxDischargeDepth := 9) [h]

@[simp] theorem State.readingTaken_within {s : State}  (h : s.discs.within) :
    (State.readingTaken s).discs.within := by
  unfold State.readingTaken
  (repeat' split) <;> (try simp (maxDischargeDepth := 9) [h]) <;> (repeat' split) <;> (try simp (maxDischargeDepth := 9) [h]) <;> (repeat' split) <;> simp (maxDischargeDepth := 9) [h]

@[simp] theorem State.orphanGiven_within {s : State} (w : OrphanAt) (n : Nat) (h : s.discs.within) :
    (State.orphanGiven s w n).discs.within := by
  unfold State.orphanGiven
  (repeat' split) <;> (try simp (maxDischargeDepth := 9) [h]) <;> (repeat' split) <;> (try simp (maxDischargeDepth := 9) [h]) <;> (repeat' split) <;> simp (maxDischargeDepth := 9) [h]

@[simp] theorem State.grantOrphan_within {s : State} (h : s.discs.within) : s.grantOrphan.discs.within := by
  unfold State.grantOrphan
  split
  · exact h
  · split
    · exact h
    · refine State.orphanGiven_within _ _ (DiscTable.create_within _ h ?_)
      rename_i g; change 0 < s.discs.free; omega

@[simp] theorem State.identResult_within {s : State} (b : BayId) (kind : CompletionKind) (facts : DriveFacts) (h : s.discs.within) :
    (State.identResult s b kind facts).discs.within := by
  unfold State.identResult
  (repeat' split) <;> (try simp (maxDischargeDepth := 9) [h]) <;> (repeat' split) <;> (try simp (maxDischargeDepth := 9) [h]) <;> (repeat' split) <;> simp (maxDischargeDepth := 9) [h]

@[simp] theorem State.modDiscOf_within {s : State} (b : BayId) (f : Disc → Disc) (h : s.discs.within) :
    (State.modDiscOf s b f).discs.within := by
  unfold State.modDiscOf
  (repeat' split) <;> (try simp (maxDischargeDepth := 9) [h]) <;> (repeat' split) <;> (try simp (maxDischargeDepth := 9) [h]) <;> (repeat' split) <;> simp (maxDischargeDepth := 9) [h]

@[simp] theorem State.surveyResult_within {s : State} (b : BayId) (kind : CompletionKind) (facts : DriveFacts) (h : s.discs.within) :
    (State.surveyResult s b kind facts).discs.within := by
  unfold State.surveyResult
  (repeat' split) <;> (try simp (maxDischargeDepth := 9) [h]) <;> (repeat' split) <;> (try simp (maxDischargeDepth := 9) [h]) <;> (repeat' split) <;> simp (maxDischargeDepth := 9) [h]

@[simp] theorem State.speedOk_within {s : State} (b : BayId) (a : Burn) (step : Nat) (h : s.discs.within) :
    (State.speedOk s b a step).discs.within := by
  unfold State.speedOk
  (repeat' split) <;> (try simp (maxDischargeDepth := 9) [h]) <;> (repeat' split) <;> (try simp (maxDischargeDepth := 9) [h]) <;> (repeat' split) <;> simp (maxDischargeDepth := 9) [h]

@[simp] theorem State.closed_within {s : State} (b : BayId) (h : s.discs.within) :
    (State.closed s b).discs.within := by
  unfold State.closed
  (repeat' split) <;> (try simp (maxDischargeDepth := 9) [h]) <;> (repeat' split) <;> (try simp (maxDischargeDepth := 9) [h]) <;> (repeat' split) <;> simp (maxDischargeDepth := 9) [h]

@[simp] theorem State.verifySucceeds_within {s : State} (b : BayId) (n : Nat) (h : s.discs.within) :
    (State.verifySucceeds s b n).discs.within := by
  unfold State.verifySucceeds
  (repeat' split) <;> (try simp (maxDischargeDepth := 9) [h]) <;> (repeat' split) <;> (try simp (maxDischargeDepth := 9) [h]) <;> (repeat' split) <;> simp (maxDischargeDepth := 9) [h]

@[simp] theorem State.verifyFails_within {s : State} (b : BayId) (why : RejectReason) (h : s.discs.within) :
    (State.verifyFails s b why).discs.within := by
  unfold State.verifyFails
  (repeat' split) <;> (try simp (maxDischargeDepth := 9) [h]) <;> (repeat' split) <;> (try simp (maxDischargeDepth := 9) [h]) <;> (repeat' split) <;> simp (maxDischargeDepth := 9) [h]

@[simp] theorem State.chunkHandled_within {s : State} (b : BayId) (l : LaneId) (y : Lane) (good : Bool) (h : s.discs.within) :
    (State.chunkHandled s b l y good).discs.within := by
  unfold State.chunkHandled
  (repeat' split) <;> (try simp (maxDischargeDepth := 9) [h]) <;> (repeat' split) <;> (try simp (maxDischargeDepth := 9) [h]) <;> (repeat' split) <;> simp (maxDischargeDepth := 9) [h]

@[simp] theorem State.readOk_within {s : State} (b : BayId) (l : LaneId) (y : Lane) (index : Nat) (data : List Byte) (h : s.discs.within) :
    (State.readOk s b l y index data).discs.within := by
  unfold State.readOk
  (repeat' split) <;> (try simp (maxDischargeDepth := 9) [h]) <;> (repeat' split) <;> (try simp (maxDischargeDepth := 9) [h]) <;> (repeat' split) <;> simp (maxDischargeDepth := 9) [h]

@[simp] theorem State.workTimedOut_within {s : State} (b : BayId) (h : s.discs.within) :
    (State.workTimedOut s b).discs.within := by
  unfold State.workTimedOut
  (repeat' split) <;> (try simp (maxDischargeDepth := 9) [h]) <;> (repeat' split) <;> (try simp (maxDischargeDepth := 9) [h]) <;> (repeat' split) <;> simp (maxDischargeDepth := 9) [h]

@[simp] theorem State.identTimedOut_within {s : State} (b : BayId) (h : s.discs.within) :
    (State.identTimedOut s b).discs.within := by
  unfold State.identTimedOut
  (repeat' split) <;> (try simp (maxDischargeDepth := 9) [h]) <;> (repeat' split) <;> (try simp (maxDischargeDepth := 9) [h]) <;> (repeat' split) <;> simp (maxDischargeDepth := 9) [h]

@[simp] theorem State.trayFailed_within {s : State} (b : BayId) (h : s.discs.within) :
    (State.trayFailed s b).discs.within := by
  unfold State.trayFailed
  (repeat' split) <;> (try simp (maxDischargeDepth := 9) [h]) <;> (repeat' split) <;> (try simp (maxDischargeDepth := 9) [h]) <;> (repeat' split) <;> simp (maxDischargeDepth := 9) [h]

@[simp] theorem State.bayAccepts_within {s : State} (b : BayId) (h : s.discs.within) :
    (State.bayAccepts s b).discs.within := by
  unfold State.bayAccepts
  (repeat' split) <;> (try simp (maxDischargeDepth := 9) [h]) <;> (repeat' split) <;> (try simp (maxDischargeDepth := 9) [h]) <;> (repeat' split) <;> simp (maxDischargeDepth := 9) [h]

@[simp] theorem State.atSource_within {s : State} (r : MoveReq) (seen : Bool) (h : s.discs.within) :
    (State.atSource s r seen).discs.within := by
  unfold State.atSource
  (repeat' split) <;> (try simp (maxDischargeDepth := 9) [h]) <;> (repeat' split) <;> (try simp (maxDischargeDepth := 9) [h]) <;> (repeat' split) <;> simp (maxDischargeDepth := 9) [h]

@[simp] theorem State.dropped_within {s : State} (r : MoveReq) (at_ : BinId) (h : s.discs.within) :
    (State.dropped s r at_).discs.within := by
  unfold State.dropped
  (repeat' split) <;> (try simp (maxDischargeDepth := 9) [h]) <;> (repeat' split) <;> (try simp (maxDischargeDepth := 9) [h]) <;> (repeat' split) <;> simp (maxDischargeDepth := 9) [h]

@[simp] theorem State.homingDropped_within {s : State}  (h : s.discs.within) :
    (State.homingDropped s).discs.within := by
  unfold State.homingDropped
  (repeat' split) <;> (try simp (maxDischargeDepth := 9) [h]) <;> (repeat' split) <;> (try simp (maxDischargeDepth := 9) [h]) <;> (repeat' split) <;> simp (maxDischargeDepth := 9) [h]

@[simp] theorem State.carryFailed_within {s : State} (r : MoveReq) (h : s.discs.within) :
    (State.carryFailed s r).discs.within := by
  unfold State.carryFailed
  (repeat' split) <;> (try simp (maxDischargeDepth := 9) [h]) <;> (repeat' split) <;> (try simp (maxDischargeDepth := 9) [h]) <;> (repeat' split) <;> simp (maxDischargeDepth := 9) [h]

@[simp] theorem State.holdTimedOut_within {s : State}  (h : s.discs.within) :
    (State.holdTimedOut s).discs.within := by
  unfold State.holdTimedOut
  (repeat' split) <;> (try simp (maxDischargeDepth := 9) [h]) <;> (repeat' split) <;> (try simp (maxDischargeDepth := 9) [h]) <;> (repeat' split) <;> simp (maxDischargeDepth := 9) [h]

end Sys2Proof.Machine
end

