-- ==== Sys2Proof/Laws/Conditions.lean ====
section
/-! SUPPORT. The conditions of the arm, the door, the spindles and the bins follow their owners through every operation (R178). -/

set_option linter.unusedTactic false
set_option linter.unreachableTactic false
set_option linter.unnecessarySeqFocus false
set_option linter.unusedSimpArgs false

namespace Sys2Proof.Machine

/-! ## Primitive updates -/

/-- A state that differs in nothing that the five conditions read. -/
theorem State.conditionsHold_of {s t : State} (h : s.conditionsHold) (l : t.status.live = s.status.live)
    (a : t.trans.arm = s.trans.arm) (b : t.trans.spindleA = s.trans.spindleA)
    (c : t.trans.spindleB = s.trans.spindleB) (d : t.sensors.doorOpen = s.sensors.doorOpen)
    (e : t.sensors.outFull = s.sensors.outFull) (f : t.sensors.rejectFull = s.sensors.rejectFull) :
    t.conditionsHold := by
  have g : ∀ x, t.cond x = s.cond x := fun x => by simp [State.cond, l]
  exact ⟨by rw [g, a, h.armFault], by rw [g, d, h.doorOpen], by rw [g, b, c, h.spindleEmpty],
    by rw [g, e, h.outputFull], by rw [g, f, h.rejectFull]⟩

@[simp] theorem State.report_holds {s : State} (c : Cond) (v : Bool) (h : s.conditionsHold) (a : c ≠ .armFault)
    (b : c ≠ .doorOpen) (d : c ≠ .spindleEmpty) (e : c ≠ .outputFull) (f : c ≠ .rejectFull) :
    (s.report c v).conditionsHold := by
  constructor <;> simp [Ne.symm a, Ne.symm b, Ne.symm d, Ne.symm e, Ne.symm f, h.armFault, h.doorOpen,
    h.spindleEmpty, h.outputFull, h.rejectFull]

@[simp] theorem State.latch_holds {s : State} (c : Cond) (h : s.conditionsHold) (a : c ≠ .armFault)
    (b : c ≠ .doorOpen) (d : c ≠ .spindleEmpty) (e : c ≠ .outputFull) (f : c ≠ .rejectFull) :
    (s.latch c).conditionsHold := by
  constructor <;> simp [Ne.symm a, Ne.symm b, Ne.symm d, Ne.symm e, Ne.symm f, h.armFault, h.doorOpen,
    h.spindleEmpty, h.outputFull, h.rejectFull]

@[simp] theorem State.raise_holds {s : State} (e : Event) (h : s.conditionsHold) : (s.raise e).conditionsHold :=
  State.conditionsHold_of h rfl rfl rfl rfl rfl rfl rfl

@[simp] theorem State.clearCaptured_holds {s : State} (h : s.conditionsHold) : s.clearCaptured.conditionsHold := by
  simp [State.clearCaptured, h]

@[simp] theorem State.answer_holds {s : State} (kind : Byte) (result : Result) (data : ReplyData)
    (h : s.conditionsHold) : (s.answer kind result data).conditionsHold := by
  have g : s.clearCaptured.conditionsHold := State.clearCaptured_holds h
  exact State.conditionsHold_of g rfl rfl rfl rfl rfl rfl rfl

@[simp] theorem State.refuse_holds {s : State} (kind : Byte) (result : Result) (h : s.conditionsHold) :
    (s.refuse kind result).conditionsHold := State.answer_holds _ _ _ h

@[simp] theorem State.modTrans_holds {s : State} (f : Transport → Transport) (h : s.conditionsHold)
    (a : (f s.trans).arm = s.trans.arm) (b : (f s.trans).spindleA = s.trans.spindleA)
    (c : (f s.trans).spindleB = s.trans.spindleB) : (s.modTrans f).conditionsHold :=
  State.conditionsHold_of h rfl a b c rfl rfl rfl

@[simp] theorem State.modStatus_holds {s : State} (f : StatusUnit → StatusUnit) (h : s.conditionsHold)
    (a : (f s.status).live = s.status.live) : (s.modStatus f).conditionsHold :=
  State.conditionsHold_of h a rfl rfl rfl rfl rfl rfl

@[simp] theorem State.setPick_holds {s : State} (p : Bool) (h : s.conditionsHold) : (s.setPick p).conditionsHold :=
  State.conditionsHold_of h rfl rfl rfl rfl rfl rfl rfl

@[simp] theorem State.setEmptySensor_holds {s : State} (i : SpindleId) (e : Bool) (h : s.conditionsHold) :
    (s.setEmptySensor i e).conditionsHold := by
  unfold State.setEmptySensor
  cases i <;> exact State.conditionsHold_of h rfl rfl rfl rfl rfl rfl rfl

@[simp] theorem Transport.timersStopped_keeps (t : Transport) :
    t.timersStopped.arm = t.arm ∧ t.timersStopped.spindleA = t.spindleA ∧ t.timersStopped.spindleB = t.spindleB :=
  ⟨rfl, rfl, rfl⟩

/-- The arm's state and ARM_FAULT change together (R129). -/
@[simp] theorem State.setArm_holds {s : State} (a : ArmState) (h : s.conditionsHold) : (s.setArm a).conditionsHold := by
  have e : ∀ c, (s.modTrans fun t => { t with arm := a }).cond c = s.cond c := fun _ => rfl
  constructor <;> simp [State.setArm, e, h.doorOpen, h.spindleEmpty, h.outputFull, h.rejectFull]

/-- A spindle's state and SPINDLE_EMPTY change together (R110). -/
@[simp] theorem State.setSpindle_holds {s : State} (i : SpindleId) (st : SpindleState) (h : s.conditionsHold) :
    (s.setSpindle i st).conditionsHold := by
  unfold State.setSpindle
  split
  · exact h
  · have e : ∀ (t : Transport) c, ({ s with trans := t } : State).cond c = s.cond c := fun _ _ => rfl
    constructor <;> cases i <;> simp [e, h.armFault, h.doorOpen, h.outputFull, h.rejectFull]

/-- The door's switch and DOOR_OPEN change together (R131). -/
@[simp] theorem State.doorChanged_holds {s : State} (v : Bool) (h : s.conditionsHold) :
    (s.doorChanged v).conditionsHold := by
  have e : ∀ (r : Readings) c, ({ s with sensors := r } : State).cond c = s.cond c := fun _ _ => rfl
  constructor <;> simp [State.doorChanged, e, h.armFault, h.spindleEmpty, h.outputFull, h.rejectFull]

/-- Blocks that the five conditions do not read. -/
@[simp] theorem State.other_holds {s : State} (h : s.conditionsHold) :
    (∀ x, ({ s with link := x } : State).conditionsHold) ∧ (∀ x, ({ s with jobs := x } : State).conditionsHold) ∧
      (∀ x, ({ s with discs := x } : State).conditionsHold) ∧
      (∀ x, ({ s with staging := x } : State).conditionsHold) ∧
      (∀ x, ({ s with printer := x } : State).conditionsHold) :=
  ⟨fun _ => State.conditionsHold_of h rfl rfl rfl rfl rfl rfl rfl, fun _ => State.conditionsHold_of h rfl rfl rfl rfl rfl rfl rfl,
    fun _ => State.conditionsHold_of h rfl rfl rfl rfl rfl rfl rfl, fun _ => State.conditionsHold_of h rfl rfl rfl rfl rfl rfl rfl,
    fun _ => State.conditionsHold_of h rfl rfl rfl rfl rfl rfl rfl⟩

/-- A sensor level that the five conditions do not read. -/
@[simp] theorem State.sensors_holds {s : State} (r : Readings) (h : s.conditionsHold)
    (a : r.doorOpen = s.sensors.doorOpen) (b : r.outFull = s.sensors.outFull)
    (c : r.rejectFull = s.sensors.rejectFull) : ({ s with sensors := r } : State).conditionsHold :=
  State.conditionsHold_of h rfl rfl rfl rfl a b c

/-- A fold keeps what each of its steps keeps. -/
theorem foldl_holds {α : Type} (f : State → α → State) (g : ∀ s a, s.conditionsHold → (f s a).conditionsHold)
    (l : List α) {s : State} (h : s.conditionsHold) : (l.foldl f s).conditionsHold := by
  induction l generalizing s with
  | nil => exact h
  | cons a r ih => exact ih (g _ _ h)

/-! ## The other operations -/

@[simp] theorem State.setBay_holds {s : State} (b : BayId) (r : Bay) (h : s.conditionsHold) :
    (State.setBay s b r).conditionsHold := by
  refine State.conditionsHold_of h ?_ ?_ ?_ ?_ ?_ ?_ ?_ <;> simp

@[simp] theorem State.modBay_holds {s : State} (b : BayId) (f : Bay → Bay) (h : s.conditionsHold) :
    (State.modBay s b f).conditionsHold := by
  refine State.conditionsHold_of h ?_ ?_ ?_ ?_ ?_ ?_ ?_ <;> simp

@[simp] theorem State.setJob_holds {s : State} (j : JobSlot) (r : Option Job) (h : s.conditionsHold) :
    (State.setJob s j r).conditionsHold := by
  refine State.conditionsHold_of h ?_ ?_ ?_ ?_ ?_ ?_ ?_ <;> simp

@[simp] theorem State.setImage_holds {s : State} (i : ImageId) (r : Option Image) (h : s.conditionsHold) :
    (State.setImage s i r).conditionsHold := by
  refine State.conditionsHold_of h ?_ ?_ ?_ ?_ ?_ ?_ ?_ <;> simp

@[simp] theorem State.setLabel_holds {s : State} (l : LabelId) (r : Option Label) (h : s.conditionsHold) :
    (State.setLabel s l r).conditionsHold := by
  refine State.conditionsHold_of h ?_ ?_ ?_ ?_ ?_ ?_ ?_ <;> simp

@[simp] theorem State.setLane_holds {s : State} (l : LaneId) (r : Option Lane) (h : s.conditionsHold) :
    (State.setLane s l r).conditionsHold := by
  refine State.conditionsHold_of h ?_ ?_ ?_ ?_ ?_ ?_ ?_ <;> simp

@[simp] theorem State.modDisc_holds {s : State} (n : Nat) (f : Disc → Disc) (h : s.conditionsHold) :
    (State.modDisc s n f).conditionsHold := by
  refine State.conditionsHold_of h ?_ ?_ ?_ ?_ ?_ ?_ ?_ <;> simp

@[simp] theorem State.askOrphan_holds {s : State} (w : OrphanAt) (h : s.conditionsHold) :
    (s.askOrphan w).1.conditionsHold := by
  refine State.conditionsHold_of h ?_ ?_ ?_ ?_ ?_ ?_ ?_ <;> simp

@[simp] theorem State.setGood_holds {s : State} (n : Nat) (h : s.conditionsHold) :
    (State.setGood s n).conditionsHold := by
  refine State.conditionsHold_of h ?_ ?_ ?_ ?_ ?_ ?_ ?_ <;> simp

@[simp] theorem State.setReject_holds {s : State} (n : Nat) (r : RejectReason) (h : s.conditionsHold) :
    (State.setReject s n r).conditionsHold := by
  refine State.conditionsHold_of h ?_ ?_ ?_ ?_ ?_ ?_ ?_ <;> simp

@[simp] theorem State.setToOut_holds {s : State} (n : Nat) (h : s.conditionsHold) :
    (State.setToOut s n).conditionsHold := by
  refine State.conditionsHold_of h ?_ ?_ ?_ ?_ ?_ ?_ ?_ <;> simp

@[simp] theorem State.moveDisc_holds {s : State} (n : Nat) (at_ : Station) (st : DiscStage) (h : s.conditionsHold) :
    (State.moveDisc s n at_ st).conditionsHold := by
  refine State.conditionsHold_of h ?_ ?_ ?_ ?_ ?_ ?_ ?_ <;> simp

@[simp] theorem State.countJob_holds {s : State} (slot : JobSlot) (f : Job → Job) (h : s.conditionsHold) :
    (State.countJob s slot f).conditionsHold := by
  unfold State.countJob
  (repeat' split) <;> (try simp (maxDischargeDepth := 9) [h]) <;> (repeat' split) <;> (try simp (maxDischargeDepth := 9) [h]) <;> (repeat' split) <;> simp (maxDischargeDepth := 9) [h]

@[simp] theorem State.drainTest_holds {s : State}  (h : s.conditionsHold) :
    (State.drainTest s).conditionsHold := by
  unfold State.drainTest
  (repeat' split) <;> (try simp (maxDischargeDepth := 9) [h]) <;> (repeat' split) <;> (try simp (maxDischargeDepth := 9) [h]) <;> (repeat' split) <;> simp (maxDischargeDepth := 9) [h]

@[simp] theorem State.freeRecord_holds {s : State} (n : Nat) (h : s.conditionsHold) :
    (State.freeRecord s n).conditionsHold := by
  unfold State.freeRecord
  (repeat' split) <;> (try simp (maxDischargeDepth := 9) [h]) <;> (repeat' split) <;> (try simp (maxDischargeDepth := 9) [h]) <;> (repeat' split) <;> simp (maxDischargeDepth := 9) [h]

@[simp] theorem State.deleteRecord_holds {s : State} (n : Nat) (h : s.conditionsHold) :
    (State.deleteRecord s n).conditionsHold := by
  unfold State.deleteRecord
  (repeat' split) <;> (try simp (maxDischargeDepth := 9) [h]) <;> (repeat' split) <;> (try simp (maxDischargeDepth := 9) [h]) <;> (repeat' split) <;> simp (maxDischargeDepth := 9) [h]

@[simp] theorem State.retire_holds {s : State} (n : Nat) (at_ : BinId) (h : s.conditionsHold) :
    (State.retire s n at_).conditionsHold := by
  unfold State.retire
  (repeat' split) <;> (try simp (maxDischargeDepth := 9) [h]) <;> (repeat' split) <;> (try simp (maxDischargeDepth := 9) [h]) <;> (repeat' split) <;> simp (maxDischargeDepth := 9) [h]

@[simp] theorem State.stageSpace_holds {s : State}  (h : s.conditionsHold) :
    (State.stageSpace s).conditionsHold := by
  unfold State.stageSpace
  (repeat' split) <;> (try simp (maxDischargeDepth := 9) [h]) <;> (repeat' split) <;> (try simp (maxDischargeDepth := 9) [h]) <;> (repeat' split) <;> simp (maxDischargeDepth := 9) [h]

@[simp] theorem State.returnSegments_holds {s : State} (k : Nat) (h : s.conditionsHold) :
    (State.returnSegments s k).conditionsHold := by
  unfold State.returnSegments
  (repeat' split) <;> (try simp (maxDischargeDepth := 9) [h]) <;> (repeat' split) <;> (try simp (maxDischargeDepth := 9) [h]) <;> (repeat' split) <;> simp (maxDischargeDepth := 9) [h]

@[simp] theorem State.endPass_holds {s : State} (k : ImageId) (i : Image) (h : s.conditionsHold) :
    (State.endPass s k i).conditionsHold := by
  unfold State.endPass
  (repeat' split) <;> (try simp (maxDischargeDepth := 9) [h]) <;> (repeat' split) <;> (try simp (maxDischargeDepth := 9) [h]) <;> (repeat' split) <;> simp (maxDischargeDepth := 9) [h]

@[simp] theorem State.passEndTest_holds {s : State} (k : ImageId) (h : s.conditionsHold) :
    (State.passEndTest s k).conditionsHold := by
  unfold State.passEndTest
  (repeat' split) <;> (try simp (maxDischargeDepth := 9) [h]) <;> (repeat' split) <;> (try simp (maxDischargeDepth := 9) [h]) <;> (repeat' split) <;> simp (maxDischargeDepth := 9) [h]

@[simp] theorem State.releaseHead_holds {s : State} (k : ImageId) (i : Image) (h : s.conditionsHold) :
    (State.releaseHead s k i).conditionsHold := by
  unfold State.releaseHead
  (repeat' split) <;> (try simp (maxDischargeDepth := 9) [h]) <;> (repeat' split) <;> (try simp (maxDischargeDepth := 9) [h]) <;> (repeat' split) <;> simp (maxDischargeDepth := 9) [h]

@[simp] theorem State.releaseLoop_holds {s : State} (k : ImageId) (n : Nat) (h : s.conditionsHold) :
    (State.releaseLoop k n s).conditionsHold := by
  induction n generalizing s with
  | zero => exact h
  | succ n ih =>
    unfold State.releaseLoop
    (repeat' split) <;> simp [h, ih]

@[simp] theorem State.releaseEvaluation_holds {s : State} (k : ImageId) (h : s.conditionsHold) :
    (State.releaseEvaluation s k).conditionsHold := by
  unfold State.releaseEvaluation
  (repeat' split) <;> (try simp (maxDischargeDepth := 9) [h]) <;> (repeat' split) <;> (try simp (maxDischargeDepth := 9) [h]) <;> (repeat' split) <;> simp (maxDischargeDepth := 9) [h]

@[simp] theorem State.poolEmptied_holds {s : State}  (h : s.conditionsHold) :
    (State.poolEmptied s).conditionsHold := by
  unfold State.poolEmptied
  (repeat' split) <;> (try simp (maxDischargeDepth := 9) [h]) <;> (repeat' split) <;> (try simp (maxDischargeDepth := 9) [h]) <;> (repeat' split) <;> simp (maxDischargeDepth := 9) [h]

@[simp] theorem State.leaveConsumers_holds {s : State} (k : ImageId) (b : BayId) (h : s.conditionsHold) :
    (State.leaveConsumers s k b).conditionsHold := by
  unfold State.leaveConsumers
  (repeat' split) <;> (try simp (maxDischargeDepth := 9) [h]) <;> (repeat' split) <;> (try simp (maxDischargeDepth := 9) [h]) <;> (repeat' split) <;> simp (maxDischargeDepth := 9) [h]

@[simp] theorem State.joinConsumers_holds {s : State} (k : ImageId) (b : BayId) (h : s.conditionsHold) :
    (State.joinConsumers s k b).conditionsHold := by
  refine State.conditionsHold_of h ?_ ?_ ?_ ?_ ?_ ?_ ?_ <;> simp

@[simp] theorem State.growWindow_holds {s : State} (k : ImageId) (i : Image) (h : s.conditionsHold) :
    (State.growWindow s k i).conditionsHold := by
  unfold State.growWindow
  (repeat' split) <;> (try simp (maxDischargeDepth := 9) [h]) <;> (repeat' split) <;> (try simp (maxDischargeDepth := 9) [h]) <;> (repeat' split) <;> simp (maxDischargeDepth := 9) [h]

@[simp] theorem State.turnWindow_holds {s : State} (k : ImageId) (i : Image) (h : s.conditionsHold) :
    (State.turnWindow s k i).conditionsHold := by
  unfold State.turnWindow
  simp [h]

theorem State.findSegment_holds {s t : State} {k : ImageId} {i : Image} {n : Nat} (h : s.conditionsHold)
    (f : s.findSegment k i n = some t) : t.conditionsHold := by
  unfold State.findSegment at f
  (repeat' split at f) <;> cases f <;> simp [h]

@[simp] theorem State.modGov_holds {s : State} (f : Governor → Governor) (h : s.conditionsHold) :
    (State.modGov s f).conditionsHold := by
  refine State.conditionsHold_of h ?_ ?_ ?_ ?_ ?_ ?_ ?_ <;> simp

@[simp] theorem State.releaseAllocation_holds {s : State} (b : BayId) (h : s.conditionsHold) :
    (State.releaseAllocation s b).conditionsHold := by
  refine State.conditionsHold_of h ?_ ?_ ?_ ?_ ?_ ?_ ?_ <;> simp

@[simp] theorem State.leaveAdmission_holds {s : State} (b : BayId) (h : s.conditionsHold) :
    (State.leaveAdmission s b).conditionsHold := by
  refine State.conditionsHold_of h ?_ ?_ ?_ ?_ ?_ ?_ ?_ <;> simp

@[simp] theorem State.joinAdmission_holds {s : State} (b : BayId) (h : s.conditionsHold) :
    (State.joinAdmission s b).conditionsHold := by
  refine State.conditionsHold_of h ?_ ?_ ?_ ?_ ?_ ?_ ?_ <;> simp

@[simp] theorem State.admitAt_holds {s : State} (b : BayId) (step : Nat) (h : s.conditionsHold) :
    (State.admitAt s b step).conditionsHold := by
  refine State.conditionsHold_of h ?_ ?_ ?_ ?_ ?_ ?_ ?_ <;> simp

@[simp] theorem State.admissionWalk_holds {s : State} (l : List AdmEntry) (h : s.conditionsHold) :
    (State.admissionWalk l s).conditionsHold := by
  refine State.conditionsHold_of h ?_ ?_ ?_ ?_ ?_ ?_ ?_ <;> simp

@[simp] theorem State.modVerify_holds {s : State} (f : VerifyEngine → VerifyEngine) (h : s.conditionsHold) :
    (State.modVerify s f).conditionsHold := by
  refine State.conditionsHold_of h ?_ ?_ ?_ ?_ ?_ ?_ ?_ <;> simp

@[simp] theorem State.leaveVerify_holds {s : State} (b : BayId) (h : s.conditionsHold) :
    (State.leaveVerify s b).conditionsHold := by
  refine State.conditionsHold_of h ?_ ?_ ?_ ?_ ?_ ?_ ?_ <;> simp

@[simp] theorem State.joinVerify_holds {s : State} (b : BayId) (h : s.conditionsHold) :
    (State.joinVerify s b).conditionsHold := by
  refine State.conditionsHold_of h ?_ ?_ ?_ ?_ ?_ ?_ ?_ <;> simp

@[simp] theorem State.joinQueue_holds {s : State} (r : MoveReq) (h : s.conditionsHold) :
    (State.joinQueue s r).conditionsHold := by
  refine State.conditionsHold_of h ?_ ?_ ?_ ?_ ?_ ?_ ?_ <;> simp [State.joinQueue] <;> split <;> rfl

@[simp] theorem State.postMove_holds {s : State} (r : MoveReq) (h : s.conditionsHold) :
    (State.postMove s r).conditionsHold := by
  unfold State.postMove
  (repeat' split) <;> (try simp (maxDischargeDepth := 9) [h]) <;> (repeat' split) <;> (try simp (maxDischargeDepth := 9) [h]) <;> (repeat' split) <;> simp (maxDischargeDepth := 9) [h]

@[simp] theorem State.postWaiting_holds {s : State} (h : s.conditionsHold) : s.postWaiting.conditionsHold :=
  foldl_holds _ (fun _ _ g => State.postMove_holds _ g) _ (by simp [h])

@[simp] theorem State.createDispatch_holds {s : State} (slot : JobSlot) (i : SpindleId) (b : BayId) (h : s.conditionsHold) :
    (State.createDispatch s slot i b).conditionsHold := by
  unfold State.createDispatch
  (repeat' split) <;> (try simp (maxDischargeDepth := 9) [h]) <;> (repeat' split) <;> (try simp (maxDischargeDepth := 9) [h]) <;> (repeat' split) <;> simp (maxDischargeDepth := 9) [h]

@[simp] theorem State.dispatch_holds {s : State} (b : BayId) (slot : JobSlot) (j : Job) (i : SpindleId) (h : s.conditionsHold) :
    (State.dispatch s b slot j i).conditionsHold := by
  unfold State.dispatch
  (repeat' split) <;> (try simp (maxDischargeDepth := 9) [h]) <;> (repeat' split) <;> (try simp (maxDischargeDepth := 9) [h]) <;> (repeat' split) <;> simp (maxDischargeDepth := 9) [h]

@[simp] theorem State.dispatchBay_holds {s : State} (b : BayId) (h : s.conditionsHold) :
    (State.dispatchBay s b).conditionsHold := by
  unfold State.dispatchBay
  (repeat' split) <;> (try simp (maxDischargeDepth := 9) [h]) <;> (repeat' split) <;> (try simp (maxDischargeDepth := 9) [h]) <;> (repeat' split) <;> simp (maxDischargeDepth := 9) [h]

@[simp] theorem State.dispatchAll_holds {s : State}  (h : s.conditionsHold) :
    (State.dispatchAll s).conditionsHold := by
  unfold State.dispatchAll
  exact foldl_holds _ (fun _ _ g => State.dispatchBay_holds _ g) _ h

@[simp] theorem State.postUnload_holds {s : State} (b : BayId) (n : Nat) (dest : Station) (h : s.conditionsHold) :
    (State.postUnload s b n dest).conditionsHold := by
  unfold State.postUnload
  (repeat' split) <;> (try simp (maxDischargeDepth := 9) [h]) <;> (repeat' split) <;> (try simp (maxDischargeDepth := 9) [h]) <;> (repeat' split) <;> simp (maxDischargeDepth := 9) [h]

@[simp] theorem State.enterAwaitUnload_holds {s : State} (b : BayId) (n : Nat) (h : s.conditionsHold) :
    (State.enterAwaitUnload s b n).conditionsHold := by
  unfold State.enterAwaitUnload
  (repeat' split) <;> (try simp (maxDischargeDepth := 9) [h]) <;> (repeat' split) <;> (try simp (maxDischargeDepth := 9) [h]) <;> (repeat' split) <;> simp (maxDischargeDepth := 9) [h]

@[simp] theorem State.issue_holds {s : State} (b : BayId) (req : DriveReq) (h : s.conditionsHold) :
    (State.issue s b req).conditionsHold := by
  refine State.conditionsHold_of h ?_ ?_ ?_ ?_ ?_ ?_ ?_ <;> simp

@[simp] theorem State.issueSuspend_holds {s : State} (b : BayId) (h : s.conditionsHold) :
    (State.issueSuspend s b).conditionsHold := by
  refine State.conditionsHold_of h ?_ ?_ ?_ ?_ ?_ ?_ ?_ <;> simp

@[simp] theorem State.issueIdentify_holds {s : State} (b : BayId) (h : s.conditionsHold) :
    (State.issueIdentify s b).conditionsHold := by
  refine State.conditionsHold_of h ?_ ?_ ?_ ?_ ?_ ?_ ?_ <;> simp

@[simp] theorem State.reissueIdentify_holds {s : State} (b : BayId) (h : s.conditionsHold) :
    (State.reissueIdentify s b).conditionsHold := by
  refine State.conditionsHold_of h ?_ ?_ ?_ ?_ ?_ ?_ ?_ <;> simp

@[simp] theorem State.portReset_holds {s : State} (b : BayId) (h : s.conditionsHold) :
    (State.portReset s b).conditionsHold := by
  refine State.conditionsHold_of h ?_ ?_ ?_ ?_ ?_ ?_ ?_ <;> simp

@[simp] theorem State.handoverGivenUp_holds {s : State} (b : BayId) (h : s.conditionsHold) :
    (State.handoverGivenUp s b).conditionsHold := by
  refine State.conditionsHold_of h ?_ ?_ ?_ ?_ ?_ ?_ ?_ <;> simp

@[simp] theorem State.feedTest_holds {s : State} (b : BayId) (h : s.conditionsHold) :
    (State.feedTest s b).conditionsHold := by
  refine State.conditionsHold_of h ?_ ?_ ?_ ?_ ?_ ?_ ?_ <;> simp

@[simp] theorem State.leaveImage_holds {s : State} (b : BayId) (h : s.conditionsHold) :
    (State.leaveImage s b).conditionsHold := by
  unfold State.leaveImage
  (repeat' split) <;> (try simp (maxDischargeDepth := 9) [h]) <;> (repeat' split) <;> (try simp (maxDischargeDepth := 9) [h]) <;> (repeat' split) <;> simp (maxDischargeDepth := 9) [h]

@[simp] theorem State.abandonWork_holds {s : State} (b : BayId) (h : s.conditionsHold) :
    (State.abandonWork s b).conditionsHold := by
  unfold State.abandonWork
  (repeat' split) <;> (try simp (maxDischargeDepth := 9) [h]) <;> (repeat' split) <;> (try simp (maxDischargeDepth := 9) [h]) <;> (repeat' split) <;> simp (maxDischargeDepth := 9) [h]

@[simp] theorem State.bayReject_holds {s : State} (b : BayId) (why : RejectReason) (h : s.conditionsHold) :
    (State.bayReject s b why).conditionsHold := by
  unfold State.bayReject
  (repeat' split) <;> (try simp (maxDischargeDepth := 9) [h]) <;> (repeat' split) <;> (try simp (maxDischargeDepth := 9) [h]) <;> (repeat' split) <;> simp (maxDischargeDepth := 9) [h]

@[simp] theorem State.reportBayFault_holds {s : State}  (h : s.conditionsHold) :
    (State.reportBayFault s).conditionsHold := by
  unfold State.reportBayFault
  (repeat' split) <;> (try simp (maxDischargeDepth := 9) [h]) <;> (repeat' split) <;> (try simp (maxDischargeDepth := 9) [h]) <;> (repeat' split) <;> simp (maxDischargeDepth := 9) [h]

@[simp] theorem State.bayFaultEntry_holds {s : State} (b : BayId) (h : s.conditionsHold) :
    (State.bayFaultEntry s b).conditionsHold := by
  unfold State.bayFaultEntry
  (repeat' split) <;> (try simp (maxDischargeDepth := 9) [h]) <;> (repeat' split) <;> (try simp (maxDischargeDepth := 9) [h]) <;> (repeat' split) <;> simp (maxDischargeDepth := 9) [h]

@[simp] theorem State.ranDry_holds {s : State} (b : BayId) (h : s.conditionsHold) :
    (State.ranDry s b).conditionsHold := by
  unfold State.ranDry
  (repeat' split) <;> (try simp (maxDischargeDepth := 9) [h]) <;> (repeat' split) <;> (try simp (maxDischargeDepth := 9) [h]) <;> (repeat' split) <;> simp (maxDischargeDepth := 9) [h]

@[simp] theorem State.awaitDiscEnd_holds {s : State} (b : BayId) (accept : Bool) (h : s.conditionsHold) :
    (State.awaitDiscEnd s b accept).conditionsHold := by
  unfold State.awaitDiscEnd
  (repeat' split) <;> (try simp (maxDischargeDepth := 9) [h]) <;> (repeat' split) <;> (try simp (maxDischargeDepth := 9) [h]) <;> (repeat' split) <;> simp (maxDischargeDepth := 9) [h]

@[simp] theorem State.discWillNotCome_holds {s : State} (b : BayId) (n : Nat) (accept : Bool) (h : s.conditionsHold) :
    (State.discWillNotCome s b n accept).conditionsHold := by
  unfold State.discWillNotCome
  (repeat' split) <;> (try simp (maxDischargeDepth := 9) [h]) <;> (repeat' split) <;> (try simp (maxDischargeDepth := 9) [h]) <;> (repeat' split) <;> simp (maxDischargeDepth := 9) [h]

@[simp] theorem State.tellTarget_holds {s : State} (n : Nat) (h : s.conditionsHold) :
    (State.tellTarget s n).conditionsHold := by
  unfold State.tellTarget
  (repeat' split) <;> (try simp (maxDischargeDepth := 9) [h]) <;> (repeat' split) <;> (try simp (maxDischargeDepth := 9) [h]) <;> (repeat' split) <;> simp (maxDischargeDepth := 9) [h]

@[simp] theorem State.discLeaves_holds {s : State} (b : BayId) (second : Option SecondLeg) (h : s.conditionsHold) :
    (State.discLeaves s b second).conditionsHold := by
  refine State.conditionsHold_of h ?_ ?_ ?_ ?_ ?_ ?_ ?_ <;> simp

@[simp] theorem State.identified_holds {s : State} (b : BayId) (n : Nat) (f : DriveFacts) (h : s.conditionsHold) :
    (State.identified s b n f).conditionsHold := by
  unfold State.identified
  (repeat' split) <;> (try simp (maxDischargeDepth := 9) [h]) <;> (repeat' split) <;> (try simp (maxDischargeDepth := 9) [h]) <;> (repeat' split) <;> simp (maxDischargeDepth := 9) [h]

@[simp] theorem State.startSurvey_holds {s : State} (b : BayId) (h : s.conditionsHold) :
    (State.startSurvey s b).conditionsHold := by
  refine State.conditionsHold_of h ?_ ?_ ?_ ?_ ?_ ?_ ?_ <;> simp

@[simp] theorem State.bayTakesOrphan_holds {s : State} (b : BayId) (n : Nat) (h : s.conditionsHold) :
    (State.bayTakesOrphan s b n).conditionsHold := by
  unfold State.bayTakesOrphan
  (repeat' split) <;> (try simp (maxDischargeDepth := 9) [h]) <;> (repeat' split) <;> (try simp (maxDischargeDepth := 9) [h]) <;> (repeat' split) <;> simp (maxDischargeDepth := 9) [h]

@[simp] theorem State.surveyFoundDisc_holds {s : State} (b : BayId) (h : s.conditionsHold) :
    (State.surveyFoundDisc s b).conditionsHold := by
  unfold State.surveyFoundDisc
  (repeat' split) <;> (try simp (maxDischargeDepth := 9) [h]) <;> (repeat' split) <;> (try simp (maxDischargeDepth := 9) [h]) <;> (repeat' split) <;> simp (maxDischargeDepth := 9) [h]

@[simp] theorem State.lostDisc_holds {s : State} (n : Nat) (h : s.conditionsHold) :
    (State.lostDisc s n).conditionsHold := by
  unfold State.lostDisc
  (repeat' split) <;> (try simp (maxDischargeDepth := 9) [h]) <;> (repeat' split) <;> (try simp (maxDischargeDepth := 9) [h]) <;> (repeat' split) <;> simp (maxDischargeDepth := 9) [h]

@[simp] theorem State.surveyFoundNone_holds {s : State} (b : BayId) (h : s.conditionsHold) :
    (State.surveyFoundNone s b).conditionsHold := by
  unfold State.surveyFoundNone
  (repeat' split) <;> (try simp (maxDischargeDepth := 9) [h]) <;> (repeat' split) <;> (try simp (maxDischargeDepth := 9) [h]) <;> (repeat' split) <;> simp (maxDischargeDepth := 9) [h]

@[simp] theorem State.order_holds {s : State} (b : BayId) (req : DriveReq) (h : s.conditionsHold) :
    (State.order s b req).conditionsHold := by
  refine State.conditionsHold_of h ?_ ?_ ?_ ?_ ?_ ?_ ?_ <;> simp

@[simp] theorem State.setReserveLow_holds {s : State}  (h : s.conditionsHold) :
    (State.setReserveLow s).conditionsHold := by
  unfold State.setReserveLow
  (repeat' split) <;> (try simp (maxDischargeDepth := 9) [h]) <;> (repeat' split) <;> (try simp (maxDischargeDepth := 9) [h]) <;> (repeat' split) <;> simp (maxDischargeDepth := 9) [h]

@[simp] theorem State.setStable_holds {s : State} (b : BayId) (n : Nat) (h : s.conditionsHold) :
    (State.setStable s b n).conditionsHold := by
  refine State.conditionsHold_of h ?_ ?_ ?_ ?_ ?_ ?_ ?_ <;> simp

@[simp] theorem State.stepUpTest_holds {s : State} (b : BayId) (h : s.conditionsHold) :
    (State.stepUpTest s b).conditionsHold := by
  refine State.conditionsHold_of h ?_ ?_ ?_ ?_ ?_ ?_ ?_ <;> simp

@[simp] theorem State.burningCheck_holds {s : State} (b : BayId) (a : Burn) (lead : Nat) (h : s.conditionsHold) :
    (State.burningCheck s b a lead).conditionsHold := by
  unfold State.burningCheck
  (repeat' split) <;> (try simp (maxDischargeDepth := 9) [h]) <;> (repeat' split) <;> (try simp (maxDischargeDepth := 9) [h]) <;> (repeat' split) <;> simp (maxDischargeDepth := 9) [h]

@[simp] theorem State.reserveCheck_holds {s : State} (b : BayId) (h : s.conditionsHold) :
    (State.reserveCheck s b).conditionsHold := by
  unfold State.reserveCheck
  (repeat' split) <;> (try simp (maxDischargeDepth := 9) [h]) <;> (repeat' split) <;> (try simp (maxDischargeDepth := 9) [h]) <;> (repeat' split) <;> simp (maxDischargeDepth := 9) [h]

@[simp] theorem State.beginBurn_holds {s : State} (b : BayId) (k : ImageId) (step : Nat) (h : s.conditionsHold) :
    (State.beginBurn s b k step).conditionsHold := by
  refine State.conditionsHold_of h ?_ ?_ ?_ ?_ ?_ ?_ ?_ <;> simp

@[simp] theorem State.withdrawAdmission_holds {s : State} (b : BayId) (h : s.conditionsHold) :
    (State.withdrawAdmission s b).conditionsHold := by
  refine State.conditionsHold_of h ?_ ?_ ?_ ?_ ?_ ?_ ?_ <;> simp

@[simp] theorem State.answerJoin_holds {s : State} (e : AdmEntry) (h : s.conditionsHold) :
    (State.answerJoin s e).conditionsHold := by
  refine State.conditionsHold_of h ?_ ?_ ?_ ?_ ?_ ?_ ?_ <;> simp

@[simp] theorem State.endBurn_holds {s : State} (b : BayId) (h : s.conditionsHold) :
    (State.endBurn s b).conditionsHold := by
  unfold State.endBurn
  (repeat' split) <;> (try simp (maxDischargeDepth := 9) [h]) <;> (repeat' split) <;> (try simp (maxDischargeDepth := 9) [h]) <;> (repeat' split) <;> simp (maxDischargeDepth := 9) [h]

@[simp] theorem State.setPrinter_holds {s : State} (p : Printer) (h : s.conditionsHold) :
    (State.setPrinter s p).conditionsHold := by
  refine State.conditionsHold_of h ?_ ?_ ?_ ?_ ?_ ?_ ?_ <;> simp

@[simp] theorem State.reportPrinter_holds {s : State}  (h : s.conditionsHold) :
    (State.reportPrinter s).conditionsHold := by
  unfold State.reportPrinter
  (repeat' split) <;> (try simp (maxDischargeDepth := 9) [h]) <;> (repeat' split) <;> (try simp (maxDischargeDepth := 9) [h]) <;> (repeat' split) <;> simp (maxDischargeDepth := 9) [h]

@[simp] theorem State.postTrayMove_holds {s : State} (p : Printer) (kind : MoveKind) (n : Nat) (dest : Station) (h : s.conditionsHold) :
    (State.postTrayMove s p kind n dest).conditionsHold := by
  unfold State.postTrayMove
  (repeat' split) <;> (try simp (maxDischargeDepth := 9) [h]) <;> (repeat' split) <;> (try simp (maxDischargeDepth := 9) [h]) <;> (repeat' split) <;> simp (maxDischargeDepth := 9) [h]

@[simp] theorem State.bandStart_holds {s : State} (p : Printer) (r : Print) (check : Bool) (h : s.conditionsHold) :
    (State.bandStart s p r check).conditionsHold := by
  refine State.conditionsHold_of h ?_ ?_ ?_ ?_ ?_ ?_ ?_ <;> simp

@[simp] theorem State.printEnd_holds {s : State} (p : Printer) (h : s.conditionsHold) :
    (State.printEnd s p).conditionsHold := by
  unfold State.printEnd
  (repeat' split) <;> (try simp (maxDischargeDepth := 9) [h]) <;> (repeat' split) <;> (try simp (maxDischargeDepth := 9) [h]) <;> (repeat' split) <;> simp (maxDischargeDepth := 9) [h]

@[simp] theorem State.linePrinted_holds {s : State} (p : Printer) (r : Print) (l : Label) (h : s.conditionsHold) :
    (State.linePrinted s p r l).conditionsHold := by
  unfold State.linePrinted
  (repeat' split) <;> (try simp (maxDischargeDepth := 9) [h]) <;> (repeat' split) <;> (try simp (maxDischargeDepth := 9) [h]) <;> (repeat' split) <;> simp (maxDischargeDepth := 9) [h]

@[simp] theorem State.printSpoiled_holds {s : State} (p : Printer) (n : Nat) (h : s.conditionsHold) :
    (State.printSpoiled s p n).conditionsHold := by
  unfold State.printSpoiled
  (repeat' split) <;> (try simp (maxDischargeDepth := 9) [h]) <;> (repeat' split) <;> (try simp (maxDischargeDepth := 9) [h]) <;> (repeat' split) <;> simp (maxDischargeDepth := 9) [h]

@[simp] theorem State.printerFaultEntry_holds {s : State} (p : Printer) (h : s.conditionsHold) :
    (State.printerFaultEntry s p).conditionsHold := by
  unfold State.printerFaultEntry
  (repeat' split) <;> (try simp (maxDischargeDepth := 9) [h]) <;> (repeat' split) <;> (try simp (maxDischargeDepth := 9) [h]) <;> (repeat' split) <;> simp (maxDischargeDepth := 9) [h]

@[simp] theorem State.printerAccept_holds {s : State} (n : Nat) (h : s.conditionsHold) :
    (State.printerAccept s n).conditionsHold := by
  unfold State.printerAccept
  (repeat' split) <;> (try simp (maxDischargeDepth := 9) [h]) <;> (repeat' split) <;> (try simp (maxDischargeDepth := 9) [h]) <;> (repeat' split) <;> simp (maxDischargeDepth := 9) [h]

@[simp] theorem State.setClamp_holds {s : State} (opened : Bool) (h : s.conditionsHold) :
    (State.setClamp s opened).conditionsHold := by
  refine State.conditionsHold_of h ?_ ?_ ?_ ?_ ?_ ?_ ?_ <;> simp

@[simp] theorem State.trayTaken_holds {s : State}  (h : s.conditionsHold) :
    (State.trayTaken s).conditionsHold := by
  refine State.conditionsHold_of h ?_ ?_ ?_ ?_ ?_ ?_ ?_ <;> simp

@[simp] theorem State.trayMoveSpent_holds {s : State} (n : Nat) (h : s.conditionsHold) :
    (State.trayMoveSpent s n).conditionsHold := by
  unfold State.trayMoveSpent
  (repeat' split) <;> (try simp (maxDischargeDepth := 9) [h]) <;> (repeat' split) <;> (try simp (maxDischargeDepth := 9) [h]) <;> (repeat' split) <;> simp (maxDischargeDepth := 9) [h]

@[simp] theorem State.printerTakesOrphan_holds {s : State} (n : Nat) (h : s.conditionsHold) :
    (State.printerTakesOrphan s n).conditionsHold := by
  unfold State.printerTakesOrphan
  (repeat' split) <;> (try simp (maxDischargeDepth := 9) [h]) <;> (repeat' split) <;> (try simp (maxDischargeDepth := 9) [h]) <;> (repeat' split) <;> simp (maxDischargeDepth := 9) [h]

@[simp] theorem State.surveyPrinter_holds {s : State}  (h : s.conditionsHold) :
    (State.surveyPrinter s).conditionsHold := by
  unfold State.surveyPrinter
  (repeat' split) <;> (try simp (maxDischargeDepth := 9) [h]) <;> (repeat' split) <;> (try simp (maxDischargeDepth := 9) [h]) <;> (repeat' split) <;> simp (maxDischargeDepth := 9) [h]

@[simp] theorem State.modCurrent_holds {s : State} (f : MoveReq → MoveReq) (h : s.conditionsHold) :
    (State.modCurrent s f).conditionsHold := by
  unfold State.modCurrent
  (repeat' split) <;> (try simp (maxDischargeDepth := 9) [h]) <;> (repeat' split) <;> (try simp (maxDischargeDepth := 9) [h]) <;> (repeat' split) <;> simp (maxDischargeDepth := 9) [h]

@[simp] theorem State.takeCurrent_holds {s : State} (h : s.conditionsHold) :
    (State.takeCurrent s).conditionsHold := by
  unfold State.takeCurrent
  (repeat' split) <;> (try simp (maxDischargeDepth := 9) [h]) <;> (repeat' split) <;> (try simp (maxDischargeDepth := 9) [h]) <;> (repeat' split) <;> simp (maxDischargeDepth := 9) [h]

@[simp] theorem State.dropCurrent_holds {s : State}  (h : s.conditionsHold) :
    (State.dropCurrent s).conditionsHold := by
  unfold State.dropCurrent
  (repeat' split) <;> (try simp (maxDischargeDepth := 9) [h]) <;> (repeat' split) <;> (try simp (maxDischargeDepth := 9) [h]) <;> (repeat' split) <;> simp (maxDischargeDepth := 9) [h]

@[simp] theorem State.depart_holds {s : State}  (h : s.conditionsHold) :
    (State.depart s).conditionsHold := by
  unfold State.depart
  (repeat' split) <;> (try simp (maxDischargeDepth := 9) [h]) <;> (repeat' split) <;> (try simp (maxDischargeDepth := 9) [h]) <;> (repeat' split) <;> simp (maxDischargeDepth := 9) [h]

@[simp] theorem State.departResuming_holds {s : State}  (h : s.conditionsHold) :
    (State.departResuming s).conditionsHold := by
  unfold State.departResuming
  (repeat' split) <;> (try simp (maxDischargeDepth := 9) [h]) <;> (repeat' split) <;> (try simp (maxDischargeDepth := 9) [h]) <;> (repeat' split) <;> simp (maxDischargeDepth := 9) [h]

@[simp] theorem State.startAck_holds {s : State} (step : HandStep) (h : s.conditionsHold) :
    (State.startAck s step).conditionsHold := by
  unfold State.startAck
  (repeat' split) <;> (try simp (maxDischargeDepth := 9) [h]) <;> (repeat' split) <;> (try simp (maxDischargeDepth := 9) [h]) <;> (repeat' split) <;> simp (maxDischargeDepth := 9) [h]

@[simp] theorem State.setStep_holds {s : State} (step : HandStep) (h : s.conditionsHold) :
    (State.setStep s step).conditionsHold := by
  unfold State.setStep
  (repeat' split) <;> (try simp (maxDischargeDepth := 9) [h]) <;> (repeat' split) <;> (try simp (maxDischargeDepth := 9) [h]) <;> (repeat' split) <;> simp (maxDischargeDepth := 9) [h]

@[simp] theorem State.armIdle_holds {s : State}  (h : s.conditionsHold) :
    (State.armIdle s).conditionsHold := by
  unfold State.armIdle
  (repeat' split) <;> (try simp (maxDischargeDepth := 9) [h]) <;> (repeat' split) <;> (try simp (maxDischargeDepth := 9) [h]) <;> (repeat' split) <;> simp (maxDischargeDepth := 9) [h]

@[simp] theorem State.grantTo_holds {s : State} (r : MoveReq) (h : s.conditionsHold) :
    (State.grantTo s r).conditionsHold := by
  unfold State.grantTo
  (repeat' split) <;> (try simp (maxDischargeDepth := 9) [h]) <;> (repeat' split) <;> (try simp (maxDischargeDepth := 9) [h]) <;> (repeat' split) <;> simp (maxDischargeDepth := 9) [h]

@[simp] theorem State.grantEvaluation_holds {s : State}  (h : s.conditionsHold) :
    (State.grantEvaluation s).conditionsHold := by
  unfold State.grantEvaluation
  (repeat' split) <;> (try simp (maxDischargeDepth := 9) [h]) <;> (repeat' split) <;> (try simp (maxDischargeDepth := 9) [h]) <;> (repeat' split) <;> simp (maxDischargeDepth := 9) [h]

@[simp] theorem State.moveDone_holds {s : State}  (h : s.conditionsHold) :
    (State.moveDone s).conditionsHold := by
  unfold State.moveDone
  (repeat' split) <;> (try simp (maxDischargeDepth := 9) [h]) <;> (repeat' split) <;> (try simp (maxDischargeDepth := 9) [h]) <;> (repeat' split) <;> simp (maxDischargeDepth := 9) [h]

@[simp] theorem State.legDone_holds {s : State}  (h : s.conditionsHold) :
    (State.legDone s).conditionsHold := by
  unfold State.legDone
  (repeat' split) <;> (try simp (maxDischargeDepth := 9) [h]) <;> (repeat' split) <;> (try simp (maxDischargeDepth := 9) [h]) <;> (repeat' split) <;> simp (maxDischargeDepth := 9) [h]

@[simp] theorem State.startSecondLeg_holds {s : State}  (h : s.conditionsHold) :
    (State.startSecondLeg s).conditionsHold := by
  unfold State.startSecondLeg
  (repeat' split) <;> (try simp (maxDischargeDepth := 9) [h]) <;> (repeat' split) <;> (try simp (maxDischargeDepth := 9) [h]) <;> (repeat' split) <;> simp (maxDischargeDepth := 9) [h]

@[simp] theorem State.secondBecomesLoad_holds {s : State} (second : Option SecondLeg) (h : s.conditionsHold) :
    (State.secondBecomesLoad s second).conditionsHold := by
  unfold State.secondBecomesLoad
  (repeat' split) <;> (try simp (maxDischargeDepth := 9) [h]) <;> (repeat' split) <;> (try simp (maxDischargeDepth := 9) [h]) <;> (repeat' split) <;> simp (maxDischargeDepth := 9) [h]

@[simp] theorem State.giveUpAt_holds {s : State} (at_ : Station) (h : s.conditionsHold) :
    (s.giveUpAt at_).conditionsHold := by
  refine State.conditionsHold_of h ?_ ?_ ?_ ?_ ?_ ?_ ?_ <;> simp

@[simp] theorem State.giveUp_holds {s : State}  (h : s.conditionsHold) :
    (State.giveUp s).conditionsHold := by
  refine State.conditionsHold_of h ?_ ?_ ?_ ?_ ?_ ?_ ?_ <;> simp

@[simp] theorem State.pickFailed_holds {s : State} (b : Option BayId) (n : Nat) (h : s.conditionsHold) :
    (State.pickFailed s b n).conditionsHold := by
  unfold State.pickFailed
  (repeat' split) <;> (try simp (maxDischargeDepth := 9) [h]) <;> (repeat' split) <;> (try simp (maxDischargeDepth := 9) [h]) <;> (repeat' split) <;> simp (maxDischargeDepth := 9) [h]

@[simp] theorem State.retriesSpent_holds {s : State} (r : MoveReq) (source : Station) (n : Nat) (b : Option BayId) (h : s.conditionsHold) :
    (State.retriesSpent s r source n b).conditionsHold := by
  unfold State.retriesSpent
  (repeat' split) <;> (try simp (maxDischargeDepth := 9) [h]) <;> (repeat' split) <;> (try simp (maxDischargeDepth := 9) [h]) <;> (repeat' split) <;> simp (maxDischargeDepth := 9) [h]

@[simp] theorem State.forcedRelease_holds {s : State}  (h : s.conditionsHold) :
    (State.forcedRelease s).conditionsHold := by
  unfold State.forcedRelease
  (repeat' split) <;> (try simp (maxDischargeDepth := 9) [h]) <;> (repeat' split) <;> (try simp (maxDischargeDepth := 9) [h]) <;> (repeat' split) <;> simp (maxDischargeDepth := 9) [h]

@[simp] theorem State.foundEmpty_holds {s : State} (r : MoveReq) (i : SpindleId) (h : s.conditionsHold) :
    (State.foundEmpty s r i).conditionsHold := by
  unfold State.foundEmpty
  (repeat' split) <;> (try simp (maxDischargeDepth := 9) [h]) <;> (repeat' split) <;> (try simp (maxDischargeDepth := 9) [h]) <;> (repeat' split) <;> simp (maxDischargeDepth := 9) [h]

@[simp] theorem State.tellAwaiting_holds {s : State} (r : MoveReq) (at_ : Station) (n : Nat) (accept : Bool) (h : s.conditionsHold) :
    (State.tellAwaiting s r at_ n accept).conditionsHold := by
  unfold State.tellAwaiting
  (repeat' split) <;> (try simp (maxDischargeDepth := 9) [h]) <;> (repeat' split) <;> (try simp (maxDischargeDepth := 9) [h]) <;> (repeat' split) <;> simp (maxDischargeDepth := 9) [h]

@[simp] theorem State.toReject_holds {s : State}  (h : s.conditionsHold) :
    (State.toReject s).conditionsHold := by
  unfold State.toReject
  (repeat' split) <;> (try simp (maxDischargeDepth := 9) [h]) <;> (repeat' split) <;> (try simp (maxDischargeDepth := 9) [h]) <;> (repeat' split) <;> simp (maxDischargeDepth := 9) [h]

@[simp] theorem State.divert_holds {s : State} (r : MoveReq) (h : s.conditionsHold) :
    (State.divert s r).conditionsHold := by
  unfold State.divert
  (repeat' split) <;> (try simp (maxDischargeDepth := 9) [h]) <;> (repeat' split) <;> (try simp (maxDischargeDepth := 9) [h]) <;> (repeat' split) <;> simp (maxDischargeDepth := 9) [h]

@[simp] theorem State.destFailure_holds {s : State}  (h : s.conditionsHold) :
    (State.destFailure s).conditionsHold := by
  unfold State.destFailure
  (repeat' split) <;> (try simp (maxDischargeDepth := 9) [h]) <;> (repeat' split) <;> (try simp (maxDischargeDepth := 9) [h]) <;> (repeat' split) <;> simp (maxDischargeDepth := 9) [h]

@[simp] theorem State.retakeFailed_holds {s : State} (r : MoveReq) (h : s.conditionsHold) :
    (State.retakeFailed s r).conditionsHold := by
  unfold State.retakeFailed
  (repeat' split) <;> (try simp (maxDischargeDepth := 9) [h]) <;> (repeat' split) <;> (try simp (maxDischargeDepth := 9) [h]) <;> (repeat' split) <;> simp (maxDischargeDepth := 9) [h]

@[simp] theorem State.armFaultEntry_holds {s : State} (why : FaultCause) (h : s.conditionsHold) :
    (State.armFaultEntry s why).conditionsHold := by
  unfold State.armFaultEntry
  dsimp only
  have g : s.giveUp.conditionsHold := State.giveUp_holds h
  refine State.raise_holds _ (State.setArm_holds _ (State.modTrans_holds _ ?_ rfl rfl rfl))
  split
  · refine State.modTrans_holds _ g ?_ ?_ ?_ <;> split <;> rfl
  · split
    · refine State.modTrans_holds _ ?_ rfl rfl rfl
      split <;> simp (maxDischargeDepth := 9) [g]
    · exact State.modTrans_holds _ (State.modCurrent_holds _ g) rfl rfl rfl

@[simp] theorem State.startHoming_holds {s : State}  (h : s.conditionsHold) :
    (State.startHoming s).conditionsHold := by
  unfold State.startHoming
  (repeat' split) <;> (try simp (maxDischargeDepth := 9) [h]) <;> (repeat' split) <;> (try simp (maxDischargeDepth := 9) [h]) <;> (repeat' split) <;> simp (maxDischargeDepth := 9) [h]

@[simp] theorem State.resumeGrant_holds {s : State}  (h : s.conditionsHold) :
    (State.resumeGrant s).conditionsHold := by
  unfold State.resumeGrant
  dsimp only
  have g : ((s.modCurrent fun r => { r with granted := true, interrupted := false }).modTrans fun t =>
      { t with resume := none }).conditionsHold := by simp [h]
  split
  · exact State.setArm_holds _ (State.modTrans_holds _ g rfl rfl rfl)
  · exact State.departResuming_holds (State.setArm_holds _ g)
  · exact State.depart_holds (State.setArm_holds _ g)
  · exact State.depart_holds (State.setArm_holds _ g)

@[simp] theorem State.homingEnd_holds {s : State}  (h : s.conditionsHold) :
    (State.homingEnd s).conditionsHold := by
  unfold State.homingEnd
  (repeat' split) <;> (try simp (maxDischargeDepth := 9) [h]) <;> (repeat' split) <;> (try simp (maxDischargeDepth := 9) [h]) <;> (repeat' split) <;> simp (maxDischargeDepth := 9) [h]

@[simp] theorem State.clearArm_holds {s : State} (n : Nat) (h : s.conditionsHold) :
    (State.clearArm s n).conditionsHold := by
  unfold State.clearArm
  (repeat' split) <;> (try simp (maxDischargeDepth := 9) [h]) <;> (repeat' split) <;> (try simp (maxDischargeDepth := 9) [h]) <;> (repeat' split) <;> simp (maxDischargeDepth := 9) [h]

@[simp] theorem State.homingClear_holds {s : State}  (h : s.conditionsHold) :
    (State.homingClear s).conditionsHold := by
  unfold State.homingClear
  (repeat' split) <;> (try simp (maxDischargeDepth := 9) [h]) <;> (repeat' split) <;> (try simp (maxDischargeDepth := 9) [h]) <;> (repeat' split) <;> simp (maxDischargeDepth := 9) [h]

@[simp] theorem State.dropStuck_holds {s : State} (second : Option SecondLeg) (n : Nat) (h : s.conditionsHold) :
    (State.dropStuck s second n).conditionsHold := by
  unfold State.dropStuck
  (repeat' split) <;> (try simp (maxDischargeDepth := 9) [h]) <;> (repeat' split) <;> (try simp (maxDischargeDepth := 9) [h]) <;> (repeat' split) <;> simp (maxDischargeDepth := 9) [h]

@[simp] theorem State.dropFailure_holds {s : State} (r : MoveReq) (at_ : BinId) (h : s.conditionsHold) :
    (State.dropFailure s r at_).conditionsHold := by
  unfold State.dropFailure
  (repeat' split) <;> (try simp (maxDischargeDepth := 9) [h]) <;> (repeat' split) <;> (try simp (maxDischargeDepth := 9) [h]) <;> (repeat' split) <;> simp (maxDischargeDepth := 9) [h]

@[simp] theorem State.homingDropFailure_holds {s : State}  (h : s.conditionsHold) :
    (State.homingDropFailure s).conditionsHold := by
  unfold State.homingDropFailure
  (repeat' split) <;> (try simp (maxDischargeDepth := 9) [h]) <;> (repeat' split) <;> (try simp (maxDischargeDepth := 9) [h]) <;> (repeat' split) <;> simp (maxDischargeDepth := 9) [h]

@[simp] theorem State.withdrawCurrent_holds {s : State} (r : MoveReq) (h : s.conditionsHold) :
    (State.withdrawCurrent s r).conditionsHold := by
  unfold State.withdrawCurrent
  (repeat' split) <;> (try simp (maxDischargeDepth := 9) [h]) <;> (repeat' split) <;> (try simp (maxDischargeDepth := 9) [h]) <;> (repeat' split) <;> simp (maxDischargeDepth := 9) [h]

@[simp] theorem State.withdraw_holds {s : State} (n : Nat) (h : s.conditionsHold) :
    (State.withdraw s n).conditionsHold := by
  unfold State.withdraw
  (repeat' split) <;> (try simp (maxDischargeDepth := 9) [h]) <;> (repeat' split) <;> (try simp (maxDischargeDepth := 9) [h]) <;> (repeat' split) <;> simp (maxDischargeDepth := 9) [h]

@[simp] theorem State.changeDest_holds {s : State} (n : Nat) (h : s.conditionsHold) :
    (State.changeDest s n).conditionsHold := by
  unfold State.changeDest
  (repeat' split) <;> (try simp (maxDischargeDepth := 9) [h]) <;> (repeat' split) <;> (try simp (maxDischargeDepth := 9) [h]) <;> (repeat' split) <;> simp (maxDischargeDepth := 9) [h]

@[simp] theorem State.cancelCarried_holds {s : State} (n : Nat) (h : s.conditionsHold) :
    (State.cancelCarried s n).conditionsHold := by
  unfold State.cancelCarried
  (repeat' split) <;> (try simp (maxDischargeDepth := 9) [h]) <;> (repeat' split) <;> (try simp (maxDischargeDepth := 9) [h]) <;> (repeat' split) <;> simp (maxDischargeDepth := 9) [h]

@[simp] theorem State.doublePick_holds {s : State} (r : MoveReq) (n : Nat) (h : s.conditionsHold) :
    (State.doublePick s r n).conditionsHold := by
  unfold State.doublePick
  (repeat' split) <;> (try simp (maxDischargeDepth := 9) [h]) <;> (repeat' split) <;> (try simp (maxDischargeDepth := 9) [h]) <;> (repeat' split) <;> simp (maxDischargeDepth := 9) [h]

@[simp] theorem State.pickDone_holds {s : State} (r : MoveReq) (two : Bool) (h : s.conditionsHold) :
    (State.pickDone s r two).conditionsHold := by
  unfold State.pickDone
  dsimp only
  refine State.cancelCarried_holds _ (State.depart_holds (State.setArm_holds _ ?_))
  have g : ((s.setPick true).moveDisc (s.trans.legDisc r) .arm
      (if (s.trans.legDest r).isBin then .toOut else .onArm)).conditionsHold := by simp [h]
  split
  · exact State.discLeaves_holds _ _ g
  · exact State.trayTaken_holds (State.sensors_holds _ g rfl rfl rfl)
  · split
    · exact State.doublePick_holds _ _ g
    · exact g
  · exact g
  · exact g

@[simp] theorem State.retaken_holds {s : State} (r : MoveReq) (h : s.conditionsHold) :
    (State.retaken s r).conditionsHold := by
  unfold State.retaken
  (repeat' split) <;> (try simp (maxDischargeDepth := 9) [h]) <;> (repeat' split) <;> (try simp (maxDischargeDepth := 9) [h]) <;> (repeat' split) <;> simp (maxDischargeDepth := 9) [h]

@[simp] theorem State.accepted_holds {s : State} (n : Nat) (at_ : Station) (st : DiscStage) (h : s.conditionsHold) :
    (State.accepted s n at_ st).conditionsHold := by
  unfold State.accepted
  (repeat' split) <;> (try simp (maxDischargeDepth := 9) [h]) <;> (repeat' split) <;> (try simp (maxDischargeDepth := 9) [h]) <;> (repeat' split) <;> simp (maxDischargeDepth := 9) [h]

@[simp] theorem State.cancelQueued_holds {s : State} (d : Disc) (h : s.conditionsHold) :
    (State.cancelQueued s d).conditionsHold := by
  unfold State.cancelQueued
  (repeat' split) <;> (try simp (maxDischargeDepth := 9) [h]) <;> (repeat' split) <;> (try simp (maxDischargeDepth := 9) [h]) <;> (repeat' split) <;> simp (maxDischargeDepth := 9) [h]

@[simp] theorem State.cancelOnArm_holds {s : State} (d : Disc) (h : s.conditionsHold) :
    (State.cancelOnArm s d).conditionsHold := by
  unfold State.cancelOnArm
  (repeat' split) <;> (try simp (maxDischargeDepth := 9) [h]) <;> (repeat' split) <;> (try simp (maxDischargeDepth := 9) [h]) <;> (repeat' split) <;> simp (maxDischargeDepth := 9) [h]

@[simp] theorem State.cancelInBay_holds {s : State} (d : Disc) (b : BayId) (h : s.conditionsHold) :
    (State.cancelInBay s d b).conditionsHold := by
  unfold State.cancelInBay
  (repeat' split) <;> (try simp (maxDischargeDepth := 9) [h]) <;> (repeat' split) <;> (try simp (maxDischargeDepth := 9) [h]) <;> (repeat' split) <;> simp (maxDischargeDepth := 9) [h]

@[simp] theorem State.cancelInPrinter_holds {s : State} (d : Disc) (h : s.conditionsHold) :
    (State.cancelInPrinter s d).conditionsHold := by
  refine State.conditionsHold_of h ?_ ?_ ?_ ?_ ?_ ?_ ?_ <;> simp

@[simp] theorem State.cancelDisc_holds {s : State} (d : Disc) (h : s.conditionsHold) :
    (State.cancelDisc s d).conditionsHold := by
  unfold State.cancelDisc
  (repeat' split) <;> (try simp (maxDischargeDepth := 9) [h]) <;> (repeat' split) <;> (try simp (maxDischargeDepth := 9) [h]) <;> (repeat' split) <;> simp (maxDischargeDepth := 9) [h]

@[simp] theorem State.cancelJob_holds {s : State} (slot : JobSlot) (j : Job) (h : s.conditionsHold) :
    (State.cancelJob s slot j).conditionsHold := by
  unfold State.cancelJob
  simp (maxDischargeDepth := 9) [h, foldl_holds State.cancelDisc (fun _ _ g => State.cancelDisc_holds _ g)]

@[simp] theorem State.modSettings_holds {s : State} (f : Settings → Settings) (h : s.conditionsHold) :
    (State.modSettings s f).conditionsHold := by
  refine State.conditionsHold_of h ?_ ?_ ?_ ?_ ?_ ?_ ?_ <;> simp

@[simp] theorem State.loadSettings_holds {s : State}  (h : s.conditionsHold) :
    (State.loadSettings s).conditionsHold := by
  unfold State.loadSettings
  (repeat' split) <;> (try simp (maxDischargeDepth := 9) [h]) <;> (repeat' split) <;> (try simp (maxDischargeDepth := 9) [h]) <;> (repeat' split) <;> simp (maxDischargeDepth := 9) [h]

@[simp] theorem State.sampleStraps_holds {s : State}  (h : s.conditionsHold) :
    (State.sampleStraps s).conditionsHold := by
  refine State.conditionsHold_of h ?_ ?_ ?_ ?_ ?_ ?_ ?_ <;> simp

@[simp] theorem State.surveyBays_holds {s : State}  (h : s.conditionsHold) :
    (State.surveyBays s).conditionsHold := by
  refine State.conditionsHold_of h ?_ ?_ ?_ ?_ ?_ ?_ ?_ <;> simp

@[simp] theorem State.surveyArm_holds {s : State}  (h : s.conditionsHold) :
    (State.surveyArm s).conditionsHold := by
  refine State.conditionsHold_of h ?_ ?_ ?_ ?_ ?_ ?_ ?_ <;> simp

@[simp] theorem State.setStage_holds {s : State} (st : Stage) (h : s.conditionsHold) :
    (State.setStage s st).conditionsHold := by
  refine State.conditionsHold_of h ?_ ?_ ?_ ?_ ?_ ?_ ?_ <;> simp

@[simp] theorem State.beginInventory_holds {s : State}  (h : s.conditionsHold) :
    (State.beginInventory s).conditionsHold := by
  unfold State.beginInventory
  (repeat' split) <;> (try simp (maxDischargeDepth := 9) [h]) <;> (repeat' split) <;> (try simp (maxDischargeDepth := 9) [h]) <;> (repeat' split) <;> simp (maxDischargeDepth := 9) [h]

@[simp] theorem State.saveEnded_holds {s : State} (w : Saving) (readBack : List Byte) (h : s.conditionsHold) :
    (State.saveEnded s w readBack).conditionsHold := by
  unfold State.saveEnded
  (repeat' split) <;> (try simp (maxDischargeDepth := 9) [h]) <;> (repeat' split) <;> (try simp (maxDischargeDepth := 9) [h]) <;> (repeat' split) <;> simp (maxDischargeDepth := 9) [h]

@[simp] theorem State.modLink_holds {s : State} (f : Link → Link) (h : s.conditionsHold) :
    (State.modLink s f).conditionsHold := by
  refine State.conditionsHold_of h ?_ ?_ ?_ ?_ ?_ ?_ ?_ <;> simp

@[simp] theorem State.answerRefused_holds {s : State} (kind : Byte) (tag : BitVec 16) (result : Result) (h : s.conditionsHold) :
    (State.answerRefused s kind tag result).conditionsHold := by
  unfold State.answerRefused
  exact State.conditionsHold_of (State.clearCaptured_holds h) rfl rfl rfl rfl rfl rfl rfl

@[simp] theorem State.acknowledge_holds {s : State} (events : BitVec 16) (h : s.conditionsHold) :
    (State.acknowledge s events).conditionsHold := by
  unfold State.acknowledge
  exact State.modStatus_holds _ (State.modStatus_holds _ h rfl) rfl

@[simp] theorem State.fillSlot_holds {s : State} (k : ImageId) (i : Image) (h : s.conditionsHold) :
    (State.fillSlot s k i).conditionsHold := by
  refine State.conditionsHold_of h ?_ ?_ ?_ ?_ ?_ ?_ ?_ <;> simp

@[simp] theorem State.openSlot_holds {s : State} (k : ImageId) (i : Image) (h : s.conditionsHold) :
    (State.openSlot s k i).conditionsHold := by
  unfold State.openSlot
  (repeat' split) <;> (try simp (maxDischargeDepth := 9) [h]) <;> (repeat' split) <;> (try simp (maxDischargeDepth := 9) [h]) <;> (repeat' split) <;> simp (maxDischargeDepth := 9) [h]

@[simp] theorem State.feedImage_holds {s : State} (k : ImageId) (h : s.conditionsHold) :
    (State.feedImage s k).conditionsHold := by
  refine State.conditionsHold_of h ?_ ?_ ?_ ?_ ?_ ?_ ?_ <;> simp

@[simp] theorem State.storeSectors_holds {s : State} (k : ImageId) (i : Image) (d : List Sector) (h : s.conditionsHold) :
    (State.storeSectors s k i d).conditionsHold := by
  unfold State.storeSectors
  dsimp only
  apply State.feedImage_holds
  split <;> simp [h]

@[simp] theorem State.stageFull_holds {s : State} (k : ImageId) (i : Image) (h : s.conditionsHold) :
    (State.stageFull s k i).conditionsHold := by
  refine State.conditionsHold_of h ?_ ?_ ?_ ?_ ?_ ?_ ?_ <;> simp

@[simp] theorem State.closePass_holds {s : State} (k : ImageId) (i : Image) (h : s.conditionsHold) :
    (State.closePass s k i).conditionsHold := by
  unfold State.closePass
  (repeat' split) <;> (try simp (maxDischargeDepth := 9) [h]) <;> (repeat' split) <;> (try simp (maxDischargeDepth := 9) [h]) <;> (repeat' split) <;> simp (maxDischargeDepth := 9) [h]

@[simp] theorem State.closeSlot_holds {s : State} (k : ImageId) (i : Image) (h : s.conditionsHold) :
    (State.closeSlot s k i).conditionsHold := by
  refine State.conditionsHold_of (State.returnSegments_holds i.window.length h) ?_ ?_ ?_ ?_ ?_ ?_ ?_ <;>
    simp [State.closeSlot]

@[simp] theorem State.openLabel_holds {s : State} (k : LabelId) (l : Label) (h : s.conditionsHold) :
    (State.openLabel s k l).conditionsHold := by
  refine State.conditionsHold_of h ?_ ?_ ?_ ?_ ?_ ?_ ?_ <;> simp

@[simp] theorem State.dropLabel_holds {s : State} (k : LabelId) (l : Label) (h : s.conditionsHold) :
    (State.dropLabel s k l).conditionsHold := by
  refine State.conditionsHold_of h ?_ ?_ ?_ ?_ ?_ ?_ ?_ <;> simp

@[simp] theorem State.resumePrinter_holds {s : State} (p : Printer) (h : s.conditionsHold) :
    (State.resumePrinter s p).conditionsHold := by
  unfold State.resumePrinter
  (repeat' split) <;> (try simp (maxDischargeDepth := 9) [h]) <;> (repeat' split) <;> (try simp (maxDischargeDepth := 9) [h]) <;> (repeat' split) <;> simp (maxDischargeDepth := 9) [h]

@[simp] theorem State.readingTaken_holds {s : State}  (h : s.conditionsHold) :
    (State.readingTaken s).conditionsHold := by
  unfold State.readingTaken
  (repeat' split) <;> (try simp (maxDischargeDepth := 9) [h]) <;> (repeat' split) <;> (try simp (maxDischargeDepth := 9) [h]) <;> (repeat' split) <;> simp (maxDischargeDepth := 9) [h]

@[simp] theorem State.addJob_holds {s : State} (k : JobSlot) (j : Job) (h : s.conditionsHold) :
    (State.addJob s k j).conditionsHold := by
  refine State.conditionsHold_of h ?_ ?_ ?_ ?_ ?_ ?_ ?_ <;> simp

@[simp] theorem State.removeJob_holds {s : State} (k : JobSlot) (h : s.conditionsHold) :
    (State.removeJob s k).conditionsHold := by
  refine State.conditionsHold_of h ?_ ?_ ?_ ?_ ?_ ?_ ?_ <;> simp

@[simp] theorem State.setRunMode_holds {s : State} (m : RunMode) (h : s.conditionsHold) :
    (State.setRunMode s m).conditionsHold := by
  refine State.conditionsHold_of h ?_ ?_ ?_ ?_ ?_ ?_ ?_ <;> simp

@[simp] theorem State.answerMode_holds {s : State} (kind : Byte) (result : Result) (h : s.conditionsHold) :
    (State.answerMode s kind result).conditionsHold := by
  unfold State.answerMode
  (repeat' split) <;> (try simp (maxDischargeDepth := 9) [h]) <;> (repeat' split) <;> (try simp (maxDischargeDepth := 9) [h]) <;> (repeat' split) <;> simp (maxDischargeDepth := 9) [h]

@[simp] theorem State.orphanGiven_holds {s : State} (w : OrphanAt) (n : Nat) (h : s.conditionsHold) :
    (State.orphanGiven s w n).conditionsHold := by
  unfold State.orphanGiven
  (repeat' split) <;> (try simp (maxDischargeDepth := 9) [h]) <;> (repeat' split) <;> (try simp (maxDischargeDepth := 9) [h]) <;> (repeat' split) <;> simp (maxDischargeDepth := 9) [h]

@[simp] theorem State.grantOrphan_holds {s : State}  (h : s.conditionsHold) :
    (State.grantOrphan s).conditionsHold := by
  unfold State.grantOrphan
  (repeat' split) <;> (try simp (maxDischargeDepth := 9) [h]) <;> (repeat' split) <;> (try simp (maxDischargeDepth := 9) [h]) <;> (repeat' split) <;> simp (maxDischargeDepth := 9) [h]

@[simp] theorem State.bringOnline_holds {s : State} (b : BayId) (h : s.conditionsHold) :
    (State.bringOnline s b).conditionsHold := by
  unfold State.bringOnline
  (repeat' split) <;> (try simp (maxDischargeDepth := 9) [h]) <;> (repeat' split) <;> (try simp (maxDischargeDepth := 9) [h]) <;> (repeat' split) <;> simp (maxDischargeDepth := 9) [h]

@[simp] theorem State.identResult_holds {s : State} (b : BayId) (kind : CompletionKind) (facts : DriveFacts) (h : s.conditionsHold) :
    (State.identResult s b kind facts).conditionsHold := by
  unfold State.identResult
  (repeat' split) <;> (try simp (maxDischargeDepth := 9) [h]) <;> (repeat' split) <;> (try simp (maxDischargeDepth := 9) [h]) <;> (repeat' split) <;> simp (maxDischargeDepth := 9) [h]

@[simp] theorem State.modDiscOf_holds {s : State} (b : BayId) (f : Disc → Disc) (h : s.conditionsHold) :
    (State.modDiscOf s b f).conditionsHold := by
  refine State.conditionsHold_of h ?_ ?_ ?_ ?_ ?_ ?_ ?_ <;> simp

@[simp] theorem State.surveyResult_holds {s : State} (b : BayId) (kind : CompletionKind) (facts : DriveFacts) (h : s.conditionsHold) :
    (State.surveyResult s b kind facts).conditionsHold := by
  unfold State.surveyResult
  (repeat' split) <;> (try simp (maxDischargeDepth := 9) [h]) <;> (repeat' split) <;> (try simp (maxDischargeDepth := 9) [h]) <;> (repeat' split) <;> simp (maxDischargeDepth := 9) [h]

@[simp] theorem State.written_holds {s : State} (b : BayId) (count buffer : Nat) (h : s.conditionsHold) :
    (State.written s b count buffer).conditionsHold := by
  unfold State.written
  (repeat' split) <;> (try simp (maxDischargeDepth := 9) [h]) <;> (repeat' split) <;> (try simp (maxDischargeDepth := 9) [h]) <;> (repeat' split) <;> simp (maxDischargeDepth := 9) [h]

@[simp] theorem State.reallocate_holds {s : State} (b : BayId) (a : Burn) (step stable : Nat) (h : s.conditionsHold) :
    (State.reallocate s b a step stable).conditionsHold := by
  refine State.conditionsHold_of h ?_ ?_ ?_ ?_ ?_ ?_ ?_ <;> simp

@[simp] theorem State.speedOk_holds {s : State} (b : BayId) (a : Burn) (step : Nat) (h : s.conditionsHold) :
    (State.speedOk s b a step).conditionsHold := by
  refine State.conditionsHold_of h ?_ ?_ ?_ ?_ ?_ ?_ ?_ <;> simp

@[simp] theorem State.speedRefused_holds {s : State} (b : BayId) (a : Burn) (step : Nat) (h : s.conditionsHold) :
    (State.speedRefused s b a step).conditionsHold := by
  refine State.conditionsHold_of h ?_ ?_ ?_ ?_ ?_ ?_ ?_ <;> simp

@[simp] theorem State.closed_holds {s : State} (b : BayId) (h : s.conditionsHold) :
    (State.closed s b).conditionsHold := by
  unfold State.closed
  (repeat' split) <;> (try simp (maxDischargeDepth := 9) [h]) <;> (repeat' split) <;> (try simp (maxDischargeDepth := 9) [h]) <;> (repeat' split) <;> simp (maxDischargeDepth := 9) [h]

@[simp] theorem State.verifySucceeds_holds {s : State} (b : BayId) (n : Nat) (h : s.conditionsHold) :
    (State.verifySucceeds s b n).conditionsHold := by
  unfold State.verifySucceeds
  (repeat' split) <;> (try simp (maxDischargeDepth := 9) [h]) <;> (repeat' split) <;> (try simp (maxDischargeDepth := 9) [h]) <;> (repeat' split) <;> simp (maxDischargeDepth := 9) [h]

@[simp] theorem State.verifyFails_holds {s : State} (b : BayId) (why : RejectReason) (h : s.conditionsHold) :
    (State.verifyFails s b why).conditionsHold := by
  unfold State.verifyFails
  (repeat' split) <;> (try simp (maxDischargeDepth := 9) [h]) <;> (repeat' split) <;> (try simp (maxDischargeDepth := 9) [h]) <;> (repeat' split) <;> simp (maxDischargeDepth := 9) [h]

@[simp] theorem State.chunkHandled_holds {s : State} (b : BayId) (l : LaneId) (y : Lane) (good : Bool) (h : s.conditionsHold) :
    (State.chunkHandled s b l y good).conditionsHold := by
  unfold State.chunkHandled
  (repeat' split) <;> (try simp (maxDischargeDepth := 9) [h]) <;> (repeat' split) <;> (try simp (maxDischargeDepth := 9) [h]) <;> (repeat' split) <;> simp (maxDischargeDepth := 9) [h]

@[simp] theorem State.readOk_holds {s : State} (b : BayId) (l : LaneId) (y : Lane) (index : Nat) (data : List Byte) (h : s.conditionsHold) :
    (State.readOk s b l y index data).conditionsHold := by
  unfold State.readOk
  (repeat' split) <;> (try simp (maxDischargeDepth := 9) [h]) <;> (repeat' split) <;> (try simp (maxDischargeDepth := 9) [h]) <;> (repeat' split) <;> simp (maxDischargeDepth := 9) [h]

@[simp] theorem State.takeHead_holds {s : State} (l : LaneId) (b : BayId) (h : s.conditionsHold) :
    (State.takeHead s l b).conditionsHold := by
  refine State.conditionsHold_of h ?_ ?_ ?_ ?_ ?_ ?_ ?_ <;> simp

@[simp] theorem State.takeLanes_holds {s : State} (n : Nat) (h : s.conditionsHold) :
    (State.takeLanes n s).conditionsHold := by
  refine State.conditionsHold_of h ?_ ?_ ?_ ?_ ?_ ?_ ?_ <;> simp

@[simp] theorem State.workTimedOut_holds {s : State} (b : BayId) (h : s.conditionsHold) :
    (State.workTimedOut s b).conditionsHold := by
  unfold State.workTimedOut
  (repeat' split) <;> (try simp (maxDischargeDepth := 9) [h]) <;> (repeat' split) <;> (try simp (maxDischargeDepth := 9) [h]) <;> (repeat' split) <;> simp (maxDischargeDepth := 9) [h]

@[simp] theorem State.identTimedOut_holds {s : State} (b : BayId) (h : s.conditionsHold) :
    (State.identTimedOut s b).conditionsHold := by
  unfold State.identTimedOut
  (repeat' split) <;> (try simp (maxDischargeDepth := 9) [h]) <;> (repeat' split) <;> (try simp (maxDischargeDepth := 9) [h]) <;> (repeat' split) <;> simp (maxDischargeDepth := 9) [h]

@[simp] theorem State.trayFailed_holds {s : State} (b : BayId) (h : s.conditionsHold) :
    (State.trayFailed s b).conditionsHold := by
  unfold State.trayFailed
  (repeat' split) <;> (try simp (maxDischargeDepth := 9) [h]) <;> (repeat' split) <;> (try simp (maxDischargeDepth := 9) [h]) <;> (repeat' split) <;> simp (maxDischargeDepth := 9) [h]

@[simp] theorem State.admissionEvaluation_holds {s : State}  (h : s.conditionsHold) :
    (State.admissionEvaluation s).conditionsHold := by
  refine State.conditionsHold_of h ?_ ?_ ?_ ?_ ?_ ?_ ?_ <;> simp

@[simp] theorem State.trayOpened_holds {s : State} (b : BayId) (h : s.conditionsHold) :
    (State.trayOpened s b).conditionsHold := by
  unfold State.trayOpened
  (repeat' split) <;> (try simp (maxDischargeDepth := 9) [h]) <;> (repeat' split) <;> (try simp (maxDischargeDepth := 9) [h]) <;> (repeat' split) <;> simp (maxDischargeDepth := 9) [h]

@[simp] theorem State.bayAccepts_holds {s : State} (b : BayId) (h : s.conditionsHold) :
    (State.bayAccepts s b).conditionsHold := by
  unfold State.bayAccepts
  (repeat' split) <;> (try simp (maxDischargeDepth := 9) [h]) <;> (repeat' split) <;> (try simp (maxDischargeDepth := 9) [h]) <;> (repeat' split) <;> simp (maxDischargeDepth := 9) [h]

@[simp] theorem State.atSource_holds {s : State} (r : MoveReq) (seen : Bool) (h : s.conditionsHold) :
    (State.atSource s r seen).conditionsHold := by
  unfold State.atSource
  split
  · simp (maxDischargeDepth := 9) [h]
  · dsimp only
    split <;> simp (maxDischargeDepth := 9) [h]
  · dsimp only
    have g : ({ s with sensors := { s.sensors with tray := seen } } : State).conditionsHold :=
      State.sensors_holds _ h rfl rfl rfl
    split
    · exact State.setClamp_holds _ (State.startAck_holds _ g)
    · exact State.forcedRelease_holds g
  · exact h
  · exact h

@[simp] theorem State.atDest_holds {s : State} (r : MoveReq) (h : s.conditionsHold) :
    (State.atDest s r).conditionsHold := by
  unfold State.atDest
  (repeat' split) <;> (try simp (maxDischargeDepth := 9) [h]) <;> (repeat' split) <;> (try simp (maxDischargeDepth := 9) [h]) <;> (repeat' split) <;> simp (maxDischargeDepth := 9) [h]

@[simp] theorem State.discSet_holds {s : State}  (h : s.conditionsHold) :
    (State.discSet s).conditionsHold := by
  unfold State.discSet
  (repeat' split) <;> (try simp (maxDischargeDepth := 9) [h]) <;> (repeat' split) <;> (try simp (maxDischargeDepth := 9) [h]) <;> (repeat' split) <;> simp (maxDischargeDepth := 9) [h]

@[simp] theorem State.dropped_holds {s : State} (r : MoveReq) (at_ : BinId) (h : s.conditionsHold) :
    (State.dropped s r at_).conditionsHold := by
  unfold State.dropped
  (repeat' split) <;> (try simp (maxDischargeDepth := 9) [h]) <;> (repeat' split) <;> (try simp (maxDischargeDepth := 9) [h]) <;> (repeat' split) <;> simp (maxDischargeDepth := 9) [h]

@[simp] theorem State.homingDropped_holds {s : State}  (h : s.conditionsHold) :
    (State.homingDropped s).conditionsHold := by
  unfold State.homingDropped
  (repeat' split) <;> (try simp (maxDischargeDepth := 9) [h]) <;> (repeat' split) <;> (try simp (maxDischargeDepth := 9) [h]) <;> (repeat' split) <;> simp (maxDischargeDepth := 9) [h]

@[simp] theorem State.carryFailed_holds {s : State} (r : MoveReq) (h : s.conditionsHold) :
    (State.carryFailed s r).conditionsHold := by
  unfold State.carryFailed
  (repeat' split) <;> (try simp (maxDischargeDepth := 9) [h]) <;> (repeat' split) <;> (try simp (maxDischargeDepth := 9) [h]) <;> (repeat' split) <;> simp (maxDischargeDepth := 9) [h]

@[simp] theorem State.holdTimedOut_holds {s : State}  (h : s.conditionsHold) :
    (State.holdTimedOut s).conditionsHold := by
  unfold State.holdTimedOut
  (repeat' split) <;> (try simp (maxDischargeDepth := 9) [h]) <;> (repeat' split) <;> (try simp (maxDischargeDepth := 9) [h]) <;> (repeat' split) <;> simp (maxDischargeDepth := 9) [h]

@[simp] theorem State.stopForDoor_holds {s : State}  (h : s.conditionsHold) :
    (State.stopForDoor s).conditionsHold := by
  unfold State.stopForDoor
  (repeat' split) <;> (try simp (maxDischargeDepth := 9) [h]) <;> (repeat' split) <;> (try simp (maxDischargeDepth := 9) [h]) <;> (repeat' split) <;> simp (maxDischargeDepth := 9) [h]

@[simp] theorem State.unjam_holds {s : State} (i : SpindleId) (h : s.conditionsHold) :
    (State.unjam s i).conditionsHold := by
  unfold State.unjam
  (repeat' split) <;> (try simp (maxDischargeDepth := 9) [h]) <;> (repeat' split) <;> (try simp (maxDischargeDepth := 9) [h]) <;> (repeat' split) <;> simp (maxDischargeDepth := 9) [h]

@[simp] theorem State.tick_holds {s : State}  (h : s.conditionsHold) :
    (State.tick s).conditionsHold := by
  refine State.conditionsHold_of h ?_ ?_ ?_ ?_ ?_ ?_ ?_ <;> simp

end Sys2Proof.Machine
end

