-- ==== Sys2Proof/Laws/Digests.lean ====
section
/-! SUPPORT. What IMAGE DATA makes of a slot's digests: sectors inside a chunk, sectors that end it, and a request that does both (R32, R33). -/

namespace Sys2Proof.Machine

/-- The end of the chunk that holds the fill point, or of the image (R33). -/
def Image.chunkEnd (i : Image) : Nat := min (32 * (i.fill / 32 + 1)) i.size

theorem sectorsOf_append (a b : Nat) (data : List Byte) :
    sectorsOf (a + b) data = sectorsOf a data ++ sectorsOf b (data.drop (a * 2048)) := by
  induction a generalizing data with
  | zero => simp [sectorsOf]
  | succ a ih =>
    rw [Nat.succ_add]
    simp only [sectorsOf, List.cons_append, ih, List.drop_drop, Config.sectorBytes]
    congr 4
    ring

/-- Only the bytes of its sectors count in a request. -/
theorem sectorsOf_take (n : Nat) (data : List Byte) : sectorsOf n (data.take (n * Config.sectorBytes)) = sectorsOf n data := by
  generalize hb : Config.sectorBytes = b
  induction n generalizing data with
  | zero => rfl
  | succ n ih =>
    have e : (data.take ((n + 1) * b)).drop b = (data.drop b).take (n * b) := by
      rw [List.drop_take, Nat.add_mul, Nat.one_mul, Nat.add_sub_cancel]
    have f : (data.take ((n + 1) * b)).take b = data.take b := by
      rw [List.take_take, Nat.min_eq_left (by rw [Nat.add_mul, Nat.one_mul]; exact Nat.le_add_left _ _)]
    simp only [sectorsOf, hb, e, f, ih]

theorem crcBytes32_append (c : BitVec 32) (x y : List Byte) :
    crcBytes32 c (x ++ y) = crcBytes32 (crcBytes32 c x) y := by
  simp [crcBytes32, List.foldl_append]

theorem Image.firstDiffering_append (i : Image) (x y : List Sector) :
    i.firstDiffering (x ++ y) =
      match i.firstDiffering x with
      | some c => some c
      | none => (i.takeSectors x).firstDiffering y := by
  induction x generalizing i with
  | nil => rfl
  | cons e x ih =>
    simp only [List.cons_append, Image.firstDiffering, Image.takeSectors, List.foldl_cons]
    split
    · rfl
    · rw [ih]; rfl

/-- A sector that does not end its chunk (R33). -/
theorem Image.endsChunk_inside (i : Image) (h : i.fill + 1 < i.chunkEnd) : i.endsChunk = false := by
  unfold Image.chunkEnd at h
  simp only [Image.endsChunk, Config.chunkSectors, Bool.or_eq_false_iff, beq_eq_false_iff_ne]
  omega

theorem Image.endsChunk_last (i : Image) (h : i.fill + 1 = i.chunkEnd) : i.endsChunk = true := by
  unfold Image.chunkEnd at h
  simp only [Image.endsChunk, Config.chunkSectors, Bool.or_eq_true, beq_iff_eq]
  omega

/-- Sectors inside a chunk only run the accumulator and the fill point on (R33). -/
theorem Image.takeSectors_inside (n : Nat) (i : Image) (data : List Byte) (hd : data.length = n * 2048)
    (h : i.fill + n < i.chunkEnd) :
    i.takeSectors (sectorsOf n data) = { i with fill := i.fill + n, acc := crcBytes32 i.acc data } ∧
      i.firstDiffering (sectorsOf n data) = none := by
  induction n generalizing i data with
  | zero =>
    have : data = [] := List.length_eq_zero_iff.mp (by omega)
    subst this
    exact ⟨rfl, rfl⟩
  | succ n ih =>
    have e := i.endsChunk_inside (by omega)
    have t : i.takeSector (data.take 2048) =
        { i with fill := i.fill + 1, acc := crcBytes32 i.acc (data.take 2048) } := by
      simp [Image.takeSector, e]
    have c : ({ i with fill := i.fill + 1, acc := crcBytes32 i.acc (data.take 2048) } : Image).chunkEnd = i.chunkEnd := by
      unfold Image.chunkEnd at h ⊢; dsimp only; omega
    obtain ⟨r1, r2⟩ := ih { i with fill := i.fill + 1, acc := crcBytes32 i.acc (data.take 2048) } (data.drop 2048)
      (by simp; omega) (by rw [c]; dsimp only; omega)
    constructor
    · simp only [sectorsOf, Image.takeSectors, List.foldl_cons, Config.sectorBytes]
      rw [t]
      refine r1.trans ?_
      rw [← crcBytes32_append, List.take_append_drop]
      simp only [Nat.add_assoc, Nat.add_comm 1 n]
    · simp only [sectorsOf, Image.firstDiffering, Config.sectorBytes]
      rw [t]
      simp [Image.differs, e, r2]

/-- A digest is not the present one (R33). -/
def digestDiffers (l : List (Option (BitVec 32))) (c : Nat) (d : BitVec 32) : Bool :=
  match l.getD c none with
  | none => false
  | some e => e != d

/-- Sectors up to the end of a chunk form its digest (R33). -/
theorem Image.takeSectors_ends (n : Nat) (i : Image) (data : List Byte) (hn : n ≠ 0) (hd : data.length = n * 2048)
    (h : i.fill + n = i.chunkEnd) :
    let d := ~~~ crcBytes32 i.acc data
    let b := digestDiffers i.digests (i.fill / 32) d
    i.takeSectors (sectorsOf n data) = { i with
      fill := i.fill + n, acc := crcInit32, digests := placeDigest i.digests (i.fill / 32) d
      differing := if b then satInc Config.max16 i.differing else i.differing } ∧
      i.firstDiffering (sectorsOf n data) = if b then some (i.fill / 32) else none := by
  intro d b
  obtain ⟨m, rfl⟩ := Nat.exists_eq_succ_of_ne_zero hn
  rw [Nat.succ_eq_add_one] at *
  set x := data.take (m * 2048) with hx
  set y := data.drop (m * 2048) with hy
  have lx : x.length = m * 2048 := by rw [hx, List.length_take]; omega
  have ly : y.length = 2048 := by rw [hy, List.length_drop]; omega
  have sx : sectorsOf m data = sectorsOf m x := (sectorsOf_take m data).symm
  have s1 : sectorsOf (m + 1) data = sectorsOf m x ++ [y] := by
    have one : sectorsOf 1 y = [y] := by
      show [y.take Config.sectorBytes] = [y]
      rw [List.take_of_length_le (show y.length ≤ Config.sectorBytes from Nat.le_of_eq ly)]
    rw [sectorsOf_append, sx, ← hy, one]
  obtain ⟨p1, p2⟩ := Image.takeSectors_inside m i x lx (by omega)
  set j : Image := { i with fill := i.fill + m, acc := crcBytes32 i.acc x } with hj
  have je : j.endsChunk = true := j.endsChunk_last (by
    unfold Image.chunkEnd at h ⊢; simp only [hj]; omega)
  have jc : j.chunkNow = i.fill / 32 := by
    unfold Image.chunkEnd at h; simp only [Image.chunkNow, hj, Config.chunkSectors]; omega
  have jd : (~~~ crcBytes32 j.acc y) = d := by
    simp only [hj, d, ← crcBytes32_append, hx, hy, List.take_append_drop]
  have jb : j.differs y = b := by
    simp only [Image.differs, je, Bool.true_and, jc, jd, b, digestDiffers]
    rfl
  constructor
  · rw [s1, Image.takeSectors, List.foldl_append]
    show (i.takeSectors (sectorsOf m x)).takeSector y = _
    rw [p1, Image.takeSector, if_pos je, jb, jc, jd]
    rfl
  · rw [s1, Image.firstDiffering_append, p2, p1]
    simp only [Image.firstDiffering]
    rw [jb, jc]

end Sys2Proof.Machine
end

