-- ==== Sys2Proof/Laws/Requests.lean ====
section
/-! SUPPORT. The move queue: what a post and a departure make of it, and that it holds one request for each requester (R112, R113). -/

set_option linter.unusedTactic false
set_option linter.unreachableTactic false
set_option linter.unnecessarySeqFocus false
set_option linter.unusedSimpArgs false

namespace Sys2Proof.Machine

/-! ## Posts -/

theorem State.hasMove_false {s : State} {q : Requester} :
    s.hasMove q = false ↔ ∀ r ∈ s.trans.queue, r.requester ≠ q := by
  simp [State.hasMove]

/-- What joining the queue makes of it. -/
theorem State.joinQueue_asked (s : State) (r : MoveReq) : s.trans.asked (s.joinQueue r).trans r := by
  refine ⟨fun h => ?_, fun h => ?_⟩
  · simp [State.joinQueue, State.hasMove_false.mpr h]
  · have : s.hasMove r.requester = true := by simpa [State.hasMove] using h
    simp [State.joinQueue, this]

@[simp] theorem State.postMove_trans (s : State) (r : MoveReq) : (s.postMove r).trans = (s.joinQueue r).trans := by
  unfold State.postMove
  split <;> simp

/-- A post joins the queue or waits. -/
theorem State.postMove_asked (s : State) (r : MoveReq) : s.trans.asked (s.postMove r).trans r := by
  rw [State.postMove_trans]; exact s.joinQueue_asked r

/-- A post with no request of its requester in the queue. -/
theorem State.postMove_joins {s : State} {r : MoveReq} (h : ∀ q ∈ s.trans.queue, q.requester ≠ r.requester) :
    (s.postMove r).trans = { s.trans with queue := s.trans.queue ++ [r] } := by
  simp [State.joinQueue, State.hasMove_false.mpr h]

/-- A fold of posts, on the queue and on the posts that wait. -/
theorem State.foldPosts_trans (l : List MoveReq) (s : State) :
    (l.foldl State.postMove s).trans = { s.trans with
      queue := (postsAfter s.trans.queue l).1, waiting := s.trans.waiting ++ (postsAfter s.trans.queue l).2 } := by
  induction l generalizing s with
  | nil => simp [postsAfter]
  | cons r l ih =>
    rw [List.foldl_cons, ih, State.postMove_trans]
    rw [postsAfter]
    unfold State.joinQueue State.hasMove
    cases h : s.trans.queue.any fun q => q.requester == r.requester <;> simp [h]

/-- What the waiting posts make of the queue once requests have left it. -/
theorem State.postWaiting_trans (s : State) :
    s.postWaiting.trans = { s.trans with
      queue := (postsAfter s.trans.queue s.trans.waiting).1
      waiting := (postsAfter s.trans.queue s.trans.waiting).2 } := by
  unfold State.postWaiting
  rw [State.foldPosts_trans]
  simp

/-- With the request under way alone in the queue, only the posts that waited stand in it afterwards. -/
theorem State.dropCurrent_leaves (s : State) :
    s.trans.leaves s.dropCurrent.trans (s.trans.queue.filter fun r => !(r.granted || r.interrupted)) := by
  unfold State.dropCurrent
  rw [Transport.leaves, State.postWaiting_trans]
  simp [State.takeCurrent]

/-! ## One request for each requester -/

/-- A request joins a queue that holds none of its requester. -/
theorem oneEach_append {l : List MoveReq} {r : MoveReq} (h : (l.map MoveReq.requester).Nodup)
    (n : ∀ q ∈ l, q.requester ≠ r.requester) : ((l ++ [r]).map MoveReq.requester).Nodup := by
  rw [List.map_append, List.nodup_append]
  refine ⟨h, by simp, ?_⟩
  intro a ha b hb
  simp only [List.mem_map] at ha
  obtain ⟨q, hq, rfl⟩ := ha
  simp only [List.map_cons, List.map_nil, List.mem_singleton] at hb
  rw [hb]; exact n q hq

/-- A change of requests that keeps each one's requester. -/
theorem oneEach_map {l : List MoveReq} {f : MoveReq → MoveReq} (h : (l.map MoveReq.requester).Nodup)
    (k : ∀ r, (f r).requester = r.requester) : ((l.map f).map MoveReq.requester).Nodup := by
  rw [List.map_map]
  have e : MoveReq.requester ∘ f = MoveReq.requester := funext k
  rw [e]; exact h

theorem oneEach_filter {l : List MoveReq} (p : MoveReq → Bool) (h : (l.map MoveReq.requester).Nodup) :
    ((l.filter p).map MoveReq.requester).Nodup :=
  h.sublist (List.filter_sublist.map _)

/-- Bays 0 to 11, and the printer. -/
def Requester.place : Requester → Nat
  | .bay b => b.val
  | .printer => 12

theorem Requester.place_injective : Function.Injective Requester.place := by
  intro a b h
  cases a <;> cases b <;> simp only [Requester.place] at h
  · rw [Fin.ext h]
  · omega
  · omega
  · rfl

/-- At most thirteen requests, so there is always room for thirty-two (R113). -/
theorem Transport.oneEach_length {t : Transport} (h : t.oneEach) : t.queue.length ≤ Config.moveRequests := by
  have n := List.Nodup.map Requester.place_injective h
  have s : ((t.queue.map MoveReq.requester).map Requester.place).toFinset ⊆ Finset.range 13 := by
    intro x hx
    simp only [List.mem_toFinset, List.mem_map] at hx
    obtain ⟨q, _, rfl⟩ := hx
    cases q <;> simp [Requester.place] <;> omega
  have c := Finset.card_le_card s
  rw [List.toFinset_card_of_nodup n] at c
  simp at c
  simp [Config.moveRequests]; omega

@[simp] theorem State.joinQueue_oneEach {s : State} (r : MoveReq) (h : (s.trans.queue.map MoveReq.requester).Nodup) :
    ((s.joinQueue r).trans.queue.map MoveReq.requester).Nodup := by
  have e : (s.joinQueue r).trans.queue = if s.hasMove r.requester then s.trans.queue else s.trans.queue ++ [r] := by
    simp only [State.joinQueue, State.modTrans_trans]; split <;> rfl
  rw [e]
  split
  · exact h
  · exact oneEach_append h (State.hasMove_false.mp (by simp_all))

@[simp] theorem State.postMove_oneEach {s : State} (r : MoveReq) (h : (s.trans.queue.map MoveReq.requester).Nodup) :
    ((s.postMove r).trans.queue.map MoveReq.requester).Nodup := by
  simp [h]

@[simp] theorem State.postWaiting_oneEach {s : State} (h : (s.trans.queue.map MoveReq.requester).Nodup) : (s.postWaiting.trans.queue.map MoveReq.requester).Nodup := by
  unfold State.postWaiting
  have g : ∀ (l : List MoveReq) (t : State), (t.trans.queue.map MoveReq.requester).Nodup → ((l.foldl State.postMove t).trans.queue.map MoveReq.requester).Nodup := by
    intro l
    induction l with
    | nil => intro t ht; exact ht
    | cons r l ih => intro t ht; exact ih _ (State.postMove_oneEach r ht)
  exact g _ _ h

@[simp] theorem Transport.timersStopped_queue (t : Transport) : t.timersStopped.queue = t.queue := rfl

theorem State.modCurrent_oneEach {s : State} {f : MoveReq → MoveReq} (h : (s.trans.queue.map MoveReq.requester).Nodup)
    (k : ∀ r, (f r).requester = r.requester) : ((s.modCurrent f).trans.queue.map MoveReq.requester).Nodup :=
  oneEach_map h fun r => by split <;> simp [k]

@[simp] theorem State.takeCurrent_oneEach {s : State} (h : (s.trans.queue.map MoveReq.requester).Nodup) : (s.takeCurrent.trans.queue.map MoveReq.requester).Nodup :=
  oneEach_filter _ h

@[simp] theorem MoveReq.redirect_requester (leg : Leg) (at_ : Station) (r : MoveReq) :
    (r.redirect leg at_).requester = r.requester := by
  unfold MoveReq.redirect; split <;> rfl

@[simp] theorem State.redirect_oneEach {s : State} (leg : Leg) (at_ : Station) (h : (s.trans.queue.map MoveReq.requester).Nodup) :
    ((s.modCurrent (MoveReq.redirect leg at_)).trans.queue.map MoveReq.requester).Nodup :=
  State.modCurrent_oneEach h fun _ => by simp

@[simp] theorem State.interrupt_oneEach {s : State} (h : (s.trans.queue.map MoveReq.requester).Nodup) :
    ((s.modCurrent fun r => { r with granted := false, interrupted := true }).trans.queue.map MoveReq.requester).Nodup :=
  State.modCurrent_oneEach h fun _ => rfl

@[simp] theorem State.regrant_oneEach {s : State} (h : (s.trans.queue.map MoveReq.requester).Nodup) :
    ((s.modCurrent fun r => { r with granted := true, interrupted := false }).trans.queue.map MoveReq.requester).Nodup :=
  State.modCurrent_oneEach h fun _ => rfl

@[simp] theorem State.modTrans_oneEach {s : State} {f : Transport → Transport} (h : (s.trans.queue.map MoveReq.requester).Nodup)
    (k : (f s.trans).queue = s.trans.queue) : ((s.modTrans f).trans.queue.map MoveReq.requester).Nodup := by
  simpa [Transport.oneEach, k] using h

@[simp] theorem State.setSpindle_queue (s : State) (i : SpindleId) (st : SpindleState) : (State.setSpindle s i st).trans.queue = s.trans.queue := by
  unfold State.setSpindle
  (repeat' split) <;> (try simp) <;> (repeat' split) <;> simp

@[simp] theorem State.dispatch_oneEach {s : State} (b : BayId) (slot : JobSlot) (j : Job) (i : SpindleId) (h : (s.trans.queue.map MoveReq.requester).Nodup) :
    ((State.dispatch s b slot j i).trans.queue.map MoveReq.requester).Nodup := by
  unfold State.dispatch
  (repeat' split) <;> (try simp (maxDischargeDepth := 9) [h]) <;> (repeat' split) <;> (try simp (maxDischargeDepth := 9) [h]) <;> (repeat' split) <;> simp (maxDischargeDepth := 9) [h]

@[simp] theorem State.dispatchBay_oneEach {s : State} (b : BayId) (h : (s.trans.queue.map MoveReq.requester).Nodup) :
    ((State.dispatchBay s b).trans.queue.map MoveReq.requester).Nodup := by
  unfold State.dispatchBay
  (repeat' split) <;> (try simp (maxDischargeDepth := 9) [h]) <;> (repeat' split) <;> (try simp (maxDischargeDepth := 9) [h]) <;> (repeat' split) <;> simp (maxDischargeDepth := 9) [h]

@[simp] theorem State.dispatchAll_oneEach {s : State} (h : (s.trans.queue.map MoveReq.requester).Nodup) : (s.dispatchAll.trans.queue.map MoveReq.requester).Nodup := by
  unfold State.dispatchAll
  have g : ∀ (l : List BayId) (t : State), (t.trans.queue.map MoveReq.requester).Nodup → ((l.foldl State.dispatchBay t).trans.queue.map MoveReq.requester).Nodup := by
    intro l
    induction l with
    | nil => intro t ht; exact ht
    | cons r l ih => intro t ht; exact ih _ (State.dispatchBay_oneEach r ht)
  exact g _ _ h

@[simp] theorem State.postUnload_oneEach {s : State} (b : BayId) (n : Nat) (dest : Station) (h : (s.trans.queue.map MoveReq.requester).Nodup) :
    ((State.postUnload s b n dest).trans.queue.map MoveReq.requester).Nodup := by
  unfold State.postUnload
  (repeat' split) <;> (try simp (maxDischargeDepth := 9) [h]) <;> (repeat' split) <;> (try simp (maxDischargeDepth := 9) [h]) <;> (repeat' split) <;> simp (maxDischargeDepth := 9) [h]

@[simp] theorem State.enterAwaitUnload_oneEach {s : State} (b : BayId) (n : Nat) (h : (s.trans.queue.map MoveReq.requester).Nodup) :
    ((State.enterAwaitUnload s b n).trans.queue.map MoveReq.requester).Nodup := by
  unfold State.enterAwaitUnload
  (repeat' split) <;> (try simp (maxDischargeDepth := 9) [h]) <;> (repeat' split) <;> (try simp (maxDischargeDepth := 9) [h]) <;> (repeat' split) <;> simp (maxDischargeDepth := 9) [h]

@[simp] theorem State.bayReject_oneEach {s : State} (b : BayId) (why : RejectReason) (h : (s.trans.queue.map MoveReq.requester).Nodup) :
    ((State.bayReject s b why).trans.queue.map MoveReq.requester).Nodup := by
  unfold State.bayReject
  (repeat' split) <;> (try simp (maxDischargeDepth := 9) [h]) <;> (repeat' split) <;> (try simp (maxDischargeDepth := 9) [h]) <;> (repeat' split) <;> simp (maxDischargeDepth := 9) [h]

@[simp] theorem State.ranDry_oneEach {s : State} (b : BayId) (h : (s.trans.queue.map MoveReq.requester).Nodup) :
    ((State.ranDry s b).trans.queue.map MoveReq.requester).Nodup := by
  unfold State.ranDry
  (repeat' split) <;> (try simp (maxDischargeDepth := 9) [h]) <;> (repeat' split) <;> (try simp (maxDischargeDepth := 9) [h]) <;> (repeat' split) <;> simp (maxDischargeDepth := 9) [h]

@[simp] theorem State.identified_oneEach {s : State} (b : BayId) (n : Nat) (f : DriveFacts) (h : (s.trans.queue.map MoveReq.requester).Nodup) :
    ((State.identified s b n f).trans.queue.map MoveReq.requester).Nodup := by
  unfold State.identified
  (repeat' split) <;> (try simp (maxDischargeDepth := 9) [h]) <;> (repeat' split) <;> (try simp (maxDischargeDepth := 9) [h]) <;> (repeat' split) <;> simp (maxDischargeDepth := 9) [h]

@[simp] theorem State.bayTakesOrphan_oneEach {s : State} (b : BayId) (n : Nat) (h : (s.trans.queue.map MoveReq.requester).Nodup) :
    ((State.bayTakesOrphan s b n).trans.queue.map MoveReq.requester).Nodup := by
  unfold State.bayTakesOrphan
  (repeat' split) <;> (try simp (maxDischargeDepth := 9) [h]) <;> (repeat' split) <;> (try simp (maxDischargeDepth := 9) [h]) <;> (repeat' split) <;> simp (maxDischargeDepth := 9) [h]

@[simp] theorem State.surveyFoundDisc_oneEach {s : State} (b : BayId) (h : (s.trans.queue.map MoveReq.requester).Nodup) :
    ((State.surveyFoundDisc s b).trans.queue.map MoveReq.requester).Nodup := by
  unfold State.surveyFoundDisc
  (repeat' split) <;> (try simp (maxDischargeDepth := 9) [h]) <;> (repeat' split) <;> (try simp (maxDischargeDepth := 9) [h]) <;> (repeat' split) <;> simp (maxDischargeDepth := 9) [h]

@[simp] theorem State.postTrayMove_oneEach {s : State} (p : Printer) (kind : MoveKind) (n : Nat) (dest : Station) (h : (s.trans.queue.map MoveReq.requester).Nodup) :
    ((State.postTrayMove s p kind n dest).trans.queue.map MoveReq.requester).Nodup := by
  unfold State.postTrayMove
  (repeat' split) <;> (try simp (maxDischargeDepth := 9) [h]) <;> (repeat' split) <;> (try simp (maxDischargeDepth := 9) [h]) <;> (repeat' split) <;> simp (maxDischargeDepth := 9) [h]

@[simp] theorem State.printEnd_oneEach {s : State} (p : Printer) (h : (s.trans.queue.map MoveReq.requester).Nodup) :
    ((State.printEnd s p).trans.queue.map MoveReq.requester).Nodup := by
  unfold State.printEnd
  (repeat' split) <;> (try simp (maxDischargeDepth := 9) [h]) <;> (repeat' split) <;> (try simp (maxDischargeDepth := 9) [h]) <;> (repeat' split) <;> simp (maxDischargeDepth := 9) [h]

@[simp] theorem State.linePrinted_oneEach {s : State} (p : Printer) (r : Print) (l : Label) (h : (s.trans.queue.map MoveReq.requester).Nodup) :
    ((State.linePrinted s p r l).trans.queue.map MoveReq.requester).Nodup := by
  unfold State.linePrinted
  (repeat' split) <;> (try simp (maxDischargeDepth := 9) [h]) <;> (repeat' split) <;> (try simp (maxDischargeDepth := 9) [h]) <;> (repeat' split) <;> simp (maxDischargeDepth := 9) [h]

@[simp] theorem State.printSpoiled_oneEach {s : State} (p : Printer) (n : Nat) (h : (s.trans.queue.map MoveReq.requester).Nodup) :
    ((State.printSpoiled s p n).trans.queue.map MoveReq.requester).Nodup := by
  unfold State.printSpoiled
  (repeat' split) <;> (try simp (maxDischargeDepth := 9) [h]) <;> (repeat' split) <;> (try simp (maxDischargeDepth := 9) [h]) <;> (repeat' split) <;> simp (maxDischargeDepth := 9) [h]

@[simp] theorem State.printerFaultEntry_oneEach {s : State} (p : Printer) (h : (s.trans.queue.map MoveReq.requester).Nodup) :
    ((State.printerFaultEntry s p).trans.queue.map MoveReq.requester).Nodup := by
  unfold State.printerFaultEntry
  (repeat' split) <;> (try simp (maxDischargeDepth := 9) [h]) <;> (repeat' split) <;> (try simp (maxDischargeDepth := 9) [h]) <;> (repeat' split) <;> simp (maxDischargeDepth := 9) [h]

@[simp] theorem State.printerAccept_oneEach {s : State} (n : Nat) (h : (s.trans.queue.map MoveReq.requester).Nodup) :
    ((State.printerAccept s n).trans.queue.map MoveReq.requester).Nodup := by
  unfold State.printerAccept
  (repeat' split) <;> (try simp (maxDischargeDepth := 9) [h]) <;> (repeat' split) <;> (try simp (maxDischargeDepth := 9) [h]) <;> (repeat' split) <;> simp (maxDischargeDepth := 9) [h]

@[simp] theorem State.printerTakesOrphan_oneEach {s : State} (n : Nat) (h : (s.trans.queue.map MoveReq.requester).Nodup) :
    ((State.printerTakesOrphan s n).trans.queue.map MoveReq.requester).Nodup := by
  unfold State.printerTakesOrphan
  (repeat' split) <;> (try simp (maxDischargeDepth := 9) [h]) <;> (repeat' split) <;> (try simp (maxDischargeDepth := 9) [h]) <;> (repeat' split) <;> simp (maxDischargeDepth := 9) [h]

@[simp] theorem State.surveyPrinter_oneEach {s : State} (h : (s.trans.queue.map MoveReq.requester).Nodup) :
    ((State.surveyPrinter s).trans.queue.map MoveReq.requester).Nodup := by
  unfold State.surveyPrinter
  (repeat' split) <;> (try simp (maxDischargeDepth := 9) [h]) <;> (repeat' split) <;> (try simp (maxDischargeDepth := 9) [h]) <;> (repeat' split) <;> simp (maxDischargeDepth := 9) [h]

@[simp] theorem State.dropCurrent_oneEach {s : State} (h : (s.trans.queue.map MoveReq.requester).Nodup) :
    ((State.dropCurrent s).trans.queue.map MoveReq.requester).Nodup := by
  unfold State.dropCurrent
  (repeat' split) <;> (try simp (maxDischargeDepth := 9) [h]) <;> (repeat' split) <;> (try simp (maxDischargeDepth := 9) [h]) <;> (repeat' split) <;> simp (maxDischargeDepth := 9) [h]

@[simp] theorem State.setArm_queue (s : State) (a : ArmState) : (State.setArm s a).trans.queue = s.trans.queue := by
  unfold State.setArm
  (repeat' split) <;> (try simp) <;> (repeat' split) <;> simp

@[simp] theorem State.depart_queue (s : State) : (State.depart s).trans.queue = s.trans.queue := by
  unfold State.depart
  (repeat' split) <;> (try simp) <;> (repeat' split) <;> simp

@[simp] theorem State.departResuming_queue (s : State) : (State.departResuming s).trans.queue = s.trans.queue := by
  unfold State.departResuming
  (repeat' split) <;> (try simp) <;> (repeat' split) <;> simp

@[simp] theorem State.startAck_queue (s : State) (step : HandStep) : (State.startAck s step).trans.queue = s.trans.queue := by
  unfold State.startAck
  (repeat' split) <;> (try simp) <;> (repeat' split) <;> simp

@[simp] theorem State.setStep_queue (s : State) (step : HandStep) : (State.setStep s step).trans.queue = s.trans.queue := by
  unfold State.setStep
  (repeat' split) <;> (try simp) <;> (repeat' split) <;> simp

@[simp] theorem State.armIdle_queue (s : State) : (State.armIdle s).trans.queue = s.trans.queue := by
  unfold State.armIdle
  (repeat' split) <;> (try simp) <;> (repeat' split) <;> simp

@[simp] theorem State.grantTo_oneEach {s : State} (r : MoveReq) (h : (s.trans.queue.map MoveReq.requester).Nodup) :
    ((s.grantTo r).trans.queue.map MoveReq.requester).Nodup := by
  have e : (s.grantTo r).trans.queue = s.trans.queue.map fun q => if q = r then { q with granted := true } else q := by
    simp [State.grantTo]
  rw [e]
  exact oneEach_map h fun q => by split <;> rfl

@[simp] theorem State.grantEvaluation_oneEach {s : State} (h : (s.trans.queue.map MoveReq.requester).Nodup) :
    ((State.grantEvaluation s).trans.queue.map MoveReq.requester).Nodup := by
  unfold State.grantEvaluation
  (repeat' split) <;> (try simp (maxDischargeDepth := 9) [h]) <;> (repeat' split) <;> (try simp (maxDischargeDepth := 9) [h]) <;> (repeat' split) <;> simp (maxDischargeDepth := 9) [h]

@[simp] theorem State.moveDone_oneEach {s : State} (h : (s.trans.queue.map MoveReq.requester).Nodup) :
    ((State.moveDone s).trans.queue.map MoveReq.requester).Nodup := by
  unfold State.moveDone
  (repeat' split) <;> (try simp (maxDischargeDepth := 9) [h]) <;> (repeat' split) <;> (try simp (maxDischargeDepth := 9) [h]) <;> (repeat' split) <;> simp (maxDischargeDepth := 9) [h]

@[simp] theorem State.legDone_oneEach {s : State} (h : (s.trans.queue.map MoveReq.requester).Nodup) :
    ((State.legDone s).trans.queue.map MoveReq.requester).Nodup := by
  unfold State.legDone
  (repeat' split) <;> (try simp (maxDischargeDepth := 9) [h]) <;> (repeat' split) <;> (try simp (maxDischargeDepth := 9) [h]) <;> (repeat' split) <;> simp (maxDischargeDepth := 9) [h]

@[simp] theorem State.startSecondLeg_queue (s : State) : (State.startSecondLeg s).trans.queue = s.trans.queue := by
  unfold State.startSecondLeg
  (repeat' split) <;> (try simp) <;> (repeat' split) <;> simp

@[simp] theorem State.secondBecomesLoad_oneEach {s : State} (second : Option SecondLeg) (h : (s.trans.queue.map MoveReq.requester).Nodup) :
    ((s.secondBecomesLoad second).trans.queue.map MoveReq.requester).Nodup := by
  unfold State.secondBecomesLoad
  split
  · exact State.postWaiting_oneEach (State.postMove_oneEach _ (State.takeCurrent_oneEach h))
  · simp [h]

@[simp] theorem State.retriesSpent_oneEach {s : State} (r : MoveReq) (source : Station) (n : Nat) (b : Option BayId) (h : (s.trans.queue.map MoveReq.requester).Nodup) :
    ((State.retriesSpent s r source n b).trans.queue.map MoveReq.requester).Nodup := by
  unfold State.retriesSpent
  (repeat' split) <;> (try simp (maxDischargeDepth := 9) [h]) <;> (repeat' split) <;> (try simp (maxDischargeDepth := 9) [h]) <;> (repeat' split) <;> simp (maxDischargeDepth := 9) [h]

@[simp] theorem State.forcedRelease_oneEach {s : State} (h : (s.trans.queue.map MoveReq.requester).Nodup) :
    (s.forcedRelease.trans.queue.map MoveReq.requester).Nodup := by
  unfold State.forcedRelease
  split
  · exact h
  · dsimp only
    split
    · exact State.joinQueue_oneEach _ (by simp [h])
    · exact State.retriesSpent_oneEach _ _ _ _ (State.postWaiting_oneEach (by simp [h]))

@[simp] theorem State.foundEmpty_oneEach {s : State} (r : MoveReq) (i : SpindleId) (h : (s.trans.queue.map MoveReq.requester).Nodup) :
    ((State.foundEmpty s r i).trans.queue.map MoveReq.requester).Nodup := by
  unfold State.foundEmpty
  (repeat' split) <;> (try simp (maxDischargeDepth := 9) [h]) <;> (repeat' split) <;> (try simp (maxDischargeDepth := 9) [h]) <;> (repeat' split) <;> simp (maxDischargeDepth := 9) [h]

@[simp] theorem State.toReject_oneEach {s : State} (h : (s.trans.queue.map MoveReq.requester).Nodup) :
    ((State.toReject s).trans.queue.map MoveReq.requester).Nodup := by
  unfold State.toReject
  (repeat' split) <;> (try simp (maxDischargeDepth := 9) [h]) <;> (repeat' split) <;> (try simp (maxDischargeDepth := 9) [h]) <;> (repeat' split) <;> simp (maxDischargeDepth := 9) [h]

@[simp] theorem State.divert_oneEach {s : State} (r : MoveReq) (h : (s.trans.queue.map MoveReq.requester).Nodup) :
    ((State.divert s r).trans.queue.map MoveReq.requester).Nodup := by
  unfold State.divert
  (repeat' split) <;> (try simp (maxDischargeDepth := 9) [h]) <;> (repeat' split) <;> (try simp (maxDischargeDepth := 9) [h]) <;> (repeat' split) <;> simp (maxDischargeDepth := 9) [h]

@[simp] theorem State.destFailure_oneEach {s : State} (h : (s.trans.queue.map MoveReq.requester).Nodup) :
    ((State.destFailure s).trans.queue.map MoveReq.requester).Nodup := by
  unfold State.destFailure
  (repeat' split) <;> (try simp (maxDischargeDepth := 9) [h]) <;> (repeat' split) <;> (try simp (maxDischargeDepth := 9) [h]) <;> (repeat' split) <;> simp (maxDischargeDepth := 9) [h]

@[simp] theorem State.retakeFailed_oneEach {s : State} (r : MoveReq) (h : (s.trans.queue.map MoveReq.requester).Nodup) :
    ((State.retakeFailed s r).trans.queue.map MoveReq.requester).Nodup := by
  unfold State.retakeFailed
  (repeat' split) <;> (try simp (maxDischargeDepth := 9) [h]) <;> (repeat' split) <;> (try simp (maxDischargeDepth := 9) [h]) <;> (repeat' split) <;> simp (maxDischargeDepth := 9) [h]

@[simp] theorem State.armFaultEntry_oneEach {s : State} (why : FaultCause) (h : (s.trans.queue.map MoveReq.requester).Nodup) :
    ((State.armFaultEntry s why).trans.queue.map MoveReq.requester).Nodup := by
  unfold State.armFaultEntry
  (repeat' split) <;> (try simp (maxDischargeDepth := 9) [h]) <;> (repeat' split) <;> (try simp (maxDischargeDepth := 9) [h]) <;> (repeat' split) <;> simp (maxDischargeDepth := 9) [h]

@[simp] theorem State.startHoming_queue (s : State) : (State.startHoming s).trans.queue = s.trans.queue := by
  unfold State.startHoming
  (repeat' split) <;> (try simp) <;> (repeat' split) <;> simp

@[simp] theorem State.resumeGrant_oneEach {s : State} (h : (s.trans.queue.map MoveReq.requester).Nodup) :
    ((State.resumeGrant s).trans.queue.map MoveReq.requester).Nodup := by
  unfold State.resumeGrant
  (repeat' split) <;> (try simp (maxDischargeDepth := 9) [h]) <;> (repeat' split) <;> (try simp (maxDischargeDepth := 9) [h]) <;> (repeat' split) <;> simp (maxDischargeDepth := 9) [h]

@[simp] theorem State.homingEnd_oneEach {s : State} (h : (s.trans.queue.map MoveReq.requester).Nodup) :
    ((State.homingEnd s).trans.queue.map MoveReq.requester).Nodup := by
  unfold State.homingEnd
  (repeat' split) <;> (try simp (maxDischargeDepth := 9) [h]) <;> (repeat' split) <;> (try simp (maxDischargeDepth := 9) [h]) <;> (repeat' split) <;> simp (maxDischargeDepth := 9) [h]

@[simp] theorem State.clearArm_oneEach {s : State} (n : Nat) (h : (s.trans.queue.map MoveReq.requester).Nodup) :
    ((State.clearArm s n).trans.queue.map MoveReq.requester).Nodup := by
  unfold State.clearArm
  (repeat' split) <;> (try simp (maxDischargeDepth := 9) [h]) <;> (repeat' split) <;> (try simp (maxDischargeDepth := 9) [h]) <;> (repeat' split) <;> simp (maxDischargeDepth := 9) [h]

@[simp] theorem State.homingClear_oneEach {s : State} (h : (s.trans.queue.map MoveReq.requester).Nodup) :
    ((State.homingClear s).trans.queue.map MoveReq.requester).Nodup := by
  unfold State.homingClear
  (repeat' split) <;> (try simp (maxDischargeDepth := 9) [h]) <;> (repeat' split) <;> (try simp (maxDischargeDepth := 9) [h]) <;> (repeat' split) <;> simp (maxDischargeDepth := 9) [h]

@[simp] theorem State.dropStuck_oneEach {s : State} (second : Option SecondLeg) (n : Nat)
    (h : (s.trans.queue.map MoveReq.requester).Nodup) : ((s.dropStuck second n).trans.queue.map MoveReq.requester).Nodup := by
  unfold State.dropStuck
  exact State.armFaultEntry_oneEach _ (by simp [h])

@[simp] theorem State.dropFailure_oneEach {s : State} (r : MoveReq) (at_ : BinId) (h : (s.trans.queue.map MoveReq.requester).Nodup) :
    ((State.dropFailure s r at_).trans.queue.map MoveReq.requester).Nodup := by
  unfold State.dropFailure
  (repeat' split) <;> (try simp (maxDischargeDepth := 9) [h]) <;> (repeat' split) <;> (try simp (maxDischargeDepth := 9) [h]) <;> (repeat' split) <;> simp (maxDischargeDepth := 9) [h]

@[simp] theorem State.homingDropFailure_oneEach {s : State} (h : (s.trans.queue.map MoveReq.requester).Nodup) :
    ((State.homingDropFailure s).trans.queue.map MoveReq.requester).Nodup := by
  unfold State.homingDropFailure
  (repeat' split) <;> (try simp (maxDischargeDepth := 9) [h]) <;> (repeat' split) <;> (try simp (maxDischargeDepth := 9) [h]) <;> (repeat' split) <;> simp (maxDischargeDepth := 9) [h]

@[simp] theorem State.withdrawCurrent_oneEach {s : State} (r : MoveReq) (h : (s.trans.queue.map MoveReq.requester).Nodup) :
    ((State.withdrawCurrent s r).trans.queue.map MoveReq.requester).Nodup := by
  unfold State.withdrawCurrent
  (repeat' split) <;> (try simp (maxDischargeDepth := 9) [h]) <;> (repeat' split) <;> (try simp (maxDischargeDepth := 9) [h]) <;> (repeat' split) <;> simp (maxDischargeDepth := 9) [h]

@[simp] theorem State.withdraw_oneEach {s : State} (n : Nat) (h : (s.trans.queue.map MoveReq.requester).Nodup) :
    ((s.withdraw n).trans.queue.map MoveReq.requester).Nodup := by
  unfold State.withdraw
  split
  · exact h
  · split
    · split
      · exact State.withdrawCurrent_oneEach _ h
      · exact State.postWaiting_oneEach (oneEach_filter _ h)
    · exact oneEach_map h fun q => by split <;> rfl

@[simp] theorem State.changeDest_oneEach {s : State} (n : Nat) (h : (s.trans.queue.map MoveReq.requester).Nodup) :
    ((State.changeDest s n).trans.queue.map MoveReq.requester).Nodup := by
  unfold State.changeDest
  (repeat' split) <;> (try simp (maxDischargeDepth := 9) [h]) <;> (repeat' split) <;> (try simp (maxDischargeDepth := 9) [h]) <;> (repeat' split) <;> simp (maxDischargeDepth := 9) [h]

@[simp] theorem State.cancelCarried_oneEach {s : State} (n : Nat) (h : (s.trans.queue.map MoveReq.requester).Nodup) :
    ((State.cancelCarried s n).trans.queue.map MoveReq.requester).Nodup := by
  unfold State.cancelCarried
  (repeat' split) <;> (try simp (maxDischargeDepth := 9) [h]) <;> (repeat' split) <;> (try simp (maxDischargeDepth := 9) [h]) <;> (repeat' split) <;> simp (maxDischargeDepth := 9) [h]

@[simp] theorem State.doublePick_oneEach {s : State} (r : MoveReq) (n : Nat) (h : (s.trans.queue.map MoveReq.requester).Nodup) :
    ((State.doublePick s r n).trans.queue.map MoveReq.requester).Nodup := by
  unfold State.doublePick
  (repeat' split) <;> (try simp (maxDischargeDepth := 9) [h]) <;> (repeat' split) <;> (try simp (maxDischargeDepth := 9) [h]) <;> (repeat' split) <;> simp (maxDischargeDepth := 9) [h]

@[simp] theorem State.pickDone_oneEach {s : State} (r : MoveReq) (two : Bool) (h : (s.trans.queue.map MoveReq.requester).Nodup) :
    ((State.pickDone s r two).trans.queue.map MoveReq.requester).Nodup := by
  unfold State.pickDone
  (repeat' split) <;> (try simp (maxDischargeDepth := 9) [h]) <;> (repeat' split) <;> (try simp (maxDischargeDepth := 9) [h]) <;> (repeat' split) <;> simp (maxDischargeDepth := 9) [h]

@[simp] theorem State.retaken_oneEach {s : State} (r : MoveReq) (h : (s.trans.queue.map MoveReq.requester).Nodup) :
    ((State.retaken s r).trans.queue.map MoveReq.requester).Nodup := by
  unfold State.retaken
  (repeat' split) <;> (try simp (maxDischargeDepth := 9) [h]) <;> (repeat' split) <;> (try simp (maxDischargeDepth := 9) [h]) <;> (repeat' split) <;> simp (maxDischargeDepth := 9) [h]

@[simp] theorem State.accepted_oneEach {s : State} (n : Nat) (at_ : Station) (st : DiscStage) (h : (s.trans.queue.map MoveReq.requester).Nodup) :
    ((State.accepted s n at_ st).trans.queue.map MoveReq.requester).Nodup := by
  unfold State.accepted
  (repeat' split) <;> (try simp (maxDischargeDepth := 9) [h]) <;> (repeat' split) <;> (try simp (maxDischargeDepth := 9) [h]) <;> (repeat' split) <;> simp (maxDischargeDepth := 9) [h]

@[simp] theorem State.cancelQueued_oneEach {s : State} (d : Disc) (h : (s.trans.queue.map MoveReq.requester).Nodup) :
    ((State.cancelQueued s d).trans.queue.map MoveReq.requester).Nodup := by
  unfold State.cancelQueued
  (repeat' split) <;> (try simp (maxDischargeDepth := 9) [h]) <;> (repeat' split) <;> (try simp (maxDischargeDepth := 9) [h]) <;> (repeat' split) <;> simp (maxDischargeDepth := 9) [h]

@[simp] theorem State.cancelOnArm_oneEach {s : State} (d : Disc) (h : (s.trans.queue.map MoveReq.requester).Nodup) :
    ((State.cancelOnArm s d).trans.queue.map MoveReq.requester).Nodup := by
  unfold State.cancelOnArm
  (repeat' split) <;> (try simp (maxDischargeDepth := 9) [h]) <;> (repeat' split) <;> (try simp (maxDischargeDepth := 9) [h]) <;> (repeat' split) <;> simp (maxDischargeDepth := 9) [h]

@[simp] theorem State.cancelInBay_oneEach {s : State} (d : Disc) (b : BayId) (h : (s.trans.queue.map MoveReq.requester).Nodup) :
    ((State.cancelInBay s d b).trans.queue.map MoveReq.requester).Nodup := by
  unfold State.cancelInBay
  (repeat' split) <;> (try simp (maxDischargeDepth := 9) [h]) <;> (repeat' split) <;> (try simp (maxDischargeDepth := 9) [h]) <;> (repeat' split) <;> simp (maxDischargeDepth := 9) [h]

@[simp] theorem State.cancelDisc_oneEach {s : State} (d : Disc) (h : (s.trans.queue.map MoveReq.requester).Nodup) :
    ((State.cancelDisc s d).trans.queue.map MoveReq.requester).Nodup := by
  unfold State.cancelDisc
  (repeat' split) <;> (try simp (maxDischargeDepth := 9) [h]) <;> (repeat' split) <;> (try simp (maxDischargeDepth := 9) [h]) <;> (repeat' split) <;> simp (maxDischargeDepth := 9) [h]

@[simp] theorem State.cancelJob_oneEach {s : State} (slot : JobSlot) (j : Job) (h : (s.trans.queue.map MoveReq.requester).Nodup) :
    ((s.cancelJob slot j).trans.queue.map MoveReq.requester).Nodup := by
  have g : ∀ (l : List Disc) (t : State), (t.trans.queue.map MoveReq.requester).Nodup → ((l.foldl State.cancelDisc t).trans.queue.map MoveReq.requester).Nodup := by
    intro l
    induction l with
    | nil => intro t ht; exact ht
    | cons r l ih => intro t ht; exact ih _ (State.cancelDisc_oneEach r ht)
  unfold State.cancelJob
  simp only [State.countJob_frame]
  exact g _ _ (by simpa using h)

@[simp] theorem State.resetBlocks_oneEach (s : State) : (s.resetBlocks.trans.queue.map MoveReq.requester).Nodup := by
  simp [State.resetBlocks, Transport.afterReset, Transport.oneEach]

@[simp] theorem State.beginInventory_oneEach {s : State} (h : (s.trans.queue.map MoveReq.requester).Nodup) :
    ((State.beginInventory s).trans.queue.map MoveReq.requester).Nodup := by
  unfold State.beginInventory
  (repeat' split) <;> (try simp (maxDischargeDepth := 9) [h]) <;> (repeat' split) <;> (try simp (maxDischargeDepth := 9) [h]) <;> (repeat' split) <;> simp (maxDischargeDepth := 9) [h]

@[simp] theorem State.finishStarting_oneEach {s : State} (mode : RestartMode) (h : (s.trans.queue.map MoveReq.requester).Nodup) :
    ((s.finishStarting mode).trans.queue.map MoveReq.requester).Nodup := by
  unfold State.finishStarting
  cases mode <;> simp [State.applyBuild, h]

@[simp] theorem State.startup_oneEach (s : State) (mode : RestartMode) : ((s.startup mode).trans.queue.map MoveReq.requester).Nodup := by
  unfold State.startup
  dsimp only
  split <;> simp

@[simp] theorem State.resumePrinter_oneEach {s : State} (p : Printer) (h : (s.trans.queue.map MoveReq.requester).Nodup) :
    ((State.resumePrinter s p).trans.queue.map MoveReq.requester).Nodup := by
  unfold State.resumePrinter
  (repeat' split) <;> (try simp (maxDischargeDepth := 9) [h]) <;> (repeat' split) <;> (try simp (maxDischargeDepth := 9) [h]) <;> (repeat' split) <;> simp (maxDischargeDepth := 9) [h]

@[simp] theorem State.readingTaken_oneEach {s : State} (h : (s.trans.queue.map MoveReq.requester).Nodup) :
    ((State.readingTaken s).trans.queue.map MoveReq.requester).Nodup := by
  unfold State.readingTaken
  (repeat' split) <;> (try simp (maxDischargeDepth := 9) [h]) <;> (repeat' split) <;> (try simp (maxDischargeDepth := 9) [h]) <;> (repeat' split) <;> simp (maxDischargeDepth := 9) [h]

@[simp] theorem State.orphanGiven_oneEach {s : State} (w : OrphanAt) (n : Nat) (h : (s.trans.queue.map MoveReq.requester).Nodup) :
    ((State.orphanGiven s w n).trans.queue.map MoveReq.requester).Nodup := by
  unfold State.orphanGiven
  (repeat' split) <;> (try simp (maxDischargeDepth := 9) [h]) <;> (repeat' split) <;> (try simp (maxDischargeDepth := 9) [h]) <;> (repeat' split) <;> simp (maxDischargeDepth := 9) [h]

@[simp] theorem State.grantOrphan_oneEach {s : State} (h : (s.trans.queue.map MoveReq.requester).Nodup) : (s.grantOrphan.trans.queue.map MoveReq.requester).Nodup := by
  unfold State.grantOrphan
  split
  · exact h
  · split
    · exact h
    · exact State.orphanGiven_oneEach _ _ h

@[simp] theorem State.identResult_oneEach {s : State} (b : BayId) (kind : CompletionKind) (facts : DriveFacts) (h : (s.trans.queue.map MoveReq.requester).Nodup) :
    ((State.identResult s b kind facts).trans.queue.map MoveReq.requester).Nodup := by
  unfold State.identResult
  (repeat' split) <;> (try simp (maxDischargeDepth := 9) [h]) <;> (repeat' split) <;> (try simp (maxDischargeDepth := 9) [h]) <;> (repeat' split) <;> simp (maxDischargeDepth := 9) [h]

@[simp] theorem State.surveyResult_oneEach {s : State} (b : BayId) (kind : CompletionKind) (facts : DriveFacts) (h : (s.trans.queue.map MoveReq.requester).Nodup) :
    ((State.surveyResult s b kind facts).trans.queue.map MoveReq.requester).Nodup := by
  unfold State.surveyResult
  (repeat' split) <;> (try simp (maxDischargeDepth := 9) [h]) <;> (repeat' split) <;> (try simp (maxDischargeDepth := 9) [h]) <;> (repeat' split) <;> simp (maxDischargeDepth := 9) [h]

@[simp] theorem State.closed_oneEach {s : State} (b : BayId) (h : (s.trans.queue.map MoveReq.requester).Nodup) :
    ((State.closed s b).trans.queue.map MoveReq.requester).Nodup := by
  unfold State.closed
  (repeat' split) <;> (try simp (maxDischargeDepth := 9) [h]) <;> (repeat' split) <;> (try simp (maxDischargeDepth := 9) [h]) <;> (repeat' split) <;> simp (maxDischargeDepth := 9) [h]

@[simp] theorem State.verifySucceeds_oneEach {s : State} (b : BayId) (n : Nat) (h : (s.trans.queue.map MoveReq.requester).Nodup) :
    ((State.verifySucceeds s b n).trans.queue.map MoveReq.requester).Nodup := by
  unfold State.verifySucceeds
  (repeat' split) <;> (try simp (maxDischargeDepth := 9) [h]) <;> (repeat' split) <;> (try simp (maxDischargeDepth := 9) [h]) <;> (repeat' split) <;> simp (maxDischargeDepth := 9) [h]

@[simp] theorem State.verifyFails_oneEach {s : State} (b : BayId) (why : RejectReason) (h : (s.trans.queue.map MoveReq.requester).Nodup) :
    ((State.verifyFails s b why).trans.queue.map MoveReq.requester).Nodup := by
  unfold State.verifyFails
  (repeat' split) <;> (try simp (maxDischargeDepth := 9) [h]) <;> (repeat' split) <;> (try simp (maxDischargeDepth := 9) [h]) <;> (repeat' split) <;> simp (maxDischargeDepth := 9) [h]

@[simp] theorem State.chunkHandled_oneEach {s : State} (b : BayId) (l : LaneId) (y : Lane) (good : Bool) (h : (s.trans.queue.map MoveReq.requester).Nodup) :
    ((State.chunkHandled s b l y good).trans.queue.map MoveReq.requester).Nodup := by
  unfold State.chunkHandled
  (repeat' split) <;> (try simp (maxDischargeDepth := 9) [h]) <;> (repeat' split) <;> (try simp (maxDischargeDepth := 9) [h]) <;> (repeat' split) <;> simp (maxDischargeDepth := 9) [h]

@[simp] theorem State.readOk_oneEach {s : State} (b : BayId) (l : LaneId) (y : Lane) (index : Nat) (data : List Byte) (h : (s.trans.queue.map MoveReq.requester).Nodup) :
    ((State.readOk s b l y index data).trans.queue.map MoveReq.requester).Nodup := by
  unfold State.readOk
  (repeat' split) <;> (try simp (maxDischargeDepth := 9) [h]) <;> (repeat' split) <;> (try simp (maxDischargeDepth := 9) [h]) <;> (repeat' split) <;> simp (maxDischargeDepth := 9) [h]

@[simp] theorem State.workTimedOut_oneEach {s : State} (b : BayId) (h : (s.trans.queue.map MoveReq.requester).Nodup) :
    ((State.workTimedOut s b).trans.queue.map MoveReq.requester).Nodup := by
  unfold State.workTimedOut
  (repeat' split) <;> (try simp (maxDischargeDepth := 9) [h]) <;> (repeat' split) <;> (try simp (maxDischargeDepth := 9) [h]) <;> (repeat' split) <;> simp (maxDischargeDepth := 9) [h]

@[simp] theorem State.identTimedOut_oneEach {s : State} (b : BayId) (h : (s.trans.queue.map MoveReq.requester).Nodup) :
    ((State.identTimedOut s b).trans.queue.map MoveReq.requester).Nodup := by
  unfold State.identTimedOut
  (repeat' split) <;> (try simp (maxDischargeDepth := 9) [h]) <;> (repeat' split) <;> (try simp (maxDischargeDepth := 9) [h]) <;> (repeat' split) <;> simp (maxDischargeDepth := 9) [h]

@[simp] theorem State.trayFailed_oneEach {s : State} (b : BayId) (h : (s.trans.queue.map MoveReq.requester).Nodup) :
    ((State.trayFailed s b).trans.queue.map MoveReq.requester).Nodup := by
  unfold State.trayFailed
  (repeat' split) <;> (try simp (maxDischargeDepth := 9) [h]) <;> (repeat' split) <;> (try simp (maxDischargeDepth := 9) [h]) <;> (repeat' split) <;> simp (maxDischargeDepth := 9) [h]

@[simp] theorem State.trayOpened_queue (s : State) (b : BayId) : (State.trayOpened s b).trans.queue = s.trans.queue := by
  unfold State.trayOpened
  (repeat' split) <;> (try simp) <;> (repeat' split) <;> simp

@[simp] theorem State.bayAccepts_oneEach {s : State} (b : BayId) (h : (s.trans.queue.map MoveReq.requester).Nodup) :
    ((State.bayAccepts s b).trans.queue.map MoveReq.requester).Nodup := by
  unfold State.bayAccepts
  (repeat' split) <;> (try simp (maxDischargeDepth := 9) [h]) <;> (repeat' split) <;> (try simp (maxDischargeDepth := 9) [h]) <;> (repeat' split) <;> simp (maxDischargeDepth := 9) [h]

@[simp] theorem State.atSource_oneEach {s : State} (r : MoveReq) (seen : Bool) (h : (s.trans.queue.map MoveReq.requester).Nodup) :
    ((State.atSource s r seen).trans.queue.map MoveReq.requester).Nodup := by
  unfold State.atSource
  (repeat' split) <;> (try simp (maxDischargeDepth := 9) [h]) <;> (repeat' split) <;> (try simp (maxDischargeDepth := 9) [h]) <;> (repeat' split) <;> simp (maxDischargeDepth := 9) [h]

@[simp] theorem State.atDest_queue (s : State) (r : MoveReq) : (State.atDest s r).trans.queue = s.trans.queue := by
  unfold State.atDest
  (repeat' split) <;> (try simp) <;> (repeat' split) <;> simp

@[simp] theorem State.discSet_queue (s : State) : (State.discSet s).trans.queue = s.trans.queue := by
  unfold State.discSet
  (repeat' split) <;> (try simp) <;> (repeat' split) <;> simp

@[simp] theorem State.dropped_oneEach {s : State} (r : MoveReq) (at_ : BinId) (h : (s.trans.queue.map MoveReq.requester).Nodup) :
    ((State.dropped s r at_).trans.queue.map MoveReq.requester).Nodup := by
  unfold State.dropped
  (repeat' split) <;> (try simp (maxDischargeDepth := 9) [h]) <;> (repeat' split) <;> (try simp (maxDischargeDepth := 9) [h]) <;> (repeat' split) <;> simp (maxDischargeDepth := 9) [h]

@[simp] theorem State.homingDropped_oneEach {s : State} (h : (s.trans.queue.map MoveReq.requester).Nodup) :
    ((State.homingDropped s).trans.queue.map MoveReq.requester).Nodup := by
  unfold State.homingDropped
  (repeat' split) <;> (try simp (maxDischargeDepth := 9) [h]) <;> (repeat' split) <;> (try simp (maxDischargeDepth := 9) [h]) <;> (repeat' split) <;> simp (maxDischargeDepth := 9) [h]

@[simp] theorem State.carryFailed_oneEach {s : State} (r : MoveReq) (h : (s.trans.queue.map MoveReq.requester).Nodup) :
    ((State.carryFailed s r).trans.queue.map MoveReq.requester).Nodup := by
  unfold State.carryFailed
  (repeat' split) <;> (try simp (maxDischargeDepth := 9) [h]) <;> (repeat' split) <;> (try simp (maxDischargeDepth := 9) [h]) <;> (repeat' split) <;> simp (maxDischargeDepth := 9) [h]

@[simp] theorem State.holdTimedOut_oneEach {s : State} (h : (s.trans.queue.map MoveReq.requester).Nodup) :
    ((State.holdTimedOut s).trans.queue.map MoveReq.requester).Nodup := by
  unfold State.holdTimedOut
  (repeat' split) <;> (try simp (maxDischargeDepth := 9) [h]) <;> (repeat' split) <;> (try simp (maxDischargeDepth := 9) [h]) <;> (repeat' split) <;> simp (maxDischargeDepth := 9) [h]

@[simp] theorem State.stopForDoor_oneEach {s : State} (h : (s.trans.queue.map MoveReq.requester).Nodup) :
    ((State.stopForDoor s).trans.queue.map MoveReq.requester).Nodup := by
  unfold State.stopForDoor
  (repeat' split) <;> (try simp (maxDischargeDepth := 9) [h]) <;> (repeat' split) <;> (try simp (maxDischargeDepth := 9) [h]) <;> (repeat' split) <;> simp (maxDischargeDepth := 9) [h]

@[simp] theorem State.unjam_queue (s : State) (i : SpindleId) : (State.unjam s i).trans.queue = s.trans.queue := by
  unfold State.unjam
  (repeat' split) <;> (try simp) <;> (repeat' split) <;> simp

end Sys2Proof.Machine
end

