-- ==== Sys2Proof/Laws/Moves.lean ====
section
/-! SUPPORT. What the shared operations of the arm make of the request under way, of its disc, and of the bay that awaits it (R54, R71, R118 to R121). -/

set_option linter.unusedSimpArgs false

namespace Sys2Proof.Machine

/-! ## Disc records -/

/-- A change of the records of one number, on the record that a number names. -/
theorem find?_change (l : List Disc) (n m : Nat) {f : Disc → Disc} (h : ∀ d, (f d).number = d.number) :
    (l.map fun d => if d.number == n then f d else d).find? (·.number == m) =
      if m = n then (l.find? (·.number == m)).map f else l.find? (·.number == m) := by
  induction l with
  | nil => simp
  | cons d l ih =>
    rw [List.map_cons, List.find?_cons, List.find?_cons, ih]
    have num : (if d.number == n then f d else d).number = d.number := by split <;> simp [h]
    rw [num]
    cases k : d.number == m with
    | false => rfl
    | true =>
      obtain rfl := eq_of_beq k
      by_cases e : d.number = n <;> simp [e]

/-- A change of a record that keeps its number is read back under that number. -/
theorem State.modDisc_disc (s : State) (n : Nat) {f : Disc → Disc} (h : ∀ d, (f d).number = d.number) :
    (s.modDisc n f).disc n = (s.disc n).map f := by
  unfold State.disc State.modDisc
  rw [find?_change _ _ _ h, if_pos rfl]

/-- It leaves every other record as it was. -/
theorem State.modDisc_disc_ne (s : State) {n m : Nat} {f : Disc → Disc} (h : ∀ d, (f d).number = d.number)
    (ne : m ≠ n) : (s.modDisc n f).disc m = s.disc m := by
  unfold State.disc State.modDisc
  rw [find?_change _ _ _ h, if_neg ne]

theorem State.disc_of_discs {s t : State} (h : t.discs = s.discs) (n : Nat) : t.disc n = s.disc n := by
  unfold State.disc; rw [h]

/-- A rejection with HANDLING or another reason, and TO_OUT (R4, R6). -/
theorem State.setReject_setToOut_rejects (s : State) (n : Nat) (why : RejectReason) :
    s.rejectsDisc ((s.setReject n why).setToOut n) n why := by
  intro d hd
  have h1 : (s.setReject n why).disc n = some (d.rejected why) := by
    unfold State.setReject
    rw [State.modDisc_disc _ _ (by intro d; unfold Disc.rejected; split <;> rfl), hd]; rfl
  refine ⟨{ d.rejected why with stage := .toOut }, ?_, ?_, rfl⟩
  · unfold State.setToOut
    rw [State.modDisc_disc _ _ (by intro d; rfl), h1]; rfl
  · unfold Disc.rejected Disposition.rejectedWith
    split <;> rfl

/-! ## A bay that awaited a disc -/

theorem State.bay_of_bays {s t : State} (h : t.bays = s.bays) (b : BayId) : t.bay b = s.bay b := by
  unfold State.bay; simp [h]

@[simp] theorem State.leaveVerify_bay (s : State) (b c : BayId) : (s.leaveVerify b).bay c = s.bay c :=
  State.bay_of_bays (by simp) c

@[simp] theorem State.leaveImage_bay (s : State) (b c : BayId) : (s.leaveImage b).bay c = s.bay c :=
  State.bay_of_bays (by simp) c

@[simp] theorem State.modGov_bay (s : State) (f : Governor → Governor) (c : BayId) : (s.modGov f).bay c = s.bay c := rfl

@[simp] theorem State.raise_bay (s : State) (e : Event) (c : BayId) : (s.raise e).bay c = s.bay c := rfl

@[simp] theorem State.reportBayFault_bay (s : State) (c : BayId) : s.reportBayFault.bay c = s.bay c := rfl

@[simp] theorem State.releaseAllocation_bay (s : State) (b : BayId) :
    (s.releaseAllocation b).bay b = { s.bay b with burn := none } := by
  unfold State.releaseAllocation
  split
  · next h => rw [← h]
  · simp

/-- The bay's record once its outstanding work is abandoned (R66). -/
theorem State.abandonWork_bay (s : State) (b : BayId) :
    (s.abandonWork b).bay b = { s.bay b with
      out := none, susp := none, retryTimer := none, identDeadline := none, reserveTimer := none, burn := none } := by
  simp [State.abandonWork, State.leaveAdmission, State.portReset]

/-- The bay's record in FAULT (R71). -/
theorem State.bayFaultEntry_bay (s : State) (b : BayId) :
    (s.bayFaultEntry b).bay b = { s.bay b with
      state := .fault, out := none, susp := none, retryTimer := none, identDeadline := none, reserveTimer := none
      burn := none, dest := none, survey := false } := by
  simp [State.bayFaultEntry, State.abandonWork_bay]

/-- A bay told that its disc will not come, with no failure of its own (R54). -/
theorem State.discWillNotCome_stops (s : State) (b : BayId) (n : Nat) :
    s.stopsAwaiting (s.discWillNotCome b n false) b n := by
  intro hs hd
  unfold State.discWillNotCome State.awaitDiscEnd Bay.countAcceptance
  simp only [hs, hd, and_self, if_true, Bool.false_eq_true, false_and, if_false, State.modBay_bay]
  unfold Bay.toIdle Bay.cleared
  split <;> rename_i h <;> simp_all

/-- A bay after an acceptance failure (R54). -/
theorem State.discWillNotCome_fails (s : State) (b : BayId) (n : Nat) :
    s.failsAcceptance (s.discWillNotCome b n true) b n := by
  intro hs hd f
  have hf : satInc 7 (s.bay b).handoverFailures = f := by unfold satInc; simp only [f]; split <;> omega
  unfold State.discWillNotCome State.awaitDiscEnd
  simp only [hs, hd, and_self, if_true, true_and, State.modBay_bay, Bay.countAcceptance, Bay.cleared, hf]
  split
  · next h => 
    have h' : s.settingNat 10 ≤ f := h
    simp [State.bayFaultEntry_bay, h', hf]
  · next h =>
    have h' : ¬ s.settingNat 10 ≤ f := h
    simp only [State.modBay_bay, Bay.toIdle]
    split <;> rename_i g <;> simp_all

/-! ## The request under way -/

variable {s : State} {older younger : List MoveReq} {r : MoveReq}

theorem State.granting.others_notUnderWay (h : s.granting older r younger) {q : MoveReq} (hq : q ∈ older ++ younger) :
    (q.granted || q.interrupted) = false := by
  have := h.others q hq
  simp [this.1, this.2.1]

/-- The grant is the request's. -/
theorem State.granting.grant_eq (h : s.granting older r younger) : s.trans.grant = some r := by
  unfold Transport.grant
  rw [h.queue, List.find?_append, List.find?_eq_none.mpr (by
    intro q hq; simp [(h.others q (List.mem_append_left _ hq)).1])]
  simp [h.granted]

/-- The request under way is the granted one. -/
theorem State.granting.current_eq (h : s.granting older r younger) : s.trans.current = some r := by
  unfold Transport.current
  rw [h.queue, List.find?_append, List.find?_eq_none.mpr (by
    intro q hq; simpa using h.others_notUnderWay (List.mem_append_left _ hq))]
  simp [h.granted]

theorem State.granting.filter_eq (h : s.granting older r younger) :
    (s.trans.queue.filter fun q => !(q.granted || q.interrupted)) = older ++ younger := by
  have keep : ∀ l : List MoveReq, (∀ q ∈ l, q ∈ older ++ younger) →
      (l.filter fun q => !(q.granted || q.interrupted)) = l := fun l hl => by
    rw [List.filter_eq_self]; intro q hq; simp [h.others_notUnderWay (hl q hq)]
  rw [h.queue, List.filter_append, List.filter_cons]
  simp only [h.granted, Bool.true_or, Bool.not_true, Bool.false_eq_true, if_false]
  rw [keep _ fun q hq => List.mem_append_left _ hq, keep _ fun q hq => List.mem_append_right _ hq]

/-- The queue without it. -/
theorem State.granting.takeCurrent_trans (h : s.granting older r younger) :
    s.takeCurrent.trans = { s.trans with queue := older ++ younger } := by
  unfold State.takeCurrent State.modTrans
  simp only [h.filter_eq]

/-- A change of it changes no other request. -/
theorem State.granting.modCurrent_trans (h : s.granting older r younger) (f : MoveReq → MoveReq) :
    (s.modCurrent f).trans = { s.trans with queue := older ++ f r :: younger } := by
  have keep : ∀ l : List MoveReq, (∀ q ∈ l, q ∈ older ++ younger) →
      (l.map fun q => if q.granted || q.interrupted then f q else q) = l := fun l hl => by
    rw [List.map_congr_left (g := id) (fun q hq => by simp [h.others_notUnderWay (hl q hq)])]; simp
  unfold State.modCurrent State.modTrans
  simp only [h.queue, List.map_append, List.map_cons]
  rw [keep _ fun q hq => List.mem_append_left _ hq, keep _ fun q hq => List.mem_append_right _ hq]
  simp [h.granted]

/-- The queue, the grant and all else that a hand-over reads stay when only other blocks change. -/
theorem State.granting.of_trans {t : State} (h : s.granting older r younger) (e : t.trans.queue = s.trans.queue) :
    t.granting older r younger := ⟨by rw [e, h.queue], h.granted, h.others⟩

@[simp] theorem State.modTrans_cond (s : State) (f : Transport → Transport) (c : Cond) :
    (s.modTrans f).cond c = s.cond c := rfl

/-! ## The end of a move -/

@[simp] theorem State.armIdle_trans (s : State) : s.armIdle.trans = s.trans.freed := rfl

/-- A completed move: its request leaves, the posts that waited follow, and the arm is free (R113, R118). -/
theorem State.moveDone_trans (h : s.granting older r younger) :
    s.trans.leaves s.moveDone.trans (older ++ younger) ∧
      s.moveDone.trans = { s.trans.freed with queue := s.moveDone.trans.queue, waiting := s.moveDone.trans.waiting } := by
  have := s.dropCurrent_leaves
  rw [h.filter_eq] at this
  refine ⟨this, ?_⟩
  unfold State.moveDone State.dropCurrent
  rw [State.armIdle_trans, State.postWaiting_trans]
  rfl

/-- The last leg of a request ends its move (R118). -/
theorem State.legDone_last (h : s.granting older r younger) (l : s.trans.lastLeg r) : s.legDone = s.moveDone := by
  unfold State.legDone
  rw [h.current_eq]
  rcases l with l | l
  · simp [l]
  · cases s.trans.leg <;> simp [l]

/-- A SWAP's first leg ends in the hold (R118). -/
theorem State.legDone_hold (h : s.granting older r younger) (l : ¬ s.trans.lastLeg r) :
    s.legDone.trans = { s.trans with
      arm := .held, moveTimer := none, ackTimer := none, handover := none
      holdTimer := some (s.now + s.settingNat 9) } := by
  have l1 : s.trans.leg = .first := by
    cases e : s.trans.leg
    · rfl
    · exact absurd (.inl e) l
  obtain ⟨x, l2⟩ := Option.ne_none_iff_exists'.mp fun e => l (.inr e)
  unfold State.legDone
  rw [h.current_eq]
  simp [l1, l2, State.setArm, State.modTrans, Transport.timersStopped, Config.sHold]

/-! ## Failures -/

/-- A forced release with retries left puts the request, or its second leg as a LOAD, at the tail (R119). -/
theorem State.forcedRelease_again (h : s.granting older r younger)
    (q : (s.trans.released r).requester = r.requester)
    (left : (s.trans.released r).retries < s.settingNat Config.sRetries) :
    s.forcedFree s.forcedRelease older (s.trans.released r) younger := by
  have g := h.of_trans (t := s.giveUpAt (s.trans.legSource r)) (by simp)
  have free : ∀ x ∈ older ++ younger, x.requester ≠ (s.trans.released r).requester := fun x hx => by
    rw [q]; exact (h.others x hx).2.2
  unfold State.forcedRelease
  simp only [h.grant_eq]
  rw [if_pos (by simpa [State.settingNat, State.setting] using left)]
  have t : ∀ u : State, u.trans.queue = older ++ younger →
      (u.joinQueue (s.trans.released r)).trans = { u.trans with queue := older ++ younger ++ [s.trans.released r] } := by
    intro u hu
    have : u.hasMove (s.trans.released r).requester = false := State.hasMove_false.mpr (by rw [hu]; exact free)
    simp [State.joinQueue, this, State.modTrans, hu]
  refine ⟨?_, ?_⟩
  · rw [t]
    · simp [State.modTrans, g.takeCurrent_trans, Transport.freed]
    · simp [State.modTrans, g.takeCurrent_trans, Transport.freed]
  · have c : ∀ u : State, (u.joinQueue (s.trans.released r)).cond .handling = u.cond .handling := by
      intro u; unfold State.cond; simp
    rw [c]
    simp [State.armIdle, State.setArm]

/-- A first leg is queued again as it was, with one more retry. -/
theorem Transport.released_again {t : Transport} {r : MoveReq} (h : t.secondOf r = none) : t.released r = r.again := by
  unfold Transport.released
  rw [h]; rfl

/-- A source that is a bay or PRN is a first leg's. -/
theorem Transport.secondOf_of_source {t : Transport} {r : MoveReq} (h : ∀ i, t.legSource r ≠ .spindle i) :
    t.secondOf r = none := by
  cases e : t.secondOf r with
  | none => rfl
  | some l => exact absurd (by unfold Transport.legSource; rw [e]) (h l.spindle)

/-- A disc that goes on to REJECT: its record, its request, and the bay that awaited it (R121). -/
theorem State.divert_spec (h : s.granting older r younger) :
    s.goesToReject (s.divert r) older r younger ∧ s.rejectsDisc (s.divert r) (s.trans.legDisc r) .handling ∧
      (∀ b, s.trans.legDest r = .bay b → s.failsAcceptance (s.divert r) b (s.trans.legDisc r)) ∧
      (∀ b, s.trans.legDest r = .prn → r.kind = .printIn → r.requester = .bay b →
        s.stopsAwaiting (s.divert r) b (s.trans.legDisc r)) := by
  set n := s.trans.legDisc r with hn
  set u := (s.setReject n .handling).setToOut n with hu
  have ut : u.trans = s.trans := by simp [u]
  have ub : u.bays = s.bays := by simp [u]
  have us : u.settings = s.settings := by simp [u]
  have e : s.divert r = (u.tellAwaiting r (s.trans.legDest r) n true).toReject := rfl
  have g : (u.tellAwaiting r (s.trans.legDest r) n true).granting older r younger := h.of_trans (by simp [ut])
  have bay : ∀ b, (s.divert r).bay b = (u.tellAwaiting r (s.trans.legDest r) n true).bay b := fun b => by
    rw [e]; exact State.bay_of_bays (by simp) b
  refine ⟨?_, ?_, ?_, ?_⟩
  · unfold State.goesToReject
    rw [e]
    unfold State.toReject State.depart
    simp [State.modTrans, g.modCurrent_trans, ut, Config.moveTime, u]
  · intro d hd
    obtain ⟨x, hx⟩ := State.setReject_setToOut_rejects s n .handling d hd
    exact ⟨x, by rw [e, State.disc_of_discs (s := u) (by simp) n]; exact hx.1, hx.2⟩
  · intro b hb hs hd
    have := State.discWillNotCome_fails u b n (by rw [State.bay_of_bays ub]; exact hs)
      (by rw [State.bay_of_bays ub]; exact hd)
    rw [bay, hb]
    simpa [State.tellAwaiting, State.bay_of_bays ub, State.settingNat, State.setting, us] using this
  · intro b hb hk hq hs hd
    have := State.discWillNotCome_stops u b n (by rw [State.bay_of_bays ub]; exact hs)
      (by rw [State.bay_of_bays ub]; exact hd)
    rw [bay, hb]
    simpa [State.tellAwaiting, hk, hq, State.bay_of_bays ub] using this

end Sys2Proof.Machine
end

