-- ==== Sys2Proof/Laws/Triggers.lean ====
section
/-! SUPPORT. The triggers of the Dispatcher's evaluation: what they say, and the states between which none lies (R19). -/

namespace Sys2Proof.Machine

theorem Image.admits_iff (i : Image) : i.admits = true ↔ i.residency = .resident ∨ i.gate = .opened := by
  unfold Image.admits Image.streaming
  cases i.residency <;> cases i.gate <;> simp

theorem State.ready_iff (s : State) : s.ready = true ↔ s.settings.stage = .ready := by simp [State.ready]

theorem State.printerIs_iff (s : State) (st : PrinterState) :
    s.printerIs st = true ↔ ∃ p, s.printer = some p ∧ p.state = st := by
  unfold State.printerIs
  cases s.printer <;> simp

theorem JobState.opensTo_iff (i j : JobState) :
    i.opensTo j = true ↔ i = .filled ∧ j = .active ∨ (∃ c, i = .held c) ∧ (j = .active ∨ j = .filled) := by
  cases i <;> simp [JobState.opensTo]

theorem State.jobOpened_iff (s t : State) (k : JobSlot) :
    s.jobOpened t k = true ↔ (s.job k = none ∧ t.job k ≠ none) ∨
      ∃ i j, s.job k = some i ∧ t.job k = some j ∧ (i.state = .filled ∧ j.state = .active ∨
        (∃ c, i.state = .held c) ∧ (j.state = .active ∨ j.state = .filled)) := by
  unfold State.jobOpened
  cases hs : s.job k <;> cases ht : t.job k <;> simp [JobState.opensTo_iff]

theorem State.recordFreed_iff (s t : State) :
    s.recordFreed t = true ↔ ∃ d ∈ s.discs.records, ∀ e ∈ t.discs.records, e.number ≠ d.number := by
  simp [State.recordFreed]

theorem State.spindleLeaves_iff (s t : State) (i : SpindleId) :
    s.spindleLeaves t i = true ↔ s.spindle i ≠ .ready ∧ t.spindle i ≠ s.spindle i := by
  simp [State.spindleLeaves]

theorem State.prnRequestLeaves_iff (s t : State) :
    s.prnRequestLeaves t = true ↔ ∃ r ∈ s.trans.queue, r.dest = .prn ∧
      ∀ q ∈ t.trans.queue, q.requester ≠ r.requester ∨ q.disc ≠ r.disc := by
  simp [State.prnRequestLeaves]
  constructor <;> rintro ⟨r, h1, h2, h3⟩ <;> refine ⟨r, h1, h2, fun q hq => ?_⟩ <;> have := h3 q hq <;>
    grind

theorem Image.streaming_iff (i : Image) : i.streaming = true ↔ i.residency ≠ .resident := by
  unfold Image.streaming
  cases i.residency <;> simp

theorem Image.streaming_false_iff (i : Image) : i.streaming = false ↔ i.residency = .resident := by
  unfold Image.streaming
  cases i.residency <;> simp

theorem State.imageOpensUp_iff (s t : State) (k : ImageId) :
    s.imageOpensUp t k = true ↔ ∃ i j, s.image k = some i ∧ t.image k = some j ∧
      (i.residency ≠ .resident ∧ j.residency = .resident ∨ i.gate = .closed ∧ j.gate = .opened ∨
        i.state = .awaitRewind ∧ j.state ≠ .awaitRewind) := by
  unfold State.imageOpensUp
  cases hs : s.image k <;> cases ht : t.image k <;>
    simp [Image.streaming_iff, Image.streaming_false_iff, or_assoc]

theorem DiscTable.servesOrphans_iff (s : State) : s.discs.servesOrphans = true ↔ s.orphansServed := by
  rw [DiscTable.servesOrphans, decide_eq_true_eq]; rfl

theorem DiscTable.spares_iff (t : DiscTable) :
    t.spares = true ↔ t.orphanWait = [] ∨ t.orphanWait.length < 16 - t.records.length := by
  rw [DiscTable.spares, Bool.or_eq_true, decide_eq_true_eq, beq_iff_eq]; rfl

/-- The printer enters IDLE. -/
theorem State.printerEnters_iff (s t : State) :
    (t.printerIs .idle && !s.printerIs .idle) = true ↔
      (∃ p, t.printer = some p ∧ p.state = .idle) ∧ ∀ p, s.printer = some p → p.state ≠ .idle := by
  have h := State.printerIs_iff s .idle
  rw [Bool.and_eq_true, State.printerIs_iff, Bool.not_eq_true', ← Bool.not_eq_true, h]
  simp

/-- The model's test is R19's list. -/
theorem State.dispatchTrigger_iff (s t : State) : s.dispatchTrigger t = true ↔ s.startsEvaluation t := by
  have spindles : (s.spindleLeaves t .a = true ∨ s.spindleLeaves t .b = true) ↔
      ∃ i, s.spindle i ≠ .ready ∧ t.spindle i ≠ s.spindle i := by
    constructor
    · rintro (h | h) <;> exact ⟨_, (State.spindleLeaves_iff _ _ _).1 h⟩
    · rintro ⟨i, h⟩
      cases i
      · exact .inl ((State.spindleLeaves_iff _ _ _).2 h)
      · exact .inr ((State.spindleLeaves_iff _ _ _).2 h)
  have jobs : (List.finRange 8).any (s.jobOpened t) = true ↔ (∃ k, s.job k = none ∧ t.job k ≠ none) ∨
      ∃ k i j, s.job k = some i ∧ t.job k = some j ∧ (i.state = .filled ∧ j.state = .active ∨
        (∃ c, i.state = .held c) ∧ (j.state = .active ∨ j.state = .filled)) := by
    simp only [List.any_eq_true, List.mem_finRange, true_and, State.jobOpened_iff, exists_or]
  have bays : (List.finRange 12).any (s.bayEmptied t) = true ↔
      ∃ b, (t.bay b).state = .empty ∧ (s.bay b).state ≠ .empty := by
    simp [State.bayEmptied]
  have images : (List.finRange 4).any (s.imageOpensUp t) = true ↔
      ∃ k i j, s.image k = some i ∧ t.image k = some j ∧ (i.residency ≠ .resident ∧ j.residency = .resident ∨
        i.gate = .closed ∧ j.gate = .opened ∨ i.state = .awaitRewind ∧ j.state ≠ .awaitRewind) := by
    simp only [List.any_eq_true, List.mem_finRange, true_and, State.imageOpensUp_iff]
  have stage : (!s.ready) = true ↔ s.settings.stage ≠ .ready := by simp [State.ready]
  have freed : (t.discs.spares && s.recordFreed t) = true ↔
      (t.discs.orphanWait = [] ∨ t.discs.orphanWait.length < 16 - t.discs.records.length) ∧
        ∃ d ∈ s.discs.records, ∀ e ∈ t.discs.records, e.number ≠ d.number := by
    rw [Bool.and_eq_true, DiscTable.spares_iff, State.recordFreed_iff]
  have mode : (t.jobs.runMode == .run && s.jobs.runMode != .run) = true ↔
      t.jobs.runMode = .run ∧ s.jobs.runMode ≠ .run := by simp
  unfold State.dispatchTrigger State.startsEvaluation
  simp only [Bool.and_eq_true (_ && _), Bool.and_eq_true t.ready, Bool.or_eq_true, State.ready_iff,
    DiscTable.servesOrphans_iff, stage, bays, jobs, mode, freed, State.printerEnters_iff, State.prnRequestLeaves_iff, images]
  rw [← spindles]
  simp only [or_assoc, and_assoc]

/-- Nothing that R19 names lies between two states: no bay becomes EMPTY, no job opens, no record goes, and so on. -/
structure State.quiet (s t : State) : Prop where
  stage : t.settings.stage = .ready → s.settings.stage = .ready
  bays : ∀ b, (t.bay b).state = .empty → (s.bay b).state = .empty
  jobs : ∀ k, t.job k = s.job k ∨
    (s.job k ≠ none ∧ ∀ i j, s.job k = some i → t.job k = some j → i.state.opensTo j.state = false)
  runMode : t.jobs.runMode = .run → s.jobs.runMode = .run
  records : ∀ d ∈ s.discs.records, ∃ e ∈ t.discs.records, e.number = d.number
  spindles : ∀ i, s.spindle i = .ready ∨ t.spindle i = s.spindle i
  printer : t.printerIs .idle = true → s.printerIs .idle = true
  queue : ∀ r ∈ s.trans.queue, ∃ q ∈ t.trans.queue, q.requester = r.requester ∧ q.disc = r.disc
  images : ∀ k i j, s.image k = some i → t.image k = some j →
    (j.residency = .resident → i.residency = .resident) ∧ (j.gate = .opened → i.gate = .opened) ∧
      (i.state = .awaitRewind → j.state = .awaitRewind)

/-- Between such states the mark stands. -/
theorem State.quiet.dispatchTrigger {s t : State} (h : s.quiet t) : s.dispatchTrigger t = false := by
  rw [← Bool.not_eq_true, State.dispatchTrigger_iff]
  rintro ⟨h1, -, h2⟩
  rcases h2 with h2 | ⟨b, h2, h3⟩ | ⟨k, h2, h3⟩ | ⟨k, i, j, h2, h3, h4⟩ | ⟨h2, h3⟩ | ⟨-, d, h2, h3⟩ | ⟨i, h2, h3⟩ |
    ⟨h2, h3⟩ | ⟨r, h2, -, h3⟩ | ⟨k, i, j, h2, h3, h4⟩
  · exact h2 (h.stage h1)
  · exact h3 (h.bays b h2)
  · rcases h.jobs k with e | ⟨e, -⟩
    · exact h3 (e.trans h2)
    · exact e h2
  · rcases h.jobs k with e | ⟨-, e⟩
    · obtain rfl := Option.some.inj (h2.symm.trans (e.symm.trans h3))
      rcases h4 with ⟨a, b⟩ | ⟨⟨c, a⟩, b⟩ <;> simp [a] at b
    · exact absurd ((JobState.opensTo_iff _ _).2 h4) (by simp [e i j h2 h3])
  · exact h3 (h.runMode h2)
  · obtain ⟨e, h4, h5⟩ := h.records d h2
    exact h3 e h4 h5
  · rcases h.spindles i with e | e
    · exact h2 e
    · exact h3 e
  · obtain ⟨p, h4, h5⟩ := (State.printerIs_iff s .idle).1 (h.printer ((State.printerIs_iff t .idle).2 h2))
    exact h3 p h4 h5
  · obtain ⟨q, h4, h5, h6⟩ := h.queue r h2
    rcases h3 q h4 with e | e
    · exact e h5
    · exact e h6
  · obtain ⟨x, y, z⟩ := h.images k i j h2 h3
    rcases h4 with ⟨a, b⟩ | ⟨a, b⟩ | ⟨a, b⟩
    · exact a (x b)
    · exact absurd (y b) (by simp [a])
    · exact b (z a)

theorem State.quiet.refl (s : State) : s.quiet s := by
  refine ⟨id, fun _ => id, fun _ => .inl rfl, id, fun d h => ⟨d, h, rfl⟩, fun _ => .inr rfl, id,
    fun r h => ⟨r, h, rfl, rfl⟩, fun k i j h1 h2 => ?_⟩
  obtain rfl := Option.some.inj (h1.symm.trans h2)
  exact ⟨id, id, id⟩

/-- No trigger lies between a state and itself. -/
@[simp] theorem State.dispatchTrigger_self (s : State) : s.dispatchTrigger s = false := (State.quiet.refl s).dispatchTrigger

/-- A quiet command's state after is the watched one. -/
theorem State.quiet.watched {s t : State} (h : s.quiet t) : s.watched t = t := by
  simp [State.watched, h.dispatchTrigger]

/-- A command that changes nothing leaves the mark. -/
@[simp] theorem State.watched_self (s : State) : s.watched s = s := (State.quiet.refl s).watched

end Sys2Proof.Machine
end

