-- ==== Sys2Proof/Laws/Dispatching.lean ====
section
/-! SUPPORT. The choice of a job by R20, what an evaluation does by R19, and what posting a bay's unload does by R23. -/

set_option linter.unusedSimpArgs false

namespace Sys2Proof.Machine

/-! ## The choice of a job (R20) -/

theorem State.imageAdmits_iff (s : State) (j : Job) :
    s.imageAdmits j = true ↔ ∃ m, s.image j.imageSlot = some m ∧ (m.residency = .resident ∨ m.gate = .opened) := by
  unfold State.imageAdmits
  cases s.image j.imageSlot <;> simp [Image.admits_iff]

theorem State.prnWanted_iff (s : State) :
    s.prnWanted = false ↔ ∀ q ∈ s.trans.queue ++ s.trans.waiting, q.dest ≠ .prn := by
  simp only [State.prnWanted, List.any_eq_false, beq_iff_eq, ne_eq]

theorem Job.printsFirst_iff (j : Job) :
    j.printsFirst = true ↔ j.label.isSome = true ∧ j.printOrder = some .printFirst := by
  simp [Job.printsFirst]

theorem State.supply_iff (s : State) (c : SpindleChoice) (i : SpindleId) :
    s.supply c = some i ↔ (c = .a ∧ i = .a ∨ c = .b ∧ i = .b ∨
      c = .any ∧ i = (if s.trans.spindleA = .ready then .a else .b)) ∧ s.spindle i = .ready := by
  unfold State.supply
  cases c <;> cases i <;> by_cases ha : s.trans.spindleA = .ready <;>
    by_cases hb : s.trans.spindleB = .ready <;> simp [State.spindle, ha, hb]

/-- The model's test of a job is R20's list. -/
theorem State.eligible_iff (s : State) (j : Job) (i : SpindleId) : s.eligible j = some i ↔ s.fitsJob j i := by
  have free : 0 < s.discs.free ↔ s.discs.records.length < 16 := by
    unfold DiscTable.free
    have : Config.discRecords = 16 := rfl
    omega
  unfold State.eligible
  simp only [free]
  constructor
  · intro h
    split at h
    · rename_i c
      obtain ⟨h1, h2, h3, h4, h5, h6⟩ := c
      obtain ⟨h7, h8⟩ := (State.supply_iff s j.spindle i).1 h
      refine ⟨h1, h2, (State.imageAdmits_iff s j).1 h3, h7, h8, fun a b => ?_, h5, h6⟩
      obtain ⟨h9, h10⟩ := h4 ((Job.printsFirst_iff j).2 ⟨a, b⟩)
      exact ⟨(State.printerIs_iff s .idle).1 h9, (State.prnWanted_iff s).1 h10⟩
    · cases h
  · rintro ⟨h1, h2, h3, h4, h5, h6, h7, h8⟩
    rw [if_pos, State.supply_iff]
    · exact ⟨h4, h5⟩
    · refine ⟨h1, h2, (State.imageAdmits_iff s j).2 h3, fun p => ?_, h7, h8⟩
      obtain ⟨a, b⟩ := (Job.printsFirst_iff j).1 p
      exact ⟨(State.printerIs_iff s .idle).2 (h6 a b).1, (State.prnWanted_iff s).2 (h6 a b).2⟩

theorem State.eligible_none_iff (s : State) (j : Job) : s.eligible j = none ↔ ∀ i, ¬ s.fitsJob j i := by
  rw [Option.eq_none_iff_forall_ne_some]
  simp only [ne_eq, State.eligible_iff]

/-- Older jobs that do not fit are passed over. -/
theorem State.chooseFrom_append (s : State) {older : List JobSlot}
    (h : ∀ m ∈ older, ∀ x y, s.job m = some x → ¬ s.fitsJob x y) (rest : List JobSlot) :
    s.chooseFrom (older ++ rest) = s.chooseFrom rest := by
  induction older with
  | nil => rfl
  | cons m older ih =>
    have ih := ih fun a ha => h a (List.mem_cons_of_mem _ ha)
    rw [List.cons_append, State.chooseFrom]
    cases e : s.job m with
    | none => exact ih
    | some x =>
      dsimp only
      rw [(State.eligible_none_iff s x).2 fun y => h m List.mem_cons_self x y e]
      exact ih

/-- The oldest job that fits is chosen. -/
theorem State.chooseJob_of_oldestFit {s : State} {k : JobSlot} {j : Job} {i : SpindleId} (h : s.oldestFit k j i) :
    s.chooseJob = some (k, j, i) := by
  obtain ⟨older, newer, e, hj, hf, ho⟩ := h
  rw [State.chooseJob, e, s.chooseFrom_append ho, State.chooseFrom, hj]
  dsimp only
  rw [(State.eligible_iff s j i).2 hf]

/-- With no job that fits none is chosen. -/
theorem State.chooseJob_of_noneFits {s : State} (h : s.noneFits) : s.chooseJob = none := by
  have := s.chooseFrom_append (older := s.jobs.order) (fun m hm x y hx => h m hm x y hx) []
  rw [List.append_nil] at this
  rw [State.chooseJob, this]; rfl

/-! ## An evaluation (R19) -/

@[simp] theorem State.createDispatch_discs (s : State) (k : JobSlot) (i : SpindleId) (b : BayId) :
    (s.createDispatch k i b).discs = s.discs.create (dispatchRecord s.discs.newNumber k i b) := by
  unfold State.createDispatch
  simp only [State.countJob_frame]
  rfl

theorem State.dispatchBay_busy {s : State} {b : BayId} (h : s.bayFree b = false) : s.dispatchBay b = s := by
  simp [State.dispatchBay, h]

theorem State.foldl_dispatchBay_busy {s : State} {l : List BayId} (h : ∀ m ∈ l, s.bayFree m = false) :
    l.foldl State.dispatchBay s = s := by
  induction l with
  | nil => rfl
  | cons m l ih =>
    rw [List.foldl_cons, State.dispatchBay_busy (h m List.mem_cons_self)]
    exact ih fun a ha => h a (List.mem_cons_of_mem _ ha)

theorem State.foldl_dispatchBay_none {s : State} (h : s.chooseJob = none) (l : List BayId) :
    l.foldl State.dispatchBay s = s := by
  induction l with
  | nil => rfl
  | cons m l ih =>
    have : s.dispatchBay m = s := by unfold State.dispatchBay; split <;> simp [h]
    rw [List.foldl_cons, this, ih]

/-- The bays before a bay, itself, and those after it. -/
theorem finRange_split (b : BayId) : ∃ l r, List.finRange 12 = l ++ b :: r ∧ ∀ m ∈ l, m < b := by
  obtain ⟨l, r, e⟩ := List.append_of_mem (List.mem_finRange b)
  have p := List.pairwise_lt_finRange 12
  rw [e, List.pairwise_append] at p
  exact ⟨l, r, e, fun m hm => p.2.2 m hm b List.mem_cons_self⟩

/-- What a dispatch does to the bays. -/
theorem State.dispatch_bay (s : State) (b : BayId) (k : JobSlot) (j : Job) (i : SpindleId) (m : BayId) :
    (s.dispatch b k j i).bay m =
      if m = b then { s.bay b with
        state := .awaitDisc, disc := some s.discs.newNumber, job := some k, imageSlot := some j.imageSlot }
      else s.bay m := by
  unfold State.dispatch
  by_cases e : m = b
  · subst e; simp [State.bay]
  · simp [e, State.bay, Fin.val_inj, Ne.symm e]

theorem State.dispatch_bayFree (s : State) (b : BayId) (k : JobSlot) (j : Job) (i : SpindleId) (m : BayId) :
    (s.dispatch b k j i).bayFree m = (if m = b then false else s.bayFree m) := by
  have : (s.dispatch b k j i).fitted m = s.fitted m := by simp [State.fitted]
  unfold State.bayFree
  rw [this, State.dispatch_bay]
  split <;> simp

theorem Job.firstMove_notBin (j : Job) (i : SpindleId) (b : BayId) (n : Nat) : (j.firstMove i b n).dest.isBin = false := by
  unfold Job.firstMove
  split <;> rfl

/-- A dispatch adds its record, and no other changes. -/
theorem State.dispatch_discs (s : State) (b : BayId) (k : JobSlot) (j : Job) (i : SpindleId) :
    (s.dispatch b k j i).discs = s.discs.create (dispatchRecord s.discs.newNumber k i b) := by
  unfold State.dispatch State.postMove
  simp [Job.firstMove_notBin]

/-- An evaluation that has dispatched a disc to the first EMPTY bay goes on from there (R19). -/
theorem State.dispatchAll_first {s : State} {k : JobSlot} {j : Job} {i : SpindleId} {b : BayId}
    (h : s.oldestFit k j i) (hb : s.bayFree b = true) (ho : ∀ m, m < b → s.bayFree m = false) :
    s.dispatchAll = (s.dispatch b k j i).dispatchAll := by
  obtain ⟨l, q, e, hl⟩ := finRange_split b
  have first : s.dispatchBay b = s.dispatch b k j i := by
    unfold State.dispatchBay
    rw [if_pos hb, State.chooseJob_of_oldestFit h]
  have before := State.foldl_dispatchBay_busy fun m hm => ho m (hl m hm)
  have again : l.foldl State.dispatchBay (s.dispatch b k j i) = s.dispatch b k j i :=
    State.foldl_dispatchBay_busy fun m hm => by
      rw [State.dispatch_bayFree]
      split
      · rfl
      · exact ho m (hl m hm)
  have busy : (s.dispatch b k j i).dispatchBay b = s.dispatch b k j i :=
    State.dispatchBay_busy (by simp [State.dispatch_bayFree])
  unfold State.dispatchAll
  rw [e, List.foldl_append, List.foldl_append, List.foldl_cons, List.foldl_cons,
    before, again, first, busy]

/-- An evaluation with no job that fits, or no EMPTY bay, dispatches nothing (R19, R20). -/
theorem State.dispatchAll_nothing {s : State} (h : s.noneFits ∨ ∀ b, s.bayFree b = false) : s.dispatchAll = s := by
  rcases h with h | h
  · exact State.foldl_dispatchBay_none (State.chooseJob_of_noneFits h) _
  · exact State.foldl_dispatchBay_busy fun m _ => h m

/-! ## Unloads (R23) -/

@[simp] theorem State.postMove_numbers (s : State) (r : MoveReq) :
    (s.postMove r).discs.records.map Disc.number = s.discs.records.map Disc.number := by
  unfold State.postMove
  split
  · simp only [State.setToOut, State.modDisc, State.joinQueue, State.modTrans, List.map_map]
    apply List.map_congr_left
    intro d _
    dsimp only [Function.comp]
    split <;> rfl
  · rfl

@[simp] theorem State.postMove_counter (s : State) (r : MoveReq) : (s.postMove r).discs.counter = s.discs.counter := by
  unfold State.postMove
  split <;> rfl

/-- A dispatch counts its job (R21 step 2). -/
theorem State.createDispatch_jobs {s : State} {k : JobSlot} {j : Job} {i : SpindleId} (b : BayId)
    (hj : s.job k = some j) (ha : j.state = .active) :
    (s.createDispatch k i b).jobs = { s.jobs with slots := s.jobs.slots.set k.val (some j.dispatched) } := by
  have e : (j.countDispatch).settleCancel = j.dispatched := by
    unfold Job.countDispatch Job.recount Job.settleCancel Job.cancelDone Job.dispatched Job.byCounters
    simp only [ha, true_or, if_true]
    split <;> simp [*]
  have hs : j.dispatched.state = .filled ∨ j.dispatched.state = .active := by
    unfold Job.dispatched
    dsimp only
    split <;> simp
  unfold State.createDispatch State.countJob
  simp only [State.job] at hj ⊢
  rw [hj]
  dsimp only
  rw [e, if_neg (by rcases hs with h | h <;> simp [h]), if_neg (by rcases hs with h | h <;> simp [h])]
  rfl

/-- What posting a bay's unload does (R23). -/
theorem State.postUnload_spec (s : State) (b : BayId) (n : Nat) (dest : Station) :
    State.unloadPosted s (s.postUnload b n dest) b n dest := by
  refine ⟨fun h => ?_, fun k j i ho hb hf hp ht hn => ?_⟩
  · have e : s.swapJob b = none := by
      unfold State.swapJob
      rcases h with h | h | h | ⟨k, j, i, h, p1, p2⟩
      · simp [h]
      · simp [h]
      · simp [State.chooseJob_of_noneFits h]
      · rw [State.chooseJob_of_oldestFit h]
        simp [(Job.printsFirst_iff j).2 ⟨p1, p2⟩]
    unfold State.postUnload
    rw [e]
    exact ⟨State.postMove_asked _ _, by simp, by simp, by simp⟩
  · have e : s.swapJob b = some (k, j, i) := by
      unfold State.swapJob
      have p : j.printsFirst = false := by
        rw [← Bool.not_eq_true, Job.printsFirst_iff]; exact hp
      rw [State.chooseJob_of_oldestFit hf]
      simp [ho, Option.isSome_iff_ne_none, hb, p]
    unfold State.postUnload
    rw [e]
    obtain ⟨_, _, _, hj, fit, _⟩ := hf
    have asked := State.postMove_asked (s.createDispatch k i b) (.posted .swap (.bay b) (.bay b) dest n
      (some { spindle := i, bay := b, disc := s.discs.newNumber, dest := .bay b }))
    have tr : (s.createDispatch k i b).trans = s.trans := by simp
    rw [tr] at asked
    refine ⟨asked, ?_, ?_, ?_, ?_⟩
    · simp [State.createDispatch_jobs b hj fit.active]
    · have fresh : s.discs.records.find? (·.number == s.discs.newNumber) = none := by
        simp only [DiscTable.taken, Bool.or_eq_false_iff] at ht
        simpa using ht.1
      have made : (s.createDispatch k i b).disc s.discs.newNumber =
          some (dispatchRecord s.discs.newNumber k i b) := by
        unfold State.disc
        rw [State.createDispatch_discs]
        simp [DiscTable.create, List.find?_append, fresh, dispatchRecord]
      dsimp only
      unfold State.postMove
      split
      · rw [State.setToOut, State.modDisc_disc_ne _ (by intro _; rfl) (by exact fun e => hn e.symm)]
        exact made
      · exact made
    · simp [DiscTable.create, dispatchRecord]
    · simp [DiscTable.create, dispatchRecord]

/-- The check of R23 reads only these parts of the state that it is made in. -/
theorem State.unloadPosted.of_same {u s t : State} {b : BayId} {n : Nat} {dest : Station}
    (h : u.unloadPosted t b n dest) (jobs : u.jobs = s.jobs) (staging : u.staging = s.staging)
    (trans : u.trans = s.trans) (printer : u.printer = s.printer)
    (numbers : u.discs.records.map Disc.number = s.discs.records.map Disc.number)
    (counter : u.discs.counter = s.discs.counter) (completions : u.discs.completions = s.discs.completions)
    (orphans : u.discs.orphanWait = s.discs.orphanWait) (off : (u.bay b).offlineAfter = (s.bay b).offlineAfter)
    (job : (u.bay b).job = (s.bay b).job) : s.unloadPosted t b n dest := by
  have len : u.discs.records.length = s.discs.records.length := by
    have := congrArg List.length numbers
    simpa using this
  have job_ : ∀ k, u.job k = s.job k := fun k => by unfold State.job; rw [jobs]
  have spin : ∀ i, u.spindle i = s.spindle i := fun i => by unfold State.spindle; rw [trans]
  have img : ∀ k, u.image k = s.image k := fun k => by unfold State.image; rw [staging]
  have fits : ∀ j i, u.fitsJob j i ↔ s.fitsJob j i := fun j i => by
    constructor <;> rintro ⟨h1, h2, h3, h4, h5, h6, h7, h8⟩ <;>
      constructor <;> simp_all
  have oldest : ∀ k j i, u.oldestFit k j i ↔ s.oldestFit k j i := fun k j i => by
    unfold State.oldestFit
    simp only [jobs, job_, fits]
  have none_ : u.noneFits ↔ s.noneFits := by
    unfold State.noneFits
    simp only [jobs, job_, fits]
  have taken : ∀ m, u.discs.taken m = s.discs.taken m := fun m => by
    have e : ∀ l : List Disc, (l.any fun d => d.number == m) = (l.map Disc.number).any fun x => x == m := by
      intro l; rw [List.any_map]; rfl
    unfold DiscTable.taken
    rw [e, e, numbers, completions]
  have first : ∀ f m, u.discs.firstFree f m = s.discs.firstFree f m := fun f => by
    induction f with
    | zero => intro m; rfl
    | succ f ih => intro m; unfold DiscTable.firstFree; rw [taken, ih]
  have new : u.discs.newNumber = s.discs.newNumber := by
    unfold DiscTable.newNumber
    rw [first, len, completions, counter]
  refine ⟨fun c => ?_, fun k j i ho hb hf hp ht hn => ?_⟩
  · have := h.alone (by simpa only [off, job, none_, oldest] using c)
    simpa only [trans, jobs, numbers, counter] using this
  · have := h.swap k j i (off.trans ho) (by rw [job]; exact hb) ((oldest k j i).2 hf) hp
      (by rw [new, taken]; exact ht) (by rw [new]; exact hn)
    simpa only [new, trans, jobs, numbers] using this

@[simp] theorem State.modDisc_numbers (s : State) (n : Nat) {f : Disc → Disc} (h : ∀ d, (f d).number = d.number) :
    (s.modDisc n f).discs.records.map Disc.number = s.discs.records.map Disc.number := by
  simp only [State.modDisc, List.map_map]
  apply List.map_congr_left
  intro d _
  dsimp only [Function.comp]
  split <;> simp [h]

/-- A bay's entry into AWAIT_UNLOAD posts its unload by R23. -/
theorem State.enterAwaitUnload_unload (s : State) (b : BayId) (n : Nat) :
    s.unloadPosted (s.enterAwaitUnload b n) b n (s.unloadDest n).station := by
  unfold State.enterAwaitUnload
  refine State.unloadPosted.of_same (State.postUnload_spec _ b n _) ?_ ?_ ?_ ?_ ?_ ?_ ?_ ?_ ?_ ?_ <;> simp [State.bay, State.modBay, State.setBay]

/-- A channel that rejects its disc posts the unload by R23, by the images once its consumer has left (R66). -/
theorem State.bayReject_unload (s : State) (b : BayId) (n : Nat) (why : RejectReason)
    (h : (s.bay b).disc = some n) :
    State.unloadPosted { s with staging := (s.bayReject b why).staging } (s.bayReject b why) b n (.bin .reject) := by
  unfold State.bayReject
  rw [h]
  dsimp only
  have u := State.enterAwaitUnload_unload ((s.setReject n why).abandonWork b) b n
  have hd : (((s.setReject n why).abandonWork b).unloadDest n) = .reject := by
    unfold State.unloadDest
    rw [State.disc_of_discs (s := s.setReject n why) (by simp)]
    unfold State.setReject
    rw [State.modDisc_disc _ _ (by intro d; unfold Disc.rejected; split <;> rfl)]
    cases s.disc n with
    | none => rfl
    | some d =>
      unfold Disc.rejected
      cases e : d.disposition <;> simp [e, Disposition.isReject]
  rw [hd] at u
  refine State.unloadPosted.of_same u ?_ ?_ ?_ ?_ ?_ ?_ ?_ ?_ ?_ ?_
  · simp
  · simp [State.enterAwaitUnload, State.postUnload]
    split <;> simp
  · simp
  · simp
  · simp [State.setReject, State.modDisc_numbers _ _ (f := Disc.rejected why) (by intro d; unfold Disc.rejected; split <;> rfl)]
  · simp [State.setReject, State.modDisc]
  · simp [State.setReject, State.modDisc]
  · simp [State.setReject, State.modDisc]
  · rw [State.abandonWork_bay]; simp [State.bay]
  · rw [State.abandonWork_bay]; simp [State.bay]

/-! ## Verify lanes (R94) -/

@[simp] theorem State.takeHead_queue (s : State) (l : LaneId) (b : BayId) :
    (s.takeHead l b).verify.queue = s.verify.queue.tail := by
  unfold State.takeHead
  cases s.laneFor b <;> simp [State.modVerify]

/-- A run of takes as long as the queue is long enough (R94). -/
theorem State.takeLanes_enough (n : Nat) (s : State) (h : s.verify.queue.length ≤ n) :
    State.takeLanes (n + 1) s = State.takeLanes n s := by
  induction n generalizing s with
  | zero =>
    have e : s.verify.queue = [] := List.length_eq_zero_iff.1 (by omega)
    unfold State.takeLanes
    rw [e]
    cases s.verify.freeLane <;> rfl
  | succ n ih =>
    rw [State.takeLanes, State.takeLanes]
    split
    · rename_i l b r _ q
      refine ih _ ?_
      rw [State.takeHead_queue, q]
      rw [q] at h
      simpa using h
    · rfl

end Sys2Proof.Machine
end

