-- ==== Sys2Proof/Laws/Endings.lean ====
section
/-! SUPPORT. What the endings make of the state: a record's retirement, the end of a leg, the end of homing, and a fault of the arm (R7, R118, R129, R130). -/

set_option linter.unusedSimpArgs false

namespace Sys2Proof.Machine

/-! ## Other records -/

/-- A post that a fold of posts makes joined the queue or not; the records change by it alone. -/
theorem State.foldPosts_records (l : List MoveReq) (s : State) :
    ∃ joined : List Nat, (∀ n ∈ joined, ∃ q ∈ l, q.disc = n ∧ q.dest.isBin = true) ∧
      (l.foldl State.postMove s).discs = { s.discs with
        records := s.discs.records.map fun e => if e.number ∈ joined then { e with stage := .toOut } else e } := by
  induction l generalizing s with
  | nil => exact ⟨[], by simp, by simp⟩
  | cons r l ih =>
    obtain ⟨j, h1, h2⟩ := ih (s.postMove r)
    rw [List.foldl_cons, h2]
    by_cases c : r.dest.isBin = true ∧ s.hasMove r.requester = false
    · refine ⟨r.disc :: j, ?_, ?_⟩
      · intro n hn
        rcases List.mem_cons.1 hn with rfl | hn
        · exact ⟨r, by simp, rfl, c.1⟩
        · obtain ⟨q, hq, e⟩ := h1 n hn
          exact ⟨q, List.mem_cons_of_mem _ hq, e⟩
      · have : (s.postMove r).discs = { s.discs with
            records := s.discs.records.map fun d => if d.number == r.disc then { d with stage := .toOut } else d } := by
          unfold State.postMove
          rw [if_pos c]
          simp [State.setToOut, State.modDisc]
        rw [this]
        simp only [List.map_map, DiscTable.mk.injEq, and_true, true_and]
        apply List.map_congr_left
        intro d _
        dsimp only [Function.comp]
        by_cases e : d.number = r.disc <;> by_cases f : d.number ∈ j <;> simp_all
    · refine ⟨j, fun n hn => ?_, ?_⟩
      · obtain ⟨q, hq, e⟩ := h1 n hn
        exact ⟨q, List.mem_cons_of_mem _ hq, e⟩
      · have : (s.postMove r).discs = s.discs := by
          unfold State.postMove
          rw [if_neg c]
          simp
        rw [this]

/-- The posts that waited change no record but that of a disc which now goes to a bin (R4, log 9). -/
theorem State.postWaiting_records (s : State) :
    ∃ joined : List Nat, (∀ n ∈ joined, ∃ q ∈ s.trans.waiting, q.disc = n ∧ q.dest.isBin = true) ∧
      s.postWaiting.discs = { s.discs with
        records := s.discs.records.map fun e => if e.number ∈ joined then { e with stage := .toOut } else e } :=
  State.foldPosts_records _ _

/-! ## Retirement (R7) -/

theorem DiscTable.append_completed (t : DiscTable) (e : Completion) : t.completed (t.append e) e := by
  refine ⟨fun h => ?_, fun h => ?_⟩
  · unfold DiscTable.append
    rw [if_pos (show t.completions.length < Config.completionEntries from h)]
    exact ⟨rfl, rfl⟩
  · unfold DiscTable.append
    rw [if_neg (by simpa [Config.completionEntries] using h)]
    exact ⟨by simp, rfl⟩

/-- The records without one whose number no other has. -/
theorem filter_number {before after : List Disc} {d : Disc} (h : ∀ e ∈ before ++ after, e.number ≠ d.number) :
    ((before ++ d :: after).filter fun e => e.number != d.number) = before ++ after := by
  have keep : ∀ l : List Disc, (∀ e ∈ l, e ∈ before ++ after) → (l.filter fun e => e.number != d.number) = l :=
    fun l hl => List.filter_eq_self.2 fun e he => by simpa using h e (hl e he)
  rw [List.filter_append, List.filter_cons]
  simp only [bne_self_eq_false, Bool.false_eq_true, if_false]
  rw [keep _ fun e he => List.mem_append_left _ he, keep _ fun e he => List.mem_append_right _ he]

/-- The record that a number names, when no other has it. -/
theorem State.disc_of_records {s : State} {before after : List Disc} {d : Disc}
    (h : s.discs.records = before ++ d :: after) (u : ∀ e ∈ before ++ after, e.number ≠ d.number) :
    s.disc d.number = some d := by
  unfold State.disc
  rw [h, List.find?_append, List.find?_eq_none.2 fun e he => by simpa using u e (List.mem_append_left _ he)]
  simp

/-- A change of the one record of a number. -/
theorem State.modDisc_records {s : State} {before after : List Disc} {d : Disc} (f : Disc → Disc)
    (h : s.discs.records = before ++ d :: after) (u : ∀ e ∈ before ++ after, e.number ≠ d.number) :
    (s.modDisc d.number f).discs = { s.discs with records := before ++ f d :: after } := by
  have keep : ∀ l : List Disc, (∀ e ∈ l, e ∈ before ++ after) →
      (l.map fun e => if e.number == d.number then f e else e) = l := fun l hl => by
    conv_rhs => rw [← List.map_id l]
    apply List.map_congr_left
    intro e he
    simp [u e (hl e he)]
  unfold State.modDisc
  rw [h, List.map_append, List.map_cons, keep _ fun e he => List.mem_append_left _ he,
    keep _ fun e he => List.mem_append_right _ he]
  simp

@[simp] theorem State.othersStay_self {s t : State} {l : List Disc} (h : t.discs.records = l) : s.othersStay t l :=
  ⟨[], by simp, by simp [h]⟩

/-- What counting a retirement for a job makes of it (R10 to R12, R157). -/
theorem State.countJob_job {s : State} {k : JobSlot} {j : Job} (f : Job → Job) (h : s.job k = some j) (m : JobSlot) :
    (s.countJob k f).job m = if m = k then some (f j).settleCancel else s.job m := by
  have set : ∀ u : State, u.jobs = s.jobs → (u.setJob k (some (f j).settleCancel)).job m =
      if m = k then some (f j).settleCancel else s.job m := fun u hu => by
    unfold State.job State.setJob
    rw [hu]
    simp only [Vector.getElem_set, Fin.ext_iff, eq_comm (a := k.val)]
  unfold State.countJob
  simp only [h]
  have e := set s rfl
  split <;> split <;> exact e

theorem State.countJob_raises {s : State} {k : JobSlot} {j : Job} (f : Job → Job) (h : s.job k = some j) :
    ((f j).settleCancel.state ≠ j.state → (f j).settleCancel.state = .complete ∨ (f j).settleCancel.state = .cancelled →
      (s.countJob k f).status.pending.getLsbD 1 = true) ∧
    ((f j).settleCancel.state ≠ j.state → (f j).settleCancel.state = .held .rejectLimit →
      (s.countJob k f).status.pending.getLsbD 2 = true) := by
  have done : ∀ u : State, (u.raise .jobDone).status.pending.getLsbD 1 = true := fun u =>
    (State.raise_pending u .jobDone .jobDone).trans (if_pos rfl)
  have held : ∀ u : State, (u.raise .jobHeld).status.pending.getLsbD 2 = true := fun u =>
    (State.raise_pending u .jobHeld .jobHeld).trans (if_pos rfl)
  have keep : ∀ u : State, u.status.pending.getLsbD 1 = true → (u.raise .jobHeld).status.pending.getLsbD 1 = true :=
    fun u hu => (State.raise_pending u .jobHeld .jobDone).trans hu
  unfold State.countJob
  simp only [h]
  refine ⟨fun a b => ?_, fun a b => ?_⟩
  · have c : (f j).settleCancel.state ≠ j.state ∧
        ((f j).settleCancel.state = .complete ∨ (f j).settleCancel.state = .cancelled) := ⟨a, b⟩
    simp only [if_pos c]
    split
    · exact keep _ (done _)
    · exact done _
  · have c : (f j).settleCancel.state ≠ j.state ∧ (f j).settleCancel.state = .held .rejectLimit := ⟨a, b⟩
    simp only [if_pos c]
    exact held _

/-- The pending events of a state that only raises more. -/
def State.pendingGrows (s t : State) : Prop :=
  ∀ e : Event, s.status.pending.getLsbD e.bit = true → t.status.pending.getLsbD e.bit = true

theorem State.raise_grows (s : State) (e : Event) : s.pendingGrows (s.raise e) := fun d h => by
  rw [State.raise_pending]
  split
  · rfl
  · exact h

theorem State.countJob_grows (s : State) (k : JobSlot) (f : Job → Job) : s.pendingGrows (s.countJob k f) := by
  unfold State.countJob
  split
  · exact fun _ => id
  · intro e h
    dsimp only
    have a : ∀ u : State, u.status = s.status → u.status.pending.getLsbD e.bit = true := fun u hu => by rw [hu]; exact h
    split <;> split <;>
      first
      | exact a _ rfl
      | exact State.raise_grows _ _ e (a _ rfl)
      | exact State.raise_grows _ _ e (State.raise_grows _ _ e (a _ rfl))

theorem State.countJob_jobs (s : State) (k : JobSlot) (f : Job → Job) :
    (s.countJob k f).jobs.order = s.jobs.order ∧ (s.countJob k f).jobs.runMode = s.jobs.runMode ∧
      ∀ m, m ≠ k → (s.countJob k f).job m = s.job m := by
  cases h : s.job k with
  | none =>
    have : s.countJob k f = s := by unfold State.countJob; rw [h]
    rw [this]
    exact ⟨rfl, rfl, fun _ _ => rfl⟩
  | some j =>
    refine ⟨?_, ?_, fun m hm => by rw [State.countJob_job f h, if_neg hm]⟩ <;>
    · unfold State.countJob
      simp only [h]
      split <;> split <;> rfl

/-- What a retirement counted GOOD leaves of its job (R11, R157). -/
theorem Job.countGood_spec (j : Job) :
    let i := j.countGood.settleCancel
    i.inFlight = j.inFlight - 1 ∧ i.good = j.good + 1 ∧ i.rejected = j.rejected ∧ i.consecRejects = 0 ∧
      (j.state ≠ .cancelling → j.state ≠ .cancelled → j.good + 1 = j.copies → i.state = .complete) ∧
      (j.state = .cancelling → j.inFlight = 1 → i.state = .cancelled) := by
  unfold Job.settleCancel Job.cancelDone Job.countGood Job.recount Job.byCounters
  cases hs : j.state <;> simp [hs] <;> (repeat' split) <;> (simp_all; try omega)

/-- What a retirement counted rejected leaves of its job (R12, R157). -/
theorem Job.countReject_spec (j : Job) :
    let i := j.countReject.settleCancel
    i.inFlight = j.inFlight - 1 ∧ i.good = j.good ∧ i.rejected = j.rejected + 1 ∧
      i.consecRejects = (if j.consecRejects < 65535 then j.consecRejects + 1 else 65535) ∧
      (j.state = .active ∨ j.state = .filled → j.rejectLimit ≤ i.consecRejects → i.state = .held .rejectLimit) ∧
      (j.state = .cancelling → j.inFlight = 1 → i.state = .cancelled) := by
  have sat : satInc Config.max16 j.consecRejects = if j.consecRejects < 65535 then j.consecRejects + 1 else 65535 := rfl
  unfold Job.settleCancel Job.cancelDone Job.countReject Job.recount Job.byCounters
  rw [sat]
  cases hs : j.state <;> simp [hs] <;> (repeat' split) <;> simp_all <;> omega

theorem State.countJob_live (s : State) (k : JobSlot) (f : Job → Job) : (s.countJob k f).status.live = s.status.live := by
  unfold State.countJob
  split
  · rfl
  · dsimp only
    split <;> split <;> rfl

theorem State.freeRecord_live (s : State) (n : Nat) : (s.freeRecord n).status.live = s.status.live := by
  unfold State.freeRecord State.drainTest
  split <;> rfl

/-- A retirement in its steps: the entry, the job's count, the freed record, HANDLING for a breach, DISC_DONE (R7). -/
theorem State.retire_steps {s : State} {n : Nat} {d : Disc} (at_ : BinId) (hd : s.disc n = some d) :
    ∃ a b : State, a = { s with discs := s.discs.append (d.completion ((s.jobOf d).map Job.number) (d.retiredAs at_)) } ∧
      (d.job = none → b = a) ∧
      (∀ k, d.job = some k →
        b = a.countJob k (if d.retiredAs at_ = Disposition.good then Job.countGood else Job.countReject)) ∧
      s.retire n at_ = (if d.breach at_ then (b.freeRecord n).latch .handling else b.freeRecord n).raise .discDone := by
  cases hk : d.job with
  | none =>
    refine ⟨_, _, rfl, fun _ => rfl, by simp, ?_⟩
    unfold State.retire
    simp only [hd, hk]
  | some k =>
    refine ⟨_, _, rfl, by simp, fun _ h => by cases h; rfl, ?_⟩
    unfold State.retire
    simp only [hd, hk]

/-- A retirement clears no condition. -/
theorem State.retire_cond {s : State} {c : Cond} (n : Nat) (at_ : BinId) (h : s.cond c = true) :
    (s.retire n at_).cond c = true := by
  cases hd : s.disc n with
  | none => unfold State.retire; rw [hd]; exact h
  | some d =>
    obtain ⟨a, b, ha, h0, h1, e⟩ := State.retire_steps at_ hd
    have bl : b.status.live = s.status.live := by
      cases hk : d.job with
      | none => rw [h0 hk, ha]
      | some k => rw [h1 k hk, State.countJob_live, ha]
    have f : (b.freeRecord n).cond c = true := by
      unfold State.cond at h ⊢; rw [State.freeRecord_live, bl]; exact h
    rw [e, State.raise_cond]
    split <;> simp [f]

/-- A retirement's entry, records, counts and events (R7). -/
theorem State.retire_spec {s : State} {before after : List Disc} {d : Disc} (at_ : BinId)
    (h : s.discs.records = before ++ d :: after) (u : ∀ e ∈ before ++ after, e.number ≠ d.number) :
    s.retires (s.retire d.number at_) before d after (d.retiredAs at_) ∧
      (s.retire d.number at_).discs.records = before ++ after ∧
      (d.breach at_ = true → (s.retire d.number at_).cond .handling = true) := by
  have hd := State.disc_of_records h u
  set out := d.retiredAs at_ with hout
  set f := if out = Disposition.good then Job.countGood else Job.countReject with hf
  obtain ⟨a, b, ha, hb0, hb1, e⟩ := State.retire_steps at_ hd
  rw [← hout, ← hf] at hb1
  rw [← hout] at ha
  have bd : b.discs = a.discs := by
    cases hk : d.job with
    | none => rw [hb0 hk]
    | some k => rw [hb1 k hk]; simp
  have ar : a.discs.records = s.discs.records := by
    simp only [ha, DiscTable.append]; split <;> rfl
  have aj : a.jobs = s.jobs := by rw [ha]
  have aJob : ∀ m, a.job m = s.job m := fun m => by unfold State.job; rw [aj]
  have bj : b.jobs.order = s.jobs.order ∧ b.jobs.runMode = s.jobs.runMode ∧ ∀ m, d.job ≠ some m → b.job m = s.job m := by
    cases hk : d.job with
    | none => rw [hb0 hk, aj]; exact ⟨rfl, rfl, fun m _ => aJob m⟩
    | some k =>
      obtain ⟨x, y, z⟩ := State.countJob_jobs a k f
      rw [hb1 k hk, x, y, aj]
      exact ⟨rfl, rfl, fun m hm => (z m fun e => hm (by rw [e])).trans (aJob m)⟩
  have br : (b.freeRecord d.number).discs = { a.discs with records := before ++ after } := by
    unfold State.freeRecord State.drainTest
    simp only [bd, ar, h, filter_number u]
    split <;> rfl
  set c := b.freeRecord d.number with hc
  have cm : c.jobs = { b.jobs with runMode :=
      if s.jobs.runMode = .draining ∧ before ++ after = [] ∧ s.discs.orphanWait = [] then .paused
      else s.jobs.runMode } := by
    have w : a.discs.orphanWait = s.discs.orphanWait := by simp only [ha, DiscTable.append]; split <;> rfl
    rw [hc]
    unfold State.freeRecord State.drainTest
    simp only [bd, ar, h, filter_number u, bj.2.1, w]
    split
    · rfl
    · rw [← bj.2.1]
  have cd : s.jobs.runMode = .draining → before ++ after = [] → s.discs.orphanWait = [] →
      c.status.pending.getLsbD 14 = true := by
    intro h1 h2 h3
    have w : a.discs.orphanWait = s.discs.orphanWait := by simp only [ha, DiscTable.append]; split <;> rfl
    rw [hc]
    unfold State.freeRecord State.drainTest
    simp only [bd, ar, h, filter_number u, bj.2.1, w]
    rw [if_pos ⟨h1, h2, h3⟩]
    exact (State.raise_pending _ .drained .drained).trans (if_pos rfl)
  have bc : b.pendingGrows c := by
    intro e he
    rw [hc]
    unfold State.freeRecord State.drainTest
    split
    · exact State.raise_grows _ _ e he
    · exact he
  set g := (if d.breach at_ then c.latch .handling else c).raise .discDone with hg
  have cg : c.pendingGrows g := by
    intro e he
    rw [hg]
    refine State.raise_grows _ _ e ?_
    split
    · exact he
    · exact he
  have gd : g.discs = c.discs := by rw [hg]; split <;> rfl
  have gj : g.jobs = c.jobs := by rw [hg]; split <;> rfl
  have gb : ∀ m, g.job m = b.job m := fun m => by unfold State.job; rw [gj, cm]
  have counts : ∀ k j, d.job = some k → s.job k = some j → g.job k = some (f j).settleCancel ∧
      ((f j).settleCancel.state ≠ j.state → (f j).settleCancel.state = .complete ∨ (f j).settleCancel.state = .cancelled →
        g.status.pending.getLsbD 1 = true) ∧
      ((f j).settleCancel.state ≠ j.state → (f j).settleCancel.state = .held .rejectLimit →
        g.status.pending.getLsbD 2 = true) := by
    intro k j hk hj
    have eb := hb1 k hk
    have hj' : a.job k = some j := (aJob k).trans hj
    have r := State.countJob_raises f hj'
    rw [← eb] at r
    refine ⟨by rw [gb, eb, State.countJob_job f hj', if_pos rfl], fun x y => ?_, fun x y => ?_⟩
    · exact cg .jobDone (bc .jobDone (r.1 x y))
    · exact cg .jobHeld (bc .jobHeld (r.2 x y))
  rw [e]
  refine ⟨⟨?_, State.othersStay_self (by rw [gd, br]), ?_, ⟨?_, ?_⟩, ?_, ?_, ?_, ?_⟩, by rw [gd, br], ?_⟩
  · have x := DiscTable.append_completed s.discs (d.completion ((s.jobOf d).map Job.number) out)
    rw [gd, br, ha]
    exact x
  · rw [gd, br]; simp only [ha, DiscTable.append]; split <;> exact ⟨rfl, rfl⟩
  · rw [gj, cm]; exact bj.1
  · intro m hm; rw [gb]; exact bj.2.2 m hm
  · intro k j hk hj
    obtain ⟨x, done, held⟩ := counts k j hk hj
    refine ⟨_, x, ?_⟩
    by_cases ho : out = Disposition.good
    · have fe : f = Job.countGood := by rw [hf, if_pos ho]
      rw [fe] at done held ⊢
      obtain ⟨p1, p2, p3, p4, p5, p6⟩ := Job.countGood_spec j
      refine ⟨p1, fun _ => ⟨p2, p3, p4, p5⟩, fun n => absurd ho n, fun y z => ⟨p6 y z, ?_⟩⟩
      exact done (by rw [p6 y z, y]; simp) (.inr (p6 y z))
    · have fe : f = Job.countReject := by rw [hf, if_neg ho]
      rw [fe] at done held ⊢
      obtain ⟨p1, p2, p3, p4, p5, p6⟩ := Job.countReject_spec j
      refine ⟨p1, fun n => absurd n ho, fun _ => ⟨p2, p3, p4, fun y z => ⟨p5 y z, ?_⟩⟩, fun y z => ⟨p6 y z, ?_⟩⟩
      · exact held (by rw [p5 y z]; rcases y with y | y <;> simp [y]) (p5 y z)
      · exact done (by rw [p6 y z, y]; simp) (.inr (p6 y z))
  · rw [gj, cm]
  · intro h1 h2 h3; exact cg .drained (cd h1 h2 h3)
  · rw [hg]; exact (State.raise_pending _ .discDone .discDone).trans (if_pos rfl)
  · intro hb; rw [hg, if_pos hb]; simp

/-- A lost disc is retired as dropped at REJECT (R121). -/
theorem State.lostDisc_spec {s : State} {before after : List Disc} {d : Disc}
    (h : s.discs.records = before ++ d :: after) (u : ∀ e ∈ before ++ after, e.number ≠ d.number) :
    s.retires (s.lostDisc d.number) before d after (d.disposition.rejectedWith .handling) ∧
      (s.lostDisc d.number).discs.records = before ++ after ∧ (s.lostDisc d.number).cond .handling = true := by
  set v : State := (s.setReject d.number .handling).latch .handling with hv
  set x := d.rejected .handling with hx
  have num : x.number = d.number := by rw [hx]; unfold Disc.rejected; split <;> rfl
  have job : x.job = d.job := by rw [hx]; unfold Disc.rejected; split <;> rfl
  have disp : x.disposition = d.disposition.rejectedWith .handling := by
    rw [hx]; unfold Disc.rejected Disposition.rejectedWith; split <;> rfl
  have vd : v.discs = { s.discs with records := before ++ x :: after } := by
    have := State.modDisc_records (Disc.rejected .handling) h u
    simpa [hv, State.setReject] using this
  obtain ⟨a, b, -⟩ := State.retire_spec (s := v) .reject (by rw [vd]) (by rw [num]; exact u)
  have notGood : x.disposition.isReject = true := by
    rw [disp]; unfold Disposition.rejectedWith; split
    · assumption
    · rfl
  have br : x.breach .reject = false := by unfold Disc.breach; simp [notGood]
  have out : x.retiredAs .reject = d.disposition.rejectedWith .handling := by
    unfold Disc.retiredAs; rw [br, ← disp]; rfl
  have e : s.lostDisc d.number = v.retire x.number .reject := by rw [num]; rfl
  rw [e]
  rw [out] at a
  have jo : v.jobOf x = s.jobOf d := by unfold State.jobOf; rw [job]; rfl
  refine ⟨⟨?_, a.others, ?_, ?_, ?_, ?_, ?_, a.done⟩, b, ?_⟩
  · have := a.entry
    rw [vd] at this
    have f : x.target = d.target ∧ x.media = d.media ∧ x.stepDowns = d.stepDowns ∧ x.suspends = d.suspends ∧
        x.mismatches = d.mismatches ∧ x.burned = d.burned ∧ x.verified = d.verified ∧ x.printed = d.printed := by
      rw [hx]; unfold Disc.rejected; split <;> exact ⟨rfl, rfl, rfl, rfl, rfl, rfl, rfl, rfl⟩
    rw [num, jo, f.1, f.2.1, f.2.2.1, f.2.2.2.1, f.2.2.2.2.1, f.2.2.2.2.2.1, f.2.2.2.2.2.2.1, f.2.2.2.2.2.2.2] at this
    rw [num]
    exact this
  · have := a.table; rw [vd] at this; exact this
  · have := a.jobs; rw [job] at this; exact this
  · have := a.counts; rw [job] at this; exact this
  · have := a.runMode; rw [vd] at this; exact this
  · have := a.drained; rw [vd] at this; exact this
  · exact State.retire_cond _ _ (by simp [hv])

/-- The state before a retirement may differ in what it does not read. -/
theorem State.retires.of_before {s u t : State} {before after : List Disc} {d : Disc} {out : Disposition}
    (h : u.retires t before d after out) (discs : u.discs = s.discs) (jobs : u.jobs = s.jobs)
    (waiting : u.trans.waiting = s.trans.waiting) : s.retires t before d after out := by
  have j : ∀ m, u.job m = s.job m := fun m => by unfold State.job; rw [jobs]
  have o : u.jobOf d = s.jobOf d := by unfold State.jobOf; cases d.job <;> simp [j]
  refine ⟨?_, ?_, ?_, ?_, ?_, ?_, ?_, h.done⟩
  · rw [← discs, ← o]; exact h.entry
  · have := h.others; unfold State.othersStay at this ⊢; rw [← waiting]; exact this
  · rw [← discs]; exact h.table
  · rw [← jobs]; exact ⟨h.jobs.1, fun m hm => by rw [h.jobs.2 m hm, j]⟩
  · intro k i hk hi; exact h.counts k i hk (by rw [j]; exact hi)
  · rw [← discs, ← jobs]; exact h.runMode
  · rw [← discs, ← jobs]; exact h.drained

/-- A retirement followed by what posts waiting moves and raises events. -/
theorem State.retires.andThen {s v t : State} {before after : List Disc} {d : Disc} {out : Disposition}
    (h : s.retires v before d after out) (records : v.discs.records = before ++ after)
    (posts : ∃ joined : List Nat, (∀ n ∈ joined, ∃ q ∈ s.trans.waiting, q.disc = n ∧ q.dest.isBin = true) ∧
      t.discs = { v.discs with
        records := v.discs.records.map fun e => if e.number ∈ joined then { e with stage := .toOut } else e })
    (jobs : t.jobs = v.jobs) (events : v.pendingGrows t) : s.retires t before d after out := by
  obtain ⟨joined, h1, h2⟩ := posts
  have j : ∀ m, t.job m = v.job m := fun m => by unfold State.job; rw [jobs]
  refine ⟨?_, ⟨joined, h1, by rw [h2, records]⟩, ?_, ?_, ?_, ?_, ?_, events .discDone h.done⟩
  · rw [h2]; exact h.entry
  · rw [h2]; exact h.table
  · rw [jobs]; exact ⟨h.jobs.1, fun m hm => by rw [j, h.jobs.2 m hm]⟩
  · intro k i hk hi
    obtain ⟨x, a, b, c, e, f⟩ := h.counts k i hk hi
    exact ⟨x, by rw [j, a], b, c, fun n => ⟨(e n).1, (e n).2.1, (e n).2.2.1, fun p q =>
      ⟨((e n).2.2.2 p q).1, events .jobHeld ((e n).2.2.2 p q).2⟩⟩, fun p q => ⟨(f p q).1, events .jobDone (f p q).2⟩⟩
  · rw [jobs]; exact h.runMode
  · intro p q r; exact events .drained (h.drained p q r)

/-! ## The end of a leg (R118) -/

/-- The records after the end of a leg: only posts that waited change one. -/
theorem State.legDone_records (s : State) :
    ∃ joined : List Nat, (∀ n ∈ joined, ∃ q ∈ s.trans.waiting, q.disc = n ∧ q.dest.isBin = true) ∧
      s.legDone.discs = { s.discs with
        records := s.discs.records.map fun e => if e.number ∈ joined then { e with stage := .toOut } else e } := by
  have stays : ∀ t : State, t.discs = s.discs → ∃ joined : List Nat,
      (∀ n ∈ joined, ∃ q ∈ s.trans.waiting, q.disc = n ∧ q.dest.isBin = true) ∧
      t.discs = { s.discs with
        records := s.discs.records.map fun e => if e.number ∈ joined then { e with stage := .toOut } else e } :=
    fun t h => ⟨[], by simp, by simp [h]⟩
  have done : ∃ joined : List Nat, (∀ n ∈ joined, ∃ q ∈ s.trans.waiting, q.disc = n ∧ q.dest.isBin = true) ∧
      s.moveDone.discs = { s.discs with
        records := s.discs.records.map fun e => if e.number ∈ joined then { e with stage := .toOut } else e } := by
    obtain ⟨j, h1, h2⟩ := s.takeCurrent.postWaiting_records
    exact ⟨j, h1, h2⟩
  unfold State.legDone
  split
  · exact stays _ (by simp)
  · exact done
  · exact done

theorem State.legDone_ends {s : State} {older younger : List MoveReq} {r : MoveReq} (h : s.granting older r younger) :
    s.legEnds s.legDone older r younger :=
  ⟨fun l => by rw [State.legDone_last h l]; exact State.moveDone_trans h, State.legDone_hold h⟩

/-! ## The end of homing (R130) -/

/-- The arm takes a state: ARM_FAULT follows it (R129). -/
@[simp] theorem State.setArm_trans (s : State) (a : ArmState) : (s.setArm a).trans = { s.trans with arm := a } := rfl

@[simp] theorem State.setArm_cond (s : State) (a : ArmState) : (s.setArm a).cond .armFault = (a == .fault) := by
  simp [State.setArm]

@[simp] theorem State.setArm_pending (s : State) (a : ArmState) :
    (s.setArm a).status.pending = s.status.pending := rfl

/-- An interrupted request goes on by what the arm was doing (R132). -/
theorem State.resumeGrant_signals (s : State) :
    s.resumeGrant.status.pending = s.status.pending ∧ s.resumeGrant.cond .armFault = false := by
  unfold State.resumeGrant
  dsimp only
  split <;> exact ⟨rfl, by simp [State.depart, State.departResuming]⟩

theorem State.homingEnd_spec (s : State) : s.homingEnds s.homingEnd := by
  set u : State := (s.modTrans fun t => { t.timersStopped with faultCause := none, homingPending := false }).raise .arm with hu
  have e : s.homingEnd = match u.trans.interruptedReq with
    | some _ => u.resumeGrant
    | none => u.armIdle := rfl
  have up : u.status.pending.getLsbD 9 = true := (State.raise_pending _ .arm .arm).trans (if_pos rfl)
  have uq : u.trans.queue = s.trans.queue := rfl
  refine ⟨fun h => ?_, fun older r younger hq hr ho => ?_, ?_⟩
  · have n : u.trans.interruptedReq = none := List.find?_eq_none.2 fun r hr => by simp [h r hr]
    rw [e, n]
    rfl
  · have n : u.trans.interruptedReq = some r := by
      unfold Transport.interruptedReq
      rw [uq, hq, List.find?_append, List.find?_eq_none.2 fun q hm => by
        simp [(ho q (List.mem_append_left _ hm)).2]]
      simp [hr]
    have keep : ∀ l : List MoveReq, (∀ q ∈ l, q ∈ older ++ younger) →
        (l.map fun q => if (q.granted || q.interrupted) = true then { q with granted := true, interrupted := false } else q)
          = l := fun l hl => by
      conv_rhs => rw [← List.map_id l]
      apply List.map_congr_left
      intro q hm
      simp [ho q (hl q hm)]
    have m : (u.modCurrent fun q => { q with granted := true, interrupted := false }).trans = { u.trans with
        queue := older ++ { r with granted := true, interrupted := false } :: younger } := by
      unfold State.modCurrent
      simp only [State.modTrans]
      rw [uq, hq, List.map_append, List.map_cons, keep _ fun q hm => List.mem_append_left _ hm,
        keep _ fun q hm => List.mem_append_right _ hm, hr]
      simp
    have ur : u.trans.resume = s.trans.resume := rfl
    rw [e, n]
    unfold State.resumeGrant
    dsimp only
    simp only [ur]
    refine ⟨fun k => ?_, fun k => ?_, fun k => ?_⟩
    all_goals
      simp only [k, State.departResuming, State.depart, State.setArm_trans, State.modTrans, m]
      rfl
  · rw [e]
    split
    · exact ⟨by rw [(State.resumeGrant_signals u).1]; exact up, (State.resumeGrant_signals u).2⟩
    · exact ⟨up, by simp [State.armIdle]⟩

/-! ## A fault of the arm (R129) -/

/-- The arm takes FAULT and its cause, and ARM is raised. -/
def State.inFault (u : State) (why : FaultCause) : State :=
  ((u.modTrans fun t => { t with faultCause := some why }).setArm .fault).raise .arm

@[simp] theorem State.inFault_trans (u : State) (why : FaultCause) :
    (u.inFault why).trans = { u.trans with faultCause := some why, arm := .fault } := rfl

theorem State.inFault_signals (u : State) (why : FaultCause) :
    (u.inFault why).cond .armFault = true ∧ (u.inFault why).status.pending.getLsbD 9 = true := by
  refine ⟨?_, (State.raise_pending _ .arm .arm).trans (if_pos rfl)⟩
  unfold State.inFault
  simp

/-- Only posts that waited, and the requests of the queue, stand in it afterwards. -/
theorem postsAfter_mem {queue l : List MoveReq} {q : MoveReq} (h : q ∈ (postsAfter queue l).1) : q ∈ queue ∨ q ∈ l := by
  induction l generalizing queue with
  | nil => exact .inl h
  | cons r l ih =>
    rw [postsAfter] at h
    split at h
    · exact (ih h).imp id (List.mem_cons_of_mem _)
    · rcases ih h with m | m
      · rcases List.mem_append.1 m with m | m
        · exact .inl m
        · exact .inr (by simp_all)
      · exact .inr (List.mem_cons_of_mem _ m)

/-- What a SWAP's second leg becomes when its first is given up (R126, R129). -/
theorem State.secondBecomesLoad_trans {s : State} {older younger : List MoveReq} {r : MoveReq} (h : s.granting older r younger)
    (second : Option SecondLeg) (q : ∀ l, second = some l → r.requester = .bay l.bay) :
    s.trans.leaves (s.secondBecomesLoad second).trans
        (older ++ younger ++ (second.map SecondLeg.load).toList) ∧
      (s.secondBecomesLoad second).trans = { s.trans with
        queue := (s.secondBecomesLoad second).trans.queue, waiting := (s.secondBecomesLoad second).trans.waiting } := by
  cases second with
  | none =>
    have := s.dropCurrent_leaves
    rw [h.filter_eq] at this
    refine ⟨by simpa [State.secondBecomesLoad] using this, ?_⟩
    unfold State.secondBecomesLoad State.dropCurrent
    rw [State.postWaiting_trans]
    rfl
  | some l =>
    have free : ∀ x ∈ s.takeCurrent.trans.queue, x.requester ≠ l.load.requester := by
      intro x hx
      rw [h.takeCurrent_trans] at hx
      have := (h.others x hx).2.2
      rw [q l rfl] at this
      exact this
    have e := State.postMove_joins free
    rw [h.takeCurrent_trans] at e
    unfold State.secondBecomesLoad
    simp only [State.postWaiting_trans, e, Option.map_some, Option.toList_some]
    simp [Transport.leaves, SecondLeg.load]

/-- Posts leave a record its disposition, and TO_OUT as TO_OUT. -/
theorem State.foldPosts_disc (l : List MoveReq) {s : State} {n : Nat} {d : Disc} (h : s.disc n = some d) :
    ∃ e, (l.foldl State.postMove s).disc n = some e ∧ e.disposition = d.disposition ∧
      (d.stage = .toOut → e.stage = .toOut) := by
  obtain ⟨j, -, hj⟩ := State.foldPosts_records l s
  unfold State.disc at h ⊢
  rw [hj, List.find?_map]
  have c : ((fun x : Disc => x.number == n) ∘ fun e : Disc => if e.number ∈ j then { e with stage := DiscStage.toOut } else e) =
      fun x => x.number == n := by
    funext x; dsimp only [Function.comp]; split <;> rfl
  rw [c, h]
  refine ⟨_, rfl, ?_, ?_⟩ <;> dsimp only <;> split <;> simp_all

/-- So does a SWAP's second leg that becomes a LOAD. -/
theorem State.secondBecomesLoad_disc {s : State} (second : Option SecondLeg) {n : Nat} {d : Disc} (h : s.disc n = some d) :
    ∃ e, (s.secondBecomesLoad second).disc n = some e ∧ e.disposition = d.disposition ∧
      (d.stage = .toOut → e.stage = .toOut) := by
  have post : ∀ {u : State} {d : Disc}, u.disc n = some d → ∃ e, u.postWaiting.disc n = some e ∧
      e.disposition = d.disposition ∧ (d.stage = .toOut → e.stage = .toOut) := fun {u d} hu =>
    State.foldPosts_disc _ (s := u.modTrans fun t => { t with waiting := [] }) hu
  have h' : s.takeCurrent.disc n = some d := h
  cases second with
  | none => exact post h'
  | some l =>
    obtain ⟨e, he, e1, e2⟩ := State.foldPosts_disc [l.load] h'
    obtain ⟨f, hf, f1, f2⟩ := post he
    exact ⟨f, hf, f1.trans e1, f2 ∘ e2⟩

/-- With no grant held, a fault gives up what an interrupted hand-over had and stops the timers; the queue stays (R129). -/
theorem State.armFaultEntry_none {s : State} (why : FaultCause) (h : s.trans.grant = none) :
    ∃ f : Transport → Transport, (∀ t, (f t).queue = t.queue ∧ (f t).moveTimer = none ∧ (f t).ackTimer = none ∧
      (f t).holdTimer = none) ∧ s.armFaultEntry why = (s.giveUp.modTrans f).inFault why := by
  have g : s.giveUp.trans.grant = none := by simpa using h
  unfold State.armFaultEntry
  simp only [g]
  refine ⟨_, fun t => ?_, rfl⟩
  split <;> simp [Transport.timersStopped]

/-- With no disc on the arm, or before the pick, the granted request becomes the interrupted one (R129). -/
theorem State.armFaultEntry_kept {s : State} {r : MoveReq} (why : FaultCause) (h : s.trans.grant = some r)
    (c : s.trans.arm ≠ .carrying ∨ s.sensors.pick = false) :
    s.armFaultEntry why = ((s.giveUp.modCurrent fun q => { q with granted := false, interrupted := true }).modTrans
      fun t => { t.timersStopped with resume := some (resumeFrom s.trans.arm) }).inFault why := by
  have g : s.giveUp.trans.grant = some r := by simpa using h
  have k : (s.giveUp.sensors.pick && s.giveUp.trans.arm == .carrying) = false := by
    simp only [State.giveUp_frame]
    rcases c with c | c <;> simp [c]
  unfold State.armFaultEntry
  simp only [g, k]
  simp [State.inFault]

/-- The disc that a fault finds on the arm: its record, the bay that awaited it (R129). -/
def State.heldAtFault (s : State) (r : MoveReq) : State :=
  (((s.giveUp.setReject (s.trans.legDisc r) .handling).setToOut (s.trans.legDisc r)).tellAwaiting r (s.trans.legDest r)
    (s.trans.legDisc r) false)

/-- With a disc on the arm, its request leaves the queue (R129). -/
theorem State.armFaultEntry_onArm {s : State} {r : MoveReq} (why : FaultCause) (h : s.trans.grant = some r)
    (arm : s.trans.arm = .carrying) (pick : s.sensors.pick = true) :
    s.armFaultEntry why = (((s.heldAtFault r).secondBecomesLoad (match s.trans.leg with
        | .first => r.second
        | .second => none)).modTrans fun t =>
      { t.timersStopped with handover := none, leg := .first, resume := none }).inFault why := by
  have g : s.giveUp.trans.grant = some r := by simpa using h
  unfold State.armFaultEntry State.heldAtFault
  simp only [g]
  cases hl : s.trans.leg <;> simp [arm, pick, hl, State.secondBecomesLoad, State.inFault]

/-- A hand-over that a fault gives up: the bay's tray request and the printer's clamp (R70, R146). -/
theorem State.giveUp_spec {s : State} {r : MoveReq} {at_ : Station} (h : s.trans.current = some r)
    (step : s.trans.handover ≠ none)
    (c : (s.trans.arm = .granted ∧ s.trans.legSource r = at_) ∨ (s.trans.arm = .carrying ∧ s.trans.legDest r = at_)) :
    (∀ b o, at_ = .bay b → (s.bay b).out = some o → o.req = .trayOpen ∨ o.req = .trayClose → (s.giveUp.bay b).out = none) ∧
    (∀ p, at_ = .prn → s.printer = some p → s.giveUp.printer = some { p with clampOpen := false }) := by
  obtain ⟨x, hx⟩ := Option.ne_none_iff_exists'.mp step
  have e : s.giveUp = s.giveUpAt at_ := by
    have : s.trans.handStation = some at_ := by
      unfold Transport.handStation
      rw [hx, h]
      rcases c with ⟨a, b⟩ | ⟨a, b⟩ <;> simp [a, b]
    unfold State.giveUp
    rw [this]
  rw [e]
  refine ⟨fun b o hb ho hr => ?_, fun p hp hq => ?_⟩
  · have : o.req.isTray = true := by rcases hr with hr | hr <;> rw [hr] <;> rfl
    simp [hb, State.giveUpAt, State.handoverGivenUp, ho, this, State.portReset]
  · simp [hp, hq, State.giveUpAt, State.setClamp]

/-- It leaves the rest of a bay's record. -/
theorem State.giveUp_bay (s : State) (b : BayId) :
    s.giveUp.bay b = s.bay b ∨ s.giveUp.bay b = { s.bay b with out := none, susp := none } := by
  have port : ∀ c, (s.handoverGivenUp c).bay b = s.bay b ∨
      (s.handoverGivenUp c).bay b = { s.bay b with out := none, susp := none } := fun c => by
    unfold State.handoverGivenUp
    split
    · split
      · by_cases e : b = c
        · subst e; right; simp [State.portReset]
        · left; simp [State.portReset, State.modBay_bay_ne, e]
      · exact .inl rfl
    · exact .inl rfl
  unfold State.giveUp
  split
  · unfold State.giveUpAt
    split
    · exact port _
    · exact .inl (State.bay_of_bays (by simp) b)
    · exact .inl rfl
    · exact .inl rfl
    · exact .inl rfl
  · exact .inl rfl

/-- A bay told that its disc will not come keeps its outstanding request. -/
theorem State.discWillNotCome_out (s : State) (b : BayId) (n : Nat) (c : BayId) :
    ((s.discWillNotCome b n false).bay c).out = (s.bay c).out := by
  have mod : ∀ (u : State) (f : Bay → Bay), (∀ x, (f x).out = x.out) → ((u.modBay b f).bay c).out = (u.bay c).out :=
    fun u f hf => by
      by_cases e : c = b
      · subst e; simp [hf]
      · simp [State.modBay_bay_ne, e]
  unfold State.discWillNotCome State.awaitDiscEnd
  split
  · dsimp only
    rw [if_neg (by simp), mod _ _ (fun x => by unfold Bay.toIdle; split <;> rfl),
      mod _ (fun r => r.cleared.countAcceptance false) (fun x => rfl)]
  · rfl

/-- A bay that stops awaiting a disc after a hand-over was given up. -/
theorem State.stopsAwaiting_of_giveUp {s u t : State} {b : BayId} {n : Nat} (hu : u.bay b = s.giveUp.bay b)
    (h : u.stopsAwaiting t b n) : s.stopsAwaiting t b n := by
  intro hs hd
  rcases s.giveUp_bay b with e | e <;> rw [e] at hu
  all_goals
    have := h (by rw [hu]; exact hs) (by rw [hu]; exact hd)
    simpa [hu] using this

/-- So does a bay that a station's telling reaches. -/
theorem State.tellAwaiting_out (s : State) (r : MoveReq) (at_ : Station) (n : Nat) (c : BayId) :
    ((s.tellAwaiting r at_ n false).bay c).out = (s.bay c).out := by
  unfold State.tellAwaiting
  split
  · exact State.discWillNotCome_out _ _ _ _
  · split
    · exact State.discWillNotCome_out _ _ _ _
    · rfl
  all_goals rfl

/-- Nothing in the queue holds the grant after a fault that found a disc on the arm. -/
theorem State.secondBecomesLoad_released {s : State} (second : Option SecondLeg)
    (w : ∀ q ∈ s.trans.waiting, q.granted = false) : ∀ q ∈ (s.secondBecomesLoad second).trans.queue, q.granted = false := by
  have tk : ∀ y ∈ s.takeCurrent.trans.queue, y.granted = false := by
    intro y hy
    have := List.of_mem_filter hy
    revert this
    cases y.granted <;> simp
  intro x hx
  cases second with
  | none =>
    have : x ∈ s.takeCurrent.postWaiting.trans.queue := hx
    rw [State.postWaiting_trans] at this
    rcases postsAfter_mem this with m | m
    · exact tk x m
    · exact w x m
  | some l =>
    have : x ∈ (s.takeCurrent.postMove l.load).postWaiting.trans.queue := hx
    rw [State.postWaiting_trans] at this
    simp only [State.postMove_trans, State.joinQueue] at this
    rcases postsAfter_mem this with m | m
    · split at m
      · exact tk x m
      · simp only [State.modTrans_trans, List.mem_append, List.mem_singleton] at m
        rcases m with m | m
        · exact tk x m
        · rw [m]; rfl
    · split at m
      · simp only [State.modTrans_trans, List.mem_append, List.mem_singleton] at m
        rcases m with m | m
        · exact w x m
        · rw [m]; rfl
      · exact w x m

/-- The second leg that a fault of a leg under way leaves as a LOAD. -/
def Transport.restOf (t : Transport) (r : MoveReq) : Option SecondLeg :=
  match t.leg with
  | .first => r.second
  | .second => none

/-- With a disc on the arm: its record, the request that leaves, and the stations told (R129). -/
theorem State.heldAtFault_spec {s : State} {older younger : List MoveReq} {r : MoveReq} (h : s.granting older r younger) :
    let u := (s.heldAtFault r).secondBecomesLoad (s.trans.restOf r)
    s.rejectsDisc u (s.trans.legDisc r) .handling ∧
      (∀ b, s.trans.legDest r = .bay b → s.stopsAwaiting u b (s.trans.legDisc r)) ∧
      (∀ b, s.trans.legDest r = .prn → r.kind = .printIn → r.requester = .bay b →
        s.stopsAwaiting u b (s.trans.legDisc r)) ∧
      (s.trans.lastLeg r → s.trans.leaves u.trans (older ++ younger)) ∧
      (∀ l, s.trans.leg = .first → r.second = some l → r.requester = .bay l.bay →
        s.trans.leaves u.trans (older ++ younger ++
          [MoveReq.posted .load (.bay l.bay) (.spindle l.spindle) (.bay l.bay) l.disc none])) ∧
      u.printer = s.giveUp.printer ∧ ∀ b, (u.bay b).out = (s.giveUp.bay b).out := by
  intro u
  have ht : (s.heldAtFault r).trans = s.trans := by unfold State.heldAtFault; simp
  have gh : (s.heldAtFault r).granting older r younger := h.of_trans (by rw [ht])
  set n := s.trans.legDisc r with hn
  set v := (s.giveUp.setReject n .handling).setToOut n with hv
  have hd : (s.heldAtFault r).discs = v.discs := by unfold State.heldAtFault; simp [hv, hn]
  have bays : ∀ b, u.bay b = (v.tellAwaiting r (s.trans.legDest r) n false).bay b := fun b =>
    State.bay_of_bays (by simp [u, State.heldAtFault, hv, hn]) b
  have vb : ∀ b, v.bay b = s.giveUp.bay b := fun b => State.bay_of_bays (by simp [hv]) b
  refine ⟨?_, ?_, ?_, ?_, ?_, by simp [u, State.heldAtFault], fun b => by rw [bays, State.tellAwaiting_out, vb]⟩
  · intro d hd0
    obtain ⟨x, hx, x1, x2⟩ := State.setReject_setToOut_rejects s.giveUp n .handling d
      ((State.disc_of_discs (by simp) n).trans hd0)
    rw [← hv] at hx
    obtain ⟨y, hy, y1, y2⟩ := State.secondBecomesLoad_disc (s.trans.restOf r)
      (show (s.heldAtFault r).disc n = some x by rw [State.disc_of_discs hd]; exact hx)
    exact ⟨y, hy, y1.trans x1, y2 x2⟩
  · intro b hb
    refine State.stopsAwaiting_of_giveUp (vb b) fun p1 p2 => ?_
    rw [bays, hb]
    exact v.discWillNotCome_stops b n p1 p2
  · intro b hb hk hq
    refine State.stopsAwaiting_of_giveUp (vb b) fun p1 p2 => ?_
    rw [bays, hb]
    simpa [State.tellAwaiting, hk, hq] using v.discWillNotCome_stops b n p1 p2
  · intro last
    have hs : s.trans.restOf r = none := by
      unfold Transport.restOf
      rcases last with l | l
      · rw [l]
      · rw [l]; cases s.trans.leg <;> rfl
    have := (State.secondBecomesLoad_trans gh (s.trans.restOf r) (by simp [hs])).1
    rw [ht] at this
    rw [show u = (s.heldAtFault r).secondBecomesLoad none by simp only [u, hs]]
    simpa [hs] using this
  · intro l hl hs hr
    have hs' : s.trans.restOf r = some l := by unfold Transport.restOf; rw [hl]; exact hs
    have := (State.secondBecomesLoad_trans gh (s.trans.restOf r) (by simp [hs', hr])).1
    rw [ht] at this
    rw [show u = (s.heldAtFault r).secondBecomesLoad (some l) by simp only [u, hs']]
    simpa [hs', SecondLeg.load] using this

/-- FAULT over a state: what it leaves of the queue, the discs and the bays. -/
theorem State.inFault_modTrans (u : State) (f : Transport → Transport) (why : FaultCause) :
    ((u.modTrans f).inFault why).discs = u.discs ∧ ((u.modTrans f).inFault why).bays = u.bays ∧
      ((u.modTrans f).inFault why).printer = u.printer ∧
      ((u.modTrans f).inFault why).trans = { f u.trans with faultCause := some why, arm := .fault } :=
  ⟨rfl, rfl, rfl, rfl⟩

theorem State.inFault_faulted {u : State} {f : Transport → Transport} (why : FaultCause)
    (hf : ∀ t, (f t).moveTimer = none ∧ (f t).ackTimer = none ∧ (f t).holdTimer = none) :
    let t := (u.modTrans f).inFault why
    (t.trans.arm = .fault ∧ t.trans.faultCause = some why ∧ t.trans.moveTimer = none ∧ t.trans.ackTimer = none ∧
      t.trans.holdTimer = none) ∧ (t.cond .armFault = true ∧ t.status.pending.getLsbD 9 = true) :=
  ⟨⟨rfl, rfl, (hf _).1, (hf _).2.1, (hf _).2.2⟩, State.inFault_signals _ _⟩

theorem State.rejectsDisc.of_discs {s u t : State} {n : Nat} {why : RejectReason} (h : s.rejectsDisc u n why)
    (e : t.discs = u.discs) : s.rejectsDisc t n why := fun d hd => by
  rw [State.disc_of_discs e]; exact h d hd

theorem State.stopsAwaiting.of_bays {s u t : State} {b : BayId} {n : Nat} (h : s.stopsAwaiting u b n)
    (e : t.bays = u.bays) : s.stopsAwaiting t b n := fun h1 h2 => by
  rw [State.bay_of_bays e]; exact h h1 h2

/-- A fault with a disc on the arm. -/
theorem State.armFaultEntry_carrying {s : State} {r : MoveReq} (why : FaultCause) (g : s.trans.grant = some r)
    (arm : s.trans.arm = .carrying) (pick : s.sensors.pick = true) (w : ∀ q ∈ s.trans.waiting, q.granted = false) :
    s.faulted (s.armFaultEntry why) why := by
  have e : s.armFaultEntry why = (((s.heldAtFault r).secondBecomesLoad (s.trans.restOf r)).modTrans fun t =>
      { t.timersStopped with handover := none, leg := .first, resume := none }).inFault why :=
    State.armFaultEntry_onArm why g arm pick
  set u := (s.heldAtFault r).secondBecomesLoad (s.trans.restOf r) with hu
  obtain ⟨a, b⟩ := State.inFault_faulted (u := u)
    (f := fun t => { t.timersStopped with handover := none, leg := .first, resume := none }) why
    (fun t => ⟨rfl, rfl, rfl⟩)
  obtain ⟨d, y, p, t⟩ := State.inFault_modTrans u
    (fun t => { t.timersStopped with handover := none, leg := .first, resume := none }) why
  have leaves : ∀ l, s.trans.leaves u.trans l → s.trans.leaves (s.armFaultEntry why).trans l := fun l h => by
    unfold Transport.leaves at h ⊢
    rw [← h, e, t]
    rfl
  rw [← e] at a b d y p t
  have same : ∀ {older younger : List MoveReq} {q : MoveReq}, s.granting older q younger → q = r := fun h => by
    have := h.grant_eq; rw [g] at this; exact (Option.some.inj this).symm
  refine ⟨a, ?_, b, ?_, ?_, ?_⟩
  · rw [t]
    refine State.secondBecomesLoad_released _ ?_
    unfold State.heldAtFault
    simpa using w
  · intro older q younger h _ _
    obtain rfl := same h
    obtain ⟨x1, x2, x3, x4, x5, -⟩ := State.heldAtFault_spec h
    exact ⟨x1.of_discs d, fun b hb => (x2 b hb).of_bays y, fun b h1 h2 h3 => (x3 b h1 h2 h3).of_bays y,
      fun l => leaves _ (x4 l), fun l h1 h2 h3 => leaves _ (x5 l h1 h2 h3)⟩
  · intro _ _ _ _ k
    simp [arm, pick] at k
  · intro older q younger at_ h step place
    obtain rfl := same h
    obtain ⟨-, -, -, -, -, x6, x7⟩ := State.heldAtFault_spec h
    obtain ⟨g1, g2⟩ := State.giveUp_spec h.current_eq step place
    exact ⟨fun b o hb ho hr => by rw [State.bay_of_bays y, x7]; exact g1 b o hb ho hr,
      fun k hk hq => by rw [p, x6]; exact g2 k hk hq⟩

/-- A fault with none there, or before the pick. -/
theorem State.armFaultEntry_interrupts {s : State} {r : MoveReq} (why : FaultCause) (g : s.trans.grant = some r)
    (k : s.trans.arm ≠ .carrying ∨ s.sensors.pick = false) : s.faulted (s.armFaultEntry why) why := by
  have e := State.armFaultEntry_kept why g k
  set u := s.giveUp.modCurrent fun q => { q with granted := false, interrupted := true } with hu
  obtain ⟨a, b⟩ := State.inFault_faulted (u := u)
    (f := fun t => { t.timersStopped with resume := some (resumeFrom s.trans.arm) }) why (fun t => ⟨rfl, rfl, rfl⟩)
  obtain ⟨d, y, p, t⟩ := State.inFault_modTrans u
    (fun t => { t.timersStopped with resume := some (resumeFrom s.trans.arm) }) why
  rw [← e] at a b d y p t
  have same : ∀ {older younger : List MoveReq} {q : MoveReq}, s.granting older q younger → q = r := fun h => by
    have := h.grant_eq; rw [g] at this; exact (Option.some.inj this).symm
  refine ⟨a, ?_, b, ?_, ?_, ?_⟩
  · rw [t]
    intro x hx
    have : x ∈ u.trans.queue := hx
    simp only [hu, State.modCurrent, State.modTrans_trans, List.mem_map] at this
    obtain ⟨y, -, rfl⟩ := this
    split
    · rfl
    · next h => simp at h; exact h.1
  · intro _ _ _ _ k1 k2
    rcases k with k | k
    · exact absurd k1 k
    · rw [k2] at k; cases k
  · intro older q younger h _
    obtain rfl := same h
    have gh : s.giveUp.granting older q younger := h.of_trans (by simp)
    refine ⟨d.trans (by simp [hu]), ?_⟩
    rw [t, hu, gh.modCurrent_trans]
    cases ha : s.trans.arm <;> simp [Transport.timersStopped, resumeFrom]
  · intro older q younger at_ h step place
    obtain rfl := same h
    obtain ⟨g1, g2⟩ := State.giveUp_spec h.current_eq step place
    have y' : u.bays = s.giveUp.bays := by simp [hu]
    have p' : u.printer = s.giveUp.printer := by simp [hu]
    exact ⟨fun b o hb ho hr => by rw [State.bay_of_bays y, State.bay_of_bays y']; exact g1 b o hb ho hr,
      fun k hk hq => by rw [p, p']; exact g2 k hk hq⟩

/-- What entering FAULT makes of the grant, of its disc and of the stations (R129). -/
theorem State.armFaultEntry_spec {s : State} (why : FaultCause) (w : ∀ q ∈ s.trans.waiting, q.granted = false) :
    s.faulted (s.armFaultEntry why) why := by
  cases g : s.trans.grant with
  | none =>
    have no : ∀ {older younger : List MoveReq} {r : MoveReq}, ¬ s.granting older r younger := fun h => by
      have := h.grant_eq; rw [g] at this; cases this
    obtain ⟨f, hf, e⟩ := State.armFaultEntry_none why g
    obtain ⟨a, b⟩ := State.inFault_faulted (u := s.giveUp) (f := f) why (fun t => (hf t).2)
    obtain ⟨-, -, -, t⟩ := State.inFault_modTrans s.giveUp f why
    rw [← e] at a b t
    refine ⟨a, ?_, b, fun _ _ _ h => absurd h no, fun _ _ _ h => absurd h no, fun _ _ _ _ h => absurd h no⟩
    intro q hq
    rw [t] at hq
    have : q ∈ (f s.giveUp.trans).queue := hq
    rw [(hf _).1, (State.giveUp_frame s).2.2.2.2.2.2.1] at this
    simpa using List.find?_eq_none.1 g q this
  | some r =>
    by_cases c : s.trans.arm = .carrying
    · cases k : s.sensors.pick
      · exact State.armFaultEntry_interrupts why g (.inr k)
      · exact State.armFaultEntry_carrying why g c k w
    · exact State.armFaultEntry_interrupts why g (.inl c)

/-- A bay told that its disc will not come, with no failure of its own: only the bay changes (R54). -/
theorem State.discWillNotCome_stays (s : State) (b : BayId) (n : Nat) :
    (s.discWillNotCome b n false).staging = s.staging ∧ (s.discWillNotCome b n false).governor = s.governor ∧
      (s.discWillNotCome b n false).verify = s.verify ∧ (s.discWillNotCome b n false).status = s.status := by
  unfold State.discWillNotCome State.awaitDiscEnd
  split <;> simp

theorem State.tellAwaiting_stays (s : State) (r : MoveReq) (at_ : Station) (n : Nat) :
    (s.tellAwaiting r at_ n false).staging = s.staging ∧ (s.tellAwaiting r at_ n false).governor = s.governor ∧
      (s.tellAwaiting r at_ n false).verify = s.verify ∧ (s.tellAwaiting r at_ n false).status = s.status := by
  unfold State.tellAwaiting
  split
  · exact State.discWillNotCome_stays _ _ _
  · split
    · exact State.discWillNotCome_stays _ _ _
    · simp
  all_goals simp

theorem State.secondBecomesLoad_pos (s : State) (second : Option SecondLeg) :
    (s.secondBecomesLoad second).trans.pos = s.trans.pos := by
  unfold State.secondBecomesLoad State.dropCurrent
  cases second <;> simp [State.takeCurrent, State.postWaiting_trans, State.joinQueue]
  split <;> rfl

/-- A fault touches only the arm, the discs, the bays, the printer and the status, and leaves the trackers (R129). -/
theorem State.armFaultEntry_changesOnly (s : State) (why : FaultCause) :
    s.changesOnly [.trans, .discs, .bays, .printer, .status] (s.armFaultEntry why) ∧
      (s.armFaultEntry why).trans.pos = s.trans.pos := by
  cases g : s.trans.grant with
  | none =>
    have : s.giveUp.trans.grant = none := by simpa using g
    unfold State.armFaultEntry
    simp only [this]
    refine ⟨fun p hp => ?_, ?_⟩
    · cases p <;> simp at hp <;> simp [State.agreeOn]
    · simp only [State.raise_frame, State.setArm_trans, State.modTrans_trans, State.giveUp_frame]
      split <;> rfl
  | some r =>
    by_cases c : s.trans.arm = .carrying ∧ s.sensors.pick = true
    · rw [State.armFaultEntry_onArm why g c.1 c.2]
      refine ⟨fun p hp => ?_, ?_⟩
      · cases p <;> simp at hp <;> simp [State.agreeOn, State.inFault, State.heldAtFault, State.tellAwaiting_stays]
      · simp [State.inFault, Transport.timersStopped, State.secondBecomesLoad_pos, State.heldAtFault]
    · have k : s.trans.arm ≠ .carrying ∨ s.sensors.pick = false := by
        by_cases h : s.trans.arm = .carrying
        · right; simpa [h] using c
        · exact .inl h
      rw [State.armFaultEntry_kept why g k]
      refine ⟨fun p hp => ?_, ?_⟩
      · cases p <;> simp at hp <;> simp [State.agreeOn, State.inFault]
      · simp [State.inFault, State.modCurrent, Transport.timersStopped]

/-! ## Signals and triggers that an ending leaves -/

theorem State.cond_of_live {s t : State} (h : t.status.live = s.status.live) (c : Cond) : t.cond c = s.cond c := by
  unfold State.cond; rw [h]

/-- The end of a leg raises nothing and leaves HANDLING (R118). -/
theorem State.legDone_signals (s : State) :
    s.legDone.status.pending = s.status.pending ∧ s.legDone.cond .handling = s.cond .handling := by
  unfold State.legDone State.moveDone State.dropCurrent
  split
  · exact ⟨rfl, by simp [State.setArm]⟩
  all_goals
    refine ⟨by simp [State.armIdle], ?_⟩
    simp only [State.armIdle, State.setArm]
    rw [State.report_cond]
    exact State.cond_of_live (by simp) _

/-- The end of homing raises ARM alone and leaves HANDLING (R130). -/
theorem State.homingEnd_signals (s : State) :
    s.homingEnd.status.pending = (s.raise .arm).status.pending ∧ s.homingEnd.cond .handling = s.cond .handling := by
  unfold State.homingEnd State.resumeGrant
  dsimp only
  split
  · split <;> refine ⟨rfl, ?_⟩ <;> simp [State.setArm, State.depart, State.departResuming] <;> rfl
  · exact ⟨rfl, by simp [State.armIdle, State.setArm]⟩

/-- It takes no request out of the queue. -/
theorem State.homingEnd_queue (s : State) :
    s.homingEnd.trans.spindleA = s.trans.spindleA ∧ s.homingEnd.trans.spindleB = s.trans.spindleB ∧
      ∀ r ∈ s.trans.queue, ∃ q ∈ s.homingEnd.trans.queue, q.requester = r.requester ∧ q.disc = r.disc := by
  unfold State.homingEnd State.resumeGrant
  dsimp only
  split
  · have again : ∀ r ∈ s.trans.queue, ∃ q ∈ s.trans.queue.map (fun r =>
        if (r.granted || r.interrupted) = true then { r with granted := true, interrupted := false } else r),
        q.requester = r.requester ∧ q.disc = r.disc := fun r hr => by
      refine ⟨_, List.mem_map_of_mem hr, ?_⟩
      split <;> exact ⟨rfl, rfl⟩
    split <;> exact ⟨rfl, rfl, again⟩
  · exact ⟨rfl, rfl, fun r hr => ⟨r, hr, rfl, rfl⟩⟩

/-- No trigger of R19 lies between states whose settings, bays, jobs, printer, images and spindles agree, when no record and no request goes. -/
theorem State.quiet.of_frame {s t : State} (settings : t.settings = s.settings) (bays : t.bays = s.bays)
    (jobs : t.jobs = s.jobs) (printer : t.printer = s.printer) (staging : t.staging = s.staging)
    (spindles : t.trans.spindleA = s.trans.spindleA ∧ t.trans.spindleB = s.trans.spindleB)
    (records : ∀ d ∈ s.discs.records, ∃ e ∈ t.discs.records, e.number = d.number)
    (queue : ∀ r ∈ s.trans.queue, ∃ q ∈ t.trans.queue, q.requester = r.requester ∧ q.disc = r.disc) : s.quiet t := by
  refine ⟨by rw [settings]; exact id, fun b => by rw [State.bay_of_bays bays]; exact id,
    fun k => .inl (by unfold State.job; rw [jobs]), by rw [jobs]; exact id, records,
    fun i => .inr (by cases i <;> simp [State.spindle, spindles]), by unfold State.printerIs; rw [printer]; exact id, queue,
    fun k i j h1 h2 => ?_⟩
  have : t.image k = s.image k := by unfold State.image; rw [staging]
  rw [this, h1] at h2
  obtain rfl := Option.some.inj h2
  exact ⟨id, id, id⟩

end Sys2Proof.Machine
end

