-- ==== Sys2Proof/Laws/Feeding.lean ====
section
/-! SUPPORT. The feed test of one bay and of an image's bays: what each leaves (R36, R59). -/

namespace Sys2Proof.Machine

/-- The feed test reads the slots and the clock alone. -/
theorem State.feeds_of_eq {s t : State} {r after : Bay} (hs : t.staging = s.staging) (hn : t.now = s.now)
    (h : t.feeds r after) : s.feeds r after := by
  obtain ⟨issues, rests⟩ := h
  simp only [State.image, State.segSectors, hs, hn] at issues rests
  exact ⟨issues, rests⟩

/-- R59 of one bay. -/
theorem State.feedTest_feeds (s : State) (b : BayId) : s.feeds (s.bay b) ((s.feedTest b).bay b) := by
  constructor
  · intro k i c hk hi hc hst hout hsusp hlt
    simp [State.feedTest, State.imageOf, hk, hi, hc, hst, hout, hsusp, hlt, State.issue, Bay.issued,
      DriveReq.timeout, Bay.withRequest, writeCount, Image.read]
  · intro h
    unfold State.feedTest State.imageOf
    dsimp only
    split
    · next i c hi hc =>
      obtain ⟨k, hk, hi⟩ := Option.bind_eq_some_iff.mp hi
      split
      · next hr =>
        rcases h with h | h | h | h
        · exact absurd hr.1 h
        · exact absurd hr.2.1 h
        · exact absurd hr.2.2.1 h
        · exact absurd hr.2.2.2 (Nat.not_lt.mpr (h k i c hk hi hc))
      · rfl
    · rfl

/-- The feed test of one bay leaves the others. -/
theorem State.feedTest_bay_ne (s : State) {b m : BayId} (h : m ≠ b) : (s.feedTest b).bay m = s.bay m := by
  unfold State.feedTest
  dsimp only
  split
  · split
    · exact State.modBay_bay_ne _ _ h
    · rfl
  · rfl

/-- A list of bays, each once: those of the slot have made the feed test, the others stand (R36). -/
theorem State.feedList_feeds (k : ImageId) : ∀ (l : List BayId) (s : State), l.Nodup →
    let t := l.foldl (fun s b => if (s.bay b).imageSlot = some k then s.feedTest b else s) s
    ∀ b, (b ∉ l ∨ (s.bay b).imageSlot ≠ some k → t.bay b = s.bay b) ∧
      (b ∈ l → (s.bay b).imageSlot = some k → s.feeds (s.bay b) (t.bay b))
  | [], _, _, _ => ⟨fun _ => rfl, fun h => absurd h (List.not_mem_nil)⟩
  | m :: l, s, hl, b => by
    obtain ⟨hm, hl⟩ := List.nodup_cons.mp hl
    let u := if (s.bay m).imageSlot = some k then s.feedTest m else s
    obtain ⟨keep, feed⟩ := State.feedList_feeds k l u hl b
    have hu : u.staging = s.staging ∧ u.now = s.now := by
      simp only [u]; split
      · exact ⟨by simp, by simp⟩
      · exact ⟨rfl, rfl⟩
    have other : b ≠ m → u.bay b = s.bay b := fun h => by
      simp only [u]; split
      · exact State.feedTest_bay_ne s h
      · rfl
    rw [List.foldl_cons, show (if (s.bay m).imageSlot = some k then s.feedTest m else s) = u from rfl]
    refine ⟨fun h => ?_, fun hb hk => ?_⟩
    · by_cases e : b = m
      · subst e
        have hk : (s.bay b).imageSlot ≠ some k := h.resolve_left fun n => n (List.mem_cons_self ..)
        have hs : u = s := if_neg hk
        exact (keep (.inl hm)).trans (congrArg (State.bay · b) hs)
      · refine (keep ?_).trans (other e)
        rw [other e]
        exact h.imp_left fun n i => n (List.mem_cons_of_mem _ i)
    · by_cases e : b = m
      · subst e
        have hs : u = s.feedTest b := if_pos hk
        rw [keep (.inl hm), hs]
        exact State.feedTest_feeds s b
      · have := feed ((List.mem_cons.mp hb).resolve_left e) (by rw [other e]; exact hk)
        rw [other e] at this
        exact State.feeds_of_eq hu.1 hu.2 this

/-- R59 of an image's bays after a fill point advance (R36). -/
theorem State.feedImage_feeds (s : State) (k : ImageId) (b : BayId) :
    ((s.bay b).imageSlot ≠ some k → (s.feedImage k).bay b = s.bay b) ∧
    ((s.bay b).imageSlot = some k → s.feeds (s.bay b) ((s.feedImage k).bay b)) := by
  obtain ⟨keep, feed⟩ := State.feedList_feeds k (List.finRange 12) s (List.nodup_finRange 12) b
  exact ⟨fun h => keep (.inr h), feed (List.mem_finRange b)⟩

end Sys2Proof.Machine
end

