-- ==== Sys2Proof/Laws/Pools.lean ====
section
/-! SUPPORT. The pools of staging memory and label memory: what each operation makes of their totals (R27, R31, R135). -/

set_option linter.unusedTactic false
set_option linter.unreachableTactic false
set_option linter.unnecessarySeqFocus false
set_option linter.unusedSimpArgs false

namespace Sys2Proof.Machine

/-! ## Sums over slots -/

/-- A sum over a list after one entry changes. -/
theorem sum_map_set {α : Type} (f : α → Nat) (l : List α) (k : Nat) (x : α) (h : k < l.length) :
    ((l.set k x).map f).sum + f l[k] = (l.map f).sum + f x := by
  induction l generalizing k with
  | nil => simp at h
  | cons a r ih =>
    cases k with
    | zero => simp; omega
    | succ k =>
      have := ih k (by simpa using h)
      simp only [List.set_cons_succ, List.map_cons, List.sum_cons, List.getElem_cons_succ]
      omega

/-- A sum over slots after one slot changes. -/
theorem sum_slots_set {α : Type} {n : Nat} (f : α → Nat) (v : Vector α n) (k : Fin n) (x : α) :
    ((v.set k.val x).toList.map f).sum + f v[k.val] = (v.toList.map f).sum + f x := by
  have := sum_map_set f v.toList k.val x (by simp)
  simpa [Vector.toList_set] using this

/-- The size in effect and the two totals of staging memory. -/
def Staging.totals (g : Staging) : Nat × Nat × Nat := (g.segmentSize, g.segmentTotal, g.digestTotal)

/-! ## Staging memory -/

/-- A slot's record with a window and a digest list of the same lengths keeps the totals. -/
theorem State.setImage_totals (s : State) {k : ImageId} {i j : Image} (h : s.image k = some i)
    (hw : j.window.length = i.window.length) (hd : j.digests.length = i.digests.length) :
    (s.setImage k (some j)).staging.totals = s.staging.totals := by
  have h' : s.staging.slots[k.val] = some i := h
  have a := sum_slots_set slotSegments s.staging.slots k (some j)
  have b := sum_slots_set slotDigests s.staging.slots k (some j)
  simp only [h', slotSegments, slotDigests, hw, hd] at a b
  simp [Staging.totals, Staging.segmentTotal, Staging.digestTotal]
  omega

theorem slotSegments_unrefused (o : Option Image) : slotSegments (o.map Image.unrefused) = slotSegments o := by
  cases o <;> rfl

theorem slotDigests_unrefused (o : Option Image) : slotDigests (o.map Image.unrefused) = slotDigests o := by
  cases o <;> rfl

@[simp] theorem State.stageSpace_totals (s : State) : s.stageSpace.staging.totals = s.staging.totals := by
  unfold State.stageSpace
  split
  · have a : slotSegments ∘ Option.map Image.unrefused = slotSegments := funext slotSegments_unrefused
    have b : slotDigests ∘ Option.map Image.unrefused = slotDigests := funext slotDigests_unrefused
    simp [Staging.totals, Staging.segmentTotal, Staging.digestTotal, Vector.toList_map, a, b]
  · rfl

/-- Returned segments are added to the segments, and nothing else (R27). -/
@[simp] theorem State.returnSegments_totals (s : State) (n : Nat) :
    (s.returnSegments n).staging.totals =
      (s.staging.segmentSize, s.staging.segmentTotal + n, s.staging.digestTotal) := by
  unfold State.returnSegments
  split
  · simp_all [Staging.totals]
  · rw [State.stageSpace_totals]
    simp [Staging.totals, Staging.segmentTotal, Staging.digestTotal]
    omega

/-- A slot's record with a shorter window, and the difference returned. -/
theorem State.setImage_return_totals (s : State) {k : ImageId} {i j : Image} (n : Nat) (h : s.image k = some i)
    (hw : j.window.length + n = i.window.length) (hd : j.digests.length = i.digests.length) :
    ((s.setImage k (some j)).returnSegments n).staging.totals = s.staging.totals := by
  have h' : s.staging.slots[k.val] = some i := h
  have a := sum_slots_set slotSegments s.staging.slots k (some j)
  have b := sum_slots_set slotDigests s.staging.slots k (some j)
  simp only [h', slotSegments, slotDigests, hd] at a b
  rw [State.returnSegments_totals]
  simp [Staging.totals, Staging.segmentTotal, Staging.digestTotal]
  omega

theorem State.endPass_totals (s : State) {k : ImageId} {i : Image} (h : s.image k = some i) :
    (s.endPass k i).staging.totals = s.staging.totals := by
  unfold State.endPass
  rw [(State.raise_frame _ _).2.2.2.1]
  exact s.setImage_return_totals _ h (by simp) rfl

@[simp] theorem State.passEndTest_totals (s : State) (k : ImageId) :
    (s.passEndTest k).staging.totals = s.staging.totals := by
  unfold State.passEndTest
  split
  · rfl
  · split
    · exact s.endPass_totals (by assumption)
    · rfl

theorem State.releaseHead_totals (s : State) {k : ImageId} {i : Image} (h : s.image k = some i)
    (hw : i.window ≠ []) : (s.releaseHead k i).staging.totals = s.staging.totals := by
  unfold State.releaseHead
  rw [State.passEndTest_totals]
  refine s.setImage_return_totals 1 h ?_ rfl
  have : 0 < i.window.length := List.length_pos_iff.mpr hw
  simp; omega

theorem State.headReleasable_window {s : State} {i : Image} (h : s.headReleasable i = true) : i.window ≠ [] := by
  simp [State.headReleasable] at h
  exact h.1.1.2

@[simp] theorem State.releaseLoop_totals (k : ImageId) (n : Nat) (s : State) :
    (State.releaseLoop k n s).staging.totals = s.staging.totals := by
  induction n generalizing s with
  | zero => rfl
  | succ n ih =>
    unfold State.releaseLoop
    split
    · rfl
    · split
      · rw [ih]
        exact s.releaseHead_totals (by assumption) (State.headReleasable_window (by assumption))
      · rfl

@[simp] theorem State.releaseEvaluation_totals (s : State) (k : ImageId) :
    (s.releaseEvaluation k).staging.totals = s.staging.totals := by
  unfold State.releaseEvaluation
  split <;> simp

@[simp] theorem State.poolEmptied_totals (s : State) : s.poolEmptied.staging.totals = s.staging.totals := by
  simp [State.poolEmptied]

@[simp] theorem State.leaveConsumers_totals (s : State) (k : ImageId) (b : BayId) :
    (s.leaveConsumers k b).staging.totals = s.staging.totals := by
  unfold State.leaveConsumers
  split
  · rfl
  · split
    · rw [State.releaseEvaluation_totals, State.passEndTest_totals]
      rename_i i h _
      exact s.setImage_totals h rfl rfl
    · rfl

@[simp] theorem State.joinConsumers_totals (s : State) (k : ImageId) (b : BayId) :
    (s.joinConsumers k b).staging.totals = s.staging.totals := by
  unfold State.joinConsumers
  split
  · rfl
  · rename_i i h
    exact s.setImage_totals h rfl rfl

theorem State.growWindow_totals (s : State) {k : ImageId} {i : Image} (h : s.image k = some i)
    (hf : 0 < s.staging.freeSegments) : (s.growWindow k i).staging.totals = s.staging.totals := by
  have h' : s.staging.slots[k.val] = some i := h
  have a := sum_slots_set slotSegments s.staging.slots k (some { i with window := i.window ++ [[]] })
  have b := sum_slots_set slotDigests s.staging.slots k (some { i with window := i.window ++ [[]] })
  simp only [h', slotSegments, slotDigests, List.length_append, List.length_singleton] at a b
  have c : ({ s with staging := { s.staging with freeSegments := s.staging.freeSegments - 1 } }.setImage k
      (some { i with window := i.window ++ [[]] })).staging.totals = s.staging.totals := by
    simp [Staging.totals, Staging.segmentTotal, Staging.digestTotal]
    omega
  unfold State.growWindow
  dsimp only
  split
  · rw [State.poolEmptied_totals, c]
  · split
    · rw [State.releaseEvaluation_totals, c]
    · exact c

theorem State.turnWindow_totals (s : State) {k : ImageId} {i : Image} (h : s.image k = some i)
    (hw : i.window ≠ []) : (s.turnWindow k i).staging.totals = s.staging.totals := by
  unfold State.turnWindow
  rw [State.passEndTest_totals]
  refine s.setImage_totals h ?_ rfl
  have : 0 < i.window.length := List.length_pos_iff.mpr hw
  simp; omega

theorem State.findSegment_totals {s t : State} {k : ImageId} {i : Image} {n : Nat} (h : s.image k = some i)
    (f : s.findSegment k i n = some t) : t.staging.totals = s.staging.totals := by
  unfold State.findSegment at f
  split at f
  · split at f
    · cases f
      exact s.growWindow_totals h (by simp_all)
    · split at f
      · cases f
        exact s.turnWindow_totals h (State.headReleasable_window (by assumption))
      · cases f
  · cases f; rfl

theorem fillWindow_length (seg : Nat) (w : List Segment) (d : List Sector) :
    (fillWindow seg w d).length = w.length := by
  induction w generalizing d with
  | nil => rfl
  | cons a r ih => simp [fillWindow, ih]

theorem placeDigest_length (l : List (Option (BitVec 32))) (k : Nat) (d : BitVec 32) :
    (placeDigest l k d).length = l.length := by
  unfold placeDigest; split <;> simp

theorem Image.takeSector_lengths (i : Image) (x : Sector) :
    (i.takeSector x).window = i.window ∧ (i.takeSector x).digests.length = i.digests.length := by
  unfold Image.takeSector
  dsimp only
  split
  · exact ⟨rfl, placeDigest_length ..⟩
  · exact ⟨rfl, rfl⟩

theorem Image.takeSectors_lengths (i : Image) (d : List Sector) :
    (i.takeSectors d).window = i.window ∧ (i.takeSectors d).digests.length = i.digests.length := by
  unfold Image.takeSectors
  induction d generalizing i with
  | nil => exact ⟨rfl, rfl⟩
  | cons x r ih =>
    have := ih (i.takeSector x)
    have h := i.takeSector_lengths x
    exact ⟨this.1.trans h.1, this.2.trans h.2⟩

theorem Image.stored_lengths (i : Image) (seg : Nat) (d : List Sector) :
    (i.stored seg d).window.length = i.window.length ∧ (i.stored seg d).digests.length = i.digests.length := by
  have h := i.takeSectors_lengths d
  unfold Image.stored Image.completed Image.promoted
  dsimp only
  split
  · split <;> exact ⟨fillWindow_length .., h.2⟩
  · exact ⟨fillWindow_length .., h.2⟩

theorem State.storeSectors_totals (s : State) {k : ImageId} {i : Image} (d : List Sector) (h : s.image k = some i) :
    (s.storeSectors k i d).staging.totals = s.staging.totals := by
  have c := s.setImage_totals h (i.stored_lengths s.segSectors d).1 (i.stored_lengths s.segSectors d).2
  unfold State.storeSectors
  dsimp only
  split <;> simpa using c

theorem State.stageFull_totals (s : State) {k : ImageId} {i : Image} (h : s.image k = some i) :
    (s.stageFull k i).staging.totals = s.staging.totals :=
  s.setImage_totals h rfl rfl

theorem Image.passClosing_lengths (i : Image) :
    i.passClosing.window = i.window ∧ i.passClosing.digests = i.digests := by
  unfold Image.passClosing; split <;> exact ⟨rfl, rfl⟩

theorem State.closePass_totals (s : State) {k : ImageId} {i : Image} (h : s.image k = some i) :
    (s.closePass k i).staging.totals = s.staging.totals := by
  have w := congrArg List.length i.passClosing_lengths.1
  have d := congrArg List.length i.passClosing_lengths.2
  unfold State.closePass
  split
  · rfl
  · dsimp only
    split
    · rw [State.passEndTest_totals]; exact s.setImage_totals h w d
    · rw [State.releaseEvaluation_totals]; exact s.setImage_totals h w d

theorem State.rewound_totals (s : State) {k : ImageId} {i : Image} (h : s.image k = some i) :
    (s.setImage k (some i.rewound)).staging.totals = s.staging.totals :=
  s.setImage_totals h rfl rfl

theorem State.fillSlot_totals (s : State) {k : ImageId} {i : Image} (h : s.image k = none)
    (hw : i.window.length ≤ s.staging.freeSegments) (hd : i.digests.length ≤ s.staging.freeDigests) :
    (s.fillSlot k i).staging.totals = s.staging.totals := by
  have h' : s.staging.slots[k.val] = none := h
  have a := sum_slots_set slotSegments s.staging.slots k (some i)
  have b := sum_slots_set slotDigests s.staging.slots k (some i)
  simp only [h', slotSegments, slotDigests] at a b
  simp [State.fillSlot, Staging.totals, Staging.segmentTotal, Staging.digestTotal]
  omega

theorem State.openSlot_totals (s : State) {k : ImageId} {i : Image} (h : s.image k = none)
    (hw : i.window.length ≤ s.staging.freeSegments) (hd : i.digests.length ≤ s.staging.freeDigests) :
    (s.openSlot k i).staging.totals = s.staging.totals := by
  unfold State.openSlot
  dsimp only
  split
  · rw [State.poolEmptied_totals]; exact s.fillSlot_totals h hw hd
  · exact s.fillSlot_totals h hw hd

/-- Returned segments leave each slot's window and digests as long as they were. -/
theorem State.returnSegments_slot (s : State) (n : Nat) (k : ImageId) :
    slotSegments ((s.returnSegments n).image k) = slotSegments (s.image k) ∧
      slotDigests ((s.returnSegments n).image k) = slotDigests (s.image k) := by
  unfold State.returnSegments State.stageSpace
  (repeat' split) <;> simp [State.image, State.raise, slotSegments_unrefused, slotDigests_unrefused]

theorem State.closeSlot_totals (s : State) {k : ImageId} {i : Image} (h : s.image k = some i) :
    (s.closeSlot k i).staging.totals = s.staging.totals := by
  have r := s.returnSegments_totals i.window.length
  have l := s.returnSegments_slot i.window.length k
  unfold State.closeSlot
  generalize s.returnSegments i.window.length = t at r l
  have a := sum_slots_set slotSegments t.staging.slots k none
  have b := sum_slots_set slotDigests t.staging.slots k none
  have e : t.staging.slots[k.val] = t.image k := rfl
  have c : slotSegments (some i) = i.window.length ∧ slotDigests (some i) = i.digests.length := ⟨rfl, rfl⟩
  have z : slotSegments none = 0 ∧ slotDigests none = 0 := ⟨rfl, rfl⟩
  rw [e, l.1, h, c.1, z.1] at a
  rw [e, l.2, h, c.2, z.2] at b
  simp only [Staging.totals, Staging.segmentTotal, Staging.digestTotal, Prod.mk.injEq] at r
  simp [Staging.totals, Staging.segmentTotal, Staging.digestTotal]
  omega

/-- An IMAGE OPEN that passes its checks finds the slot CLOSED and room for window and digests (R28, R29). -/
theorem State.imageOpenCheck_room {s : State} {slot media need : Byte} {size : Nat} {k : ImageId} {i : Image}
    (h : s.imageOpenCheck slot media need size = .ok (k, i)) :
    s.image k = none ∧ i.window.length ≤ s.staging.freeSegments ∧ i.digests.length ≤ s.staging.freeDigests := by
  unfold State.imageOpenCheck at h
  split at h
  · cases h
  · split at h
    · split at h
      · cases h
      · split at h
        · cases h
        · split at h
          · cases h
          · split at h
            · cases h
            · rename_i hk hd _ j hr
              cases h
              refine ⟨by simpa using hk, ?_⟩
              unfold State.residency at hr
              dsimp only at hr
              split at hr
              · cases hr; simp [Image.opened]; omega
              · split at hr
                · cases hr
                · cases hr; simp [Image.opened]; omega
    · cases h

/-! ## Slots stay open -/

/-- A record put in a slot that is open leaves every slot open or CLOSED as it was. -/
theorem State.setImage_isSome (s : State) {k : ImageId} {i : Image} (j : Image) (h : s.image k = some i)
    (m : ImageId) : ((s.setImage k (some j)).image m).isSome = (s.image m).isSome := by
  by_cases e : m = k
  · subst e; simp [h]
  · rw [s.setImage_image_ne _ e]

@[simp] theorem State.returnSegments_isSome (s : State) (n : Nat) (m : ImageId) :
    ((s.returnSegments n).image m).isSome = (s.image m).isSome := by
  unfold State.returnSegments State.stageSpace
  (repeat' split) <;> simp [State.image, State.raise]

@[simp] theorem State.passEndTest_isSome (s : State) (k m : ImageId) :
    ((s.passEndTest k).image m).isSome = (s.image m).isSome := by
  unfold State.passEndTest
  split
  · rfl
  · rename_i i h
    split
    · exact (State.returnSegments_isSome _ _ m).trans (s.setImage_isSome _ h m)
    · rfl

@[simp] theorem State.releaseLoop_isSome (k : ImageId) (n : Nat) (s : State) (m : ImageId) :
    ((State.releaseLoop k n s).image m).isSome = (s.image m).isSome := by
  induction n generalizing s with
  | zero => rfl
  | succ n ih =>
    unfold State.releaseLoop
    split
    · rfl
    · rename_i i h
      split
      · rw [ih]
        exact (State.passEndTest_isSome _ _ m).trans
          ((State.returnSegments_isSome _ _ m).trans (s.setImage_isSome _ h m))
      · rfl

/-- A release evaluation closes and opens no slot. -/
@[simp] theorem State.releaseEvaluation_isSome (s : State) (k m : ImageId) :
    ((s.releaseEvaluation k).image m).isSome = (s.image m).isSome := by
  unfold State.releaseEvaluation
  split
  · rfl
  · exact State.releaseLoop_isSome ..

/-- Finding a segment closes and opens no slot. -/
theorem State.findSegment_isSome {s t : State} {k : ImageId} {i : Image} {n : Nat} (h : s.image k = some i)
    (f : s.findSegment k i n = some t) (m : ImageId) : (t.image m).isSome = (s.image m).isSome := by
  have g : ∀ r : State, r.staging.slots = s.staging.slots → ∀ j,
      ((r.setImage k (some j)).image m).isSome = (s.image m).isSome := by
    intro r hr j
    have hk : r.image k = some i := by rw [← h]; simp [State.image, hr]
    rw [r.setImage_isSome j hk m]
    simp [State.image, hr]
  unfold State.findSegment at f
  (repeat' split at f) <;> cases f
  · unfold State.growWindow
    dsimp only
    split
    · simp only [State.poolEmptied, State.releaseEvaluation_isSome]; exact g _ rfl _
    · split
      · rw [State.releaseEvaluation_isSome]; exact g _ rfl _
      · exact g _ rfl _
  · exact (State.passEndTest_isSome _ _ m).trans (g _ rfl _)
  · rfl

/-! ## Operations that reach staging memory through those above -/

@[simp] theorem State.leaveImage_totals (s : State) (b : BayId) :
    (State.leaveImage s b).staging.totals = s.staging.totals := by
  unfold State.leaveImage
  (repeat' split) <;> (try simp) <;> (repeat' split) <;> (try simp) <;> (repeat' split) <;> simp

@[simp] theorem State.abandonWork_totals (s : State) (b : BayId) :
    (State.abandonWork s b).staging.totals = s.staging.totals := by
  unfold State.abandonWork
  (repeat' split) <;> (try simp) <;> (repeat' split) <;> (try simp) <;> (repeat' split) <;> simp

@[simp] theorem State.bayReject_totals (s : State) (b : BayId) (why : RejectReason) :
    (State.bayReject s b why).staging.totals = s.staging.totals := by
  unfold State.bayReject
  (repeat' split) <;> (try simp) <;> (repeat' split) <;> (try simp) <;> (repeat' split) <;> simp

@[simp] theorem State.bayFaultEntry_totals (s : State) (b : BayId) :
    (State.bayFaultEntry s b).staging.totals = s.staging.totals := by
  unfold State.bayFaultEntry
  (repeat' split) <;> (try simp) <;> (repeat' split) <;> (try simp) <;> (repeat' split) <;> simp

@[simp] theorem State.ranDry_totals (s : State) (b : BayId) :
    (State.ranDry s b).staging.totals = s.staging.totals := by
  unfold State.ranDry
  (repeat' split) <;> (try simp) <;> (repeat' split) <;> (try simp) <;> (repeat' split) <;> simp

@[simp] theorem State.awaitDiscEnd_totals (s : State) (b : BayId) (accept : Bool) :
    (State.awaitDiscEnd s b accept).staging.totals = s.staging.totals := by
  unfold State.awaitDiscEnd
  (repeat' split) <;> (try simp) <;> (repeat' split) <;> (try simp) <;> (repeat' split) <;> simp

@[simp] theorem State.discWillNotCome_totals (s : State) (b : BayId) (n : Nat) (accept : Bool) :
    (State.discWillNotCome s b n accept).staging.totals = s.staging.totals := by
  unfold State.discWillNotCome
  (repeat' split) <;> (try simp) <;> (repeat' split) <;> (try simp) <;> (repeat' split) <;> simp

@[simp] theorem State.tellTarget_totals (s : State) (n : Nat) :
    (State.tellTarget s n).staging.totals = s.staging.totals := by
  unfold State.tellTarget
  (repeat' split) <;> (try simp) <;> (repeat' split) <;> (try simp) <;> (repeat' split) <;> simp

@[simp] theorem State.identified_totals (s : State) (b : BayId) (n : Nat) (f : DriveFacts) :
    (State.identified s b n f).staging.totals = s.staging.totals := by
  unfold State.identified
  (repeat' split) <;> (try simp) <;> (repeat' split) <;> (try simp) <;> (repeat' split) <;> simp

@[simp] theorem State.beginBurn_totals (s : State) (b : BayId) (k : ImageId) (step : Nat) :
    (State.beginBurn s b k step).staging.totals = s.staging.totals := by
  unfold State.beginBurn
  (repeat' split) <;> (try simp) <;> (repeat' split) <;> (try simp) <;> (repeat' split) <;> simp

@[simp] theorem State.answerJoin_totals (s : State) (e : AdmEntry) :
    (State.answerJoin s e).staging.totals = s.staging.totals := by
  unfold State.answerJoin
  (repeat' split) <;> (try simp) <;> (repeat' split) <;> (try simp) <;> (repeat' split) <;> simp

@[simp] theorem State.endBurn_totals (s : State) (b : BayId) :
    (State.endBurn s b).staging.totals = s.staging.totals := by
  unfold State.endBurn
  (repeat' split) <;> (try simp) <;> (repeat' split) <;> (try simp) <;> (repeat' split) <;> simp

@[simp] theorem State.printEnd_totals (s : State) (p : Printer) :
    (State.printEnd s p).staging.totals = s.staging.totals := by
  unfold State.printEnd
  (repeat' split) <;> (try simp) <;> (repeat' split) <;> (try simp) <;> (repeat' split) <;> simp

@[simp] theorem State.linePrinted_totals (s : State) (p : Printer) (r : Print) (l : Label) :
    (State.linePrinted s p r l).staging.totals = s.staging.totals := by
  unfold State.linePrinted
  (repeat' split) <;> (try simp) <;> (repeat' split) <;> (try simp) <;> (repeat' split) <;> simp

@[simp] theorem State.printSpoiled_totals (s : State) (p : Printer) (n : Nat) :
    (State.printSpoiled s p n).staging.totals = s.staging.totals := by
  unfold State.printSpoiled
  (repeat' split) <;> (try simp) <;> (repeat' split) <;> (try simp) <;> (repeat' split) <;> simp

@[simp] theorem State.printerFaultEntry_totals (s : State) (p : Printer) :
    (State.printerFaultEntry s p).staging.totals = s.staging.totals := by
  unfold State.printerFaultEntry
  (repeat' split) <;> (try simp) <;> (repeat' split) <;> (try simp) <;> (repeat' split) <;> simp

@[simp] theorem State.printerAccept_totals (s : State) (n : Nat) :
    (State.printerAccept s n).staging.totals = s.staging.totals := by
  unfold State.printerAccept
  (repeat' split) <;> (try simp) <;> (repeat' split) <;> (try simp) <;> (repeat' split) <;> simp

@[simp] theorem State.trayMoveSpent_totals (s : State) (n : Nat) :
    (State.trayMoveSpent s n).staging.totals = s.staging.totals := by
  unfold State.trayMoveSpent
  (repeat' split) <;> (try simp) <;> (repeat' split) <;> (try simp) <;> (repeat' split) <;> simp

@[simp] theorem State.pickFailed_totals (s : State) (b : Option BayId) (n : Nat) :
    (State.pickFailed s b n).staging.totals = s.staging.totals := by
  unfold State.pickFailed
  (repeat' split) <;> (try simp) <;> (repeat' split) <;> (try simp) <;> (repeat' split) <;> simp

@[simp] theorem State.retriesSpent_totals (s : State) (r : MoveReq) (source : Station) (n : Nat) (b : Option BayId) :
    (State.retriesSpent s r source n b).staging.totals = s.staging.totals := by
  unfold State.retriesSpent
  (repeat' split) <;> (try simp) <;> (repeat' split) <;> (try simp) <;> (repeat' split) <;> simp

@[simp] theorem State.forcedRelease_totals (s : State) :
    (State.forcedRelease s).staging.totals = s.staging.totals := by
  unfold State.forcedRelease
  (repeat' split) <;> (try simp) <;> (repeat' split) <;> (try simp) <;> (repeat' split) <;> simp

@[simp] theorem State.foundEmpty_totals (s : State) (r : MoveReq) (i : SpindleId) :
    (State.foundEmpty s r i).staging.totals = s.staging.totals := by
  unfold State.foundEmpty
  (repeat' split) <;> (try simp) <;> (repeat' split) <;> (try simp) <;> (repeat' split) <;> simp

@[simp] theorem State.tellAwaiting_totals (s : State) (r : MoveReq) (at_ : Station) (n : Nat) (accept : Bool) :
    (State.tellAwaiting s r at_ n accept).staging.totals = s.staging.totals := by
  unfold State.tellAwaiting
  (repeat' split) <;> (try simp) <;> (repeat' split) <;> (try simp) <;> (repeat' split) <;> simp

@[simp] theorem State.divert_totals (s : State) (r : MoveReq) :
    (State.divert s r).staging.totals = s.staging.totals := by
  unfold State.divert
  (repeat' split) <;> (try simp) <;> (repeat' split) <;> (try simp) <;> (repeat' split) <;> simp

@[simp] theorem State.destFailure_totals (s : State) :
    (State.destFailure s).staging.totals = s.staging.totals := by
  unfold State.destFailure
  (repeat' split) <;> (try simp) <;> (repeat' split) <;> (try simp) <;> (repeat' split) <;> simp

@[simp] theorem State.retakeFailed_totals (s : State) (r : MoveReq) :
    (State.retakeFailed s r).staging.totals = s.staging.totals := by
  unfold State.retakeFailed
  (repeat' split) <;> (try simp) <;> (repeat' split) <;> (try simp) <;> (repeat' split) <;> simp

@[simp] theorem State.armFaultEntry_totals (s : State) (why : FaultCause) :
    (State.armFaultEntry s why).staging.totals = s.staging.totals := by
  unfold State.armFaultEntry
  (repeat' split) <;> (try simp) <;> (repeat' split) <;> (try simp) <;> (repeat' split) <;> simp

@[simp] theorem State.dropStuck_totals (s : State) (second : Option SecondLeg) (n : Nat) :
    (State.dropStuck s second n).staging.totals = s.staging.totals := by
  unfold State.dropStuck
  (repeat' split) <;> (try simp) <;> (repeat' split) <;> (try simp) <;> (repeat' split) <;> simp

@[simp] theorem State.dropFailure_totals (s : State) (r : MoveReq) (at_ : BinId) :
    (State.dropFailure s r at_).staging.totals = s.staging.totals := by
  unfold State.dropFailure
  (repeat' split) <;> (try simp) <;> (repeat' split) <;> (try simp) <;> (repeat' split) <;> simp

@[simp] theorem State.homingDropFailure_totals (s : State) :
    (State.homingDropFailure s).staging.totals = s.staging.totals := by
  unfold State.homingDropFailure
  (repeat' split) <;> (try simp) <;> (repeat' split) <;> (try simp) <;> (repeat' split) <;> simp

@[simp] theorem State.changeDest_totals (s : State) (n : Nat) :
    (State.changeDest s n).staging.totals = s.staging.totals := by
  unfold State.changeDest
  (repeat' split) <;> (try simp) <;> (repeat' split) <;> (try simp) <;> (repeat' split) <;> simp

@[simp] theorem State.cancelCarried_totals (s : State) (n : Nat) :
    (State.cancelCarried s n).staging.totals = s.staging.totals := by
  unfold State.cancelCarried
  (repeat' split) <;> (try simp) <;> (repeat' split) <;> (try simp) <;> (repeat' split) <;> simp

@[simp] theorem State.doublePick_totals (s : State) (r : MoveReq) (n : Nat) :
    (State.doublePick s r n).staging.totals = s.staging.totals := by
  unfold State.doublePick
  (repeat' split) <;> (try simp) <;> (repeat' split) <;> (try simp) <;> (repeat' split) <;> simp

@[simp] theorem State.pickDone_totals (s : State) (r : MoveReq) (two : Bool) :
    (State.pickDone s r two).staging.totals = s.staging.totals := by
  unfold State.pickDone
  (repeat' split) <;> (try simp) <;> (repeat' split) <;> (try simp) <;> (repeat' split) <;> simp

@[simp] theorem State.retaken_totals (s : State) (r : MoveReq) :
    (State.retaken s r).staging.totals = s.staging.totals := by
  unfold State.retaken
  (repeat' split) <;> (try simp) <;> (repeat' split) <;> (try simp) <;> (repeat' split) <;> simp

@[simp] theorem State.cancelQueued_totals (s : State) (d : Disc) :
    (State.cancelQueued s d).staging.totals = s.staging.totals := by
  unfold State.cancelQueued
  (repeat' split) <;> (try simp) <;> (repeat' split) <;> (try simp) <;> (repeat' split) <;> simp

@[simp] theorem State.cancelOnArm_totals (s : State) (d : Disc) :
    (State.cancelOnArm s d).staging.totals = s.staging.totals := by
  unfold State.cancelOnArm
  (repeat' split) <;> (try simp) <;> (repeat' split) <;> (try simp) <;> (repeat' split) <;> simp

@[simp] theorem State.cancelInBay_totals (s : State) (d : Disc) (b : BayId) :
    (State.cancelInBay s d b).staging.totals = s.staging.totals := by
  unfold State.cancelInBay
  (repeat' split) <;> (try simp) <;> (repeat' split) <;> (try simp) <;> (repeat' split) <;> simp

@[simp] theorem State.cancelDisc_totals (s : State) (d : Disc) :
    (State.cancelDisc s d).staging.totals = s.staging.totals := by
  unfold State.cancelDisc
  (repeat' split) <;> (try simp) <;> (repeat' split) <;> (try simp) <;> (repeat' split) <;> simp

@[simp] theorem State.cancelJob_totals (s : State) (slot : JobSlot) (j : Job) :
    (State.cancelJob s slot j).staging.totals = s.staging.totals := by
  unfold State.cancelJob
  simp [foldl_frame (fun s : State => s.staging.totals) State.cancelDisc (by intro s a; simp)]

@[simp] theorem State.readingTaken_totals (s : State) :
    (State.readingTaken s).staging.totals = s.staging.totals := by
  unfold State.readingTaken
  (repeat' split) <;> (try simp) <;> (repeat' split) <;> (try simp) <;> (repeat' split) <;> simp

@[simp] theorem State.identResult_totals (s : State) (b : BayId) (kind : CompletionKind) (facts : DriveFacts) :
    (State.identResult s b kind facts).staging.totals = s.staging.totals := by
  unfold State.identResult
  (repeat' split) <;> (try simp) <;> (repeat' split) <;> (try simp) <;> (repeat' split) <;> simp

@[simp] theorem State.written_totals (s : State) (b : BayId) (count buffer : Nat) :
    (State.written s b count buffer).staging.totals = s.staging.totals := by
  unfold State.written
  (repeat' split) <;> (try simp) <;> (repeat' split) <;> (try simp) <;> (repeat' split) <;> simp

@[simp] theorem State.verifyFails_totals (s : State) (b : BayId) (why : RejectReason) :
    (State.verifyFails s b why).staging.totals = s.staging.totals := by
  unfold State.verifyFails
  (repeat' split) <;> (try simp) <;> (repeat' split) <;> (try simp) <;> (repeat' split) <;> simp

@[simp] theorem State.chunkHandled_totals (s : State) (b : BayId) (l : LaneId) (y : Lane) (good : Bool) :
    (State.chunkHandled s b l y good).staging.totals = s.staging.totals := by
  unfold State.chunkHandled
  (repeat' split) <;> (try simp) <;> (repeat' split) <;> (try simp) <;> (repeat' split) <;> simp

@[simp] theorem State.readOk_totals (s : State) (b : BayId) (l : LaneId) (y : Lane) (index : Nat) (data : List Byte) :
    (State.readOk s b l y index data).staging.totals = s.staging.totals := by
  unfold State.readOk
  (repeat' split) <;> (try simp) <;> (repeat' split) <;> (try simp) <;> (repeat' split) <;> simp

@[simp] theorem State.workTimedOut_totals (s : State) (b : BayId) :
    (State.workTimedOut s b).staging.totals = s.staging.totals := by
  unfold State.workTimedOut
  (repeat' split) <;> (try simp) <;> (repeat' split) <;> (try simp) <;> (repeat' split) <;> simp

@[simp] theorem State.identTimedOut_totals (s : State) (b : BayId) :
    (State.identTimedOut s b).staging.totals = s.staging.totals := by
  unfold State.identTimedOut
  (repeat' split) <;> (try simp) <;> (repeat' split) <;> (try simp) <;> (repeat' split) <;> simp

@[simp] theorem State.trayFailed_totals (s : State) (b : BayId) :
    (State.trayFailed s b).staging.totals = s.staging.totals := by
  unfold State.trayFailed
  (repeat' split) <;> (try simp) <;> (repeat' split) <;> (try simp) <;> (repeat' split) <;> simp

@[simp] theorem State.admissionEvaluation_totals (s : State) :
    (State.admissionEvaluation s).staging.totals = s.staging.totals := by
  unfold State.admissionEvaluation
  simp [foldl_frame (fun s : State => s.staging.totals) State.answerJoin (by intro s a; simp)]

@[simp] theorem State.atSource_totals (s : State) (r : MoveReq) (seen : Bool) :
    (State.atSource s r seen).staging.totals = s.staging.totals := by
  unfold State.atSource
  (repeat' split) <;> (try simp) <;> (repeat' split) <;> (try simp) <;> (repeat' split) <;> simp

@[simp] theorem State.carryFailed_totals (s : State) (r : MoveReq) :
    (State.carryFailed s r).staging.totals = s.staging.totals := by
  unfold State.carryFailed
  (repeat' split) <;> (try simp) <;> (repeat' split) <;> (try simp) <;> (repeat' split) <;> simp

/-! ## Label memory -/

/-- A label's record with a block list of the same length keeps the total. -/
theorem State.setLabel_blockTotal (s : State) {k : LabelId} {l m : Label} (h : s.label k = some l)
    (hb : m.blocks.length = l.blocks.length) :
    (s.setLabel k (some m)).labels.blockTotal = s.labels.blockTotal := by
  have h' : s.labels.slots[k.val] = some l := h
  have a := sum_slots_set labelBlockCount s.labels.slots k (some m)
  simp only [h', labelBlockCount, hb] at a
  simp [LabelMemory.blockTotal]
  omega

theorem Label.withBand_blocks (l : Label) (data : List Byte) :
    (l.withBand data).blocks.length = l.blocks.length := by
  simp [Label.withBand, placeBlocks]

theorem State.openLabel_blockTotal (s : State) {k : LabelId} {l : Label} (h : s.label k = none)
    (hb : l.blocks.length ≤ s.labels.freeBlocks) :
    (s.openLabel k l).labels.blockTotal = s.labels.blockTotal := by
  have h' : s.labels.slots[k.val] = none := h
  have a := sum_slots_set labelBlockCount s.labels.slots k (some l)
  simp only [h', labelBlockCount] at a
  simp [State.openLabel, LabelMemory.blockTotal]
  omega

theorem State.dropLabel_blockTotal (s : State) {k : LabelId} {l : Label} (h : s.label k = some l) :
    (s.dropLabel k l).labels.blockTotal = s.labels.blockTotal := by
  have h' : s.labels.slots[k.val] = some l := h
  have a := sum_slots_set labelBlockCount s.labels.slots k none
  simp only [h', labelBlockCount] at a
  simp [State.dropLabel, LabelMemory.blockTotal]
  omega

end Sys2Proof.Machine
end

