-- ==== Sys2Proof/Laws/Releases.lean ====
section
/-! SUPPORT. A release evaluation: of a slot with consumers exactly the heads go that may, of one without the pass may end; and of every slot, when the pool is empty (R39 to R43). -/

set_option linter.unusedSimpArgs false

namespace Sys2Proof.Machine

variable {s : State} {k : ImageId} {i : Image} {cap : Nat} {closed : Bool}

/-- The cursors that a release evaluation reads. -/
def State.cursors (s : State) (b : BayId) : Nat := (s.bay b).cursor.getD 0

/-- The head segment may go exactly when it is releasable (R39). -/
theorem State.headReleasable_iff (hr : i.residency = .streaming cap closed) (hc : i.consumers ≠ []) :
    s.headReleasable i = true ↔ s.headGoes s.cursors i cap closed 0 := by
  unfold State.headReleasable State.headPassed State.headGoes Image.streaming Image.passClosed Image.atCap State.cursors
  simp only [hr, hc, if_false, List.length_pos_iff, Bool.and_eq_true, Bool.or_eq_true, decide_eq_true_eq,
    List.all_eq_true, bne_iff_ne, beq_iff_eq, ne_eq, not_false_eq_true, true_and, Nat.zero_add, Nat.one_mul,
    Nat.add_zero]
  constructor
  · rintro ⟨⟨w, p⟩, c⟩; exact ⟨w, p, by rcases c with (c | c) | c <;> simp [c]⟩
  · rintro ⟨w, p, c⟩; exact ⟨⟨w, p⟩, by rcases c with c | c | c <;> simp [c]⟩

/-- The slot's record after one head has gone. -/
def Image.behead (i : Image) (seg : Nat) : Image :=
  { i with window := i.window.tail, base := i.base + seg, gate := .closed, stageFullRefused := false }

theorem Staging.refusedAny_iff (g : Staging) :
    g.refusedAny = true ↔ ∃ x : ImageId, ∃ j, g.slots[x.val] = some j ∧ j.stageFullRefused = true := by
  unfold Staging.refusedAny
  rw [List.any_eq_true]
  constructor
  · rintro ⟨o, ho, h⟩
    obtain ⟨n, hn, rfl⟩ := List.getElem_of_mem ho
    simp only [Vector.length_toList] at hn
    cases e : g.slots[n] with
    | none => simp [e] at h
    | some j => exact ⟨⟨n, hn⟩, j, e, by simpa [e] using h⟩
  · rintro ⟨x, j, e, h⟩
    exact ⟨some j, by rw [← e]; simp, by simpa using h⟩

/-- A slot's record written with its stage-full-refused field as it was leaves the question of R41 as it was. -/
theorem State.setImage_refusedAny {j : Image} (h : s.image k = some i) (hf : j.stageFullRefused = i.stageFullRefused) :
    (s.setImage k (some j)).staging.refusedAny = s.staging.refusedAny := by
  rw [Bool.eq_iff_iff, Staging.refusedAny_iff, Staging.refusedAny_iff]
  constructor <;> rintro ⟨x, y, hy, hr⟩ <;> by_cases e : x = k
  · subst e
    have : (s.setImage x (some j)).image x = some y := hy
    rw [State.setImage_image] at this
    exact ⟨x, i, h, by rw [← hf, Option.some.inj this]; exact hr⟩
  · exact ⟨x, y, (State.setImage_image_ne s _ e).symm.trans hy, hr⟩
  · subst e
    have : i = y := Option.some.inj (h.symm.trans hy)
    exact ⟨x, j, State.setImage_image .., by rw [hf, this]; exact hr⟩
  · exact ⟨x, y, (State.setImage_image_ne s _ e).trans hy, hr⟩

/-- Segments come back: every slot reads unrefused, and STAGE_SPACE is raised exactly for a refused one (R41). -/
theorem State.stageSpace_image (s : State) (x : ImageId) :
    s.stageSpace.image x = (s.image x).map fun j => { j with stageFullRefused := false } := by
  unfold State.stageSpace
  split
  · simp only [State.image, State.raise, Vector.getElem_map]; rfl
  · next h =>
    have none : ∀ j, s.image x = some j → j.stageFullRefused = false := by
      intro j hj
      cases e : j.stageFullRefused with
      | false => rfl
      | true => exact absurd (s.staging.refusedAny_iff.mpr ⟨x, j, hj, e⟩) h
    cases e : s.image x with
    | none => rfl
    | some j => simp [← none j e]

theorem State.stageSpace_pending (s : State) :
    s.stageSpace.status.pending.getLsbD 5 = (s.staging.refusedAny || s.status.pending.getLsbD 5) := by
  unfold State.stageSpace
  cases h : s.staging.refusedAny
  · simp
  · simpa [Event.bit] using State.raise_pending
      { s with staging := { s.staging with slots := s.staging.slots.map (Option.map Image.unrefused) } }
      .stageSpace .stageSpace

/-- One head release of a slot with consumers (R40). -/
theorem State.releaseHead_spec (h : s.image k = some i) (hc : i.consumers ≠ []) :
    (s.releaseHead k i).image k = some (i.behead s.segSectors) ∧
      (s.releaseHead k i).staging.freeSegments = s.staging.freeSegments + 1 ∧
      (∀ x, x ≠ k → (s.releaseHead k i).image x = (s.image x).map fun j => { j with stageFullRefused := false }) ∧
      (s.releaseHead k i).status.pending.getLsbD 5 = (s.staging.refusedAny || s.status.pending.getLsbD 5) ∧
      (s.releaseHead k i).segSectors = s.segSectors := by
  set u : State := s.setImage k (some { i with
    window := i.window.tail, base := i.base + s.segSectors, gate := .closed }) with hu
  have refused : u.staging.refusedAny = s.staging.refusedAny := State.setImage_refusedAny h rfl
  set v : State := { u with staging := { u.staging with freeSegments := u.staging.freeSegments + 1 } } with hv
  have vi : ∀ x, v.image x = u.image x := fun _ => rfl
  have ki : v.stageSpace.image k = some (i.behead s.segSectors) := by
    rw [State.stageSpace_image, vi, hu, State.setImage_image]; rfl
  have e : s.releaseHead k i = v.stageSpace := by
    show v.stageSpace.passEndTest k = _
    unfold State.passEndTest
    rw [ki]
    simp [Image.behead, hc]
  rw [e]
  refine ⟨ki, ?_, ?_, ?_, ?_⟩
  · have : v.stageSpace.staging.freeSegments = v.staging.freeSegments := by
      unfold State.stageSpace; split <;> rfl
    rw [this]; rfl
  · intro x hx
    rw [State.stageSpace_image, vi, hu, State.setImage_image_ne _ _ hx]
  · rw [State.stageSpace_pending]
    show (u.staging.refusedAny || _) = _
    rw [refused]; rfl
  · unfold State.segSectors State.stageSpace; split <;> rfl

theorem State.releaseLoop_spec (n : Nat) (hn : i.window.length ≤ n) (h : s.image k = some i)
    (hr : i.residency = .streaming cap closed) (hc : i.consumers ≠ []) :
    ∃ m, s.headsGo s.cursors i cap closed m ∧ s.headsReleased (State.releaseLoop k n s) k i m := by
  induction n generalizing s i with
  | zero =>
    have stays : ¬ s.headGoes s.cursors i cap closed 0 := fun g => by
      have := g.2.1; omega
    refine ⟨0, ⟨by simp, stays⟩, ?_, rfl, fun x _ => by simp [State.releaseLoop], by simp, fun _ => rfl⟩
    simp [State.releaseLoop, h]
  | succ n ih =>
    unfold State.releaseLoop
    rw [h]
    by_cases g : s.headReleasable i = true
    · obtain ⟨k1, k2, k3, k4, seg⟩ := State.releaseHead_spec h hc
      have cur : (s.releaseHead k i).cursors = s.cursors := by
        unfold State.cursors State.bay; simp
      have g0 := (State.headReleasable_iff hr hc).mp g
      have clear : ∀ x j, (s.releaseHead k i).image x = some j → j.stageFullRefused = false := by
        intro x j hj
        by_cases e : x = k
        · subst e; rw [k1] at hj; rw [← Option.some.inj hj]; rfl
        · rw [k3 x e] at hj
          cases e' : s.image x with
          | none => rw [e'] at hj; cases hj
          | some y => rw [e'] at hj; rw [← Option.some.inj hj]
      obtain ⟨m, ⟨a, b⟩, r⟩ := ih (s := s.releaseHead k i) (i := i.behead s.segSectors)
        (by simp [Image.behead]; omega) k1 (by simpa [Image.behead] using hr) (by simpa [Image.behead] using hc)
      have shift : ∀ x, (s.releaseHead k i).headGoes (s.releaseHead k i).cursors (i.behead s.segSectors) cap closed x ↔
          s.headGoes s.cursors i cap closed (x + 1) := by
        intro x
        unfold State.headGoes
        rw [cur, seg, k2]
        have w : (i.behead s.segSectors).window.length = i.window.length - 1 := by simp [Image.behead]
        have p := g0.2.1
        rw [w]
        have mul : s.segSectors + (x + 1) * s.segSectors = (x + 1 + 1) * s.segSectors := by ring
        constructor
        · rintro ⟨c, l, q, o⟩
          refine ⟨hc, by omega, fun b hb => ?_, ?_⟩
          · have := q b hb; simp only [Image.behead] at this; rw [← mul]; omega
          · rcases o with o | o | o
            · exact .inl o
            · exact .inr (.inl (by omega))
            · exact .inr (.inr (by omega))
        · rintro ⟨c, l, q, o⟩
          refine ⟨by simpa [Image.behead] using hc, by omega, fun b hb => ?_, ?_⟩
          · have := q b hb; rw [← mul] at this; simp only [Image.behead]; omega
          · rcases o with o | o | o
            · exact .inl o
            · exact .inr (.inl (by omega))
            · exact .inr (.inr (by omega))
      refine ⟨m + 1, ⟨?_, fun q => b ((shift m).mpr q)⟩, ?_⟩
      · intro x hx
        cases x with
        | zero => exact g0
        | succ x => exact (shift x).mp (a x (by omega))
      · simp only [g, if_true]
        have quiet := r.quiet (.inr clear)
        refine ⟨?_, ?_, ?_, ?_, ?_⟩
        · rw [r.slot, seg]
          have base : i.base + s.segSectors + m * s.segSectors = i.base + (m + 1) * s.segSectors := by ring
          simp [Image.behead, base]
        · rw [r.pool, k2]; omega
        · intro x hx
          rw [r.others x hx, k3 x hx]
          split <;> simp [Option.map_map, Function.comp_def]
        · intro _ refused
          rw [quiet, k4]
          have : s.staging.refusedAny = true := s.staging.refusedAny_iff.mpr refused
          simp [this]
        · rintro (q | q)
          · omega
          · rw [quiet, k4]
            have : s.staging.refusedAny = false := by
              cases e : s.staging.refusedAny with
              | false => rfl
              | true =>
                obtain ⟨x, j, hj, hf⟩ := s.staging.refusedAny_iff.mp e
                exact absurd (q x j hj) (by simp [hf])
            simp [this]
    · simp only [g, if_false, Bool.false_eq_true]
      have stays : ¬ s.headGoes s.cursors i cap closed 0 := fun q => g ((State.headReleasable_iff hr hc).mpr q)
      refine ⟨0, ⟨by simp, stays⟩, ?_, rfl, fun x _ => by simp, by simp, fun _ => rfl⟩
      simp [h]

/-- A release evaluation of a slot with consumers (R40). -/
theorem State.releaseEvaluation_spec (h : s.image k = some i) (hr : i.residency = .streaming cap closed)
    (hc : i.consumers ≠ []) :
    ∃ m, s.headsGo s.cursors i cap closed m ∧ s.headsReleased (s.releaseEvaluation k) k i m := by
  unfold State.releaseEvaluation
  rw [h]
  exact State.releaseLoop_spec _ (Nat.le_refl _) h hr hc

/-- A slot whose head may not go is left as it is, by any number of tests. -/
theorem State.releaseLoop_stays (n : Nat) (h : ∀ i, s.image k = some i → s.headReleasable i = false) :
    State.releaseLoop k n s = s := by
  cases n with
  | zero => rfl
  | succ n =>
    unfold State.releaseLoop
    split
    · rfl
    · next i hi => rw [h i hi]; rfl

/-- Where no slot was refused, further segments only count (R41). -/
theorem State.returnSegments_clear (n : Nat) (h : ∀ x j, s.image x = some j → j.stageFullRefused = false) :
    s.returnSegments n = { s with staging := { s.staging with freeSegments := s.staging.freeSegments + n } } := by
  have none : ∀ f : Nat, ({ s.staging with freeSegments := f } : Staging).refusedAny = false := by
    intro f
    cases e : ({ s.staging with freeSegments := f } : Staging).refusedAny with
    | false => rfl
    | true =>
      obtain ⟨x, j, hj, hf⟩ := (Staging.refusedAny_iff _).mp e
      exact absurd (h x j hj) (by simp [hf])
  unfold State.returnSegments State.stageSpace
  split
  · next h0 => simp [h0]
  · simp [none]

/-- The first head release of a slot without consumers ends its pass (R40, R43). -/
theorem State.releaseHead_ends (h : s.image k = some i) (hr : i.residency = .streaming cap closed)
    (hc : i.consumers = []) (hw : i.window ≠ []) (hs : i.state ≠ .awaitRewind) :
    s.passEnded (s.releaseHead k i) k i := by
  set u : State := s.setImage k (some { i with
    window := i.window.tail, base := i.base + s.segSectors, gate := .closed }) with hu
  have ui : ∀ x, u.image x = if x = k then some { i with
      window := i.window.tail, base := i.base + s.segSectors, gate := .closed } else s.image x := by
    intro x
    by_cases e : x = k
    · subst e; simp [hu]
    · rw [hu, State.setImage_image_ne _ _ e]; simp [e]
  have refused : u.staging.refusedAny = s.staging.refusedAny := State.setImage_refusedAny h rfl
  set v : State := { u with staging := { u.staging with freeSegments := u.staging.freeSegments + 1 } } with hv
  have wi : ∀ x, v.stageSpace.image x = (u.image x).map fun j => { j with stageFullRefused := false } := by
    intro x; rw [State.stageSpace_image]; rfl
  set w : State := v.stageSpace with hwd
  set j : Image := { i with window := i.window.tail, base := i.base + s.segSectors, gate := .closed
                            stageFullRefused := false } with hj
  have wk : w.image k = some j := by rw [wi, ui]; simp [hj]
  have clear : ∀ x y, w.image x = some y → y.stageFullRefused = false := by
    intro x y hy
    rw [wi] at hy
    cases e : u.image x with
    | none => rw [e] at hy; cases hy
    | some z => rw [e] at hy; rw [← Option.some.inj hy]
  have e : s.releaseHead k i = w.endPass k j := by
    show w.passEndTest k = _
    unfold State.passEndTest
    rw [wk]
    simp [hj, Image.streaming, hr, hc, hs]
  have wf : w.staging.freeSegments = s.staging.freeSegments + 1 := by
    have : v.stageSpace.staging.freeSegments = v.staging.freeSegments := by
      unfold State.stageSpace; split <;> rfl
    rw [hwd, this]; rfl
  have wp : w.status.pending.getLsbD 5 = (s.staging.refusedAny || s.status.pending.getLsbD 5) := by
    rw [hwd, State.stageSpace_pending]
    show (u.staging.refusedAny || _) = _
    rw [refused]; rfl
  rw [e]
  unfold State.endPass
  set x0 : State := w.setImage k (some { j with window := [], state := .awaitRewind }) with hx
  have xi : ∀ x, x0.image x = if x = k then some { j with window := [], state := .awaitRewind } else w.image x := by
    intro x
    by_cases e : x = k
    · subst e; simp [hx]
    · rw [hx, State.setImage_image_ne _ _ e]; simp [e]
  have clear0 : ∀ x y, x0.image x = some y → y.stageFullRefused = false := by
    intro x y hy
    rw [xi] at hy
    split at hy
    · rw [← Option.some.inj hy]
    · exact clear x y hy
  rw [State.returnSegments_clear _ clear0]
  set y0 : State := { x0 with staging := { x0.staging with freeSegments := x0.staging.freeSegments + j.window.length } } with hy
  have p5 : (y0.raise .passEnd).status.pending.getLsbD 5 = (s.staging.refusedAny || s.status.pending.getLsbD 5) := by
    rw [← wp]; exact State.raise_pending y0 .passEnd .stageSpace
  refine ⟨?_, ?_, ?_, ?_, ?_, ?_⟩
  · show x0.image k = _
    rw [xi]; simp [hj]
  · show x0.staging.freeSegments + j.window.length = _
    have : x0.staging.freeSegments = w.staging.freeSegments := rfl
    rw [this, wf]
    have := List.length_pos_iff.mpr hw
    simp [hj]; omega
  · intro x hxk
    show x0.image x = _
    rw [xi, if_neg hxk, wi, ui, if_neg hxk]
  · exact State.raise_pending y0 .passEnd .passEnd
  · intro r
    rw [p5, s.staging.refusedAny_iff.mpr r, Bool.true_or]
  · intro q
    have f : s.staging.refusedAny = false := by
      cases e : s.staging.refusedAny with
      | false => rfl
      | true =>
        obtain ⟨x, j, hj, hf⟩ := s.staging.refusedAny_iff.mp e
        exact absurd (q x j hj) (by simp [hf])
    rw [p5, f, Bool.false_or]

/-- A head that passes to the tail of a window with consumers ends no pass (R35, R43). -/
theorem State.turnWindow_turns (hc : i.consumers ≠ []) :
    s.turnWindow k i = s.setImage k (some { i with
      window := i.window.tail ++ [[]], base := i.base + s.segSectors, gate := .closed }) := by
  unfold State.turnWindow State.passEndTest
  rw [State.setImage_image]
  simp [hc]

/-- A head that passes to the tail of a window without consumers ends the pass (R35, R40, R43). -/
theorem State.turnWindow_ends (h : s.image k = some i) (hr : i.residency = .streaming cap closed)
    (hc : i.consumers = []) (hw : i.window ≠ []) (hs : i.state ≠ .awaitRewind) :
    s.passEnded (s.turnWindow k i) k i := by
  set j : Image := { i with window := i.window.tail ++ [[]], base := i.base + s.segSectors, gate := .closed } with hj
  set u : State := s.setImage k (some j) with hu
  have uk : u.image k = some j := State.setImage_image ..
  have e : s.turnWindow k i = u.endPass k j := by
    show u.passEndTest k = _
    unfold State.passEndTest
    rw [uk]
    simp [hj, Image.streaming, hr, hc, hs]
  set v : State := u.setImage k (some { j with window := [], state := .awaitRewind }) with hv
  set w : State := { v with staging := { v.staging with freeSegments := v.staging.freeSegments + j.window.length } } with hwd
  have n0 : j.window.length ≠ 0 := by simp [hj]
  have e' : s.turnWindow k i = w.stageSpace.raise .passEnd := by
    rw [e]; unfold State.endPass State.returnSegments
    rw [if_neg n0]
  have turned : v.staging.refusedAny = u.staging.refusedAny := State.setImage_refusedAny uk rfl
  have refused : w.staging.refusedAny = s.staging.refusedAny := turned.trans (State.setImage_refusedAny h rfl)
  have wi : ∀ x, (w.stageSpace.raise .passEnd).image x =
      (v.image x).map fun y => { y with stageFullRefused := false } :=
    fun x => State.stageSpace_image w x
  have p5 : (w.stageSpace.raise .passEnd).status.pending.getLsbD 5 =
      (s.staging.refusedAny || s.status.pending.getLsbD 5) := by
    rw [show (w.stageSpace.raise .passEnd).status.pending.getLsbD 5 = w.stageSpace.status.pending.getLsbD 5 from
      State.raise_pending w.stageSpace .passEnd .stageSpace, State.stageSpace_pending, refused]
    rfl
  rw [e']
  refine ⟨?_, ?_, ?_, ?_, ?_, ?_⟩
  · rw [wi, hv, State.setImage_image]; rfl
  · have : w.stageSpace.staging.freeSegments = w.staging.freeSegments := by
      unfold State.stageSpace; split <;> rfl
    show w.stageSpace.staging.freeSegments = _
    rw [this]
    have := List.length_pos_iff.mpr hw
    show s.staging.freeSegments + j.window.length = _
    simp [hj]; omega
  · intro x hx
    rw [wi, hv, State.setImage_image_ne _ _ hx, hu, State.setImage_image_ne _ _ hx]
  · exact State.raise_pending w.stageSpace .passEnd .passEnd
  · intro r; rw [p5, s.staging.refusedAny_iff.mpr r, Bool.true_or]
  · intro q
    have f : s.staging.refusedAny = false := by
      cases e : s.staging.refusedAny with
      | false => rfl
      | true =>
        obtain ⟨x, y, hy, hf⟩ := s.staging.refusedAny_iff.mp e
        exact absurd (q x y hy) (by simp [hf])
    rw [p5, f, Bool.false_or]
theorem State.returnSegments_digests (n : Nat) (s : State) :
    (s.returnSegments n).staging.freeDigests = s.staging.freeDigests := by
  unfold State.returnSegments State.stageSpace
  (repeat' split) <;> rfl

theorem State.passEndTest_digests (s : State) (k : ImageId) :
    (s.passEndTest k).staging.freeDigests = s.staging.freeDigests := by
  unfold State.passEndTest
  split
  · rfl
  · split
    · exact State.returnSegments_digests _ _
    · rfl

/-- Head releases free no digest entry (R31). -/
theorem State.releaseLoop_digests (k : ImageId) (n : Nat) (s : State) :
    (State.releaseLoop k n s).staging.freeDigests = s.staging.freeDigests := by
  induction n generalizing s with
  | zero => rfl
  | succ n ih =>
    unfold State.releaseLoop
    split
    · rfl
    · split
      · rw [ih]
        exact (State.passEndTest_digests _ _).trans (State.returnSegments_digests _ _)
      · rfl

/-- A release evaluation of any slot does what R39 to R43 say. -/
theorem State.releaseEvaluation_evaluates (s : State) (k : ImageId) : s.slotEvaluated (s.releaseEvaluation k) k := by
  refine ⟨fun h => ?_, fun i cap closed h hr hc => State.releaseEvaluation_spec h hr hc, fun i cap h hr hc hw hs => ?_, ?_, ?_⟩
  · unfold State.releaseEvaluation
    split
    · rfl
    · next i hi =>
      refine State.releaseLoop_stays _ fun j hj => ?_
      rw [hi] at hj; cases hj
      rcases h i hi with r | w | ⟨c, cap, r⟩
      · simp [State.headReleasable, Image.streaming, r]
      · simp [State.headReleasable, w]
      · simp [State.headReleasable, State.headPassed, Image.passClosed, c, r]
  · have e := State.releaseHead_ends h hr hc hw hs
    have go : s.headReleasable i = true := by
      simp [State.headReleasable, State.headPassed, Image.streaming, Image.passClosed, hr, hc, hw]
    have run : s.releaseEvaluation k = s.releaseHead k i := by
      unfold State.releaseEvaluation
      rw [h]
      obtain ⟨n, hn⟩ := Nat.exists_eq_succ_of_ne_zero (Nat.ne_of_gt (List.length_pos_iff.mpr hw))
      dsimp only
      rw [hn]
      unfold State.releaseLoop
      rw [h]
      simp only [go, if_true]
      refine State.releaseLoop_stays _ fun j hj => ?_
      rw [e.slot] at hj; cases hj
      simp [State.headReleasable]
    rw [run]; exact e
  · unfold State.releaseEvaluation
    split
    · rfl
    · exact State.releaseLoop_digests _ _ _
  · simp

/-- An emptied pool has every slot evaluated, 0 to 3 (R35, R40, log 36). -/
theorem State.poolEmptied_poolGone (s : State) : s.poolGone s.poolEmptied :=
  ⟨_, _, _, s.releaseEvaluation_evaluates 0, State.releaseEvaluation_evaluates _ 1,
    State.releaseEvaluation_evaluates _ 2, State.releaseEvaluation_evaluates _ 3⟩

end Sys2Proof.Machine
end

