-- ==== Sys2Proof/WellFormed.lean ====
section
/-! DEFINITION. Which commands the outside can really give: the bounds the spec sets on what an event or a payload carries. exec is defined on every command, well formed or not. -/

namespace Sys2Proof

/-- Drive facts within the widths of 03 section 3.1. -/
def DriveFacts.wf (f : DriveFacts) : Bool :=
  f.capacity ≤ Config.max32 && f.rates.all (· ≤ Config.max16)

/-- A command that its sender can form. -/
def Instr.wf : Instr → Bool
  | .settingSet pairs => 1 ≤ pairs.length && pairs.length ≤ 24
  | .settingsWriteEnd readBack => readBack.length ≤ Config.recordBytes
  | .powerOn _ flash => flash.length ≤ Config.recordBytes
  | .imageData _ _ _ data => data.length + 6 ≤ Config.maxPayload
  | .labelData _ _ data => data.length + 2 ≤ Config.maxPayload
  | .identifyComplete _ _ _ facts => facts.wf
  | .stripCodeChange steps code => steps ≤ 16383 && code ≤ 4095
  | .oversizeHeaderReceived header => header.length = 8
  | .restartBegin | .startupInventoryEnd | .startupReady | .strapChange _ _ | .portEnumerated
  | .portConfigured | .linkReset _ | .frameReceived _ | .inboundTake | .inTransferComplete
  | .ident | .restart _ | .settingGet _ | .settingsSave | .statusGet | .statusClear | .flagForce _
  | .flagRelease _ | .eventMask _ | .eventAck _ | .countersGet | .countersClear
  | .imageOpen _ _ _ _ | .passClose _ _ | .imageRewind _ | .imageRelease _ | .imageQuery _
  | .labelOpen _ _ _ _ | .labelDrop _ | .labelQuery _ | .jobCreate _ | .jobHold _ | .jobRelease _
  | .jobCancel _ | .jobRemove _ | .jobQuery _ | .discResults | .bayQuery _ | .bayOffline _
  | .bayOnline _ | .armHome | .printerResume | .towerPause | .towerResume | .towerDrain
  | .dispatchEvaluation | .orphanCreationGrant | .identifyRetryTimerExpiry _
  | .writeComplete _ _ _ _ | .reserveTimerExpiry _ | .speedComplete _ _ _ | .suspendComplete _ _ _
  | .resumeComplete _ _ _ | .unsolicitedUnderrun _ | .closeComplete _ _ _ | .readComplete _ _ _ _ _ | .verifyLaneTake
  | .trayOpenComplete _ _ _ | .trayCloseComplete _ _ _ | .deadlineExpiry _ _
  | .admissionEvaluation | .grantEvaluation | .arrival _ | .moveTimerExpiry | .pickConfirmed _
  | .discSet | .prnTrayConfirmed | .dropConfirmed | .ackTimerExpiry _ | .swapSecondLegStart
  | .holdTimerExpiry | .bottomReferenceReached | .doorOpen | .doorClose | .spindleSensorChange _ _
  | .binFullSensorChange _ _ | .printerLinePeriod | .headTemperatureReading _
  | .ribbonSensorChange _ | .ribbonLowSensorChange _ | .noticeOffer | .gapTimerExpiry => true

end Sys2Proof
end

