-- ==== Sys2Proof/Tests/Slice0.lean ====
section
/-! SUPPORT. Small tests: WellFormed's refusals, one step of a command on a small state, and a state that meets the hypotheses of each statement's clauses (each test is named after the statement it serves). -/

open Sys2Proof Sys2Proof.Machine

namespace Sys2Proof.Tests

set_option Elab.async false

/-- The next state of a command. -/
def run (c : Instr) (s : State) : State :=
  match exec c s with
  | .next t => t
  | _ => s

/-- The state after a step. -/
def stepped (s : State) : State :=
  match step s with
  | .next t => t
  | _ => s

/-- The part in READY, its arm homed. -/
def ready : State :=
  { State.reset with
    settings := { State.reset.settings with stage := .ready }
    trans := { State.reset.trans with arm := .idle, pos := some (0, 0) } }

/-- `ready` with the port CONFIGURED. -/
def online : State := { ready with link := { ready.link with port := .configured } }

/-- An owner with a request of a kind. -/
def owned (kind : Byte) (discard : Bool) : Option Owned :=
  some { request := { kind, tag := 5, payload := [] }, discard }

def withOwner (kind : Byte) (discard : Bool) (s : State) : State :=
  { s with link := { s.link with owner := owned kind discard, inbound := [.request { kind, tag := 5, payload := [] }] } }

def segment (n : Nat) : Segment := List.replicate n []

/-- A complete image of 40 sectors. -/
def image0 : Image :=
  { state := .complete, size := 40, media := .m, residency := .resident, fill := 40, base := 0, window := [segment 40],
    pass := 1, gate := .opened, consumers := [], digests := [some 0, some 0], acc := 0xFFFFFFFF, differing := 0,
    stageFullRefused := false }

/-- The same image half staged, in a streaming window with a cap of 8. -/
def streaming0 : Image := { image0 with state := .filling, residency := .streaming 8 false, fill := 20, window := [segment 20] }

def withImage (i : Image) (s : State) : State :=
  { s with staging := { s.staging with
      slots := s.staging.slots.set 0 (some i)
      freeSegments := 2048 - i.window.length, freeDigests := 262144 - i.digests.length } }

/-- A job of two copies of image 0. -/
def job0 : Job :=
  { number := 7, imageSlot := 0, label := none, printOrder := none, verifyMode := .none, verifyStop := .first,
    spindle := .any, copies := 2, rejectLimit := 3, started := 0, good := 0, rejected := 0, inFlight := 0,
    consecRejects := 0, state := .active }

def withJob (j : Job) (s : State) : State :=
  { s with jobs := { s.jobs with slots := s.jobs.slots.set 0 (some j), order := [0] } }

/-- Disc 1 of job slot 0. -/
def disc1 : Disc :=
  { number := 1, job := some 0, location := .bay 0, stage := .inBay, target := some 0, media := some .m, burned := false,
    verified := false, printed := false, disposition := .pending, stepDowns := 0, suspends := 0, mismatches := 0 }

def withDisc (d : Disc) (s : State) : State := { s with discs := { s.discs with records := [d], counter := 2 } }

def facts0 : DriveFacts :=
  { discPresent := true, media := .m, capacity := 100, blank := true, rates := [1000, 2000], suspendSupported := true }

/-- Bay 0 with disc 1 in a state. -/
def bay0 (st : BayState) : Bay :=
  { Bay.afterReset with state := st, disc := some 1, job := some 0, imageSlot := some 0, facts := some facts0 }

def withBay (r : Bay) (s : State) : State := { s with bays := s.bays.set 0 r }

/-- All bays but bay 0 EMPTY, bay 0 as given. -/
def withQueue (l : List MoveReq) (s : State) : State := { s with trans := { s.trans with queue := l } }

def withArm (a : ArmState) (s : State) : State := { s with trans := { s.trans with arm := a } }

/-- The label of 100 dots by 70 lines, loaded. -/
def label0 : Label :=
  { width := 100, lines := 70, darkness := 0, state := .ready, nextBand := 2, blocks := List.replicate 3 [] }

def withLabel (l : Label) (s : State) : State :=
  { s with labels := { slots := s.labels.slots.set 0 (some l), freeBlocks := 4096 - l.blocks.length } }

/-- A setup in which disc 1 of job 0 is in work. -/
def working (j : Job) (d : Disc) : State := withDisc d (withJob j (withImage image0 ready))

/-- The job of one copy with disc 1 in flight. -/
def job1 : Job := { job0 with copies := 1, started := 1, inFlight := 1, state := .filled }

/-! ## WellFormed: each check refuses an ill-formed command -/

theorem test_wf_settingSet_empty : (Instr.settingSet []).wf = false := by decide
theorem test_wf_settingSet_long : (Instr.settingSet (List.replicate 25 (0, 0))).wf = false := by decide
theorem test_wf_settingsWriteEnd_long : (Instr.settingsWriteEnd (List.replicate 71 0)).wf = false := by decide
theorem test_wf_powerOn_long : (Instr.powerOn readingsAtReset (List.replicate 71 0)).wf = false := by decide
theorem test_wf_imageData_long (s c : Byte) (o : BitVec 32) :
    (Instr.imageData s c o (List.replicate 65543 0)).wf = false := by
  rw [Instr.wf, List.length_replicate]; rfl
theorem test_wf_labelData_long (l b : Byte) : (Instr.labelData l b (List.replicate 65547 0)).wf = false := by
  rw [Instr.wf, List.length_replicate]; rfl
theorem test_wf_identifyComplete_rate :
    (Instr.identifyComplete 0 0 .ok { facts0 with rates := [65536] }).wf = false := by decide
theorem test_wf_identifyComplete_capacity :
    (Instr.identifyComplete 0 0 .ok { facts0 with capacity := 4294967296 }).wf = false := by decide
theorem test_wf_stripCodeChange_steps : (Instr.stripCodeChange 16384 0).wf = false := by decide
theorem test_wf_stripCodeChange_code : (Instr.stripCodeChange 0 4096).wf = false := by decide
theorem test_wf_oversizeHeader_short : (Instr.oversizeHeaderReceived (List.replicate 7 0)).wf = false := by decide
theorem test_wf_accepts : (Instr.oversizeHeaderReceived (List.replicate 8 0)).wf = true ∧ Instr.ident.wf = true ∧
    (Instr.identifyComplete 0 0 .ok facts0).wf = true ∧ (Instr.stripCodeChange 16383 4095).wf = true := by decide

/-! ## One step, reset, invariants -/

theorem test_StepTakesTheFrontCommand :
    let s : State := { ready with pending := [.towerPause, .ident] }
    s.pending = .towerPause :: [.ident] ∧
      step s = exec .towerPause { s with pending := [.ident] } := ⟨rfl, rfl⟩

/-- A due command, and nothing due. -/
theorem test_IdleStepTakesDueWorkOrAMillisecond :
    (ready.pending = [] ∧ ready.nextDue = none ∧ stepped ready = { ready with now := 1 }) ∧
    (withOwner 0x01 false online).pending = [] ∧ (withOwner 0x01 false online).nextDue = some .ident ∧
    ({ ready with status := { ready.status with gapTimer := some 0 } } : State).nextDue = some .gapTimerExpiry := by
  decide +kernel

theorem test_ResetHoldsItsValuesAndInvariants :
    State.reset.discs.counter = 1 ∧ State.reset.settings.stage = .starting ∧ State.reset.pending = [] := by decide

/-- The premises of the invariants hold of the state after reset, and a step from it answers next. -/
theorem test_EveryStepConservesPools :
    State.reset.staging.segmentTotal = 2048 ∧ State.reset.staging.digestTotal = 262144 ∧
      State.reset.labels.blockTotal = 4096 ∧ stepped State.reset = { State.reset with now := 1 } := by decide +kernel

theorem test_EveryStepKeepsCapacities : State.reset.capacitiesKept := by constructor <;> decide

theorem test_EveryStepKeepsConditionsWithTheirOwners : State.reset.conditionsHold := by
  constructor <;> decide

/-! ## Replies and the link -/

/-- No transfer waiting, a waiting one, a discarded reply, no owner. -/
theorem test_AReplyIsPlacedAndClearsReserveLow :
    ((withOwner 0x01 false ready).answer 0x01 .ok .none).link =
      { ready.link with outbound := [.reply 0x01 5 .ok false false .none] } ∧
    (({ withOwner 0x01 false ready with link := { (withOwner 0x01 false ready).link with
        waiting := [[1], [2]] } } : State).answer 0x01 .ok .none).link.inbound =
      [.refused 1 0 .malformed, .refused 2 0 .malformed] ∧
    ((withOwner 0x01 true ready).answer 0x01 .ok .none).link.outbound = [] ∧
    (ready.answer 0x01 .ok .none).link.outbound = [.reply 0x01 0 .ok false false .none] := by decide +kernel

theorem test_LinkResetEmptiesTheLinkAndNothingElse :
    (withOwner 0x01 false online).link.owner = some { request := { kind := 0x01, tag := 5, payload := [] }, discard := false } ∧
    run (.linkReset true) (withOwner 0x01 false online) =
      { withOwner 0x01 true ready with
        link := { ready.link with owner := owned 0x01 true, linkResets := 1 } } := by decide +kernel

/-- Each case of the table: empty, 7 bytes, a length above 65,548, a bad type, a bad length, a good frame of 8 bytes; a full queue; an oversize header, with a full queue and with room, a transfer that waits with room, a second oversize header, and the end of an oversize transfer. -/
theorem test_ATransferIsJudged :
    let big : List Byte := [1, 1, 2, 0, 0x0D, 0, 1, 0]
    let full : State := { online with link := { online.link with
      inbound := List.replicate 4 (.refused 1 2 .badKind) } }
    run (.frameReceived []) online = online ∧
    (run (.frameReceived [1, 1, 2, 0, 0, 0, 0]) online).link.inbound = [.refused 1 2 .malformed] ∧
    (run (.frameReceived [1, 1, 2]) online).link.inbound = [.refused 1 0 .malformed] ∧
    (run (.frameReceived [1, 1, 2, 0, 0x0D, 0, 1, 0]) online).link.inbound = [.refused 1 2 .malformed] ∧
    (run (.frameReceived [1, 2, 2, 0, 0, 0, 0, 0]) online).link.inbound = [.refused 1 2 .malformed] ∧
    (run (.frameReceived [1, 1, 2, 0, 1, 0, 0, 0]) online).link.inbound = [.refused 1 2 .malformed] ∧
    (run (.frameReceived [1, 1, 2, 0, 0, 0, 0, 0]) online).link.inbound = [.request { kind := 1, tag := 2, payload := [] }] ∧
    (run (.frameReceived [0x7F, 1, 2, 0, 0, 0, 0, 0]) online).link.inbound = [.refused 0x7F 2 .badKind] ∧
    (run (.frameReceived [1, 1, 2, 0, 1, 0, 0, 0, 9]) online).link.inbound = [.refused 1 2 .malformed] ∧
    (run (.frameReceived [0x11, 1, 2, 0, 1, 0, 0, 0, 1]) online).link.inbound = [.refused 0x11 2 .malformed] ∧
    (run (.frameReceived [9]) full).link.waiting = [[9]] ∧
    run (.oversizeHeaderReceived big) full = full ∧
    (run (.frameReceived [9]) { online with link := { online.link with waiting := [[8]] } }).link.inbound =
      [.refused 8 0 .malformed, .refused 9 0 .malformed] ∧
    (run (.oversizeHeaderReceived big) online).link =
      { online.link with assembly := big, inbound := [.refused 1 2 .malformed] } ∧
    (run (.oversizeHeaderReceived big) (run (.oversizeHeaderReceived big) online)).link.inbound =
      [.refused 1 2 .malformed, .refused 1 2 .malformed] ∧
    (run (.frameReceived big) (run (.oversizeHeaderReceived big) online)).link =
      { online.link with inbound := [.refused 1 2 .malformed] } := by dsimp only; decide +kernel

/-- A request, a refused entry, one with the queue full and a transfer waiting, a transfer that waits with room, each ground to wait; a reply, the reply of a RESTART, a notice. -/
theorem test_LinkQueuesAreTakenAndSent :
    let r : Request := { kind := 1, tag := 2, payload := [] }
    let q : Entry → State := fun e => { online with link := { online.link with inbound := [e] } }
    (run .inboundTake (q (.request r))).link.owner = some { request := r, discard := false } ∧
    (run .inboundTake (q (.refused 1 2 .badKind))).link.outbound = [.reply 1 2 .badKind false false .none] ∧
    (run .inboundTake { online with link := { online.link with
      inbound := List.replicate 4 (.refused 1 2 .badKind), waiting := [[9]] } }).link.inbound =
        List.replicate 3 (.refused 1 2 .badKind) ++ [.refused 9 0 .malformed] ∧
    (run .inboundTake { online with link := { online.link with waiting := [[9], [8]] } }).link.inbound =
      [.refused 8 0 .malformed] ∧
    run .inboundTake online = online ∧
    run .inboundTake { q (.request r) with link := { (q (.request r)).link with
      outbound := List.replicate 4 (.reply 1 2 .ok false false .none) } } =
        { q (.request r) with link := { (q (.request r)).link with
          outbound := List.replicate 4 (.reply 1 2 .ok false false .none) } } ∧
    (run .inTransferComplete { online with link := { online.link with
      outbound := [.notice 1 1 false false] } }).link.outbound = [] ∧
    (run .inTransferComplete { online with link := { online.link with
      outbound := [.reply 2 2 .ok false false .none]
      restart := some { mode := .keep, limit := 9, due := false } } }).link.restart =
        some { mode := .keep, limit := 9, due := true } := by
  dsimp only; decide +kernel

/-- Enumeration, configuration; a notice due in CONFIGURED and in DETACHED; nothing unmasked; the gap timer. -/
theorem test_PortStatesAndNotices :
    (run .portEnumerated ready).link.port = .attached ∧
    (run .portConfigured (run .portEnumerated ready)).link.port = .configured ∧
    (run .noticeOffer { online with status := { online.status with pending := 1 } }).link.outbound =
      [.notice 1 1 false false] ∧
    run .noticeOffer { ready with status := { ready.status with pending := 1 } } =
      { ready with status := { ready.status with pending := 1 } } ∧
    run .noticeOffer online = online ∧
    (run .gapTimerExpiry { ready with status := { ready.status with gapTimer := some 0 } }) = ready := by decide +kernel

theorem test_IdentReportsThePart :
    (run .ident (withOwner 0x01 false ready)).link.outbound.length = 1 := by decide +kernel

/-! ## Restart, start-up, settings -/

/-- KEEP, a discarded reply, a bad mode; the restart of KEEP, of RELOAD, of RELOAD during a save, and with a transfer waiting and one discarded. -/
theorem test_RestartIsAnsweredThenBegins :
    (run (.restart 0) (withOwner 2 false ready)).link.restart = some { mode := .keep, limit := 1000, due := false } ∧
    (run (.restart 1) (withOwner 2 true ready)).link.restart = some { mode := .reload, limit := 1000, due := true } ∧
    run (.restart 2) ready = ready.answer 2 .badField .none ∧
    (run .restartBegin { ready with link := { ready.link with
      restart := some { mode := .keep, limit := 0, due := true } } }).settings.stage = .inventory ∧
    (run .restartBegin { ready with link := { ready.link with
      restart := some { mode := .reload, limit := 0, due := true } } }).bay 11 = Bay.underSurvey 0 ∧
    (run .restartBegin { ready with
      link := { ready.link with restart := some { mode := .reload, limit := 0, due := true } }
      settings := { ready.settings with saving := some { values := Config.settingDefault, ends := 300 } } }).settings.waiting = true ∧
    (run .restartBegin { ready with
      link := { ready.link with restart := some { mode := .reload, limit := 0, due := true } }
      sensors := { ready.sensors with baysCode := 4 }
      settings := { ready.settings with saving := some { values := Config.settingDefault, ends := 300 } } }).settings.fittedBays = 4 ∧
    (run .restartBegin { ready with link := { ready.link with
      port := .configured, assembly := [1], waiting := [[9]], inbound := [.refused 1 2 .badKind]
      restart := some { mode := .keep, limit := 0, due := true } } }).link =
        { Link.afterReset .configured with waiting := [[9]] } ∧
    (let t := run .restartBegin { ready with
      link := { ready.link with restart := some { mode := .reload, limit := 0, due := true } }
      sensors := { ready.sensors with doorOpen := true, ribbonOut := true }
      settings := { ready.settings with
        saving := some { values := Config.settingDefault, ends := 300 }, working := Config.settingDefault.set 0 1 } }
     t.cond .doorOpen = true ∧ t.cond .printerFault = true ∧ t.printer = some (Printer.afterReset .fault) ∧
       t.staging.segmentSize = 1) := by
  decide +kernel

/-- A good record, one whose feed budget is out of range, and an empty flash. -/
theorem test_PowerOnBeginsStartUp :
    let wide : State := run (.powerOn readingsAtReset (recordOf (Config.settingDefault.set 2 90000))) ready
    recordValid defaultRecord = true ∧ recordValid [] = false ∧
    (run (.powerOn readingsAtReset defaultRecord) ready).settings.working = Config.settingDefault ∧
    wide.setting 2 = 60000 ∧ wide.settings.stored = Config.settingDefault.set 2 90000 ∧
    (run (.powerOn readingsAtReset []) ready).cond .settingsBad = true := by dsimp only; decide +kernel

theorem test_StoredRecordIsCheckedAndClamped :
    crc16 [0x31, 0x32, 0x33, 0x34, 0x35, 0x36, 0x37, 0x38, 0x39] = 0x29B1#16 ∧
    loadedValues (defaultRecord.set 4 7) = Config.settingDefault.set 1 263 ∧
    loadedValues (defaultRecord.set 0 2) = Config.settingDefault ∧
    loadedValues (defaultRecord.set 5 0) = Config.settingDefault.set 1 8 ∧
    loadedValues (defaultRecord.set 13 9) = Config.settingDefault := by decide +kernel

/-- A reading that changes, and a pin code that changes alone. -/
theorem test_StrapChangeIsLatched :
    Config.bayCount 8 ≠ Config.bayCount State.reset.sensors.baysCode ∧
    (run (.strapChange 8 true) State.reset).cond .strapChange = true ∧
    Config.bayCount 4 = Config.bayCount 5 ∧
    (run (.strapChange 5 true) { ready with sensors := { ready.sensors with baysCode := 4 } }).cond .strapChange = false := by
  decide +kernel

/-- Each check refused in turn, an accepted pair and a clamped one. -/
theorem test_SettingSetChecksThenTakesAll :
    run (.settingSet [(1, 9)]) State.reset = State.reset.answer 0x11 .busy .none ∧
    run (.settingSet [(1, 9), (1, 9)]) ready = ready.answer 0x11 .badField .none ∧
    run (.settingSet [(0, 2)]) ready = ready.answer 0x11 .badField .none ∧
    run (.settingSet [(3, 2000)]) ready = ready.answer 0x11 .badField .none ∧
    run (.settingSet [(2, 1000)]) { ready with governor := { ready.governor with sum := 1001 } } =
      ({ ready with governor := { ready.governor with sum := 1001 } } : State).answer 0x11 .budgetInUse .none ∧
    (run (.settingSet [(1, 8)]) ready).settings.working = Config.settingDefault.set 1 8 ∧
    (run (.settingSet [(1, 7)]) ready).link.outbound = [.reply 0x11 0 .clamped false false (.settingsHeld [(1, 8)])] ∧
    run (.settingSet [(17, 7)]) ready = ready.answer 0x11 .badField .none := by decide +kernel

/-- A save from READY, before it, its end read back good and bad, and with a start-up that waits. -/
theorem test_SettingsAreReportedAndSaved :
    let saving : State := { ready with settings := { ready.settings with
      saving := some { values := Config.settingDefault, ends := 300 } } }
    (run .settingsSave ready).settings.saving = some { values := Config.settingDefault, ends := 300 } ∧
    run .settingsSave State.reset = State.reset.answer 0x12 .busy .none ∧
    run .settingsSave saving = saving.answer 0x12 .busy .none ∧
    (run (.settingsWriteEnd defaultRecord) saving).settings.storedValid = true ∧
    (run (.settingsWriteEnd []) saving).cond .settingsBad = true ∧
    (let t := run (.settingsWriteEnd defaultRecord) { saving with
      settings := { saving.settings with stage := .starting, waiting := true, working := Config.settingDefault.set 0 1 }
      staging := { saving.staging with segmentSize := 1 }, printer := some (Printer.afterReset .fault) }
     t.printer = some (Printer.afterReset .fault) ∧ t.staging.segmentSize = 0) ∧
    (run (.settingsWriteEnd defaultRecord) { saving with settings := { saving.settings with
      stage := .starting, waiting := true } }).settings.stage = .inventory ∧
    run (.settingGet 17) ready = ready.answer 0x10 .badField .none := by
  dsimp only; decide +kernel

/-- Start-up with a disc on the printer's tray and one on the arm, by power-on, by a restart with KEEP and at the end of the flash write it waited for; the ribbon out; no printer fitted. -/
theorem test_startUp_discOnTheTray :
    let r : Readings := { readingsAtReset with tray := true, pick := true }
    let clear : MoveReq := .posted .clear .printer .prn (.bin .reject) 1 none
    let on : Readings → State := fun r => run (.powerOn r defaultRecord) ready
    let keep : State := run .restartBegin { ready with
      sensors := r, link := { ready.link with restart := some { mode := .keep, limit := 0, due := true } } }
    let waits : State := { ready with
      sensors := { readingsAtReset with tray := true }
      settings := { ready.settings with
        saving := some { values := Config.settingDefault, ends := 300 }, stage := .starting, waiting := true } }
    (on r).printer = some { (Printer.afterReset .awaitRemove) with trayDisc := some 1, trayMove := true } ∧
    (on r).trans.queue = [clear] ∧ (on r).discs.records = [.orphan 1 .prn, .orphan 2 .arm] ∧
    (on { r with ribbonOut := true }).printer =
      some { (Printer.afterReset .fault) with trayDisc := some 1, trayMove := true } ∧
    (on { r with ribbonOut := true }).cond .printerFault = true ∧
    (on { r with tray := false }).printer = some (Printer.afterReset .idle) ∧ (on { r with tray := false }).trans.queue = [] ∧
    (on { r with printerStrap := false }).printer = none ∧ (on { r with printerStrap := false }).trans.queue = [] ∧
    keep.printer = (on r).printer ∧ keep.trans.queue = [clear] ∧
    (run (.settingsWriteEnd defaultRecord) waits).printer = (on r).printer ∧
    (run (.settingsWriteEnd defaultRecord) waits).trans.queue = [clear] := by dsimp only; decide +kernel

/-- The end of INVENTORY with the door closed and open, and of homing. -/
theorem test_StartUpStagesFollow :
    let inv : State := { State.reset with settings := { State.reset.settings with stage := .inventory } }
    (∀ b, inv.fitted b = true → (inv.bay b).state ≠ .ident) ∧ OrphanAt.prn ∉ inv.discs.orphanWait ∧
    (run .startupInventoryEnd inv).trans.arm = .homing .descent ∧
    (run .startupInventoryEnd { inv with sensors := { inv.sensors with doorOpen := true } }).trans.arm = .stopped ∧
    (run .startupReady { ready with settings := { ready.settings with stage := .homing } }).settings.stage = .ready ∧
    (run .startupReady { ready with settings := { ready.settings with stage := .homing } }).dispatchWanted = true := by
  dsimp only; decide +kernel

/-! ## Status, events, counters -/

def lane0 : Lane :=
  { bay := 3, disc := 1, mode := .full, stop := .all, imageSlot := 2, chunks := 9, next := 4, mismatches := 1,
    readOut := true }

theorem test_CountersAreReportedAndCleared :
    (run .countersGet { ready with verify := { ready.verify with lanes := ready.verify.lanes.set 1 (some lane0) } }).link.outbound =
      [.reply 0x26 0 .ok false false (.verify 0 0 0
        [none, some { bay := 3, disc := 1, mode := .full, stop := .all, next := 4, chunks := 9, mismatches := 1,
                      readOut := true }, none, none] [])] ∧
    (run .countersClear { ready with verify := { ready.verify with repeats := 3 } }).verify.repeats = 0 ∧
    (run .countersGet { ready with verify := { ready.verify with repeats := 3 } }).verify.repeats = 3 := by decide +kernel

theorem test_StatusIsReportedAndCleared :
    (run .statusClear { ready with status := { ready.status with live := 0x7C01, shadow := 0x0003 } }).status.shadow = 1 ∧
    (run .statusGet ready).status = ready.status := by decide +kernel

theorem test_SummaryFlagsAndForcedFlags :
    ({ ready with status := { ready.status with live := 1 } } : State).alert = true ∧
    ({ ready with status := { ready.status with shadow := 1 } } : State).warn = true ∧
    (run (.flagForce 0) ready).alert = true ∧ (run (.flagForce 1) ready).warn = true ∧
    (run (.flagRelease 2) (run (.flagForce 2) ready)).alert = false ∧
    run (.flagForce 3) ready = ready.answer 0x22 .badField .none := by decide +kernel

theorem test_EventsAreMaskedAndAcknowledged :
    (run (.eventMask 1) ready).eventMask = 1 ∧
    (run (.eventAck 1) { ready with status := { ready.status with pending := 3 } }).status.gapTimer = some 20 ∧
    (run (.eventAck 3) { ready with status := { ready.status with pending := 3, gate := .closed } }).status = ready.status := by
  decide +kernel

/-! ## What the tests' states are -/

/-- The states that the witnesses below start from meet the hypotheses that many statements share. -/
theorem test_startingStates :
    online.link.port = .configured ∧ online.link.waiting = [] ∧ online.link.assembly = [] ∧
    online.link.inbound = [] ∧ online.link.owner = none ∧ online.link.restart = none ∧ online.replies = 0 ∧
    ready.link.port = .detached ∧ ready.settings.stage = .ready ∧ ready.settings.saving = none ∧
    ready.link.owner = none ∧ State.reset.settings.stage ≠ .ready ∧ ready.sensors.doorOpen = false := by decide +kernel

/-! ## Images -/

def digestTop : State := { ready with staging := { ready.staging with freeDigests := 1 } }

def poolOf (n : Nat) : State := { ready with staging := { ready.staging with freeSegments := n } }

/-- Before READY; an open slot; too few digest entries; RESIDENT, with the pool emptied too; STREAMING; STAGE_FULL. -/
theorem test_ImageOpenDecidesResidency :
    MediaClass.ofByte 1 = some .m ∧
    run (.imageOpen 0 1 0 1) State.reset = State.reset.answer 0x30 .busy .none ∧
    (withImage image0 ready).image 0 ≠ none ∧
    run (.imageOpen 0 1 0 1) (withImage image0 ready) = (withImage image0 ready).answer 0x30 .state .none ∧
    run (.imageOpen 0 1 0 33) digestTop = digestTop.answer 0x30 .digestFull .none ∧
    ((run (.imageOpen 3 1 0 513) (poolOf 3)).image 3).map Image.window = some [[], []] ∧
    ((run (.imageOpen 3 1 0 513) (poolOf 2)).image 3).map Image.residency = some .resident ∧
    ((run (.imageOpen 3 1 0 4173824) (poolOf 8)).image 3).map Image.residency = some (.streaming 256 false) ∧
    run (.imageOpen 3 1 1 4173824) (poolOf 8) = (poolOf 8).answer 0x30 .stageFull .none ∧
    run (.imageOpen 3 1 0 4173824) (poolOf 7) = (poolOf 7).answer 0x30 .stageFull .none ∧
    run (.imageOpen 4 1 0 1) ready = ready.answer 0x30 .badField .none ∧
    run (.imageOpen 3 3 0 1) ready = ready.answer 0x30 .badField .none ∧
    run (.imageOpen 3 1 2 1) ready = ready.answer 0x30 .badField .none ∧
    run (.imageOpen 3 1 0 0) ready = ready.answer 0x30 .badField .none ∧
    run (.imageOpen 3 1 0 4173825) ready = ready.answer 0x30 .badField .none := by decide +kernel

/-- An IMAGE OPEN that empties the pool: slot 0, whose consumer is past its head, lets that head go. -/
theorem test_imageOpen_emptiesThePool :
    let long : Image := { image0 with
      state := .filling, size := 2048, fill := 522, window := [segment 512, segment 10], residency := .streaming 8 false
      consumers := [0] }
    let fed : State := withBay { Bay.afterReset with cursor := some 512 } (withImage long ready)
    let s : State := { fed with staging := { fed.staging with freeSegments := 1 } }
    let t := run (.imageOpen 3 1 0 1) s
    (t.image 0).map (fun i => (i.base, i.window.length, i.gate)) = some (512, 1, .closed) ∧
    t.staging.freeSegments = 1 ∧ (t.image 3).map Image.residency = some .resident := by dsimp only; decide +kernel

/-- A RESIDENT image being staged up to a sector. -/
def filling (fill : Nat) : Image :=
  { image0 with state := .filling, fill, window := [segment fill], digests := [none, none] }

/-- A slot not in FILLING, a wrong offset, too many sectors, and the last sector, whose chunk's digest is formed. -/
theorem test_ImageDataStoresItsSectors (data : List Byte) (h : data.length = 2048) :
    data.length = (1 : Byte).toNat * 2048 ∧ (1 : Byte).toNat ≤ 32 ∧
    (withImage image0 ready).image 0 = some image0 ∧ image0.state ≠ .filling ∧
    (withImage (filling 39) ready).image 0 = some (filling 39) ∧ (filling 39).state = .filling ∧
    (39#32).toNat = (filling 39).fill ∧ (38#32).toNat ≠ (filling 39).fill ∧
    (filling 39).fill + (1 : Byte).toNat ≤ (filling 39).size ∧ (filling 39).size < (filling 39).fill + (2 : Byte).toNat ∧
    (filling 39).window = [] ++ segment 39 :: [] ∧
    (segment 39).length + (1 : Byte).toNat ≤ (withImage (filling 39) ready).segSectors := by
  refine ⟨by rw [h]; decide, ?_⟩
  decide +kernel

/-- Each refusal of the first checks of IMAGE DATA, and a CLOSED slot. -/
theorem test_imageData_checks :
    run (.imageData 0 1 0 []) State.reset = State.reset.answer 0x31 .busy .none ∧
    run (.imageData 4 1 0 (List.replicate 2048 7)) ready = ready.answer 0x31 .badField .none ∧
    run (.imageData 0 0 0 []) ready = ready.answer 0x31 .badField .none ∧
    run (.imageData 0 33 0 []) ready = ready.answer 0x31 .badField .none ∧
    run (.imageData 0 1 0 (List.replicate 2047 7)) ready = ready.answer 0x31 .badField .none ∧
    run (.imageData 0 1 0 (List.replicate 2048 7)) ready = ready.answer 0x31 .state .none := by decide +kernel

/-- A request of one sector that ends in the middle of a chunk. -/
theorem test_imageData_oneSector :
    ((run (.imageData 0 1 2 (List.replicate 2048 7)) (withImage (filling 2) ready)).image 0).map
      (fun i => (i.fill, i.state, i.window.map List.length)) = some (3, .filling, [3]) := by decide +kernel

/-- The last sector of an image of one chunk: COMPLETE, its digest present. -/
theorem test_imageData_lastSector :
    let one : Image := { filling 39 with size := 40, digests := [some 0, none] }
    ((run (.imageData 0 1 39 (List.replicate 2048 7)) (withImage one ready)).image 0).map
      (fun i => (i.fill, i.state, i.digests.map Option.isSome)) = some (40, .complete, [true, true]) := by
  dsimp only; decide +kernel

/-- The image at fill 31 or 39, with the register after the bytes of its chunk that have been gathered. -/
def gathering (fill size : Nat) (l : List (Option (BitVec 32))) : Image :=
  { filling fill with size, digests := l, acc := ~~~ digestOf [1, 2] }

/-- Two sectors at 31 go over a chunk's end: into the next chunk of an image of 40 sectors, to the end of one of 33. -/
theorem test_imageData_overAChunkEnd (data : List Byte) (h : data.length = 4096) :
    data.length = (2 : Byte).toNat * 2048 ∧ ~~~ (gathering 31 40 [none, none]).acc = digestOf [1, 2] ∧
    (gathering 31 40 [none, none]).state = .filling ∧ (gathering 31 40 [none, none]).residency = .resident ∧
    (31#32).toNat = (gathering 31 40 [none, none]).fill ∧ min (32 * (31 / 32 + 1)) 40 < 31 + (2 : Byte).toNat ∧
    31 + (2 : Byte).toNat < (gathering 31 40 [none, none]).size ∧
    31 + (2 : Byte).toNat = (gathering 31 33 [some 0, some 0]).size := by
  refine ⟨by rw [h]; decide, ?_⟩
  decide +kernel

/-- The image's short last chunk alone, its digest absent. -/
theorem test_imageData_shortChunk :
    ((run (.imageData 0 1 39 (List.replicate 2048 7)) (withImage (gathering 39 40 [none, none]) ready)).image 0).map
      (fun j => (j.acc, j.digests.map Option.isSome)) = some (0xFFFFFFFF#32, [false, true]) := by decide +kernel

/-- A whole chunk at the fill point 0, with no digest present and with one. -/
theorem test_ImageDataFormsAndComparesDigests :
    (List.replicate 65536 (0 : Byte)).length = 65536 ∧ (filling 0).state = .filling ∧ (filling 0).residency = .resident ∧
    (0#32).toNat = (filling 0).fill ∧ (filling 0).fill = 32 * 0 ∧ (filling 0).fill + 32 ≤ (filling 0).size ∧
    0 < (filling 0).digests.length ∧ (filling 0).acc = 0xFFFFFFFF#32 ∧
    digestOf [0x31, 0x32, 0x33, 0x34, 0x35, 0x36, 0x37, 0x38, 0x39] = 0xCBF43926#32 := by
  refine ⟨List.length_replicate, ?_⟩
  decide +kernel

/-- A STREAMING window of one full segment whose next sector needs a second one. -/
def edge (cap : Nat) : Image :=
  { streaming0 with
    size := 1024, fill := 512, window := [segment 512], residency := .streaming cap false,
    digests := List.replicate 32 none }

/-- A segment free and the cap not reached; the cap reached with no consumer. -/
theorem test_ImageDataFindsItsSegment (data : List Byte) (h : data.length = 2048) :
    data.length = (1 : Byte).toNat * 2048 ∧ (withImage (edge 8) ready).image 0 = some (edge 8) ∧
    (edge 8).state = .filling ∧ (512#32).toNat = (edge 8).fill ∧ (edge 8).fill + 1 ≤ (edge 8).size ∧
    (edge 8).base + (edge 8).window.length * ready.segSectors < (edge 8).fill + 1 ∧
    (edge 8).window.length + 1 < 8 ∧ 1 < (withImage (edge 8) ready).staging.freeSegments ∧
    1 ≤ (edge 1).window.length ∧ (edge 1).consumers = [] := by
  refine ⟨by rw [h]; decide, ?_⟩
  decide +kernel

theorem test_imageData_stageFull :
    ((run (.imageData 0 1 512 (List.replicate 2048 7)) (withImage (edge 1) ready)).image 0).map Image.stageFullRefused =
      some true := by decide +kernel

/-- One consumer past the head segment: the head passes to the tail of a window at its cap, and leaves one that a segment brings to its cap, or that PASS CLOSE ends. -/
theorem test_imageData_releases :
    let fed : Nat → State := fun cap =>
      withBay { Bay.afterReset with cursor := some 512 } (withImage { edge cap with consumers := [0] } ready)
    let c : Instr := .imageData 0 1 512 (List.replicate 2048 7)
    let shape : State → Option (Nat × List Nat × Gate) := fun t =>
      (t.image 0).map fun i => (i.base, i.window.map List.length, i.gate)
    shape (run c (fed 1)) = some (512, [1], .closed) ∧ (run c (fed 1)).staging.freeSegments = 2047 ∧
    shape (run c (fed 2)) = some (512, [1], .closed) ∧ (run c (fed 2)).staging.freeSegments = 2047 ∧
    shape (run c (fed 3)) = some (0, [512, 1], .opened) ∧ (run c (fed 3)).staging.freeSegments = 2046 ∧
    (let last : State := { fed 8 with staging := { (fed 8).staging with freeSegments := 1 } }
     shape (run c last) = some (512, [1], .closed) ∧ (run c last).staging.freeSegments = 1) ∧
    shape (run (.passClose 0 1) (fed 3)) = some (512, [], .closed) := by dsimp only; decide +kernel

/-- A closed pass without a consumer ends when its head goes: from a window at its cap, brought to its cap, or with the pool emptied; and at the last sectors. -/
theorem test_imageData_endsThePass :
    let alone : Nat → State := fun cap => withImage { edge cap with residency := .streaming cap true } ready
    let c : Instr := .imageData 0 1 512 (List.replicate 2048 7)
    let ended : State → Bool := fun t =>
      (t.image 0).map (fun i => (i.state, i.window.length, i.base, i.fill, i.gate)) ==
        some (.awaitRewind, 0, 512, 513, .closed) && t.status.pending.getLsbD 4
    ended (run c (alone 1)) = true ∧ (run c (alone 1)).staging.freeSegments = 2048 ∧
    ended (run c (alone 2)) = true ∧ (run c (alone 2)).staging.freeSegments = 2048 ∧
    ended (run c { alone 8 with staging := { (alone 8).staging with freeSegments := 1 } }) = true ∧
    (let last : State := withImage { edge 1 with residency := .streaming 1 true, size := 513 } ready
     ended (run c last) = true ∧ (run c last).status.pending.getLsbD 3 = true) := by dsimp only; decide +kernel

/-- A slot in AWAIT_REWIND, a wrong pass, a second close, a close with no consumer and with one, a RESIDENT slot; a rewind refused and taken. -/
theorem test_PassesCloseAndRewind :
    let waits : Image := { streaming0 with state := .awaitRewind, residency := .streaming 8 true, window := [] }
    let closed : Image := { streaming0 with residency := .streaming 8 true }
    let fed : Image := { streaming0 with consumers := [0] }
    run (.passClose 0 1) State.reset = State.reset.answer 0x32 .busy .none ∧
    run (.imageRewind 0) State.reset = State.reset.answer 0x33 .busy .none ∧
    run (.passClose 4 1) ready = ready.answer 0x32 .badField .none ∧
    run (.imageRewind 4) ready = ready.answer 0x33 .badField .none ∧
    run (.passClose 3 1) ready = ready.answer 0x32 .state .none ∧
    run (.imageRewind 3) ready = ready.answer 0x33 .state .none ∧
    run (.passClose 0 1) (withImage waits ready) = (withImage waits ready).answer 0x32 .state .none ∧
    run (.passClose 0 2) (withImage streaming0 ready) = (withImage streaming0 ready).answer 0x32 .state .none ∧
    run (.passClose 0 1) (withImage closed ready) = (withImage closed ready).answer 0x32 .ok .none ∧
    ((run (.passClose 0 1) (withImage streaming0 ready)).image 0).map Image.state = some .awaitRewind ∧
    (run (.passClose 0 1) (withImage streaming0 ready)).staging.freeSegments = 2048 ∧
    ((run (.passClose 0 1) (withImage fed ready)).image 0).map Image.residency = some (.streaming 8 true) ∧
    run (.passClose 0 1) (withImage image0 ready) = (withImage image0 ready).answer 0x32 .state .none ∧
    run (.imageRewind 0) (withImage image0 ready) = (withImage image0 ready).answer 0x33 .state .none ∧
    ((run (.imageRewind 0) (withImage waits ready)).image 0).map (fun i => (i.pass, i.state)) = some (2, .filling) ∧
    (run (.imageRewind 0) (withImage waits ready)).dispatchWanted = true ∧
    (run (.imageRewind 0) (withImage { waits with gate := .closed } ready)).dispatchWanted = true := by
  dsimp only; decide +kernel

/-- A CLOSED slot, a named one, a free one; a query of an open, of a CLOSED and of no slot. -/
theorem test_ImageReleaseAndQueryActOnTheSlot :
    run (.imageRelease 0) State.reset = State.reset.answer 0x34 .busy .none ∧
    run (.imageRelease 4) ready = ready.answer 0x34 .badField .none ∧
    run (.imageRelease 0) ready = ready.answer 0x34 .state .none ∧
    (withJob job0 ready).job 0 = some job0 ∧ job0.imageSlot = 0 ∧ job0.state ≠ .complete ∧ job0.state ≠ .cancelled ∧
    run (.imageRelease 0) (withJob job0 (withImage image0 ready)) =
      (withJob job0 (withImage image0 ready)).answer 0x34 .inUse .none ∧
    (run (.imageRelease 0) (withImage image0 ready)).image 0 = none ∧
    (run (.imageRelease 0) (withImage image0 ready)).staging.freeSegments = 2048 ∧
    (run (.imageRelease 0) (withImage image0 ready)).status.pending = 0 ∧
    (run (.imageRelease 0) (withImage { image0 with stageFullRefused := true } ready)).status.pending = 1#16 <<< 5 ∧
    (∀ m, ((withJob job0 ready).job m).isSome = true → m = 0) ∧
    (run (.imageQuery 0) (withImage image0 ready)).staging = (withImage image0 ready).staging ∧
    run (.imageQuery 4) ready = ready.answer 0x35 .badField .none := by decide +kernel

/-! ## Labels -/

/-- An id present, too few blocks, an id taken; a drop of no label, of a named one, of a free one; a query. -/
theorem test_LabelsAreLaidOutOpenedDroppedAndQueried :
    (let bare : State := { ready with printer := none }
     run (.labelOpen 0 0 100 70) State.reset = State.reset.answer 0x40 .busy .none ∧
     run (.labelDrop 0) State.reset = State.reset.answer 0x42 .busy .none ∧
     run (.labelOpen 0 0 100 70) bare = bare.answer 0x40 .notFitted .none ∧
     run (.labelDrop 0) bare = bare.answer 0x42 .notFitted .none ∧
     run (.labelQuery 0) bare = bare.answer 0x43 .notFitted .none ∧
     run (.labelData 0 0 []) bare = bare.answer 0x41 .notFitted .none) ∧
    run (.labelOpen 8 0 100 70) ready = ready.answer 0x40 .badField .none ∧
    run (.labelDrop 8) ready = ready.answer 0x42 .badField .none ∧
    run (.labelQuery 254) ready = ready.answer 0x43 .badField .none ∧
    run (.labelOpen 0 0 100 70) (withLabel label0 ready) = (withLabel label0 ready).answer 0x40 .state .none ∧
    run (.labelOpen 0 0 1440 1440) { ready with labels := { ready.labels with freeBlocks := 517 } } =
      ({ ready with labels := { ready.labels with freeBlocks := 517 } } : State).answer 0x40 .labelSpace (.labelSpace 518 517) ∧
    (run (.labelOpen 7 0xF7 0 1441) ready).link.outbound =
      [.reply 0x40 0 .clamped false false (.labelOpened 8 1440 (-8) 1 23 (labelBlocksOf 8 1440) (4096 - labelBlocksOf 8 1440))] ∧
    run (.labelDrop 0) ready = ready.answer 0x42 .noSuch .none ∧
    run (.labelDrop 0) (withJob { job0 with label := some 0 } (withLabel label0 ready)) =
      (withJob { job0 with label := some 0 } (withLabel label0 ready)).answer 0x42 .inUse .none ∧
    (run (.labelDrop 0) (withLabel label0 ready)).labels = ready.labels ∧
    (run (.labelQuery 255) (withLabel label0 ready)).labels.freeBlocks = 4093 := by decide +kernel

/-- Bands of 832 and 78 bytes: the first cut, the last padded, a wrong index. -/
theorem test_LabelDataStoresItsBand :
    let loading : Label := { label0 with state := .loading, nextBand := 0 }
    run (.labelData 0 0 []) State.reset = State.reset.answer 0x41 .busy .none ∧
    run (.labelData 8 0 []) ready = ready.answer 0x41 .badField .none ∧
    run (.labelData 0 0 []) ready = ready.answer 0x41 .noSuch .none ∧
    run (.labelData 0 2 []) (withLabel label0 ready) = (withLabel label0 ready).answer 0x41 .state .none ∧
    loading.blocks.length = labelBlocksOf loading.width loading.lines ∧ loading.nextBand < (loading.lines + 63) / 64 ∧
    ((run (.labelData 0 0 (List.replicate 833 3)) (withLabel loading ready)).label 0).map
      (fun l => (l.nextBand, l.state, (l.band 0).length)) = some (1, .loading, 832) ∧
    ((run (.labelData 0 1 [9]) (withLabel { loading with nextBand := 1 } ready)).label 0).map
      (fun l => (l.nextBand, l.state, l.band 1)) = some (2, .ready, 9 :: List.replicate 77 0) ∧
    run (.labelData 0 1 []) (withLabel loading ready) = (withLabel loading ready).answer 0x41 .outOfOrder .none := by
  dsimp only; decide +kernel

/-! ## Jobs, dispatch, the completion list -/

def create (n : BitVec 16) (l : Option (LabelId × PrintOrder)) (m : VerifyMode) : Instr :=
  .jobCreate (jobPayload n 0 l m .first .any 9999 20)

/-- Each field of JOB CREATE out of its range or list; without a label the print order is ignored. -/
theorem test_jobCreate_badFields :
    let f : JobFields := jobPayload 1 0 none .none .first .any 1 20
    let bad : JobFields → Bool := fun g => run (.jobCreate g) ready == ready.answer 0x50 .badField .none
    bad { f with number := 0 } = true ∧ bad { f with imageSlot := 4 } = true ∧ bad { f with label := 8 } = true ∧
    bad { f with label := 254 } = true ∧ bad { f with label := 0, printOrder := 2 } = true ∧
    bad { f with verifyMode := 3 } = true ∧ bad { f with verifyStop := 2 } = true ∧ bad { f with spindle := 3 } = true ∧
    bad { f with copies := 0 } = true ∧ bad { f with copies := 10000 } = true ∧ bad { f with rejectLimit := 21 } = true ∧
    bad f = false ∧ bad { f with printOrder := 2 } = false := by dsimp only; decide +kernel

/-- Every refusal in its order, and the lowest free slot. -/
theorem test_JobCreateTakesTheLowestFreeSlot :
    let s : State := withImage image0 ready
    let bare : State := { s with printer := none }
    let full : State := { s with jobs := { s.jobs with slots := .replicate 8 (some job0) } }
    run (create 1 none .none) State.reset = State.reset.answer 0x50 .busy .none ∧
    run (create 7 none .none) (withJob job0 s) = (withJob job0 s).answer 0x50 .inUse .none ∧
    run (create 1 none .none) ready = ready.answer 0x50 .noSuch .none ∧
    run (create 1 (some (0, .printFirst)) .none) bare = bare.answer 0x50 .notFitted .none ∧
    run (create 1 (some (0, .printFirst)) .none) s = s.answer 0x50 .noSuch .none ∧
    run (create 1 none .full) (withImage streaming0 ready) = (withImage streaming0 ready).answer 0x50 .needsResident .none ∧
    run (create 1 none .full) full = full.answer 0x50 .busy .none ∧
    ((run (create 1 none .full) (withJob job0 s)).job 1).map Job.copies = some 9999 ∧
    (run (create 1 none .full) (withJob job0 s)).dispatchWanted = true ∧
    ((run (create 1 (some (0, .burnFirst)) .digest) (withLabel label0 s)).job 0).map Job.printOrder = some (some .burnFirst) := by
  dsimp only; decide +kernel

/-- The job of `withJob` is the only one with its number. -/
theorem onlyJob_withJob (j : Job) (s : State) (h : s.jobs.slots = .replicate 8 none) : (withJob j s).onlyJob 0 j := by
  have hs : ∀ m, (withJob j s).job m = (Vector.set (.replicate 8 none) 0 (some j) : Vector (Option Job) 8)[m.val] := by
    intro m; unfold State.job withJob; simp only [h]
  refine ⟨by rw [hs]; exact Vector.getElem_set_self _, fun m i hm _ => ?_⟩
  rw [hs, Vector.getElem_set] at hm
  by_cases h0 : (0 : Nat) = m.val
  · exact Fin.ext h0.symm
  · simp [h0] at hm

/-- ACTIVE, HELD, COMPLETE and CANCELLING, and a number that no job has. -/
theorem test_JobsAreHeldReleasedAndRemoved :
    (withJob job0 ready).onlyJob 0 job0 ∧ job0.number = (7#16).toNat ∧
    ((run (.jobHold 7) (withJob job0 ready)).job 0).map Job.state = some (.held .host) ∧
    ((run (.jobRelease 7) (withJob { job0 with state := .held .rejectLimit, good := 2 } ready)).job 0).map Job.state =
      some .filled ∧
    (run (.jobRelease 7) (withJob { job0 with state := .held .rejectLimit, good := 2 } ready)).dispatchWanted = true ∧
    (run (.jobRelease 7) (withJob { job0 with state := .held .rejectLimit, good := 2 } State.reset)).dispatchWanted = false ∧
    (run (.jobRelease 7) (withJob { job0 with state := .held .host } ready)).dispatchWanted = true ∧
    (run (.jobRemove 7) (withJob { job0 with state := .complete } ready)).jobs = ready.jobs ∧
    run (.jobHold 7) (withJob { job0 with state := .cancelling } ready) =
      (withJob { job0 with state := .cancelling } ready).answer 0x51 .state .none ∧
    run (.jobHold 8) (withJob job0 ready) = (withJob job0 ready).answer 0x51 .noSuch .none :=
  ⟨onlyJob_withJob _ _ rfl, by decide +kernel⟩

/-- What a rejected disc's bay, disc and unload look like. -/
def rejectedAs (t : State) (why : RejectReason) : Bool :=
  (t.bay 0).state == .awaitUnload && (t.bay 0).dest == some .reject && (t.bay 0).out.isNone && (t.bay 0).burn.isNone &&
    (t.disc 1).map Disc.disposition == some (.reject why) && (t.disc 1).map Disc.stage == some .toOut &&
    t.trans.queue == [.posted .unload (.bay 0) (.bay 0) (.bin .reject) 1 none] && t.governor.queue == []

/-- A LOAD of disc 1 from spindle A to bay 0. -/
def load0 : MoveReq := .posted .load (.bay 0) (.spindle .a) (.bay 0) 1 none

def queued1 : Disc := { disc1 with location := .spindle .a, stage := .queued, media := none }

/-- Job 0 with disc 1 queued for bay 0. -/
def loading0 : State := withQueue [load0] (withBay (bay0 .awaitDisc) (working job1 queued1))

/-- By number and state; no disc in flight; a disc at the printer; a disc whose LOAD is queued. -/
theorem test_JobCancelEndsTheJob :
    let prn : State := working job1 { disc1 with location := .prn, stage := .inPrinter }
    (withJob job1 (withDisc queued1 (withImage image0 ready))).onlyJob 0 job1 ∧
    run (.jobCancel 0) ready = ready.answer 0x53 .badField .none ∧
    run (.jobCancel 8) (withJob job0 ready) = (withJob job0 ready).answer 0x53 .noSuch .none ∧
    ((run (.jobCancel 7) (withJob job0 ready)).job 0).map Job.state = some .cancelled ∧
    (run (.jobCancel 7) prn).discs.records =
      [{ disc1 with location := .prn, stage := .inPrinter, disposition := .reject .cancelled }] ∧
    ((run (.jobCancel 7) prn).job 0).map Job.state = some .cancelling ∧
    loading0.discs.records = [queued1] ∧ loading0.trans.queue = [load0] ∧ (loading0.bay 0).state = .awaitDisc ∧
    (run (.jobCancel 7) loading0).discs.records = [] ∧ ((run (.jobCancel 7) loading0).bay 0).state = .empty ∧
    (run (.jobCancel 7) loading0).trans.queue = [] ∧
    ((run (.jobCancel 7) loading0).job 0).map (fun j => (j.state, j.started)) = some (.cancelled, 0) :=
  ⟨onlyJob_withJob _ _ rfl, by dsimp only; decide +kernel⟩

/-- A LOAD that waits, one granted, one interrupted, a SWAP's second leg queued and held; a disc on the arm in a journey, interrupted, and set on the tray; one in a working bay, in AWAIT_UNLOAD and in FAULT. -/
theorem test_jobCancel_byPlace :
    let c : Instr := .jobCancel 7
    let waits : State := { loading0 with trans := { loading0.trans with
      queue := [.posted .clear (.bay 0) .prn (.bin .reject) 5 none], waiting := [load0] } }
    let granted : State := withArm .granted (withQueue [{ load0 with granted := true }] loading0)
    let swap : MoveReq := { load0 with
      kind := .swap, source := .bay 0, disc := 5, second := some { spindle := .a, bay := 0, disc := 1, dest := .bay 0 } }
    let held : State := withArm .held (withQueue [{ swap with granted := true }] loading0)
    let arm : Option HandStep → MoveReq → State := fun h r =>
      let s := withArm .carrying (withQueue [r] (withBay { bay0 .awaitDisc with
        out := some { req := .trayClose, number := 1, deadline := 9 } } (working job1 { disc1 with
          location := .arm, stage := .onArm })))
      { s with trans := { s.trans with handover := h } }
    let bay : BayState → State := fun st => withBay (bay0 st) (working job1 disc1)
    let back : State :=
      let s := arm (some .discMoved) { load0 with granted := true }
      { s with trans := { s.trans with moveTimer := some 9 } }
    (run c back).trans.handover = some .retake ∧ (run c back).trans.moveTimer = some 9 ∧ (run c back).trans.ackTimer = none ∧
    (run (.arrival false) (run c back)).trans.ackTimer.isSome = true ∧
    (let stopped : State := withArm .stopped (arm (some .discMoved) { load0 with interrupted := true })
     (run c stopped).trans.handover = some .retake ∧ (run c stopped).trans.arm = .stopped) ∧
    (let prn : State := arm (some .discMoved) { load0 with kind := .printIn, dest := .prn, granted := true }
     (run c prn).trans.handover = some .retake ∧ (run c prn).printer.map Printer.clampOpen = some false ∧
     ((run c prn).bay 0).disc = none) ∧
    (run c waits).trans.waiting = [] ∧ (run c waits).discs.records = [] ∧ (run c waits).trans.queue.length = 1 ∧
    (run c granted).trans.arm = .idle ∧ (run c granted).trans.queue = [] ∧ ((run c granted).bay 0).state = .empty ∧
    (run c (withQueue [{ load0 with interrupted := true }] loading0)).trans.queue = [] ∧
    (run c (withBay (bay0 .awaitUnload) (withQueue [swap] loading0))).trans.queue =
      [{ swap with kind := .unload, second := none }] ∧
    ((run c (withBay (bay0 .awaitUnload) (withQueue [swap] loading0))).bay 0).state = .awaitUnload ∧
    (run c held).trans.arm = .idle ∧ (run c held).trans.queue = [] ∧ ((run c held).bay 0).state = .empty ∧
    (run c (arm none { load0 with granted := true })).trans.queue =
      [{ load0 with granted := true, dest := .bin .reject }] ∧
    (run c (arm none { load0 with granted := true })).discs.records =
      [{ disc1 with location := .arm, stage := .toOut, disposition := .reject .cancelled }] ∧
    ((run c (arm none { load0 with granted := true })).bay 0).disc = none ∧
    (run c (arm none { load0 with interrupted := true })).trans.queue =
      [{ load0 with interrupted := true, dest := .bin .reject }] ∧
    (run c (arm (some .discMoved) { load0 with granted := true })).trans.handover = some .retake ∧
    ((run c (arm (some .discMoved) { load0 with granted := true })).bay 0).out = none ∧
    rejectedAs (run c (bay .burning)) .cancelled = true ∧
    (run c (bay .awaitUnload)).discs = (bay .awaitUnload).discs ∧ (run c (bay .fault)).bays = (bay .fault).bays ∧
    ((run c (bay .fault)).job 0).map Job.state = some .cancelling := by dsimp only; decide +kernel

/-- A job of four: disc 1 queued for bay 0, disc 2 on the arm for bay 1, disc 3 burning in bay 2, disc 4 at PRN; beside them the unloads of bays 3 and 4, and a post to REJECT that waits. -/
def fourDiscs : State :=
  let s := withJob { job0 with copies := 4, started := 4, inFlight := 4, state := .filled } (withImage image0 ready)
  let r : Bay := bay0 .awaitDisc
  let other : Nat → BayId → MoveReq := fun n b => .posted .unload (.bay b) (.bay b) (.bin .out) n none
  { s with
    discs := { s.discs with counter := 5, records := [queued1,
      { disc1 with number := 2, location := .arm, stage := .onArm, target := some 1 },
      { disc1 with number := 3, location := .bay 2, target := some 2 },
      { disc1 with number := 4, location := .prn, stage := .inPrinter }] }
    bays := ((s.bays.set 0 r).set 1 { r with disc := some 2 }).set 2 { bay0 .burning with disc := some 3 }
    trans := { s.trans with
      arm := .carrying
      queue := [other 8 3, load0, { load0 with requester := .bay 1, dest := .bay 1, disc := 2, granted := true },
        other 9 4]
      waiting := [.posted .clear (.bay 3) .prn (.bin .reject) 8 none] } }

/-- Several discs at once: the three counts, each disc by its place, and the other requests in their order; two QUEUED ones leave the job CANCELLED. -/
theorem test_jobCancel_severalDiscs :
    let c : Instr := .jobCancel 7
    let t := run c fourDiscs
    let two : State :=
      let s := withJob { job0 with started := 2, inFlight := 2, state := .filled } loading0
      { s with
        discs := { s.discs with records := [queued1, { queued1 with number := 2, target := some 1 }] }
        bays := s.bays.set 1 { bay0 .awaitDisc with disc := some 2 }
        trans := { s.trans with queue := [{ load0 with requester := .bay 1, dest := .bay 1, disc := 2 }, load0] } }
    t.link.outbound = [.reply 0x53 0 .ok false false (.cancelled 1 3 3)] ∧
    (t.job 0).map (fun j => (j.state, j.started, j.inFlight)) = some (.cancelling, 3, 3) ∧
    t.discs.records.map (fun d => (d.number, d.stage, d.disposition)) =
      [(2, .toOut, .reject .cancelled), (3, .toOut, .reject .cancelled), (4, .inPrinter, .reject .cancelled)] ∧
    t.trans.queue.map (fun r => (r.disc, r.dest)) =
      [(8, .bin .out), (2, .bin .reject), (9, .bin .out), (3, .bin .reject)] ∧
    t.trans.waiting.length = 1 ∧ t.trans.arm = .carrying ∧ (t.bay 0).state = .empty ∧ (t.bay 1).state = .empty ∧
    (t.bay 2).state = .awaitUnload ∧
    (run c two).link.outbound = [.reply 0x53 0 .ok false false (.cancelled 2 0 0)] ∧
    ((run c two).job 0).map (fun j => (j.state, j.started, j.inFlight)) = some (.cancelled, 0, 0) ∧
    (run c two).trans.queue = [] ∧ (run c two).discs.records = [] ∧
    (run c two).status.pending.getLsbD 1 = true := by dsimp only; decide +kernel

theorem test_JobQueryAndDiscResultsReport :
    run (.jobQuery 8) (withJob job0 ready) = (withJob job0 ready).answer 0x55 .noSuch .none ∧
    (run (.jobQuery 7) (working job1 disc1)).jobs = (working job1 disc1).jobs ∧
    (run .discResults { ready with discs := { ready.discs with dropped := 3 } }).discs.dropped = 0 := by decide +kernel

theorem test_RunModeFollowsItsTable :
    let draining : State := { ready with jobs := { ready.jobs with runMode := .draining } }
    run .towerPause State.reset = State.reset.answer 0x72 .busy (.runMode .run) ∧
    run .towerResume State.reset = State.reset.answer 0x73 .busy (.runMode .run) ∧
    run .towerDrain State.reset = State.reset.answer 0x74 .busy (.runMode .run) ∧
    (run .towerPause ready).jobs.runMode = .paused ∧
    run .towerPause draining = draining.answer 0x72 .state (.runMode .draining) ∧
    (run .towerResume draining).jobs.runMode = .run ∧ (run .towerResume draining).dispatchWanted = true ∧
    (run .towerResume ready).dispatchWanted = false ∧
    (run .towerDrain { ready with discs := { ready.discs with orphanWait := [.arm] } }).jobs.runMode = .draining ∧
    (run .towerDrain (withDisc disc1 ready)).jobs.runMode = .draining ∧
    (run .towerDrain ready).jobs.runMode = .paused ∧
    (run .towerDrain ready).status.pending = 1#16 <<< 14 := by dsimp only; decide +kernel

/-- Job 0 eligible and bay 0 the one free bay. -/
def toDispatch (j : Job) : State := withBay { Bay.afterReset with state := .empty } (withJob j (withImage image0 ready))

/-- Two EMPTY bays; an older ACTIVE job wants a spindle that is empty, the younger one wants a copy or two; then a job that no spindle can serve. -/
theorem test_dispatch_passesOver :
    let s : Nat → State := fun copies =>
      let t := toDispatch { job0 with spindle := .b }
      { t with
        bays := t.bays.set 1 { Bay.afterReset with state := .empty }
        trans := { t.trans with spindleB := .empty }
        jobs := { t.jobs with slots := t.jobs.slots.set 1 (some { job0 with number := 8, copies }), order := [0, 1] } }
    let none : State := withJob { job0 with spindle := .b } (s 2)
    (run .dispatchEvaluation (s 1)).discs.records.map (fun d => (d.number, d.job, d.target)) = [(1, some 1, some 0)] ∧
    (run .dispatchEvaluation (s 2)).discs.records.map (fun d => (d.number, d.job, d.target)) =
      [(1, some 1, some 0), (2, some 1, some 1)] ∧
    (run .dispatchEvaluation (s 2)).trans.queue.map MoveReq.dest = [.bay 0, .bay 1] ∧
    ((run .dispatchEvaluation (s 1)).job 1).map Job.state = some .filled ∧
    run .dispatchEvaluation { none with dispatchWanted := true } = none := by dsimp only; decide +kernel

/-- A dispatch from spindle A, one from B, one that prints first, one whose bay still has a request in the queue; orphan records for a bay, the arm and the printer. -/
theorem test_DispatchAndOrphansMakeRecords :
    let waits : OrphanAt → State := fun w => { ready with discs := { ready.discs with orphanWait := [w] } }
    (toDispatch job0).discs.taken 1 = false ∧ (toDispatch job0).spindle .a = .ready ∧
    ((toDispatch job0).bay 0).state = .empty ∧ (∀ m, m ≠ 0 → ((toDispatch job0).bay m).state ≠ .empty) ∧
    (run .dispatchEvaluation (toDispatch job0)).trans.queue = [load0] ∧
    (run .dispatchEvaluation (toDispatch job0)).discs.records = [queued1] ∧
    (run .dispatchEvaluation { toDispatch job0 with trans := { (toDispatch job0).trans with
      spindleA := .empty } }).trans.queue = [{ load0 with source := .spindle .b }] ∧
    (run .dispatchEvaluation (toDispatch { job0 with label := some 0, printOrder := some .printFirst })).trans.queue =
      [{ load0 with kind := .printIn, dest := .prn }] ∧
    (run .dispatchEvaluation (withQueue [{ load0 with kind := .unload }] (toDispatch job0))).trans.queue =
      [{ load0 with kind := .unload }] ∧
    (run .dispatchEvaluation (withQueue [{ load0 with kind := .unload }] (toDispatch job0))).trans.waiting = [load0] ∧
    run .dispatchEvaluation (waits .arm) = waits .arm ∧
    (run .orphanCreationGrant (waits (.bay 3))).trans.queue =
      [.posted .unload (.bay 3) (.bay 3) (.bin .reject) 1 none] ∧
    (run .orphanCreationGrant (waits .arm)).discs.records = [.orphan 1 .arm] ∧
    (run .orphanCreationGrant (waits .arm)).trans = (waits .arm).trans ∧
    (run .orphanCreationGrant (withArm (.homing .awaitRecord) (waits .arm))).trans.arm = .homing .carry ∧
    (run .orphanCreationGrant (withArm (.homing .awaitRecord) (waits .arm))).trans.moveTimer = some 12000 ∧
    (run .orphanCreationGrant (waits .prn)).printer.map Printer.trayDisc = some (some 1) := by dsimp only; decide +kernel

/-! ## Bays -/

/-- Bay 0 with a request of a kind outstanding under number 1, due at 100. -/
def asked (st : BayState) (req : DriveReq) : Bay :=
  { bay0 st with requestNumber := 1, out := some { req, number := 1, deadline := 100 } }

/-- Bay 0 alone changed, with disc 1 of job 0 in it. -/
def atBay (r : Bay) : State := withBay r (working job1 disc1)

/-- Every state of a bay that a clause names, and each refusal. -/
theorem test_BayRequestsActByState :
    let at_ : BayState → State := fun st => withBay (bay0 st) ready
    let four : State := { ready with settings := { ready.settings with fittedBays := 4 } }
    ((run (.bayOffline 0) (withBay { Bay.afterReset with state := .empty } ready)).bay 0).state = .offline ∧
    run (.bayOffline 0) ready = ready.answer 0x61 .ok (.bayState .offline) ∧
    run (.bayOffline 0) (at_ .fault) = (at_ .fault).answer 0x61 .state .none ∧
    ((run (.bayOffline 0) (at_ .burning)).bay 0).offlineAfter = true ∧
    run (.bayOnline 0) (at_ .burning) = (at_ .burning).answer 0x62 .state .none ∧
    run (.bayOnline 0) (at_ .empty) = (at_ .empty).answer 0x62 .state .none ∧
    (run (.bayOnline 11) ready).bay 11 = Bay.underSurvey 0 ∧
    run (.bayOnline 0) State.reset = State.reset.answer 0x62 .busy .none ∧
    run (.bayOffline 12) ready = ready.answer 0x61 .badField .none ∧
    run (.bayOnline 4) four = four.answer 0x62 .notFitted .none ∧
    run (.bayQuery 4) four = four.answer 0x60 .notFitted .none ∧
    run (.bayQuery 12) ready = ready.answer 0x60 .badField .none ∧
    (run (.bayQuery 255) ready).bays = ready.bays ∧
    (let q : State := { at_ .admitWait with governor := { queue := [⟨5, none⟩, ⟨0, some 2⟩], sum := 0 } }
     (q.bayReport 0).place = some 2 ∧ (q.bayReport 0).offered = some 2 ∧ (q.bayReport 0).lead = none ∧
     (q.bayReport 1).place = none ∧
     (run (.bayQuery 0) q).link.outbound = [.reply 0x60 0 .ok false false (.bay (q.bayReport 0))]) := by
  dsimp only; decide +kernel

/-- NOT_READY, a disc that passes every test, each test failing first, and another kind. -/
theorem test_IdentifyTestsTheDisc :
    let s : State := atBay { asked .ident .identify with identDeadline := some 30000, facts := none }
    let c : DriveFacts → Instr := fun f => .identifyComplete 0 1 .ok f
    (s.bay 0).state = .ident ∧ (s.bay 0).out = some { req := .identify, number := 1, deadline := 100 } ∧
    (s.bay 0).survey = false ∧ (s.bay 0).disc = some 1 ∧ s.disc 1 = some disc1 ∧ (s.bay 0).imageSlot = some 0 ∧
    s.image 0 = some image0 ∧ facts0.rates.IsChain (· < ·) ∧
    ((run (.identifyComplete 0 1 .notReady facts0) s).bay 0).retryTimer = some 500 ∧
    ((run (c { facts0 with capacity := 40, rates := [1] }) s).bay 0).state = .admitWait ∧
    (run (c facts0) s).governor.queue = [{ bay := 0, admitting := none }] ∧
    rejectedAs (run (c { facts0 with discPresent := false }) s) .handling = true ∧
    rejectedAs (run (c { facts0 with rates := [] }) s) .wrongMedia = true ∧
    rejectedAs (run (c { facts0 with rates := [2, 2] }) s) .wrongMedia = true ∧
    rejectedAs (run (c { facts0 with rates := [1, 2, 3, 4, 5, 6, 7] }) s) .wrongMedia = true ∧
    rejectedAs (run (c { facts0 with blank := false, media := .h }) s) .notBlank = true ∧
    rejectedAs (run (c { facts0 with media := .h, capacity := 39 }) s) .wrongMedia = true ∧
    rejectedAs (run (c { facts0 with capacity := 39 }) s) .shortMedia = true ∧
    rejectedAs (run (.identifyComplete 0 1 .refused facts0) s) .wrongMedia = true := by dsimp only; decide +kernel

/-- A survey that finds no disc, with offline-after too, one that finds a disc, one of a bay that holds a disc, found and gone, and a retry. -/
theorem test_SurveysAndRetriesEnd :
    let r : Bay := { Bay.underSurvey 0 with offlineAfter := true }
    let f : DriveFacts := { facts0 with discPresent := false }
    let holds : State := withBay { Bay.underSurvey 0 with disc := some 1, job := some 0 }
      (working job1 { disc1 with media := none, disposition := .reject .driveTimeout })
    ((run (.identifyComplete 0 1 .ok facts0) holds).disc 1).map (fun d => (d.media, d.disposition, d.stage)) =
      some (some .m, .reject .driveTimeout, .toOut) ∧
    ((run (.identifyComplete 0 1 .mediaError facts0) holds).disc 1).map Disc.media = some none ∧
    (run (.identifyComplete 0 1 .ok f) holds).discs.completions.map Completion.disposition = [.reject .driveTimeout] ∧
    (let lost : State := run (.identifyComplete 0 1 .ok f) (holds.modBay 0 fun r => { r with offlineAfter := true })
     (lost.bay 0).state = .empty ∧ (lost.bay 0).offlineAfter = true ∧ lost.dispatchWanted = true) ∧
    ((run (.identifyComplete 0 1 .ok f) holds).bay 0).state = .empty ∧
    ((run (.identifyComplete 0 1 .ok f) (withBay (Bay.underSurvey 0) ready)).bay 0).state = .empty ∧
    ((run (.identifyComplete 0 1 .ok f) (withBay r ready)).bay 0).state = .offline ∧
    (run (.identifyComplete 0 1 .refused f) (withBay (Bay.underSurvey 0) ready)).discs.records = [.orphan 1 (.bay 0)] ∧
    ((run (.identifyComplete 0 1 .ok facts0) (withBay (Bay.underSurvey 0) ready)).bay 0).dest = some .reject ∧
    ((run (.identifyRetryTimerExpiry 0) (atBay { bay0 .ident with retryTimer := some 500, identDeadline := some 30000 })).bay 0).out =
      some { req := .identify, number := 1, deadline := 30000 } ∧
    run (.identifyRetryTimerExpiry 0) ready = ready := by dsimp only; decide +kernel

/-- Bay 0 feeding at a rate of 1000, its WRITE of 8 sectors at a cursor outstanding. -/
def writing (st : BayState) (cursor : Nat) : Bay :=
  { asked st (.write cursor 8 []) with
    cursor := some cursor, buffer := some 10, burn := some { step := 0, rate := 1000, stable := 2 }, reserveTimer := some 250 }

def fedState (r : Bay) : State :=
  { withImage { image0 with consumers := [0] } (atBay r) with governor := { queue := [], sum := 1000 } }

/-- A WRITE in the middle, one that lets the head segment of a STREAMING window go, the last one, UNDERRUN in SUSPENDED and in BURNING, and the other kinds. -/
theorem test_WriteCompletionAdvancesOrEndsTheBurn :
    let w : CompletionKind → Instr := fun k => .writeComplete 0 1 k 5000
    let two : Image := { image0 with
      state := .filling, size := 2048, fill := 522, window := [segment 512, segment 10], residency := .streaming 2 false
      consumers := [0] }
    let s : State := { withImage two (atBay (writing .burning 504)) with governor := { queue := [], sum := 1000 } }
    ((run (w .ok) s).image 0).map (fun i => (i.base, i.window.length, i.gate)) = some (512, 1, .closed) ∧
    (run (w .ok) s).staging.freeSegments = 2047 ∧
    ((fedState (writing .burning 8)).bay 0).cursor = some 8 ∧
    (fedState (writing .burning 8)).image 0 = some { image0 with consumers := [0] } ∧
    ((run (w .ok) (fedState (writing .burning 8))).bay 0).cursor = some 16 ∧
    ((run (w .ok) (fedState (writing .burning 8))).bay 0).buffer = some 4096 ∧
    ((run (w .ok) (fedState (writing .suspended 32))).bay 0).state = .closing ∧
    (run (w .ok) (fedState (writing .burning 32))).governor.sum = 0 ∧
    ((run (w .ok) (fedState (writing .burning 32))).image 0).map Image.consumers = some [] ∧
    ((run (w .underrun) (fedState (writing .suspended 8))).bay 0).out = none ∧
    rejectedAs (run (w .underrun) (fedState (writing .burning 8))) .underrun = true ∧
    (run (w .underrun) (fedState (writing .burning 8))).cond .underrun = true ∧
    rejectedAs (run (w .mediaError) (fedState (writing .burning 8))) .writeError = true ∧
    rejectedAs (run (w .refused) (fedState (writing .suspended 8))) .writeError = true := by dsimp only; decide +kernel

/-- Sectors that carry their index. -/
def numbered (from_ n : Nat) : Segment := (List.range n).map fun x => [BitVec.ofNat 8 (from_ + x)]

/-- Bay 0 with a WRITE of 8 sectors from `cursor` outstanding, at a step with a stable count, its image staged to 532. -/
def feeding (st : BayState) (cursor step stable size : Nat) (suspend : Bool) : State :=
  let r : Bay := { writing st cursor with
    burn := some { step, rate := 1000 * (step + 1), stable }, facts := some { facts0 with suspendSupported := suspend } }
  { withImage { image0 with
      state := if size = 532 then .complete else .filling, size, fill := 532
      window := [numbered 0 512, numbered 512 20], consumers := [0] } (atBay r) with
    governor := { queue := [], sum := 1000 * (step + 1) } }

/-- The request that stands on bay 0's port after a command. -/
def issues (c : Instr) (s : State) (req : Option DriveReq) : Bool :=
  ((run c s).bay 0).out.map Outstanding.req == req

/-- A WRITE of numbered sectors. -/
def writeOf (start count : Nat) : Option DriveReq := some (.write start count (numbered start count).flatten)

/-- WRITE OK between W_l and W_r: the next WRITE has 32 sectors, those up to the segment's end, those up to the fill point, or there is none at the fill point; its number and deadline. By the lead: SUSPEND, a step down, none lower, a step up, none higher; a bay in SUSPENDED is resumed, or stays. -/
theorem test_writeOk_feedsOn :
    let w : Nat → Instr := fun buffer => .writeComplete 0 1 .ok buffer
    let at_ : Nat → State := fun c => feeding .burning c 0 2 40000 true
    issues (w 3000) (at_ 8) (writeOf 16 32) = true ∧
    issues (w 3000) (at_ 480) (writeOf 488 24) = true ∧
    issues (w 3000) (at_ 504) (writeOf 512 20) = true ∧
    issues (w 3000) (at_ 524) none = true ∧
    (((run (w 3000) (at_ 8)).bay 0).out.map fun o => (o.number, o.deadline)) = some (2, 3000) ∧
    ((run (w 3000) (at_ 8)).bay 0).burn.map Burn.stable = some 0 ∧
    issues (w 0) (at_ 504) none = true ∧ ((run (w 0) (at_ 504)).bay 0).susp = some { number := 2, deadline := 2000 } ∧
    issues (w 0) (feeding .burning 504 1 2 40000 false) (some (.speed 0)) = true ∧
    issues (w 0) (feeding .burning 504 0 2 40000 false) (writeOf 512 20) = true ∧
    (run (w 0) (feeding .burning 504 0 2 40000 false)).cond .reserveLow = true ∧
    issues (w 0) (feeding .burning 504 0 4 532 true) (some (.speed 1)) = true ∧
    (run (w 0) (feeding .burning 504 0 4 532 true)).governor.sum = 2000 ∧
    issues (w 0) (feeding .burning 504 1 4 532 true) (writeOf 512 20) = true ∧
    ((run (w 0) (feeding .burning 504 1 4 532 true)).bay 0).burn.map Burn.stable = some 5 ∧
    issues (w 0) (feeding .suspended 504 0 4 532 true) (some .resume) = true ∧
    issues (w 0) (feeding .suspended 504 0 4 40000 true) none = true := by dsimp only; decide +kernel

/-- The feed test after SPEED, OK and refused, after a refused SUSPEND and after RESUME OK; none beside a WRITE outstanding, nor in SUSPENDED. -/
theorem test_completions_feedOn :
    let on : Nat → Option DriveReq → Bool → BayState → State := fun step out susp st =>
      let s := feeding st 16 step 2 40000 true
      withBay { s.bay 0 with
        out := out.map fun req => { req, number := 1, deadline := 9 }
        susp := if susp then some { number := 1, deadline := 9 } else none } s
    issues (.speedComplete 0 1 .ok) (on 1 (some (.speed 0)) false .burning) (writeOf 16 32) = true ∧
    issues (.speedComplete 0 1 .ok) (on 0 (some (.speed 1)) false .burning) (writeOf 16 32) = true ∧
    issues (.speedComplete 0 1 .ok) (on 1 (some (.speed 1)) false .burning) (writeOf 16 32) = true ∧
    issues (.speedComplete 0 1 .refused) (on 1 (some (.speed 0)) false .burning) (writeOf 16 32) = true ∧
    issues (.speedComplete 0 1 .refused) (on 0 (some (.speed 1)) false .burning) (writeOf 16 32) = true ∧
    issues (.suspendComplete 0 1 .refused) (on 0 none true .burning) (writeOf 16 32) = true ∧
    issues (.suspendComplete 0 1 .refused) (on 0 (some (.write 8 8 [])) true .burning) (some (.write 8 8 [])) = true ∧
    issues (.suspendComplete 0 1 .ok) (on 0 none true .burning) none = true ∧
    issues (.resumeComplete 0 1 .ok) (on 0 (some .resume) false .suspended) (writeOf 16 32) = true ∧
    issues (.resumeComplete 0 1 .refused) (on 0 (some .resume) false .suspended) none = true := by dsimp only; decide +kernel

/-- IMAGE DATA feeds the bay that waits at the fill point, in a window that has room and in one that takes a segment; none in SUSPENDED. -/
theorem test_imageData_feeds :
    let waits : BayState → Nat → Image → State := fun st cursor i =>
      withBay { writing st cursor with out := none } (withImage { i with consumers := [0] } (working job1 disc1))
    let d : List Byte := List.replicate 2048 7
    issues (.imageData 0 1 2 d) (waits .burning 2 (filling 2)) (some (.write 2 1 d)) = true ∧
    issues (.imageData 0 1 512 d) (waits .burning 512 (edge 8)) (some (.write 512 1 d)) = true ∧
    issues (.imageData 0 1 512 d) (waits .burning 512 (edge 1)) (some (.write 512 1 d)) = true ∧
    issues (.imageData 0 1 2 d) (waits .suspended 2 (filling 2)) none = true := by dsimp only; decide +kernel

/-- Bay 0 in BURNING at step 0 or 1 with SPEED outstanding. -/
def speeding (step goal : Nat) : Bay :=
  { writing .burning 8 with out := some { req := .speed goal, number := 1, deadline := 100 }
                            burn := some { step, rate := 2000, stable := 2 } }

def speedState (step goal : Nat) : State := { fedState (speeding step goal) with governor := { queue := [], sum := 2000 } }

/-- A step down, a step up, the same step, a step up refused, an UNDERRUN; SUSPEND and RESUME, OK and refused. -/
theorem test_SpeedSuspendAndResumeComplete :
    let susp : State := fedState { writing .burning 8 with susp := some { number := 1, deadline := 9 } }
    let resu : State := fedState { writing .suspended 8 with out := some { req := .resume, number := 1, deadline := 9 } }
    ((run (.speedComplete 0 1 .ok) (speedState 1 0)).bay 0).burn = some { step := 0, rate := 1000, stable := 0 } ∧
    (run (.speedComplete 0 1 .ok) (speedState 1 0)).governor.sum = 1000 ∧
    ((run (.speedComplete 0 1 .ok) (speedState 1 0)).disc 1).map Disc.stepDowns = some 1 ∧
    ((run (.speedComplete 0 1 .ok) (speedState 0 1)).bay 0).burn = some { step := 1, rate := 2000, stable := 2 } ∧
    ((run (.speedComplete 0 1 .ok) (speedState 1 1)).bay 0).burn = some { step := 1, rate := 2000, stable := 2 } ∧
    ((run (.speedComplete 0 1 .refused) (speedState 0 1)).bay 0).burn = some { step := 0, rate := 1000, stable := 0 } ∧
    (run (.speedComplete 0 1 .refused) (speedState 0 1)).governor.sum = 1000 ∧
    ((run (.speedComplete 0 1 .refused) (speedState 1 0)).bay 0).burn = some { step := 1, rate := 2000, stable := 2 } ∧
    (run (.speedComplete 0 1 .refused) (speedState 1 0)).governor.sum = 2000 ∧
    rejectedAs (run (.suspendComplete 0 1 .underrun) susp) .underrun = true ∧
    (run (.suspendComplete 0 1 .underrun) susp).status.pending = 1#16 <<< 7 ∧
    rejectedAs (run (.speedComplete 0 1 .underrun) (speedState 0 1)) .underrun = true ∧
    ((run (.suspendComplete 0 1 .ok) susp).bay 0).state = .suspended ∧
    ((run (.suspendComplete 0 1 .ok) susp).bay 0).burn.map Burn.stable = some 0 ∧
    ((run (.suspendComplete 0 1 .ok) susp).disc 1).map Disc.suspends = some 1 ∧
    ((run (.suspendComplete 0 1 .refused) susp).bay 0).state = .burning ∧
    ((run (.resumeComplete 0 1 .ok) resu).bay 0).state = .burning ∧
    ((run (.resumeComplete 0 1 .refused) resu).bay 0).state = .suspended ∧
    rejectedAs (run (.resumeComplete 0 1 .underrun) resu) .underrun = true := by dsimp only; decide +kernel

/-- Bay 0 at a step with a lead of `lead` ms at 1000 sectors/s: a half staged image of 40,000 sectors. -/
def leadState (st : BayState) (step lead : Nat) (suspend : Bool) : State :=
  let r : Bay := { bay0 st with
    cursor := some 0, buffer := some (lead * (step + 1)), burn := some { step, rate := 1000 * (step + 1), stable := 4 }
    reserveTimer := some 0, facts := some { facts0 with suspendSupported := suspend } }
  { withImage { image0 with state := .filling, size := 40000, fill := 0, consumers := [0] } (atBay r) with
    governor := { queue := [], sum := 1000 } }

/-- Critical with and without SUSPEND, low, at the lowest step, between, high without and with room, SUSPENDED. -/
theorem test_ReserveCheckTakesItsCase :
    let out : State → Option DriveReq := fun t => (t.bay 0).out.map Outstanding.req
    let c : Instr := .reserveTimerExpiry 0
    (leadState .burning 0 499 true).lead 0 = some 499 ∧ ready.settingNat 3 = 500 ∧ ready.settingNat 4 = 2000 ∧
    ready.settingNat 5 = 6000 ∧ ready.settingNat 6 = 5 ∧
    ((run c (leadState .burning 1 499 true)).bay 0).susp = some { number := 1, deadline := 2000 } ∧
    out (run c (leadState .burning 1 499 false)) = some (.speed 0) ∧
    (run c (leadState .burning 0 499 false)).cond .reserveLow = true ∧
    out (run c (leadState .burning 1 500 true)) = some (.speed 0) ∧
    (run c (leadState .burning 0 1999 true)).status.pending = 1#16 <<< 6 ∧
    ((run c (leadState .burning 0 2000 true)).bay 0).burn = some { step := 0, rate := 1000, stable := 0 } ∧
    ((run c (leadState .burning 1 6000 true)).bay 0).burn = some { step := 1, rate := 2000, stable := 5 } ∧
    out (run c (leadState .burning 0 6000 true)) = some (.speed 1) ∧
    (run c (leadState .burning 0 6000 true)).governor.sum = 2000 ∧
    out (run c (leadState .suspended 0 6000 true)) = some .resume ∧
    out (run c (leadState .suspended 0 5999 true)) = none := by dsimp only; decide +kernel

/-- Orders on a busy port: SUSPEND beside a WRITE, no second SUSPEND, and every other order declined. -/
theorem test_reserveCheck_busyPort :
    let c : Instr := .reserveTimerExpiry 0
    let busy : BayState → Nat → Nat → Option DriveReq → Bool → State := fun st step lead out susp =>
      let s := leadState st step lead true
      withBay { s.bay 0 with
        out := out.map fun r => { req := r, number := 7, deadline := 9 }
        susp := if susp then some { number := 8, deadline := 9 } else none } s
    let w : Option DriveReq := some (.write 0 1 [])
    let stands : State → Bool := fun s =>
      ((run c s).bay 0).out == (s.bay 0).out && ((run c s).bay 0).susp == (s.bay 0).susp
    ((run c (busy .burning 1 499 w false)).bay 0).susp = some { number := 1, deadline := 2000 } ∧
    ((run c (busy .burning 1 499 w false)).bay 0).out = ((busy .burning 1 499 w false).bay 0).out ∧
    stands (busy .burning 1 499 (some (.speed 0)) false) = true ∧ stands (busy .burning 1 499 w true) = true ∧
    (run c (busy .burning 1 499 w true)).cond .reserveLow = true ∧
    stands (busy .burning 1 500 w false) = true ∧ stands (busy .burning 1 500 none true) = true ∧
    stands (busy .burning 0 6000 w false) = true ∧
    ((run c (busy .burning 0 6000 w false)).bay 0).burn = some { step := 0, rate := 1000, stable := 5 } ∧
    stands (busy .suspended 0 6000 w false) = true := by dsimp only; decide +kernel

/-- A drive that ran dry; a CLOSE without a verify mode, with a print after the burn, with a verify mode, and failed. -/
theorem test_UnderrunAndCloseEndTheBurn :
    let closing : Job → State := fun j => withBay { asked .closing .close with timeouts := 2 } (working j disc1)
    rejectedAs (run (.unsolicitedUnderrun 0) (fedState (writing .burning 8))) .underrun = true ∧
    run (.unsolicitedUnderrun 0) (closing job1) = closing job1 ∧
    (closing job1).job 0 = some job1 ∧ (closing job1).disc 1 = some disc1 ∧
    (run (.closeComplete 0 1 .ok) (closing { job1 with verifyMode := .digest })).verify.queue = [0] ∧
    (run (.closeComplete 0 1 .ok) (closing job1)).trans.queue = [.posted .unload (.bay 0) (.bay 0) (.bin .out) 1 none] ∧
    ((run (.closeComplete 0 1 .ok) (closing job1)).bay 0).timeouts = 0 ∧
    ((run (.closeComplete 0 1 .ok) (closing { job1 with label := some 0, printOrder := some .burnFirst })).trans.queue.map
      MoveReq.dest) = [.prn] ∧
    rejectedAs (run (.closeComplete 0 1 .mediaError) (closing job1)) .writeError = true := by dsimp only; decide +kernel

/-- The move of an unload while the bay's job wants a second copy: a SWAP, good and rejected; UNLOAD alone with the bay marked to go offline, with the run mode PAUSED, and for a job that prints first. -/
theorem test_unload_aloneOrSwap :
    let two : Job := { job1 with copies := 2, state := .active }
    let closing : Job → State := fun j => withBay (asked .closing .close) (working j disc1)
    let off : State := withBay { asked .closing .close with offlineAfter := true } (working two disc1)
    let paused : State := { closing two with jobs := { (closing two).jobs with runMode := .paused } }
    let moves : State → List (MoveKind × Option SecondLeg) := fun s =>
      (run (.closeComplete 0 1 .ok) s).trans.queue.map fun r => (r.kind, r.second)
    let next : SecondLeg := { spindle := .a, bay := 0, disc := 2, dest := .bay 0 }
    moves (closing two) = [(.swap, some next)] ∧
    (run (.closeComplete 0 1 .mediaError) (closing two)).trans.queue =
      [.posted .swap (.bay 0) (.bay 0) (.bin .reject) 1 (some next)] ∧
    ((run (.closeComplete 0 1 .ok) (closing two)).job 0).map (fun j => (j.started, j.inFlight, j.state)) =
      some (2, 2, .filled) ∧
    ((run (.closeComplete 0 1 .ok) (closing two)).disc 2).map (fun d => (d.target, d.stage)) = some (some 0, .queued) ∧
    moves off = [(.unload, none)] ∧ moves paused = [(.unload, none)] ∧
    moves (closing { two with label := some 0, printOrder := some .printFirst }) = [(.unload, none)] := by
  dsimp only; decide +kernel

/-- Bay 0 in VERIFYING on lane 0, chunk `next` of two, over image 0. -/
def verifyState (next : Nat) (stop : VerifyStop) (digest : BitVec 32) : State :=
  let y : Lane := { bay := 0, disc := 1, mode := .digest, stop, imageSlot := 0, chunks := 2, next, mismatches := 0, readOut := true }
  let s := withBay (asked .verifying (.read next)) (withDisc { disc1 with burned := true }
    (withJob { job1 with verifyMode := .digest } (withImage { image0 with digests := [some digest, some digest] } ready)))
  { s with verify := { s.verify with lanes := s.verify.lanes.set 0 (some y) } }

/-- A lane taken, none to take; a match that goes on and the last one (chunk 1 holds 8 sectors), a repeat, a sequence error, a mismatch under FIRST and under ALL. -/
theorem test_LanesReadChunksInOrder :
    let wait : State := { atBay (bay0 .verifyWait) with verify := { ready.verify with queue := [0] } }
    let other := { bay0 .verifyWait with disc := some 2 }
    let pair : State := { wait with bays := wait.bays.set 3 other, verify := { wait.verify with queue := [3, 0] } }
    let y : VerifyStop → Nat → Instr := fun _ index => .readComplete 0 1 .ok index []
    (run .verifyLaneTake wait).lane 0 = some
      { bay := 0, disc := 1, mode := .none, stop := .first, imageSlot := 0, chunks := 2, next := 0, mismatches := 0,
        readOut := true } ∧
    run .verifyLaneTake ready = ready ∧
    ((run .verifyLaneTake pair).lane 0).map Lane.bay = some 3 ∧ ((run .verifyLaneTake pair).lane 1).map Lane.bay = some 0 ∧
    rejectedAs (run (y .all 1) (verifyState 1 .all 0)) .verifyMismatch = true ∧
    (run (y .first 0) (verifyState 1 .first 0)).verify.repeats = 1 ∧
    rejectedAs (run (y .first 2) (verifyState 0 .first 0)) .verifySequence = true ∧
    rejectedAs (run (y .first 0) (verifyState 0 .first 0)) .verifyMismatch = true ∧
    ((run (y .all 0) (verifyState 0 .all 0)).lane 0).map (fun l => (l.next, l.mismatches)) = some (1, 1) ∧
    rejectedAs (run (.readComplete 0 1 .mediaError 0 []) (verifyState 0 .first 0)) .verifyMismatch = true := by
  dsimp only; decide +kernel

/-- An image of one sector whose only chunk's digest is that of the data read: it verifies the disc. -/
def oneChunk (data : List Byte) : Image :=
  { image0 with size := 1, fill := 1, window := [[data]], digests := [some (digestOf data)] }

def lastLane : Lane :=
  { bay := 0, disc := 1, mode := .full, stop := .first, imageSlot := 0, chunks := 1, next := 0, mismatches := 0,
    readOut := true }

theorem test_lanes_lastChunk (data : List Byte) (h : data.length = 2048) :
    data.length = min 32 ((oneChunk data).size - 32 * lastLane.next) * 2048 ∧
    (oneChunk data).digests.getD lastLane.next none = some (digestOf data) ∧
    data = (oneChunk data).read (32 * lastLane.next) 1 ∧ lastLane.chunks ≤ lastLane.next + 1 ∧
    (withDisc { disc1 with burned := true } ready).disc 1 = some { disc1 with burned := true } := by
  refine ⟨by rw [h]; simp [oneChunk, lastLane, image0], rfl, ?_, by decide, by decide +kernel⟩
  simp [Image.read, oneChunk, lastLane, image0]

/-- A granted request, alone in the queue. -/
def carry (src dst : Station) : MoveReq := { load0 with source := src, dest := dst, granted := true }

/-- The arm in a state with that request, disc 1 in a place, and the timers running. -/
def armState (a : ArmState) (h : Option HandStep) (r : MoveReq) (d : Disc) (b : Bay) : State :=
  let s := withQueue [r] (withBay b (working job1 d))
  { s with trans := { s.trans with arm := a, handover := h, moveTimer := some 12000, ackTimer := some 4000 } }

/-- TRAY OPEN at the source and at the destination, OK and failed; TRAY CLOSE OK and failed; each failure at the destination with the disc held and with none on the arm. -/
theorem test_TrayCompletionsDriveTheHandOver :
    let onArm : Disc := { disc1 with location := .arm, stage := .onArm }
    let u : State := armState .granted (some .arrived) (carry (.bay 0) (.bin .out)) disc1 (asked .awaitUnload .trayOpen)
    let l : State := armState .carrying (some .arrived) (carry (.spindle .a) (.bay 0)) onArm (asked .awaitDisc .trayOpen)
    let c : State := armState .carrying (some .discMoved) (carry (.spindle .a) (.bay 0)) onArm (asked .awaitDisc .trayClose)
    u.trans.queue = [carry (.bay 0) (.bin .out)] ∧
    (run (.trayOpenComplete 0 1 .ok) u).trans.handover = some .trayReady ∧
    (run (.trayOpenComplete 0 1 .ok) l).trans.handover = some .trayReady ∧
    (run (.trayOpenComplete 0 1 .refused) u).trans.queue = [(carry (.bay 0) (.bin .out)).again] ∧
    (run (.trayOpenComplete 0 1 .refused) { l with sensors := { l.sensors with pick := true } }).trans.queue =
      [carry (.spindle .a) (.bin .reject)] ∧
    ((run (.trayOpenComplete 0 1 .refused) { l with sensors := { l.sensors with pick := true } }).bay 0).handoverFailures = 1 ∧
    ((run (.trayCloseComplete 0 1 .ok) c).bay 0).state = .ident ∧
    (run (.trayCloseComplete 0 1 .ok) c).trans.arm = .idle ∧
    ((run (.trayCloseComplete 0 1 .ok) c).disc 1).map Disc.stage = some .inBay ∧ c.sensors.pick = false ∧
    (run (.trayCloseComplete 0 1 .mediaError) c).trans.handover = some .retake ∧
    (run (.trayCloseComplete 0 1 .mediaError) c).trans.ackTimer = some 4000 ∧
    (run (.trayOpenComplete 0 1 .refused) l).trans.handover = some .retake ∧
    (run (.trayOpenComplete 0 1 .refused) l).discs = l.discs ∧
    (run (.trayCloseComplete 0 1 .refused) { c with sensors := { c.sensors with pick := true } }).trans.queue =
      [carry (.spindle .a) (.bin .reject)] ∧
    ((run (.trayCloseComplete 0 1 .refused) { c with sensors := { c.sensors with pick := true } }).bay 0).handoverFailures =
      1 := by dsimp only; decide +kernel

/-- The first and the third deadline of a drive, that of an IDENTIFY that waits to be retried, of a SUSPEND, of a survey, and of a TRAY request at the source and at the destination. -/
theorem test_DeadlineExpiryRejectsOrFaults :
    let r : Nat → Bay := fun n => { asked .ident .identify with timeouts := n }
    (atBay (r 1)).bay 0 = r 1 ∧ (r 1).survey = false ∧
    rejectedAs (run (.deadlineExpiry 0 false) (atBay (r 1))) .driveTimeout = true ∧
    ((run (.deadlineExpiry 0 false) (atBay (r 1))).bay 0).timeouts = 2 ∧
    ((run (.deadlineExpiry 0 false) (atBay (r 2))).bay 0).state = .fault ∧
    (run (.deadlineExpiry 0 false) (atBay (r 2))).cond .bayFault = true ∧
    ((run (.deadlineExpiry 0 false) (atBay (r 2))).disc 1).map Disc.disposition = some (.reject .driveTimeout) ∧
    rejectedAs (run (.deadlineExpiry 0 false) (atBay { bay0 .ident with
      retryTimer := some 500, identDeadline := some 0 })) .driveTimeout = true ∧
    (run (.deadlineExpiry 0 false) (armState .granted (some .arrived) (carry (.bay 0) (.bin .out)) disc1
      (asked .awaitUnload .trayOpen))).trans.queue = [(carry (.bay 0) (.bin .out)).again] ∧
    (run (.deadlineExpiry 0 false) (armState .carrying (some .discMoved) (carry (.spindle .a) (.bay 0)) disc1
      (asked .awaitDisc .trayClose))).trans.handover = some .retake ∧
    rejectedAs (run (.deadlineExpiry 0 true)
      (fedState { writing .burning 8 with susp := some { number := 1, deadline := 9 } })) .driveTimeout = true ∧
    ((run (.deadlineExpiry 0 false) (withBay (Bay.underSurvey 0) ready)).bay 0).state = .fault := by dsimp only; decide +kernel

/-- Admitted at the higher step, at the lower for want of budget, and with no step that fits; a gate that is closed. -/
theorem test_AdmissionBeginsTheBurn :
    let s : Image → Nat → State := fun i sum =>
      { withImage i (atBay (bay0 .admitWait)) with governor := { queue := [{ bay := 0, admitting := none }], sum } }
    (s image0 0).image 0 = some image0 ∧ ready.settingNat 2 = 24000 ∧
    (let t := withBay { bay0 .admitWait with facts := some { facts0 with rates := [9000] } } (s image0 0)
     let u : State := { t with
       bays := (t.bays.set 1 (bay0 .admitWait)).set 2 (bay0 .admitWait)
       governor := { queue := [0, 1, 2].map fun b => { bay := b, admitting := none }, sum := 21000 } }
     (run .admissionEvaluation u).governor = { queue := [{ bay := 0, admitting := none }], sum := 24000 }) ∧
    (run .admissionEvaluation (s image0 22000)).governor = { queue := [], sum := 24000 } ∧
    ((run .admissionEvaluation (s image0 22001)).bay 0).burn = some { step := 0, rate := 1000, stable := 0 } ∧
    ((run .admissionEvaluation (s image0 22001)).bay 0).out = some { req := .speed 0, number := 1, deadline := 2000 } ∧
    run .admissionEvaluation (s image0 23001) = s image0 23001 ∧
    run .admissionEvaluation (s { streaming0 with gate := .closed } 0) = s { streaming0 with gate := .closed } 0 := by
  dsimp only; decide +kernel

/-! ## The arm, the door, the spindles and the bins -/

def onArm1 : Disc := { disc1 with location := .arm, stage := .onArm }

/-- `ready` with the arm in a state and something on it or not. -/
def homingState (a : ArmState) (pick : Bool) (q : List MoveReq) (resume : Option Resume) : State :=
  { withQueue q (withArm a ready) with
    sensors := { ready.sensors with pick }
    trans := { (withQueue q (withArm a ready)).trans with resume, pos := none } }

/-- ARM HOME in every case; the reference with nothing, with an interrupted request of each kind, with an unknown disc, with the disc of a record, and with a creation that waits. -/
theorem test_HomingDescendsClearsAndEnds :
    let r : MoveReq := { load0 with interrupted := true }
    let bottom : Option Resume → State := fun a => run .bottomReferenceReached (homingState (.homing .descent) false [r] a)
    let orphan : State := run .bottomReferenceReached (homingState (.homing .descent) true [] none)
    run .armHome State.reset = State.reset.answer 0x70 .busy .none ∧
    run .armHome ready = ready.answer 0x70 .state .none ∧
    (run .armHome (withArm .fault ready)).trans.arm = .homing .descent ∧
    (run .armHome { withArm .unhomed ready with sensors := { ready.sensors with doorOpen := true } }).trans.homingPending = true ∧
    (run .bottomReferenceReached (homingState (.homing .descent) false [] none)).trans.arm = .idle ∧
    (bottom (some .carrying)).trans.arm = .carrying ∧ (bottom (some .granted)).trans.arm = .granted ∧
    (bottom (some .held)).trans.holdTimer = some 10000 ∧
    (bottom (some .held)).trans.queue = [{ load0 with granted := true }] ∧
    orphan.trans.arm = .homing .carry ∧ orphan.discs.records = [.orphan 1 .arm] ∧
    (let known : State := run .bottomReferenceReached (withDisc onArm1 (homingState (.homing .descent) true [r] (some .granted)))
     known.trans.arm = .homing .carry ∧ known.trans.queue = [r] ∧
       known.discs.records = [{ onArm1 with disposition := .reject .handling, stage := .toOut }]) ∧
    (let asked : List OrphanAt → State := fun l =>
      let s := homingState (.homing .descent) true [] none
      run .bottomReferenceReached { s with discs := { s.discs with orphanWait := l } }
     (asked [.prn]).trans.arm = .homing .awaitRecord ∧ (asked [.prn]).discs.orphanWait = [.prn, .arm] ∧
       (asked [.arm]).discs.orphanWait = [.arm]) := by dsimp only; decide +kernel

/-- Homing's carriage over REJECT: the drop confirmed, not confirmed with the disc gone, and with the disc held, on an arm with no request and with an interrupted one. -/
theorem test_homing_carriage :
    let s : List MoveReq → State := fun q =>
      withQueue q (armState (.homing .carry) (some .arrived) load0 onArm1 Bay.afterReset)
    let back : State :=
      let t := s [{ load0 with disc := 5, interrupted := true }]
      { t with trans := { t.trans with resume := some .granted } }
    (s []).trans.ackTimer ≠ none ∧ (s []).discs.records = [onArm1] ∧ (∀ r ∈ (s []).trans.queue, r.granted = false) ∧
    (run .dropConfirmed (s [])).trans.arm = .idle ∧ (run .dropConfirmed (s [])).discs.records = [] ∧
    (run .dropConfirmed (s [])).discs.completions.map Completion.disposition = [.reject .handling] ∧
    (run .dropConfirmed back).trans.arm = .granted ∧
    (run .dropConfirmed back).trans.queue = [{ load0 with disc := 5, granted := true }] ∧
    (run (.ackTimerExpiry false) (s [])).trans.arm = .idle ∧ (run (.ackTimerExpiry false) (s [])).cond .handling = true ∧
    (run (.ackTimerExpiry false) back).trans.moveTimer = some 12000 ∧
    (run (.ackTimerExpiry true) (s [])).trans.faultCause = some .handling ∧
    (run (.ackTimerExpiry true) back).trans.queue = [{ load0 with disc := 5, interrupted := true }] ∧
    (run (.ackTimerExpiry true) back).discs.records = [] := by dsimp only; decide +kernel

/-- Two requests of one class and an older one of a class above it; the door open; nothing eligible. -/
theorem test_GrantGoesToTheOldestOfTheLowestClass :
    let u : BayId → MoveReq := fun b => .posted .unload (.bay b) (.bay b) (.bin .out) 1 none
    let s : State := withQueue [load0, u 1, u 2] (withBay (bay0 .awaitDisc) ready)
    (s.bay 0).state = .awaitDisc ∧ (s.bay 0).disc = some 1 ∧ s.spindle .a = .ready ∧
    classOf (u 1).source < classOf load0.source ∧
    (run .grantEvaluation s).trans.queue = [load0, { u 1 with granted := true }, u 2] ∧
    (run .grantEvaluation s).trans.moveTimer = some 12000 ∧
    run .grantEvaluation { s with sensors := { s.sensors with doorOpen := true } } =
      { s with sensors := { s.sensors with doorOpen := true } } ∧
    run .grantEvaluation (withArm .held s) = withArm .held s ∧
    run .grantEvaluation (withQueue [load0] ready) = withQueue [load0] ready := by dsimp only; decide +kernel

/-- At a bay as source and as destination, at a spindle with and without discs, over a bin, at PRN as source (released and not) and as destination, at a bay where the disc was set; homing's carriage; the move timer's end. -/
theorem test_ArrivalStartsTheHandOver :
    let bay : State := armState .granted none (carry (.bay 0) (.bin .out)) disc1 (bay0 .awaitUnload)
    let dest : State := armState .carrying none (carry (.spindle .a) (.bay 0)) onArm1 (bay0 .awaitDisc)
    let spin : State := armState .granted none (carry (.spindle .a) (.bay 0)) queued1 (bay0 .awaitDisc)
    let bin : State := armState .carrying none (carry (.bay 0) (.bin .out)) onArm1 Bay.afterReset
    let prn : PrinterState → State := fun st =>
      { armState .granted none (carry .prn (.bin .out)) { disc1 with location := .prn } Bay.afterReset with
        printer := some { (Printer.afterReset st) with trayDisc := some 1, trayMove := true } }
    ((run (.arrival true) bay).bay 0).out = some { req := .trayOpen, number := 1, deadline := 8000 } ∧
    ((run (.arrival true) dest).bay 0).out = some { req := .trayOpen, number := 1, deadline := 8000 } ∧
    (run (.arrival true) spin).trans.ackTimer = some 4000 ∧ (run (.arrival true) spin).trans.handover = some .arrived ∧
    (run (.arrival false) spin).discs.records = [] ∧ (run (.arrival false) spin).spindle .a = .empty ∧
    ((run (.arrival false) spin).bay 0).state = .empty ∧ (run (.arrival false) spin).trans.queue = [] ∧
    ((run (.arrival false) spin).job 0).map Job.started = some 0 ∧
    (run (.arrival true) bin).trans.handover = some .arrived ∧
    (run (.arrival true) (prn .awaitRemove)).printer.map Printer.clampOpen = some true ∧
    (run (.arrival true) (prn .awaitRemove)).trans.handover = some .trayReady ∧
    (run (.arrival false) (prn .awaitRemove)).trans.queue = [(carry .prn (.bin .out)).again] ∧
    (run (.arrival true) (prn .printing)).trans.forcedReleases = 1 ∧
    (run (.arrival true) (armState .carrying none (carry (.bay 0) .prn) onArm1 Bay.afterReset)).trans.handover = some .arrived ∧
    ((run (.arrival true) (armState .carrying (some .discMoved) (carry (.spindle .a) (.bay 0)) onArm1
      (bay0 .awaitDisc))).bay 0).out = some { req := .trayClose, number := 1, deadline := 8000 } ∧
    (run (.arrival true) (armState (.homing .carry) none load0 onArm1 Bay.afterReset)).trans.ackTimer = some 4000 ∧
    run (.arrival true) ready = ready ∧ run .moveTimerExpiry ready = ready ∧
    (run .moveTimerExpiry bay).trans.faultCause = some .moveTimeout := by dsimp only; decide +kernel

/-- A fault of the arm: before the pick; with a disc on the arm for a bay, for PRN under a PRINT_IN, and under a SWAP's first leg; in a hand-over at a bay and at the printer. -/
theorem test_armFault_grant :
    let t : MoveReq → Disc → Bay → Bool → State := fun r d b pick =>
      let s := armState .carrying none r d b
      run .moveTimerExpiry { s with sensors := { s.sensors with pick } }
    let loads := t (carry (.spindle .a) (.bay 0)) onArm1 (bay0 .awaitDisc)
    let prints := t { carry (.spindle .a) .prn with kind := .printIn } onArm1 (bay0 .awaitDisc) true
    let swap := t { carry (.bay 0) (.bin .out) with
      kind := .swap, second := some { spindle := .a, bay := 0, disc := 5, dest := .bay 0 } } onArm1 (bay0 .awaitDisc) true
    let before : State := run .moveTimerExpiry
      (armState .granted none (carry (.spindle .a) (.bay 0)) queued1 (bay0 .awaitDisc))
    let atBay : State := armState .carrying (some .trayReady) (carry (.spindle .a) (.bay 0)) onArm1 (asked .awaitDisc .trayOpen)
    let jump : Instr := .stripCodeChange 0 99
    (loads true).discs.records = [{ onArm1 with disposition := .reject .handling, stage := .toOut }] ∧
    (loads true).trans.queue = [] ∧ ((loads true).bay 0).state = .empty ∧ (loads true).trans.arm = .fault ∧
    ((prints.bay 0).state = .empty ∧ prints.trans.queue = []) ∧
    swap.trans.queue = [{ load0 with disc := 5 }] ∧
    (loads false).trans.queue = [{ load0 with interrupted := true }] ∧ (loads false).discs.records = [onArm1] ∧
    (loads false).trans.resume = some .carrying ∧
    before.trans.queue = [{ load0 with interrupted := true }] ∧ before.trans.resume = some .granted ∧
    atBay.trans.pos = some (0, 0) ∧ (run jump atBay).trans.faultCause = some .position ∧
    ((run jump atBay).bay 0).out = none ∧ (run jump atBay).trans.pos = some (0, 99) := by dsimp only; decide +kernel

/-- From a bay, from one under a SWAP, from the printer's tray, from a spindle, for a CANCELLING job, and two discs at a spindle; a SWAP's second leg; a retake for a bin and for a bay. -/
theorem test_PickConfirmedCarriesTheDisc :
    let r : MoveReq := carry (.bay 0) (.bin .out)
    let second : MoveReq := { r with kind := .swap, second := some { spindle := .b, bay := 0, disc := 9, dest := .bay 0 } }
    let bay : MoveReq → State := fun r => armState .granted (some .trayReady) r disc1 (bay0 .awaitUnload)
    let prn : State := armState .granted (some .trayReady) (carry .prn (.bin .out)) { disc1 with location := .prn } Bay.afterReset
    let prn : State := { prn with printer := some { (Printer.afterReset .awaitRemove) with trayDisc := some 1, trayMove := true } }
    let spin : State := armState .granted (some .arrived) (carry (.spindle .a) (.bay 0)) queued1 (bay0 .awaitDisc)
    let again : MoveReq := { r with disc := 5, second := some { spindle := .a, bay := 0, disc := 1, dest := .bay 0 } }
    let retake : Station → State := fun at_ => armState .carrying (some .retake) (carry (.spindle .a) at_) onArm1 (bay0 .awaitDisc)
    (bay r).jobOf disc1 = some job1 ∧ (bay r).trans.leg = .first ∧
    (run (.pickConfirmed false) (bay r)).trans.arm = .carrying ∧ ((run (.pickConfirmed false) (bay r)).bay 0).state = .empty ∧
    ((run (.pickConfirmed false) (bay r)).disc 1).map Disc.stage = some .toOut ∧
    ((run (.pickConfirmed false) (bay second)).bay 0).state = .awaitDisc ∧
    ((run (.pickConfirmed false) (bay second)).bay 0).disc = some 9 ∧
    (run (.pickConfirmed false) prn).printer = some (Printer.afterReset .idle) ∧
    ((run (.pickConfirmed false) spin).disc 1).map Disc.stage = some .onArm ∧
    ((run (.pickConfirmed true) spin).disc 1).map Disc.disposition = some (.reject .doublePick) ∧
    ((run (.pickConfirmed true) spin).bay 0).state = .empty ∧
    ((run (.pickConfirmed false) (withJob { job1 with state := .cancelling } spin)).disc 1).map Disc.disposition =
      some (.reject .cancelled) ∧
    (run (.pickConfirmed false) (withJob { job1 with state := .cancelling } spin)).trans.queue =
      [carry (.spindle .a) (.bin .reject)] ∧
    ((run (.pickConfirmed false) { withQueue [again] spin with trans := { (withQueue [again] spin).trans with
      leg := .second } }).disc 1).map Disc.location = some .arm ∧
    (run (.pickConfirmed false) (retake (.bin .reject))).trans.moveTimer = some 12000 ∧
    (run (.pickConfirmed false) (retake (.bay 0))).trans.queue = [carry (.spindle .a) (.bin .reject)] ∧
    ((run (.pickConfirmed false) (retake (.bay 0))).bay 0).handoverFailures = 1 ∧
    (run (.pickConfirmed true) spin).trans.queue = [{ carry (.spindle .a) (.bay 0) with dest := .bin .reject }] := by
  dsimp only; decide +kernel

/-- A bay, the printer's tray cool and hot, a printer in FAULT, no label, OUT with a GOOD disc, OUT with a PENDING one, REJECT at the job's limit, a full completion list, the end of a drain, a SWAP's first leg. -/
theorem test_DestinationsAcceptTheDisc :
    let bay : State := armState .carrying (some .trayReady) (carry (.spindle .a) (.bay 0)) onArm1 (bay0 .awaitDisc)
    let prn : State := withLabel label0 (withJob { job1 with label := some 0, printOrder := some .printFirst }
      (armState .carrying (some .arrived) (carry (.spindle .a) .prn) onArm1 (bay0 .awaitDisc)))
    let hot : State := { prn with sensors := { prn.sensors with headReading := 65 } }
    let drop : BinId → Disposition → State := fun k p =>
      withJob { job1 with rejectLimit := 1 } (armState .carrying (some .arrived) (carry (.bay 0) (.bin k))
        { onArm1 with disposition := p } Bay.afterReset)
    let full : State := { drop .out .good with
      jobs := { (drop .out .good).jobs with runMode := .draining }
      discs := { (drop .out .good).discs with completions := .replicate 64 ((onArm1.completion none .good)), dropped := 65534 } }
    let swap : MoveReq := { carry (.bay 0) (.bin .out) with second := some { spindle := .a, bay := 0, disc := 5, dest := .bay 0 } }
    let dead : State := { prn with printer := some (Printer.afterReset .fault) }
    let orphan : BinId → Disposition → State := fun k p =>
      armState .carrying (some .arrived) (carry (.bay 0) (.bin k)) { onArm1 with job := none, disposition := p } Bay.afterReset
    (run .dropConfirmed (orphan .reject (.reject .orphan))).discs.completions.map Completion.jobNumber = [none] ∧
    (run .dropConfirmed (orphan .reject (.reject .orphan))).jobs = (orphan .reject (.reject .orphan)).jobs ∧
    (run .dropConfirmed (orphan .reject (.reject .orphan))).discs.records = [] ∧
    (run .dropConfirmed (orphan .out (.reject .orphan))).cond .handling = true ∧
    (run .prnTrayConfirmed dead).trans.queue = [.posted .printOut .printer .prn (.bin .reject) 1 none] ∧
    ((run .prnTrayConfirmed dead).disc 1).map Disc.disposition = some (.reject .printFault) ∧
    ((run .prnTrayConfirmed dead).bay 0).state = .empty ∧
    (run .prnTrayConfirmed (withJob job1 prn)).printer.map Printer.state = some .fault ∧
    (run .prnTrayConfirmed (withJob job1 prn)).cond .printerFault = true ∧
    (run .dropConfirmed full).discs.completions.length = 64 ∧ (run .dropConfirmed full).discs.dropped = 65535 ∧
    (run .dropConfirmed (run .dropConfirmed full)).discs.dropped = 65535 ∧ (run .dropConfirmed full).jobs.runMode = .paused ∧
    (run .dropConfirmed (withQueue [swap] (drop .out .good))).trans.holdTimer = some 10000 ∧
    (run .dropConfirmed { full with discs := { full.discs with orphanWait := [.arm] } }).jobs.runMode = .draining ∧
    (let more : State := { full with discs := { full.discs with
      records := [{ disc1 with number := 9 }, { onArm1 with disposition := .good }, { disc1 with number := 4 }] } }
     (run .dropConfirmed more).discs.records = [{ disc1 with number := 9 }, { disc1 with number := 4 }] ∧
       (run .dropConfirmed more).jobs.runMode = .draining) ∧
    ((run .discSet bay).bay 0).out = some { req := .trayClose, number := 1, deadline := 8000 } ∧
    (run .discSet prn).trans.handover = some .discMoved ∧
    (run .prnTrayConfirmed prn).printer.map Printer.state = some .printing ∧
    ((run .prnTrayConfirmed prn).disc 1).map Disc.stage = some .inPrinter ∧
    (run .prnTrayConfirmed hot).printer.map Printer.state = some .cooling ∧
    ((run .dropConfirmed (drop .out .good)).job 0).map (fun j => (j.good, j.state)) = some (1, .complete) ∧
    (run .dropConfirmed (drop .out .good)).discs.records = [] ∧
    ((run .dropConfirmed (drop .out .pending)).discs.completions.map Completion.disposition) = [.reject .handling] ∧
    (run .dropConfirmed (drop .out .pending)).cond .handling = true ∧
    ((run .dropConfirmed (drop .reject (.reject .underrun))).job 0).map Job.state = some (.held .rejectLimit) := by
  dsimp only; decide +kernel

/-- The mark of a wanted evaluation of the Dispatcher: a change to RUN sets it, a promotion too, a redirect of a queued request for the printer is none of R19's triggers, an orphan that waits for a record keeps it clear, and an evaluation leaves it then; with nothing else due the step is the evaluation, which clears it. -/
theorem test_EveryCommandAnswersANextState :
    let paused : State := { ready with jobs := { ready.jobs with runMode := .paused } }
    let lone : State := { paused with discs := { paused.discs with orphanWait := [.arm] } }
    let toPrn : State := armState .carrying (some .arrived) { carry (.bay 0) .prn with kind := .unload } onArm1 Bay.afterReset
    (run .towerResume paused).dispatchDue = true ∧ (run .towerResume lone).dispatchDue = false ∧
    (run .towerPause ready).dispatchDue = false ∧
    (run (.ackTimerExpiry true) toPrn).trans.queue = [{ carry (.bay 0) (.bin .reject) with kind := .unload }] ∧
    (run (.ackTimerExpiry true) toPrn).dispatchDue = false ∧
    (run .towerResume paused).nextDue = some .dispatchEvaluation ∧
    (run .dispatchEvaluation (run .towerResume paused)).dispatchDue = false ∧
    run .dispatchEvaluation { lone with dispatchWanted := true } = { lone with dispatchWanted := true } ∧
    (let staged : State := run (.imageData 0 1 39 (List.replicate 2048 7))
      (withImage { streaming0 with fill := 39, window := [segment 39], digests := [some 0, none] } ready)
     (staged.image 0).map Image.residency = some .resident ∧ staged.dispatchWanted = true) := by
  dsimp only; decide +kernel

/-- A JOB CANCEL that frees two records of a full table: one creation that waits leaves a record for the Dispatcher, two leave none. -/
theorem test_mark_recordBeyondTheOrphans :
    let second : MoveReq := { load0 with requester := .bay 1, dest := .bay 1, disc := 2 }
    let job : Job := { job1 with copies := 2, started := 2, inFlight := 2 }
    let s : List OrphanAt → State := fun l =>
      let t := withQueue [load0, second] (working job queued1)
      { t with discs := { t.discs with
          records := [queued1, { queued1 with number := 2 }] ++
            (List.range 14).map fun n => { disc1 with number := n + 3, job := none }
          orphanWait := l } }
    (s [.arm]).discs.free = 0 ∧ (run (.jobCancel 7) (s [.arm])).discs.free = 2 ∧
    (run (.jobCancel 7) (s [.arm])).dispatchWanted = true ∧
    (run (.jobCancel 7) (s [.arm, .prn])).dispatchWanted = false := by dsimp only; decide +kernel

/-- Disc 1's job is CANCELLING, and prints first. -/
def cancelling (s : State) : State :=
  withJob { job1 with label := some 0, printOrder := some .printFirst, state := .cancelling } s

/-- A pick at bay 0, at PRN and at spindle A of disc 1, its job CANCELLING. -/
def pickAtBay (at_ : Station) (p : Disposition) : State :=
  cancelling (armState .granted (some .trayReady) { carry (.bay 0) at_ with kind := .unload }
    { disc1 with disposition := p } (bay0 .awaitUnload))
def pickAtPrn (at_ : Station) (p : Disposition) : State :=
  { cancelling (armState .granted (some .trayReady) { carry .prn at_ with kind := .printOut, requester := .printer }
      { disc1 with location := .prn, disposition := p } (bay0 .awaitDisc)) with
    printer := some { (Printer.afterReset .awaitRemove) with trayDisc := some 1, trayMove := true } }
def pickAtSpindle : State :=
  cancelling (armState .granted (some .arrived) { carry (.spindle .a) .prn with kind := .printIn } queued1
    (bay0 .awaitDisc))

/-- A pick confirmed leaves disc 1 with a disposition and stage, on the way to a station. -/
def picked (two : Bool) (s : State) (p : Disposition) (st : DiscStage) (at_ : Station) : Bool :=
  let t := run (.pickConfirmed two) s
  (t.disc 1).any (fun d => d.disposition = p ∧ d.stage = st ∧ d.location = .arm) &&
    t.trans.queue.map MoveReq.dest == [at_] && t.trans.arm == .carrying

/-- The picks of a disc whose job is CANCELLING, from each station: turned to REJECT toward a bay, and toward PRN while it is not GOOD; on as any other toward OUT, REJECT and, while it is GOOD, PRN. Two discs on the way to PRN. -/
theorem test_pickConfirmed_cancelling :
    let gone : Disposition := .reject .cancelled
    (pickAtBay .prn .good).trans.grant.isSome ∧ ((pickAtPrn (.bay 0) gone).jobOf disc1).map Job.state = some .cancelling ∧
    picked false (pickAtBay (.bin .reject) gone) gone .toOut (.bin .reject) = true ∧
    picked false (pickAtBay .prn .good) .good .onArm .prn = true ∧
    picked false (pickAtBay .prn .pending) gone .toOut (.bin .reject) = true ∧
    picked false (pickAtPrn (.bin .out) .good) .good .toOut (.bin .out) = true ∧
    picked false (pickAtPrn (.bin .reject) gone) gone .toOut (.bin .reject) = true ∧
    picked false (pickAtPrn (.bay 0) gone) gone .toOut (.bin .reject) = true ∧
    picked false (pickAtPrn (.bay 0) .pending) gone .toOut (.bin .reject) = true ∧
    ((run (.pickConfirmed false) (pickAtPrn (.bay 0) gone)).bay 0).state = .empty ∧
    (run (.pickConfirmed false) (pickAtPrn (.bay 0) gone)).printer = some (Printer.afterReset .idle) ∧
    picked false pickAtSpindle gone .toOut (.bin .reject) = true ∧
    ((run (.pickConfirmed false) pickAtSpindle).bay 0).state = .empty ∧
    picked true pickAtSpindle (.reject .doublePick) .toOut (.bin .reject) = true ∧
    ((run (.pickConfirmed true) pickAtSpindle).bay 0).state = .empty := by dsimp only; decide +kernel

/-- An acknowledgement that does not come at a bay source, alone and on a SWAP's first leg, and at PRN, with retries left; on a second leg with the retries spent; at a bay and at PRN with the disc held. -/
theorem test_ackTimeout_stations :
    let expire : Bool → State → State := fun held => run (.ackTimerExpiry held)
    let out : MoveReq := carry (.bay 0) (.bin .out)
    let swap : MoveReq := { out with kind := .swap, second := some { spindle := .a, bay := 0, disc := 5, dest := .bay 0 } }
    let bay : MoveReq → DriveReq → State := fun r req => armState .granted (some .arrived) r disc1 (asked .awaitUnload req)
    let prn : State := { armState .granted (some .trayReady) (carry .prn (.bin .out)) { disc1 with location := .prn }
      Bay.afterReset with
        printer := some { (Printer.afterReset .awaitRemove) with trayDisc := some 1, trayMove := true, clampOpen := true } }
    let second : State := armState .granted (some .arrived)
      { out with disc := 5, second := some { spindle := .a, bay := 0, disc := 1, dest := .bay 0 } } queued1 (bay0 .awaitDisc)
    let second : State := { second with
      trans := { second.trans with leg := .second }
      settings := { second.settings with working := second.settings.working.set 10 1 } }
    let held : State := armState .carrying (some .discMoved) (carry (.spindle .a) (.bay 0)) onArm1 (asked .awaitDisc .trayClose)
    let print : State := { armState .carrying (some .arrived) { carry (.spindle .a) .prn with kind := .printIn } onArm1
      (bay0 .awaitDisc) with printer := some { (Printer.afterReset .idle) with clampOpen := true } }
    (bay out .trayOpen).settingNat 10 = 3 ∧
    (expire false (bay out .trayOpen)).trans.queue = [out.again] ∧ ((expire false (bay out .trayOpen)).bay 0).out = none ∧
    ((expire false (bay out .close)).bay 0).out = ((bay out .close).bay 0).out ∧
    (expire false (bay swap .trayOpen)).trans.queue = [swap.again] ∧ ((expire false (bay swap .trayOpen)).bay 0).out = none ∧
    (expire false prn).trans.queue = [(carry .prn (.bin .out)).again] ∧ (expire false prn).trans.forcedReleases = 1 ∧
    (expire false prn).printer = some { (Printer.afterReset .awaitRemove) with trayDisc := some 1, trayMove := true } ∧
    (expire false second).spindle .a = .jammed ∧ (expire false second).discs.records = [] ∧
    (expire false second).trans.queue = [] ∧ ((expire false second).bay 0).state = .empty ∧
    ((expire true held).bay 0).out = none ∧ (expire true held).trans.queue = [carry (.spindle .a) (.bin .reject)] ∧
    (expire true print).printer = some (Printer.afterReset .idle) ∧ ((expire true print).bay 0).state = .empty ∧
    (expire false print).printer = some (Printer.afterReset .idle) := by dsimp only; decide +kernel

/-- The retries spent at a source by a TRAY OPEN that fails, by its deadline, by a SWAP's first leg, and at a tray that does not release. -/
theorem test_sourceSpent :
    let r : MoveReq := { carry (.bay 0) (.bin .out) with retries := 2 }
    let bay : MoveReq → State := fun r => armState .granted (some .arrived) r disc1 (asked .awaitUnload .trayOpen)
    let swap : State := bay { r with kind := .swap, second := some { spindle := .a, bay := 0, disc := 5, dest := .bay 0 } }
    let swap : State := { swap with
      discs := { swap.discs with records := [disc1, { queued1 with number := 5 }] }
      jobs := (withJob { job0 with started := 2, inFlight := 2 } swap).jobs }
    let prn : State := { armState .granted none { carry .prn (.bin .out) with retries := 2 }
      { disc1 with location := .prn } Bay.afterReset with
        printer := some { (Printer.afterReset .printing) with trayDisc := some 1, trayMove := true } }
    let failed : State → Bool := fun t => (t.bay 0).state = .fault ∧ (t.bay 0).disc = some 1 ∧ (t.bay 0).out = none ∧
      (t.disc 1).map Disc.disposition = some (.reject .handling) ∧ t.trans.queue = [] ∧ t.cond .bayFault = true
    failed (run (.trayOpenComplete 0 1 .refused) (bay r)) = true ∧ failed (run (.deadlineExpiry 0 false) (bay r)) = true ∧
    failed (run (.ackTimerExpiry true) swap) = true ∧ (run (.ackTimerExpiry true) swap).disc 5 = none ∧
    ((run (.ackTimerExpiry true) swap).job 0).map (fun j => (j.started, j.inFlight)) = some (1, 1) ∧
    (run (.arrival true) prn).printer = some { (Printer.afterReset .fault) with trayDisc := some 1 } ∧
    (run (.arrival true) prn).cond .printerFault = true ∧
    ((run (.arrival true) prn).disc 1).map Disc.disposition = some (.reject .handling) := by dsimp only; decide +kernel

/-- A spindle found empty for a job that is HELD and for one that is CANCELLING, and one whose sensor change was taken before; a survey's creation that waits; the tray's creation granted; a print refused on a SWAP's first leg; the head's reading bad in a print. -/
theorem test_widenedClauses :
    let spin : JobState → State := fun st => withJob { job1 with state := st }
      (armState .granted none (carry (.spindle .a) (.bay 0)) queued1 (bay0 .awaitDisc))
    let taken : State := { spin .filled with trans := { (spin .filled).trans with spindleA := .empty } }
    let survey : State := withBay (Bay.underSurvey 0) { ready with discs := { ready.discs with orphanWait := [.arm] } }
    let tray : State := { ready with discs := { ready.discs with orphanWait := [.prn] } }
    let swap : MoveReq := { carry (.bay 0) .prn with second := some { spindle := .a, bay := 0, disc := 5, dest := .bay 0 } }
    let dead : State := { armState .carrying (some .arrived) swap onArm1 (bay0 .awaitDisc) with
      printer := some (Printer.afterReset .fault) }
    let print : State := { withLabel label0 (working { job1 with label := some 0 } { disc1 with location := .prn }) with
      printer := some { (Printer.afterReset .printing) with
        trayDisc := some 1, print := some { label := 0, band := 0, line := 3, period := some 768, onTime := some 400 } } }
    ((run (.arrival false) (spin (.held .host))).job 0).map Job.state = some (.held .host) ∧
    ((run (.arrival false) (spin .cancelling)).job 0).map Job.state = some .cancelled ∧
    (run (.arrival false) (spin .cancelling)).status.pending.getLsbD 1 = true ∧
    (run (.arrival false) (spin .filled)).status.pending.getLsbD 11 = true ∧
    (run (.arrival false) taken).status.pending.getLsbD 11 = false ∧ (run (.arrival false) taken).discs.records = [] ∧
    (run (.identifyComplete 0 1 .ok facts0) survey).discs.orphanWait = [.arm, .bay 0] ∧
    ((run (.identifyComplete 0 1 .ok facts0) survey).bay 0).state = .ident ∧
    (run .orphanCreationGrant tray).printer =
      some { (Printer.afterReset .awaitRemove) with trayDisc := some 1, trayMove := true } ∧
    (run .prnTrayConfirmed dead).trans.arm = .held ∧
    (run .prnTrayConfirmed dead).trans.queue = [swap, .posted .printOut .printer .prn (.bin .reject) 1 none] ∧
    (run (.headTemperatureReading 101) print).printer =
      some { (Printer.afterReset .fault) with trayDisc := some 1, trayMove := true } ∧
    ((run (.headTemperatureReading (-11)) print).disc 1).map Disc.disposition = some (.reject .printFault) := by
  dsimp only; decide +kernel

/-- At a source with retries left and with none (a spindle, a bay, PRN), a second leg, at a bay with the disc held and without it, over OUT and over REJECT with the disc held and without it, a retake not confirmed. -/
theorem test_AcknowledgementTimeoutFailsTheHandOver :
    let spin : Nat → State := fun n => armState .granted (some .arrived)
      { carry (.spindle .a) (.bay 0) with retries := n } queued1 (bay0 .awaitDisc)
    let bay : State := armState .granted (some .arrived) { carry (.bay 0) (.bin .out) with retries := 2 } disc1 (bay0 .awaitUnload)
    let out : State := armState .carrying (some .arrived) (carry (.bay 0) (.bin .out)) onArm1 Bay.afterReset
    let prn : State := { armState .granted (some .trayReady) { carry .prn (.bin .out) with retries := 2 }
      { disc1 with location := .prn } Bay.afterReset with
        printer := some { (Printer.afterReset .awaitRemove) with trayDisc := some 1, trayMove := true, clampOpen := true } }
    let two : MoveReq := { carry (.bay 0) (.bin .out) with
      disc := 5, second := some { spindle := .a, bay := 0, disc := 1, dest := .bay 0 } }
    let second : State := armState .granted (some .arrived) two queued1 (bay0 .awaitDisc)
    let dest : HandStep → State := fun h => armState .carrying (some h) (carry (.spindle .a) (.bay 0)) onArm1 (bay0 .awaitDisc)
    let rej : State := armState .carrying (some .arrived) (carry (.bay 0) (.bin .reject)) onArm1 Bay.afterReset
    (run (.ackTimerExpiry false) prn).printer =
      some { (Printer.afterReset .fault) with trayDisc := some 1 } ∧
    (run (.ackTimerExpiry false) { second with trans := { second.trans with leg := .second } }).trans.queue =
      [{ load0 with retries := 1 }] ∧
    (run (.ackTimerExpiry true) (dest .arrived)).trans.queue = [carry (.spindle .a) (.bin .reject)] ∧
    ((run (.ackTimerExpiry true) (dest .arrived)).bay 0).handoverFailures = 1 ∧
    (run (.ackTimerExpiry false) (dest .discMoved)).trans.handover = some .retake ∧
    (run (.ackTimerExpiry false) (dest .retake)).discs.records = [] ∧
    (run (.ackTimerExpiry true) rej).trans.faultCause = some .handling ∧ (run (.ackTimerExpiry true) rej).trans.queue = [] ∧
    (run (.ackTimerExpiry true) rej).discs.completions.length = 1 ∧
    (let more : State → State := fun s => { s with
      jobs := { s.jobs with runMode := .draining }
      discs := { s.discs with records := [{ disc1 with number := 9 }, onArm1] } }
     (run (.ackTimerExpiry true) (more rej)).discs.records = [{ disc1 with number := 9 }] ∧
       (run (.ackTimerExpiry true) (more rej)).jobs.runMode = .draining ∧
       (run (.ackTimerExpiry false) (more (dest .retake))).discs.records = [{ disc1 with number := 9 }] ∧
       (run (.ackTimerExpiry false) (more (dest .retake))).jobs.runMode = .draining ∧
       ((run (.ackTimerExpiry false) (more (dest .retake))).bay 0).handoverFailures = 1 ∧
       (run (.ackTimerExpiry true) (withQueue [{ carry (.bay 0) (.bin .reject) with
         second := some { spindle := .a, bay := 0, disc := 5, dest := .bay 0 } }] (more rej))).trans.queue =
           [{ load0 with disc := 5 }]) ∧
    (spin 2).settingNat 10 = 3 ∧
    (run (.ackTimerExpiry false) (spin 1)).trans.queue = [{ load0 with retries := 2 }] ∧
    (run (.ackTimerExpiry false) (spin 1)).trans.forcedReleases = 1 ∧
    (run (.ackTimerExpiry false) (spin 2)).spindle .a = .jammed ∧ (run (.ackTimerExpiry false) (spin 2)).discs.records = [] ∧
    ((run (.ackTimerExpiry false) bay).bay 0).state = .fault ∧
    ((run (.ackTimerExpiry false) bay).disc 1).map Disc.disposition = some (.reject .handling) ∧
    (run (.ackTimerExpiry true) out).trans.queue = [{ carry (.bay 0) (.bin .out) with dest := .bin .reject }] ∧
    (run (.ackTimerExpiry true) out).sensors.pick = true ∧
    (run (.ackTimerExpiry false) out).discs.records = [] ∧ (run (.ackTimerExpiry false) out).trans.arm = .idle := by
  dsimp only; decide +kernel

/-- The spindle READY, and not, the SWAP alone, behind an older request, and with moves that wait. -/
theorem test_HoldEndsInTheSecondLegOrALoad :
    let r : MoveReq := { carry (.bay 0) (.bin .out) with
      kind := .swap, second := some { spindle := .b, bay := 0, disc := 1, dest := .bay 0 } }
    let s : State := armState .held none r disc1 (bay0 .awaitDisc)
    let s : State := { s with trans := { s.trans with holdTimer := some 10000 } }
    let e : State := { s with trans := { s.trans with spindleB := .empty } }
    let load5 : MoveReq := .posted .load (.bay 5) (.spindle .a) (.bay 5) 5 none
    (run .swapSecondLegStart s).trans.leg = .second ∧ (run .swapSecondLegStart s).trans.arm = .granted ∧
    run .swapSecondLegStart e = e ∧ (run .holdTimerExpiry e).trans.arm = .idle ∧
    (run .holdTimerExpiry (withQueue [load5, r] e)).trans.queue = [load5, { load0 with source := .spindle .b }] ∧
    (run .holdTimerExpiry { e with trans := { e.trans with waiting := [load5, { load5 with requester := .bay 0 }] } }).trans.waiting =
      [{ load5 with requester := .bay 0 }] ∧
    (run .holdTimerExpiry e).trans.queue = [{ load0 with source := .spindle .b }] := by dsimp only; decide +kernel

/-- Both trackers near, a code that jumps, steps too far from the code, trackers not set, the descent, and STOPPED once the door has cut a descent, with the earlier trackers and with none. -/
theorem test_StripCodeChangeIsChecked :
    let s : State := { ready with trans := { ready.trans with pos := some (40, 10) } }
    (run (.stripCodeChange 48 11) s).trans.pos = some (48, 11) ∧ (run (.stripCodeChange 48 11) s).trans.arm = .idle ∧
    (run (.stripCodeChange 47 12) s).trans.faultCause = some .position ∧
    (run (.stripCodeChange 52 11) s).trans.arm = .fault ∧
    (run (.stripCodeChange 51 11) s).trans.arm = .idle ∧ (run (.stripCodeChange 40 11) s).trans.arm = .idle ∧
    (run (.stripCodeChange 39 11) s).trans.arm = .fault ∧
    run (.stripCodeChange 48 11) State.reset = State.reset ∧
    run (.stripCodeChange 0 99) (withArm (.homing .descent) s) = withArm (.homing .descent) s ∧
    (let cut : State → State := fun u => run .doorOpen (withArm (.homing .descent) u)
     (cut s).trans.arm = .stopped ∧ (run (.stripCodeChange 44 11) (cut s)).trans.arm = .stopped ∧
     (run (.stripCodeChange 4 1) (cut s)).trans.faultCause = some .position ∧
     let unset : State := { ready with trans := { ready.trans with pos := none } }
     run (.stripCodeChange 4 1) (cut unset) = cut unset) := by dsimp only; decide +kernel

/-- The door opens on an arm at work, homing and unhomed, and closes on a jammed spindle; each sensor. -/
theorem test_DoorSpindlesAndBinsFollowTheirSensors :
    let work : State := armState .carrying none (carry (.bay 0) (.bin .out)) onArm1 Bay.afterReset
    let ajar : State := { withArm .stopped ready with sensors := { ready.sensors with doorOpen := true } }
    (run .doorOpen work).trans.queue = [{ carry (.bay 0) (.bin .out) with granted := false, interrupted := true }] ∧
    (run .doorOpen work).trans.arm = .stopped ∧ (run .doorOpen work).cond .doorOpen = true ∧
    ((run .doorOpen (armState .granted (some .arrived) (carry (.bay 0) (.bin .out)) disc1
      (asked .awaitUnload .trayOpen))).bay 0).out = none ∧
    (run .doorOpen { armState .granted (some .trayReady) (carry .prn (.bin .out)) disc1 Bay.afterReset with
      printer := some { (Printer.afterReset .awaitRemove) with clampOpen := true } }).printer =
        some (Printer.afterReset .awaitRemove) ∧
    (run .doorOpen (withArm (.homing .carry) ready)).trans.homingPending = true ∧
    (run .doorOpen (withArm .unhomed ready)).trans.arm = .unhomed ∧
    (run .doorClose ajar).trans.arm = .homing .descent ∧
    (run .doorClose { ajar with trans := { ajar.trans with spindleA := .jammed } }).trans.spindleA = .ready ∧
    run .doorOpen ajar = ajar ∧ run .doorClose ready = ready ∧
    (run (.spindleSensorChange .a true) ready).cond .spindleEmpty = true ∧
    (run (.spindleSensorChange .b false) ready).status.pending = 0 ∧
    (run (.spindleSensorChange .b true) { ready with trans := { ready.trans with spindleB := .jammed } }).trans.spindleB = .jammed ∧
    (run (.binFullSensorChange .out true) ready).cond .outputFull = true ∧
    (run (.binFullSensorChange .reject true) ready).status.pending = 1#16 <<< 11 := by dsimp only; decide +kernel

/-- The states of those clauses have their conditions as their owners give them. -/
theorem test_conditionsHold_ready : ready.conditionsHold := by constructor <;> decide

/-! ## The printer -/

/-- A print of label 0 at a band and line, disc 1 on the tray. -/
def printing (st : PrinterState) (band line : Nat) (d : Disc) (head : Int) : State :=
  let s := withLabel label0 (working job1 { d with location := .prn, stage := .inPrinter })
  { s with
    printer := some { (Printer.afterReset st) with
      trayDisc := some 1, print := some { label := 0, band, line, period := some 768, onTime := some 400 } }
    sensors := { s.sensors with tray := true, headReading := head } }

/-- A line inside band 0, its last line with the head cool and hot, the last line of the label (band 1 holds 6 lines) for each disposition; the on-time clamped both ways. -/
theorem test_PrintingGoesLineByLineToItsEnd :
    let p : State → Option (PrinterState × Option (Nat × Nat)) := fun t =>
      t.printer.map fun p => (p.state, p.print.map fun r => (r.band, r.line))
    let c : Instr := .printerLinePeriod
    onTime 1 1000 8 25 = 112 ∧ onTime 8 32 (-8) 60 = 32 ∧ onTime 6 400 1 35 = 368 ∧
    p (run c (printing .printing 0 62 disc1 25)) = some (.printing, some (0, 63)) ∧
    p (run c (printing .printing 0 63 disc1 64)) = some (.printing, some (1, 0)) ∧
    p (run c (printing .printing 0 63 disc1 65)) = some (.cooling, some (1, 0)) ∧
    p (run c (printing .printing 1 5 disc1 25)) = some (.awaitRemove, none) ∧
    (run c (withQueue [.posted .clear .printer .prn (.bin .reject) 9 none] (printing .printing 1 5 disc1 25))).trans.waiting =
      [.posted .printOut .printer .prn (.bay 0) 1 none] ∧
    (run c (printing .printing 1 5 disc1 25)).printer.map Printer.dots = some (.replicate 100 false) ∧
    (let inked : State := withLabel { label0 with blocks := List.replicate 3 (List.replicate 2048 0xFF) }
      (printing .printing 1 5 disc1 25)
     (run c inked).printer.map Printer.dots = some (.replicate 100 true)) ∧
    (run c (printing .printing 1 5 disc1 25)).trans.queue = [.posted .printOut .printer .prn (.bay 0) 1 none] ∧
    (run c (printing .printing 1 5 { disc1 with disposition := .good } 25)).trans.queue =
      [.posted .printOut .printer .prn (.bin .out) 1 none] ∧
    (run c (printing .printing 1 5 { disc1 with disposition := .reject .cancelled } 25)).trans.queue =
      [.posted .printOut .printer .prn (.bin .reject) 1 none] := by dsimp only; decide +kernel

/-- The ribbon out in each state; head readings in and out of range; COOLING below and above 60; PRINTER RESUME in every case. -/
theorem test_PrinterFaultsCoolsAndResumes :
    let p : State → Option PrinterState := fun t => t.printer.map Printer.state
    let rib : Instr := .ribbonSensorChange true
    let fault : Option Nat → Bool → State := fun tray move => { working job1 { disc1 with location := .prn } with
      printer := some { (Printer.afterReset .fault) with trayDisc := tray, trayMove := move } }
    let bad : State := { fault none false with sensors := { ready.sensors with ribbonOut := true } }
    let bare : State := { ready with printer := none }
    p (run rib ready) = some .fault ∧ (run rib ready).cond .printerFault = true ∧
    p (run rib (fault none false)) = some .fault ∧
    p (run rib (printing .printing 0 3 disc1 25)) = some .fault ∧
    ((run rib (printing .cooling 0 0 disc1 70)).disc 1).map Disc.disposition = some (.reject .printFault) ∧
    run (.ribbonSensorChange false) ready = ready ∧
    (run (.ribbonLowSensorChange true) ready).cond .ribbonLow = true ∧
    (run (.headTemperatureReading 65) ready).cond .headHot = true ∧
    (run (.headTemperatureReading 100) ready).cond .printerFault = false ∧
    (run (.headTemperatureReading 101) ready).cond .printerFault = true ∧
    (run (.headTemperatureReading (-11)) ready).cond .printerFault = true ∧
    p (run (.headTemperatureReading 60) (printing .cooling 1 0 disc1 70)) = some .printing ∧
    p (run (.headTemperatureReading 61) (printing .cooling 1 0 disc1 70)) = some .cooling ∧
    run .printerResume State.reset = State.reset.answer 0x71 .busy .none ∧
    run .printerResume bare = bare.answer 0x71 .notFitted .none ∧
    run .printerResume ready = ready.answer 0x71 .state .none ∧
    run .printerResume bad = bad.answer 0x71 .state (.printerBad true false) ∧
    p (run .printerResume (fault none false)) = some .idle ∧
    p (run .printerResume (fault (some 1) true)) = some .awaitRemove ∧
    (run .printerResume (fault (some 1) false)).trans.queue =
      [.posted .printOut .printer .prn (.bin .reject) 1 none] := by dsimp only; decide +kernel

end Sys2Proof.Tests
end

/-! # Proofs: one step -/

section

namespace Sys2Proof.Machine

/-! ## The three ways a step goes (00_scope section 6, log 2) -/

/-- Taking an event: the queue's front leaves the queue before it acts. -/
theorem step_of_pending_cons {s : State} {c : Instr} {rest : List Instr} (hqueue : s.pending = c :: rest) :
    step s = exec c { s with pending := rest } := by
  simp only [step, hqueue]

/-- Due work acts on the state as it stands: it comes from no queue. -/
theorem step_of_nextDue {s : State} {c : Instr} (hempty : s.pending = []) (hdue : s.nextDue = some c) :
    step s = exec c s := by
  simp only [step, hempty, hdue]

/-- Only an idle part lets time pass. -/
theorem step_of_idle {s : State} (hempty : s.pending = []) (hnone : s.nextDue = none) :
    step s = .next s.tick := by
  simp only [step, hempty, hnone]

/-- The clock counts milliseconds, one at a time, and nothing else changes with it. -/
theorem State.tick_eq (s : State) : s.tick = { s with now := s.now + 1 } := rfl

/-- Settles O1: the first of the three ways a step goes. -/
theorem stepTakesTheFrontCommand : Obligations.StepTakesTheFrontCommand :=
  fun _ _ _ hqueue => step_of_pending_cons hqueue

/-- Settles O2: on an empty queue the two other ways, told apart by whether work is due. -/
theorem idleStepTakesDueWorkOrAMillisecond : Obligations.IdleStepTakesDueWorkOrAMillisecond := by
  refine ⟨fun s c hempty hdue => ?due, fun s hempty hnone => ?idle⟩
  case due => exact step_of_nextDue hempty hdue
  case idle =>
    calc step s = .next s.tick := step_of_idle hempty hnone
      _ = .next { s with now := s.now + 1 } := by rw [State.tick_eq]

end Sys2Proof.Machine
end

/-! # Proofs: the parts of the state that each command may change (00_scope section 3) -/

section

namespace Sys2Proof.Machine

/-- The parts of the state that a command may change: those that its row's frame does not keep. -/
def changedParts : Instr → List Part
  | .powerOn _ _ =>
    [.link, .jobs, .discs, .staging, .bays, .governor, .verify, .trans, .labels,
     .printer, .status, .settings, .sensors, .dispatch]
  | .restartBegin =>
    [.link, .jobs, .discs, .staging, .bays, .governor, .verify, .trans, .labels,
     .printer, .status, .settings, .dispatch]
  | .startupInventoryEnd =>
    [.trans, .status, .settings]
  | .startupReady =>
    [.settings, .dispatch]
  | .strapChange _ _ | .ribbonLowSensorChange _ | .binFullSensorChange _ _ =>
    [.status, .sensors]
  | .restart _ | .settingGet _ | .linkReset _ | .inboundTake | .ident | .noticeOffer | .statusGet | .statusClear
  | .flagForce _ | .flagRelease _ | .eventAck _ | .countersGet | .imageQuery _ | .labelQuery _ | .jobQuery _
  | .bayQuery _ =>
    [.link, .status]
  | .settingSet _ | .settingsSave | .eventMask _ =>
    [.link, .status, .settings]
  | .settingsWriteEnd _ =>
    [.discs, .staging, .bays, .trans, .printer, .status, .settings]
  | .portEnumerated | .portConfigured | .frameReceived _ | .oversizeHeaderReceived _ | .inTransferComplete =>
    [.link]
  | .gapTimerExpiry =>
    [.status]
  | .countersClear =>
    [.link, .verify, .status]
  | .imageOpen _ _ _ _ | .passClose _ _ | .imageRewind _ | .imageRelease _ =>
    [.link, .staging, .status, .dispatch]
  | .imageData _ _ _ _ =>
    [.link, .staging, .bays, .status, .dispatch]
  | .labelOpen _ _ _ _ | .labelData _ _ _ | .labelDrop _ =>
    [.link, .labels, .status]
  | .printerResume =>
    [.link, .discs, .trans, .printer, .status, .dispatch]
  | .printerLinePeriod | .moveTimerExpiry | .stripCodeChange _ _ =>
    [.discs, .staging, .bays, .governor, .verify, .trans, .printer, .status, .dispatch]
  | .headTemperatureReading _ | .ribbonSensorChange _ | .pickConfirmed _ | .prnTrayConfirmed =>
    [.discs, .staging, .bays, .governor, .verify, .trans, .printer, .status, .sensors, .dispatch]
  | .jobCreate _ | .jobRelease _ | .towerResume =>
    [.link, .jobs, .status, .dispatch]
  | .jobHold _ | .jobRemove _ | .towerPause | .towerDrain =>
    [.link, .jobs, .status]
  | .jobCancel _ =>
    [.link, .jobs, .discs, .staging, .bays, .governor, .verify, .trans, .printer, .status, .dispatch]
  | .discResults =>
    [.link, .discs, .status]
  | .dispatchEvaluation =>
    [.jobs, .discs, .bays, .trans, .status, .dispatch]
  | .orphanCreationGrant =>
    [.jobs, .discs, .bays, .trans, .printer, .status, .dispatch]
  | .bayOffline _ | .bayOnline _ =>
    [.link, .bays, .status]
  | .identifyComplete _ _ _ _ | .writeComplete _ _ _ _ | .speedComplete _ _ _ | .suspendComplete _ _ _
  | .resumeComplete _ _ _ | .unsolicitedUnderrun _ | .closeComplete _ _ _ | .readComplete _ _ _ _ _ =>
    [.jobs, .discs, .staging, .bays, .governor, .verify, .trans, .status, .dispatch]
  | .identifyRetryTimerExpiry _ =>
    [.bays]
  | .reserveTimerExpiry _ =>
    [.bays, .governor, .status]
  | .verifyLaneTake =>
    [.bays, .verify, .dispatch]
  | .deadlineExpiry _ _ | .trayOpenComplete _ _ _ =>
    [.jobs, .discs, .staging, .bays, .governor, .verify, .trans, .printer, .status, .dispatch]
  | .admissionEvaluation =>
    [.link, .staging, .bays, .governor, .status, .dispatch]
  | .trayCloseComplete _ _ _ | .arrival _ | .ackTimerExpiry _ =>
    [.jobs, .discs, .staging, .bays, .governor, .verify, .trans, .printer, .status, .sensors, .dispatch]
  | .armHome =>
    [.link, .trans, .status]
  | .grantEvaluation =>
    [.trans, .status, .dispatch]
  | .bottomReferenceReached | .holdTimerExpiry =>
    [.discs, .trans, .status, .dispatch]
  | .discSet =>
    [.bays, .trans, .sensors]
  | .dropConfirmed =>
    [.jobs, .discs, .trans, .status, .sensors, .dispatch]
  | .swapSecondLegStart =>
    [.trans, .status]
  | .doorOpen =>
    [.bays, .trans, .printer, .status, .sensors, .dispatch]
  | .doorClose | .spindleSensorChange _ _ =>
    [.trans, .status, .sensors, .dispatch]

/-- A frame, part by part in the order of the rows' frame lemmas. -/
theorem State.changesOnly_iff (l : List Part) (s t : State) : s.changesOnly l t ↔
    (.link ∉ l → t.link = s.link) ∧ (.jobs ∉ l → t.jobs = s.jobs) ∧ (.discs ∉ l → t.discs = s.discs) ∧
      (.staging ∉ l → t.staging = s.staging) ∧ (.bays ∉ l → t.bays = s.bays) ∧
      (.governor ∉ l → t.governor = s.governor) ∧ (.verify ∉ l → t.verify = s.verify) ∧
      (.trans ∉ l → t.trans = s.trans) ∧ (.labels ∉ l → t.labels = s.labels) ∧
      (.printer ∉ l → t.printer = s.printer) ∧ (.status ∉ l → t.status = s.status) ∧
      (.settings ∉ l → t.settings = s.settings) ∧ (.sensors ∉ l → t.sensors = s.sensors) ∧
      (.now ∉ l → t.now = s.now) ∧ (.dispatch ∉ l → t.dispatchWanted = s.dispatchWanted) ∧
      (.pending ∉ l → t.pending = s.pending) := by
  constructor
  · intro h
    exact ⟨h .link, h .jobs, h .discs, h .staging, h .bays, h .governor, h .verify, h .trans, h .labels,
      h .printer, h .status, h .settings, h .sensors, h .now, h .dispatch, h .pending⟩
  · rintro ⟨h1, h2, h3, h4, h5, h6, h7, h8, h9, h10, h11, h12, h13, h14, h15, h16⟩ p
    cases p <;> assumption

/-- A command leaves every part outside its list alone. -/
theorem exec_changesOnly {c : Instr} {s t : State} (e : exec c s = .next t) : s.changesOnly (changedParts c) t := by
  rw [State.changesOnly_iff]
  cases c with
  | powerOn readings flash =>
    simp [changedParts, execPowerOn_frame _ _ _ e]
  | restartBegin =>
    simpa [changedParts] using execRestartBegin_frame _ e
  | startupInventoryEnd =>
    simpa [changedParts] using execStartupInventoryEnd_frame _ e
  | startupReady =>
    simpa [changedParts] using execStartupReady_frame _ e
  | strapChange baysCode printer =>
    simpa [changedParts] using execStrapChange_frame _ _ _ e
  | portEnumerated =>
    simpa [changedParts] using execPortEnumerated_frame _ e
  | portConfigured =>
    simpa [changedParts] using execPortConfigured_frame _ e
  | linkReset detach =>
    simpa [changedParts] using execLinkReset_frame _ _ e
  | frameReceived bytes =>
    simpa [changedParts] using execFrameReceived_frame _ _ e
  | inboundTake =>
    simpa [changedParts] using execInboundTake_frame _ e
  | inTransferComplete =>
    simpa [changedParts] using execInTransferComplete_frame _ e
  | ident =>
    simpa [changedParts] using execIdent_frame _ e
  | restart mode =>
    simpa [changedParts] using execRestart_frame _ _ e
  | settingGet number =>
    simpa [changedParts] using execSettingGet_frame _ _ e
  | settingSet pairs =>
    simpa [changedParts] using execSettingSet_frame _ _ e
  | settingsSave =>
    simpa [changedParts] using execSettingsSave_frame _ e
  | settingsWriteEnd readBack =>
    simpa [changedParts] using execSettingsWriteEnd_frame _ _ e
  | statusGet =>
    simpa [changedParts] using execStatusGet_frame _ e
  | statusClear =>
    simpa [changedParts] using execStatusClear_frame _ e
  | flagForce flags =>
    simpa [changedParts] using execFlagForce_frame _ _ e
  | flagRelease flags =>
    simpa [changedParts] using execFlagRelease_frame _ _ e
  | eventMask mask =>
    simpa [changedParts] using execEventMask_frame _ _ e
  | eventAck events =>
    simpa [changedParts] using execEventAck_frame _ _ e
  | countersGet =>
    simpa [changedParts] using execCountersGet_frame _ e
  | countersClear =>
    simpa [changedParts] using execCountersClear_frame _ e
  | imageOpen slot media needResident size =>
    simpa [changedParts] using execImageOpen_frame _ _ _ _ _ e
  | imageData slot count offset data =>
    simpa [changedParts] using execImageData_frame _ _ _ _ _ e
  | passClose slot pass =>
    simpa [changedParts] using execPassClose_frame _ _ _ e
  | imageRewind slot =>
    simpa [changedParts] using execImageRewind_frame _ _ e
  | imageRelease slot =>
    simpa [changedParts] using execImageRelease_frame _ _ e
  | imageQuery slot =>
    simpa [changedParts] using execImageQuery_frame _ _ e
  | labelOpen label darkness width lines =>
    simpa [changedParts] using execLabelOpen_frame _ _ _ _ _ e
  | labelData label band data =>
    simpa [changedParts] using execLabelData_frame _ _ _ _ e
  | labelDrop label =>
    simpa [changedParts] using execLabelDrop_frame _ _ e
  | labelQuery label =>
    simpa [changedParts] using execLabelQuery_frame _ _ e
  | jobCreate fields =>
    simpa [changedParts] using execJobCreate_frame _ _ e
  | jobHold number =>
    simpa [changedParts] using execJobHold_frame _ _ e
  | jobRelease number =>
    simpa [changedParts] using execJobRelease_frame _ _ e
  | jobCancel number =>
    simpa [changedParts] using execJobCancel_frame _ _ e
  | jobRemove number =>
    simpa [changedParts] using execJobRemove_frame _ _ e
  | jobQuery number =>
    simpa [changedParts] using execJobQuery_frame _ _ e
  | discResults =>
    simpa [changedParts] using execDiscResults_frame _ e
  | bayQuery bay =>
    simpa [changedParts] using execBayQuery_frame _ _ e
  | bayOffline bay =>
    simpa [changedParts] using execBayOffline_frame _ _ e
  | bayOnline bay =>
    simpa [changedParts] using execBayOnline_frame _ _ e
  | armHome =>
    simpa [changedParts] using execArmHome_frame _ e
  | printerResume =>
    simpa [changedParts] using execPrinterResume_frame _ e
  | towerPause =>
    simpa [changedParts] using execTowerPause_frame _ e
  | towerResume =>
    simpa [changedParts] using execTowerResume_frame _ e
  | towerDrain =>
    simpa [changedParts] using execTowerDrain_frame _ e
  | dispatchEvaluation =>
    simpa [changedParts] using execDispatchEvaluation_frame _ e
  | orphanCreationGrant =>
    simpa [changedParts] using execOrphanCreationGrant_frame _ e
  | identifyComplete bay number kind facts =>
    simpa [changedParts] using execIdentifyComplete_frame _ _ _ _ _ e
  | identifyRetryTimerExpiry bay =>
    simpa [changedParts] using execIdentifyRetryTimerExpiry_frame _ _ e
  | writeComplete bay number kind buffer =>
    simpa [changedParts] using execWriteComplete_frame _ _ _ _ _ e
  | reserveTimerExpiry bay =>
    simpa [changedParts] using execReserveTimerExpiry_frame _ _ e
  | speedComplete bay number kind =>
    simpa [changedParts] using execSpeedComplete_frame _ _ _ _ e
  | suspendComplete bay number kind =>
    simpa [changedParts] using execSuspendComplete_frame _ _ _ _ e
  | resumeComplete bay number kind =>
    simpa [changedParts] using execResumeComplete_frame _ _ _ _ e
  | unsolicitedUnderrun bay =>
    simpa [changedParts] using execUnsolicitedUnderrun_frame _ _ e
  | closeComplete bay number kind =>
    simpa [changedParts] using execCloseComplete_frame _ _ _ _ e
  | readComplete bay number kind index data =>
    simpa [changedParts] using execReadComplete_frame _ _ _ _ _ _ e
  | verifyLaneTake =>
    simpa [changedParts] using execVerifyLaneTake_frame _ e
  | trayOpenComplete bay number kind =>
    simpa [changedParts] using execTrayOpenComplete_frame _ _ _ _ e
  | trayCloseComplete bay number kind =>
    simpa [changedParts] using execTrayCloseComplete_frame _ _ _ _ e
  | deadlineExpiry bay ofSuspend =>
    simpa [changedParts] using execDeadlineExpiry_frame _ _ _ e
  | admissionEvaluation =>
    simpa [changedParts] using execAdmissionEvaluation_frame _ e
  | grantEvaluation =>
    simpa [changedParts] using execGrantEvaluation_frame _ e
  | arrival discSeen =>
    simpa [changedParts] using execArrival_frame _ _ e
  | moveTimerExpiry =>
    simpa [changedParts] using execMoveTimerExpiry_frame _ e
  | pickConfirmed two =>
    simpa [changedParts] using execPickConfirmed_frame _ _ e
  | discSet =>
    simpa [changedParts] using execDiscSet_frame _ e
  | prnTrayConfirmed =>
    simpa [changedParts] using execPrnTrayConfirmed_frame _ e
  | dropConfirmed =>
    simpa [changedParts] using execDropConfirmed_frame _ e
  | ackTimerExpiry held =>
    simpa [changedParts] using execAckTimerExpiry_frame _ _ e
  | swapSecondLegStart =>
    simpa [changedParts] using execSwapSecondLegStart_frame _ e
  | holdTimerExpiry =>
    simpa [changedParts] using execHoldTimerExpiry_frame _ e
  | stripCodeChange steps code =>
    simpa [changedParts] using execStripCodeChange_frame _ _ _ e
  | bottomReferenceReached =>
    simpa [changedParts] using execBottomReferenceReached_frame _ e
  | doorOpen =>
    simpa [changedParts] using execDoorOpen_frame _ e
  | doorClose =>
    simpa [changedParts] using execDoorClose_frame _ e
  | spindleSensorChange spindle empty =>
    simpa [changedParts] using execSpindleSensorChange_frame _ _ _ e
  | binFullSensorChange bin full =>
    simpa [changedParts] using execBinFullSensorChange_frame _ _ _ e
  | printerLinePeriod =>
    simpa [changedParts] using execPrinterLinePeriod_frame _ e
  | headTemperatureReading reading =>
    simpa [changedParts] using execHeadTemperatureReading_frame _ _ e
  | ribbonSensorChange out =>
    simpa [changedParts] using execRibbonSensorChange_frame _ _ e
  | ribbonLowSensorChange low =>
    simpa [changedParts] using execRibbonLowSensorChange_frame _ _ e
  | noticeOffer =>
    simpa [changedParts] using execNoticeOffer_frame _ e
  | gapTimerExpiry =>
    simpa [changedParts] using execGapTimerExpiry_frame _ e
  | oversizeHeaderReceived header =>
    simpa [changedParts] using execOversizeHeaderReceived_frame _ _ e

end Sys2Proof.Machine
end

/-! # Proofs: the counters of forced releases and of verification (R106, R119) -/

section

set_option linter.unnecessarySeqFocus false

namespace Sys2Proof.Machine

/-! ## Operations that leave the count of forced releases -/

@[simp] theorem Transport.timersStopped_forced (t : Transport) : t.timersStopped.forcedReleases = t.forcedReleases := rfl

@[simp] theorem Transport.freed_forced (t : Transport) : t.freed.forcedReleases = t.forcedReleases := rfl

@[simp] theorem State.setSpindle_forced (s : State) (i : SpindleId) (st : SpindleState) :
    (State.setSpindle s i st).trans.forcedReleases = s.trans.forcedReleases := by
  unfold State.setSpindle
  split
  · rfl
  · cases i <;> rfl

@[simp] theorem State.joinQueue_forced (s : State) (r : MoveReq) :
    (State.joinQueue s r).trans.forcedReleases = s.trans.forcedReleases := by
  unfold State.joinQueue
  split <;> simp

@[simp] theorem State.postMove_forced (s : State) (r : MoveReq) :
    (State.postMove s r).trans.forcedReleases = s.trans.forcedReleases := by
  unfold State.postMove
  split <;> simp

@[simp] theorem State.postWaiting_forced (s : State) :
    (State.postWaiting s).trans.forcedReleases = s.trans.forcedReleases := by
  simp [State.postWaiting_trans]

@[simp] theorem State.dispatch_forced (s : State) (b : BayId) (slot : JobSlot) (j : Job) (i : SpindleId) :
    (State.dispatch s b slot j i).trans.forcedReleases = s.trans.forcedReleases := by
  simp [State.dispatch]

@[simp] theorem State.dispatchBay_forced (s : State) (b : BayId) :
    (State.dispatchBay s b).trans.forcedReleases = s.trans.forcedReleases := by
  unfold State.dispatchBay
  (repeat' split) <;> simp

@[simp] theorem State.dispatchAll_forced (s : State) :
    (State.dispatchAll s).trans.forcedReleases = s.trans.forcedReleases := by
  unfold State.dispatchAll
  exact foldl_frame (fun t => t.trans.forcedReleases) State.dispatchBay State.dispatchBay_forced _ s

@[simp] theorem State.postUnload_forced (s : State) (b : BayId) (n : Nat) (dest : Station) :
    (State.postUnload s b n dest).trans.forcedReleases = s.trans.forcedReleases := by
  unfold State.postUnload
  split <;> simp

@[simp] theorem State.enterAwaitUnload_forced (s : State) (b : BayId) (n : Nat) :
    (State.enterAwaitUnload s b n).trans.forcedReleases = s.trans.forcedReleases := by
  simp [State.enterAwaitUnload]

@[simp] theorem State.bayReject_forced (s : State) (b : BayId) (why : RejectReason) :
    (State.bayReject s b why).trans.forcedReleases = s.trans.forcedReleases := by
  unfold State.bayReject
  split <;> simp

@[simp] theorem State.ranDry_forced (s : State) (b : BayId) :
    (State.ranDry s b).trans.forcedReleases = s.trans.forcedReleases := by
  simp [State.ranDry]

@[simp] theorem State.identified_forced (s : State) (b : BayId) (n : Nat) (f : DriveFacts) :
    (State.identified s b n f).trans.forcedReleases = s.trans.forcedReleases := by
  unfold State.identified
  simp
  split <;> simp

@[simp] theorem State.bayTakesOrphan_forced (s : State) (b : BayId) (n : Nat) :
    (State.bayTakesOrphan s b n).trans.forcedReleases = s.trans.forcedReleases := by
  simp [State.bayTakesOrphan]

@[simp] theorem State.surveyFoundDisc_forced (s : State) (b : BayId) :
    (State.surveyFoundDisc s b).trans.forcedReleases = s.trans.forcedReleases := by
  unfold State.surveyFoundDisc
  (repeat' split) <;> (try simp) <;> (repeat' split) <;> simp

@[simp] theorem State.postTrayMove_forced (s : State) (p : Printer) (kind : MoveKind) (n : Nat) (dest : Station) :
    (State.postTrayMove s p kind n dest).trans.forcedReleases = s.trans.forcedReleases := by
  simp [State.postTrayMove]

@[simp] theorem State.printEnd_forced (s : State) (p : Printer) :
    (State.printEnd s p).trans.forcedReleases = s.trans.forcedReleases := by
  unfold State.printEnd
  (repeat' split) <;> (try simp) <;> (repeat' split) <;> simp

@[simp] theorem State.linePrinted_forced (s : State) (p : Printer) (r : Print) (l : Label) :
    (State.linePrinted s p r l).trans.forcedReleases = s.trans.forcedReleases := by
  unfold State.linePrinted
  (try simp) <;> (repeat' split) <;> simp

@[simp] theorem State.printSpoiled_forced (s : State) (p : Printer) (n : Nat) :
    (State.printSpoiled s p n).trans.forcedReleases = s.trans.forcedReleases := by
  unfold State.printSpoiled
  simp
  split <;> simp

@[simp] theorem State.printerFaultEntry_forced (s : State) (p : Printer) :
    (State.printerFaultEntry s p).trans.forcedReleases = s.trans.forcedReleases := by
  unfold State.printerFaultEntry
  (repeat' split) <;> simp

@[simp] theorem State.printerAccept_forced (s : State) (n : Nat) :
    (State.printerAccept s n).trans.forcedReleases = s.trans.forcedReleases := by
  unfold State.printerAccept
  (repeat' split) <;> simp

@[simp] theorem State.printerTakesOrphan_forced (s : State) (n : Nat) :
    (State.printerTakesOrphan s n).trans.forcedReleases = s.trans.forcedReleases := by
  unfold State.printerTakesOrphan
  split <;> simp

@[simp] theorem State.surveyPrinter_forced (s : State) :
    (State.surveyPrinter s).trans.forcedReleases = s.trans.forcedReleases := by
  unfold State.surveyPrinter
  (repeat' split) <;> (try simp) <;> (repeat' split) <;> simp

@[simp] theorem State.modCurrent_forced (s : State) (f : MoveReq → MoveReq) :
    (State.modCurrent s f).trans.forcedReleases = s.trans.forcedReleases := rfl

@[simp] theorem State.takeCurrent_forced (s : State) :
    (State.takeCurrent s).trans.forcedReleases = s.trans.forcedReleases := rfl

@[simp] theorem State.dropCurrent_forced (s : State) :
    (State.dropCurrent s).trans.forcedReleases = s.trans.forcedReleases := by
  simp [State.dropCurrent]

@[simp] theorem State.setArm_forced (s : State) (a : ArmState) :
    (State.setArm s a).trans.forcedReleases = s.trans.forcedReleases := rfl

@[simp] theorem State.depart_forced (s : State) :
    (State.depart s).trans.forcedReleases = s.trans.forcedReleases := rfl

@[simp] theorem State.departResuming_forced (s : State) :
    (State.departResuming s).trans.forcedReleases = s.trans.forcedReleases := rfl

@[simp] theorem State.startAck_forced (s : State) (step : HandStep) :
    (State.startAck s step).trans.forcedReleases = s.trans.forcedReleases := rfl

@[simp] theorem State.setStep_forced (s : State) (step : HandStep) :
    (State.setStep s step).trans.forcedReleases = s.trans.forcedReleases := rfl

@[simp] theorem State.armIdle_forced (s : State) :
    (State.armIdle s).trans.forcedReleases = s.trans.forcedReleases := rfl

@[simp] theorem State.grantTo_forced (s : State) (r : MoveReq) :
    (State.grantTo s r).trans.forcedReleases = s.trans.forcedReleases := rfl

@[simp] theorem State.grantEvaluation_forced (s : State) :
    (State.grantEvaluation s).trans.forcedReleases = s.trans.forcedReleases := by
  unfold State.grantEvaluation
  (repeat' split) <;> simp

@[simp] theorem State.moveDone_forced (s : State) :
    (State.moveDone s).trans.forcedReleases = s.trans.forcedReleases := by
  simp [State.moveDone]

@[simp] theorem State.legDone_forced (s : State) :
    (State.legDone s).trans.forcedReleases = s.trans.forcedReleases := by
  unfold State.legDone
  split <;> simp

@[simp] theorem State.startSecondLeg_forced (s : State) :
    (State.startSecondLeg s).trans.forcedReleases = s.trans.forcedReleases := rfl

@[simp] theorem State.secondBecomesLoad_forced (s : State) (second : Option SecondLeg) :
    (State.secondBecomesLoad s second).trans.forcedReleases = s.trans.forcedReleases := by
  unfold State.secondBecomesLoad
  split <;> simp

@[simp] theorem State.retriesSpent_forced (s : State) (r : MoveReq) (source : Station) (n : Nat) (b : Option BayId) :
    (State.retriesSpent s r source n b).trans.forcedReleases = s.trans.forcedReleases := by
  unfold State.retriesSpent
  cases source <;> cases r.second <;> simp

@[simp] theorem State.foundEmpty_forced (s : State) (r : MoveReq) (i : SpindleId) :
    (State.foundEmpty s r i).trans.forcedReleases = s.trans.forcedReleases := by
  simp [State.foundEmpty]

@[simp] theorem State.toReject_forced (s : State) :
    (State.toReject s).trans.forcedReleases = s.trans.forcedReleases := rfl

@[simp] theorem State.divert_forced (s : State) (r : MoveReq) :
    (State.divert s r).trans.forcedReleases = s.trans.forcedReleases := by
  simp [State.divert]

@[simp] theorem State.destFailure_forced (s : State) :
    (State.destFailure s).trans.forcedReleases = s.trans.forcedReleases := by
  unfold State.destFailure
  (repeat' split) <;> (try simp) <;> (repeat' split) <;> simp

@[simp] theorem State.retakeFailed_forced (s : State) (r : MoveReq) :
    (State.retakeFailed s r).trans.forcedReleases = s.trans.forcedReleases := by
  simp [State.retakeFailed]

@[simp] theorem State.armFaultEntry_forced (s : State) (why : FaultCause) :
    (State.armFaultEntry s why).trans.forcedReleases = s.trans.forcedReleases := by
  unfold State.armFaultEntry
  (try simp) <;> (repeat' split) <;> (try simp) <;> (repeat' split) <;> simp

@[simp] theorem State.startHoming_forced (s : State) :
    (State.startHoming s).trans.forcedReleases = s.trans.forcedReleases := by
  unfold State.startHoming
  split <;> simp

@[simp] theorem State.resumeGrant_forced (s : State) :
    (State.resumeGrant s).trans.forcedReleases = s.trans.forcedReleases := by
  unfold State.resumeGrant
  simp
  split <;> simp

@[simp] theorem State.homingEnd_forced (s : State) :
    (State.homingEnd s).trans.forcedReleases = s.trans.forcedReleases := by
  unfold State.homingEnd
  dsimp only
  split <;> simp

@[simp] theorem State.clearArm_forced (s : State) (n : Nat) :
    (State.clearArm s n).trans.forcedReleases = s.trans.forcedReleases := rfl

@[simp] theorem State.homingClear_forced (s : State) :
    (State.homingClear s).trans.forcedReleases = s.trans.forcedReleases := by
  unfold State.homingClear
  (repeat' split) <;> (try simp) <;> (repeat' split) <;> simp

@[simp] theorem State.dropStuck_forced (s : State) (second : Option SecondLeg) (n : Nat) :
    (State.dropStuck s second n).trans.forcedReleases = s.trans.forcedReleases := by
  simp [State.dropStuck]

@[simp] theorem State.dropFailure_forced (s : State) (r : MoveReq) (at_ : BinId) :
    (State.dropFailure s r at_).trans.forcedReleases = s.trans.forcedReleases := by
  unfold State.dropFailure
  (repeat' split) <;> (try simp) <;> (repeat' split) <;> simp

@[simp] theorem State.homingDropFailure_forced (s : State) :
    (State.homingDropFailure s).trans.forcedReleases = s.trans.forcedReleases := by
  unfold State.homingDropFailure
  (try simp) <;> (repeat' split) <;> simp

@[simp] theorem State.withdrawCurrent_forced (s : State) (r : MoveReq) :
    (State.withdrawCurrent s r).trans.forcedReleases = s.trans.forcedReleases := by
  unfold State.withdrawCurrent
  split <;> simp

@[simp] theorem State.withdraw_forced (s : State) (n : Nat) :
    (State.withdraw s n).trans.forcedReleases = s.trans.forcedReleases := by
  unfold State.withdraw
  (repeat' split) <;> simp

@[simp] theorem State.changeDest_forced (s : State) (n : Nat) :
    (State.changeDest s n).trans.forcedReleases = s.trans.forcedReleases := by
  unfold State.changeDest
  (repeat' split) <;> (try simp) <;> (repeat' split) <;> simp

@[simp] theorem State.cancelCarried_forced (s : State) (n : Nat) :
    (State.cancelCarried s n).trans.forcedReleases = s.trans.forcedReleases := by
  unfold State.cancelCarried
  (repeat' split) <;> simp

@[simp] theorem State.doublePick_forced (s : State) (r : MoveReq) (n : Nat) :
    (State.doublePick s r n).trans.forcedReleases = s.trans.forcedReleases := by
  unfold State.doublePick
  simp
  split <;> simp

@[simp] theorem State.pickDone_forced (s : State) (r : MoveReq) (two : Bool) :
    (State.pickDone s r two).trans.forcedReleases = s.trans.forcedReleases := by
  unfold State.pickDone
  (repeat' split) <;> (try simp) <;> (repeat' split) <;> simp

@[simp] theorem State.retaken_forced (s : State) (r : MoveReq) :
    (State.retaken s r).trans.forcedReleases = s.trans.forcedReleases := by
  unfold State.retaken
  simp
  split <;> simp

@[simp] theorem State.accepted_forced (s : State) (n : Nat) (at_ : Station) (st : DiscStage) :
    (State.accepted s n at_ st).trans.forcedReleases = s.trans.forcedReleases := by
  simp [State.accepted]

@[simp] theorem State.cancelQueued_forced (s : State) (d : Disc) :
    (State.cancelQueued s d).trans.forcedReleases = s.trans.forcedReleases := by
  simp [State.cancelQueued]

@[simp] theorem State.cancelOnArm_forced (s : State) (d : Disc) :
    (State.cancelOnArm s d).trans.forcedReleases = s.trans.forcedReleases := by
  unfold State.cancelOnArm
  split <;> simp

@[simp] theorem State.cancelInBay_forced (s : State) (d : Disc) (b : BayId) :
    (State.cancelInBay s d b).trans.forcedReleases = s.trans.forcedReleases := by
  unfold State.cancelInBay
  split <;> simp

@[simp] theorem State.cancelDisc_forced (s : State) (d : Disc) :
    (State.cancelDisc s d).trans.forcedReleases = s.trans.forcedReleases := by
  unfold State.cancelDisc
  (repeat' split) <;> simp

@[simp] theorem State.cancelJob_forced (s : State) (slot : JobSlot) (j : Job) :
    (State.cancelJob s slot j).trans.forcedReleases = s.trans.forcedReleases := by
  unfold State.cancelJob
  simp only [State.countJob_frame]
  exact (foldl_frame (fun t => t.trans.forcedReleases) _ State.cancelDisc_forced _ _).trans (by simp)

@[simp] theorem State.beginInventory_forced (s : State) :
    (State.beginInventory s).trans.forcedReleases = s.trans.forcedReleases := by
  simp [State.beginInventory]

@[simp] theorem State.finishStarting_forced (s : State) (mode : RestartMode) :
    (State.finishStarting s mode).trans.forcedReleases = s.trans.forcedReleases := by
  unfold State.finishStarting
  split <;> simp

@[simp] theorem State.resumePrinter_forced (s : State) (p : Printer) :
    (State.resumePrinter s p).trans.forcedReleases = s.trans.forcedReleases := by
  unfold State.resumePrinter
  (repeat' split) <;> simp

@[simp] theorem State.readingTaken_forced (s : State) :
    (State.readingTaken s).trans.forcedReleases = s.trans.forcedReleases := by
  unfold State.readingTaken
  (try simp) <;> (repeat' split) <;> simp

@[simp] theorem State.orphanGiven_forced (s : State) (w : OrphanAt) (n : Nat) :
    (State.orphanGiven s w n).trans.forcedReleases = s.trans.forcedReleases := by
  unfold State.orphanGiven
  (repeat' split) <;> simp

@[simp] theorem State.grantOrphan_forced (s : State) :
    (State.grantOrphan s).trans.forcedReleases = s.trans.forcedReleases := by
  unfold State.grantOrphan
  (repeat' split) <;> simp

@[simp] theorem State.identResult_forced (s : State) (b : BayId) (kind : CompletionKind) (facts : DriveFacts) :
    (State.identResult s b kind facts).trans.forcedReleases = s.trans.forcedReleases := by
  unfold State.identResult
  split <;> simp

@[simp] theorem State.surveyResult_forced (s : State) (b : BayId) (kind : CompletionKind) (facts : DriveFacts) :
    (State.surveyResult s b kind facts).trans.forcedReleases = s.trans.forcedReleases := by
  unfold State.surveyResult
  (repeat' split) <;> simp

@[simp] theorem State.closed_forced (s : State) (b : BayId) :
    (State.closed s b).trans.forcedReleases = s.trans.forcedReleases := by
  unfold State.closed
  (repeat' split) <;> (try simp) <;> (repeat' split) <;> simp

@[simp] theorem State.verifySucceeds_forced (s : State) (b : BayId) (n : Nat) :
    (State.verifySucceeds s b n).trans.forcedReleases = s.trans.forcedReleases := by
  simp [State.verifySucceeds]

@[simp] theorem State.verifyFails_forced (s : State) (b : BayId) (why : RejectReason) :
    (State.verifyFails s b why).trans.forcedReleases = s.trans.forcedReleases := by
  simp [State.verifyFails]

@[simp] theorem State.chunkHandled_forced (s : State) (b : BayId) (l : LaneId) (y : Lane) (good : Bool) :
    (State.chunkHandled s b l y good).trans.forcedReleases = s.trans.forcedReleases := by
  unfold State.chunkHandled
  (repeat' split) <;> (try simp) <;> (repeat' split) <;> simp

@[simp] theorem State.readOk_forced (s : State) (b : BayId) (l : LaneId) (y : Lane) (index : Nat) (data : List Byte) :
    (State.readOk s b l y index data).trans.forcedReleases = s.trans.forcedReleases := by
  unfold State.readOk
  (repeat' split) <;> simp

@[simp] theorem State.workTimedOut_forced (s : State) (b : BayId) :
    (State.workTimedOut s b).trans.forcedReleases = s.trans.forcedReleases := by
  unfold State.workTimedOut
  (try simp) <;> (repeat' split) <;> simp

@[simp] theorem State.identTimedOut_forced (s : State) (b : BayId) :
    (State.identTimedOut s b).trans.forcedReleases = s.trans.forcedReleases := by
  unfold State.identTimedOut
  split <;> simp

@[simp] theorem State.trayOpened_forced (s : State) (b : BayId) :
    (State.trayOpened s b).trans.forcedReleases = s.trans.forcedReleases := by
  unfold State.trayOpened
  (repeat' split) <;> simp

@[simp] theorem State.bayAccepts_forced (s : State) (b : BayId) :
    (State.bayAccepts s b).trans.forcedReleases = s.trans.forcedReleases := by
  unfold State.bayAccepts
  (repeat' split) <;> simp

@[simp] theorem State.atDest_forced (s : State) (r : MoveReq) :
    (State.atDest s r).trans.forcedReleases = s.trans.forcedReleases := by
  unfold State.atDest
  simp
  split <;> simp

@[simp] theorem State.discSet_forced (s : State) :
    (State.discSet s).trans.forcedReleases = s.trans.forcedReleases := rfl

@[simp] theorem State.dropped_forced (s : State) (r : MoveReq) (at_ : BinId) :
    (State.dropped s r at_).trans.forcedReleases = s.trans.forcedReleases := by
  simp [State.dropped]

@[simp] theorem State.homingDropped_forced (s : State) :
    (State.homingDropped s).trans.forcedReleases = s.trans.forcedReleases := by
  unfold State.homingDropped
  simp
  split <;> simp

@[simp] theorem State.carryFailed_forced (s : State) (r : MoveReq) :
    (State.carryFailed s r).trans.forcedReleases = s.trans.forcedReleases := by
  unfold State.carryFailed
  (repeat' split) <;> simp

@[simp] theorem State.holdTimedOut_forced (s : State) :
    (State.holdTimedOut s).trans.forcedReleases = s.trans.forcedReleases := by
  simp [State.holdTimedOut]

@[simp] theorem State.stopForDoor_forced (s : State) :
    (State.stopForDoor s).trans.forcedReleases = s.trans.forcedReleases := by
  unfold State.stopForDoor
  split <;> simp

@[simp] theorem State.unjam_forced (s : State) (i : SpindleId) :
    (State.unjam s i).trans.forcedReleases = s.trans.forcedReleases := by
  unfold State.unjam
  split <;> simp

/-! ## The forced release and what reaches it -/

/-- The count runs modulo 16 (R119). -/
@[simp] theorem State.forcedRelease_forced {s : State} (h : s.trans.forcedReleases < 16) :
    s.forcedRelease.trans.forcedReleases < 16 := by
  unfold State.forcedRelease
  cases s.trans.grant with
  | none => exact h
  | some r =>
    dsimp only
    split <;> simp <;> omega

@[simp] theorem State.trayFailed_forced {s : State} (b : BayId) (h : s.trans.forcedReleases < 16) :
    (s.trayFailed b).trans.forcedReleases < 16 := by
  unfold State.trayFailed
  (repeat' split) <;> simp [h]

@[simp] theorem State.atSource_forced {s : State} (r : MoveReq) (seen : Bool) (h : s.trans.forcedReleases < 16) :
    (s.atSource r seen).trans.forcedReleases < 16 := by
  unfold State.atSource
  cases s.trans.legSource r <;> dsimp only <;> (repeat' split) <;> simp [h]

@[simp] theorem State.resetBlocks_forced (s : State) : s.resetBlocks.trans.forcedReleases = 0 := rfl

@[simp] theorem State.startup_forced (s : State) (mode : RestartMode) : (s.startup mode).trans.forcedReleases = 0 := by
  unfold State.startup
  dsimp only
  split <;> simp

/-! ## Operations that leave the verify counters -/

/-- The chunks verified, the chunks that did not match, and the repeats (R106). -/
def VerifyEngine.counters (v : VerifyEngine) : Nat × Nat × Nat := (v.chunksVerified, v.mismatched, v.repeats)

@[simp] theorem State.leaveVerify_counters (s : State) (b : BayId) :
    (State.leaveVerify s b).verify.counters = s.verify.counters := by
  rfl

@[simp] theorem State.joinVerify_counters (s : State) (b : BayId) :
    (State.joinVerify s b).verify.counters = s.verify.counters := by
  rfl

@[simp] theorem State.abandonWork_counters (s : State) (b : BayId) :
    (State.abandonWork s b).verify.counters = s.verify.counters := by
  simp [State.abandonWork]

@[simp] theorem State.bayReject_counters (s : State) (b : BayId) (why : RejectReason) :
    (State.bayReject s b why).verify.counters = s.verify.counters := by
  unfold State.bayReject
  split <;> simp

@[simp] theorem State.bayFaultEntry_counters (s : State) (b : BayId) :
    (State.bayFaultEntry s b).verify.counters = s.verify.counters := by
  simp [State.bayFaultEntry]

@[simp] theorem State.ranDry_counters (s : State) (b : BayId) :
    (State.ranDry s b).verify.counters = s.verify.counters := by
  simp [State.ranDry]

@[simp] theorem State.awaitDiscEnd_counters (s : State) (b : BayId) (accept : Bool) :
    (State.awaitDiscEnd s b accept).verify.counters = s.verify.counters := by
  unfold State.awaitDiscEnd
  simp
  split <;> simp

@[simp] theorem State.discWillNotCome_counters (s : State) (b : BayId) (n : Nat) (accept : Bool) :
    (State.discWillNotCome s b n accept).verify.counters = s.verify.counters := by
  unfold State.discWillNotCome
  split <;> simp

@[simp] theorem State.tellTarget_counters (s : State) (n : Nat) :
    (State.tellTarget s n).verify.counters = s.verify.counters := by
  unfold State.tellTarget
  split <;> simp

@[simp] theorem State.identified_counters (s : State) (b : BayId) (n : Nat) (f : DriveFacts) :
    (State.identified s b n f).verify.counters = s.verify.counters := by
  unfold State.identified
  simp
  split <;> simp

@[simp] theorem State.printEnd_counters (s : State) (p : Printer) :
    (State.printEnd s p).verify.counters = s.verify.counters := by
  unfold State.printEnd
  (repeat' split) <;> (try simp) <;> (repeat' split) <;> simp

@[simp] theorem State.linePrinted_counters (s : State) (p : Printer) (r : Print) (l : Label) :
    (State.linePrinted s p r l).verify.counters = s.verify.counters := by
  unfold State.linePrinted
  (try simp) <;> (repeat' split) <;> simp

@[simp] theorem State.printSpoiled_counters (s : State) (p : Printer) (n : Nat) :
    (State.printSpoiled s p n).verify.counters = s.verify.counters := by
  unfold State.printSpoiled
  simp
  split <;> simp

@[simp] theorem State.printerFaultEntry_counters (s : State) (p : Printer) :
    (State.printerFaultEntry s p).verify.counters = s.verify.counters := by
  unfold State.printerFaultEntry
  (repeat' split) <;> simp

@[simp] theorem State.printerAccept_counters (s : State) (n : Nat) :
    (State.printerAccept s n).verify.counters = s.verify.counters := by
  unfold State.printerAccept
  (repeat' split) <;> simp

@[simp] theorem State.trayMoveSpent_counters (s : State) (n : Nat) :
    (State.trayMoveSpent s n).verify.counters = s.verify.counters := by
  unfold State.trayMoveSpent
  (repeat' split) <;> (try simp) <;> (repeat' split) <;> simp

@[simp] theorem State.pickFailed_counters (s : State) (b : Option BayId) (n : Nat) :
    (State.pickFailed s b n).verify.counters = s.verify.counters := by
  unfold State.pickFailed
  split <;> simp

@[simp] theorem State.retriesSpent_counters (s : State) (r : MoveReq) (source : Station) (n : Nat) (b : Option BayId) :
    (State.retriesSpent s r source n b).verify.counters = s.verify.counters := by
  unfold State.retriesSpent
  (repeat' split) <;> simp

@[simp] theorem State.forcedRelease_counters (s : State) :
    (State.forcedRelease s).verify.counters = s.verify.counters := by
  unfold State.forcedRelease
  (repeat' split) <;> (try simp) <;> (repeat' split) <;> simp

@[simp] theorem State.foundEmpty_counters (s : State) (r : MoveReq) (i : SpindleId) :
    (State.foundEmpty s r i).verify.counters = s.verify.counters := by
  simp [State.foundEmpty]

@[simp] theorem State.tellAwaiting_counters (s : State) (r : MoveReq) (at_ : Station) (n : Nat) (accept : Bool) :
    (State.tellAwaiting s r at_ n accept).verify.counters = s.verify.counters := by
  unfold State.tellAwaiting
  (repeat' split) <;> simp

@[simp] theorem State.divert_counters (s : State) (r : MoveReq) :
    (State.divert s r).verify.counters = s.verify.counters := by
  simp [State.divert]

@[simp] theorem State.destFailure_counters (s : State) :
    (State.destFailure s).verify.counters = s.verify.counters := by
  unfold State.destFailure
  (repeat' split) <;> (try simp) <;> (repeat' split) <;> simp

@[simp] theorem State.retakeFailed_counters (s : State) (r : MoveReq) :
    (State.retakeFailed s r).verify.counters = s.verify.counters := by
  simp [State.retakeFailed]

@[simp] theorem State.armFaultEntry_counters (s : State) (why : FaultCause) :
    (State.armFaultEntry s why).verify.counters = s.verify.counters := by
  unfold State.armFaultEntry
  (try simp) <;> (repeat' split) <;> simp

@[simp] theorem State.dropStuck_counters (s : State) (second : Option SecondLeg) (n : Nat) :
    (State.dropStuck s second n).verify.counters = s.verify.counters := by
  simp [State.dropStuck]

@[simp] theorem State.dropFailure_counters (s : State) (r : MoveReq) (at_ : BinId) :
    (State.dropFailure s r at_).verify.counters = s.verify.counters := by
  unfold State.dropFailure
  (repeat' split) <;> (try simp) <;> (repeat' split) <;> simp

@[simp] theorem State.homingDropFailure_counters (s : State) :
    (State.homingDropFailure s).verify.counters = s.verify.counters := by
  unfold State.homingDropFailure
  (try simp) <;> (repeat' split) <;> simp

@[simp] theorem State.changeDest_counters (s : State) (n : Nat) :
    (State.changeDest s n).verify.counters = s.verify.counters := by
  unfold State.changeDest
  (repeat' split) <;> (try simp) <;> (repeat' split) <;> simp

@[simp] theorem State.cancelCarried_counters (s : State) (n : Nat) :
    (State.cancelCarried s n).verify.counters = s.verify.counters := by
  unfold State.cancelCarried
  (repeat' split) <;> simp

@[simp] theorem State.doublePick_counters (s : State) (r : MoveReq) (n : Nat) :
    (State.doublePick s r n).verify.counters = s.verify.counters := by
  unfold State.doublePick
  simp
  split <;> simp

@[simp] theorem State.pickDone_counters (s : State) (r : MoveReq) (two : Bool) :
    (State.pickDone s r two).verify.counters = s.verify.counters := by
  unfold State.pickDone
  (repeat' split) <;> (try simp) <;> (repeat' split) <;> simp

@[simp] theorem State.retaken_counters (s : State) (r : MoveReq) :
    (State.retaken s r).verify.counters = s.verify.counters := by
  unfold State.retaken
  simp
  split <;> simp

@[simp] theorem State.cancelQueued_counters (s : State) (d : Disc) :
    (State.cancelQueued s d).verify.counters = s.verify.counters := by
  simp [State.cancelQueued]

@[simp] theorem State.cancelOnArm_counters (s : State) (d : Disc) :
    (State.cancelOnArm s d).verify.counters = s.verify.counters := by
  unfold State.cancelOnArm
  split <;> simp

@[simp] theorem State.cancelInBay_counters (s : State) (d : Disc) (b : BayId) :
    (State.cancelInBay s d b).verify.counters = s.verify.counters := by
  unfold State.cancelInBay
  split <;> simp

@[simp] theorem State.cancelDisc_counters (s : State) (d : Disc) :
    (State.cancelDisc s d).verify.counters = s.verify.counters := by
  unfold State.cancelDisc
  (repeat' split) <;> simp

@[simp] theorem State.cancelJob_counters (s : State) (slot : JobSlot) (j : Job) :
    (State.cancelJob s slot j).verify.counters = s.verify.counters := by
  unfold State.cancelJob
  simp only [State.countJob_frame]
  exact (foldl_frame (fun t => t.verify.counters) _ State.cancelDisc_counters _ _).trans (by simp)

@[simp] theorem State.readingTaken_counters (s : State) :
    (State.readingTaken s).verify.counters = s.verify.counters := by
  unfold State.readingTaken
  (try simp) <;> (repeat' split) <;> simp

@[simp] theorem State.identResult_counters (s : State) (b : BayId) (kind : CompletionKind) (facts : DriveFacts) :
    (State.identResult s b kind facts).verify.counters = s.verify.counters := by
  unfold State.identResult
  split <;> simp

@[simp] theorem State.closed_counters (s : State) (b : BayId) :
    (State.closed s b).verify.counters = s.verify.counters := by
  unfold State.closed
  (repeat' split) <;> (try simp) <;> (repeat' split) <;> simp

@[simp] theorem State.verifySucceeds_counters (s : State) (b : BayId) (n : Nat) :
    (State.verifySucceeds s b n).verify.counters = s.verify.counters := by
  simp [State.verifySucceeds]

@[simp] theorem State.verifyFails_counters (s : State) (b : BayId) (why : RejectReason) :
    (State.verifyFails s b why).verify.counters = s.verify.counters := by
  simp [State.verifyFails]

@[simp] theorem State.takeHead_counters (s : State) (l : LaneId) (b : BayId) :
    (s.takeHead l b).verify.counters = s.verify.counters := by
  unfold State.takeHead
  cases s.laneFor b <;> rfl

@[simp] theorem State.workTimedOut_counters (s : State) (b : BayId) :
    (State.workTimedOut s b).verify.counters = s.verify.counters := by
  unfold State.workTimedOut
  (try simp) <;> (repeat' split) <;> simp

@[simp] theorem State.identTimedOut_counters (s : State) (b : BayId) :
    (State.identTimedOut s b).verify.counters = s.verify.counters := by
  unfold State.identTimedOut
  split <;> simp

@[simp] theorem State.trayFailed_counters (s : State) (b : BayId) :
    (State.trayFailed s b).verify.counters = s.verify.counters := by
  unfold State.trayFailed
  (repeat' split) <;> simp

@[simp] theorem State.atSource_counters (s : State) (r : MoveReq) (seen : Bool) :
    (State.atSource s r seen).verify.counters = s.verify.counters := by
  unfold State.atSource
  (repeat' split) <;> (try simp) <;> (repeat' split) <;> simp

@[simp] theorem State.carryFailed_counters (s : State) (r : MoveReq) :
    (State.carryFailed s r).verify.counters = s.verify.counters := by
  unfold State.carryFailed
  (repeat' split) <;> simp

@[simp] theorem State.takeLanes_counters (n : Nat) (s : State) :
    (State.takeLanes n s).verify.counters = s.verify.counters := by
  induction n generalizing s with
  | zero => rfl
  | succ n ih =>
    rw [State.takeLanes]
    split
    · rw [ih, State.takeHead_counters]
    · rfl

/-! ## The chunks that a lane counts, and what reaches it -/

/-- The verify counters are within their capacities (R106). -/
def countersWithin (c : Nat × Nat × Nat) : Prop := c.1 ≤ Config.max32 ∧ c.2.1 ≤ Config.max16 ∧ c.2.2 ≤ Config.max16

/-- The counters stop at their limits (R1, R106). -/
theorem VerifyEngine.countChunk_counters {v : VerifyEngine} (good : Bool) (h : countersWithin v.counters) :
    countersWithin (v.countChunk good).counters := by
  obtain ⟨hchunks, hmiss, hrepeats⟩ := h
  cases good
  · exact ⟨hchunks, satInc_le hmiss, hrepeats⟩
  · exact ⟨satInc_le hchunks, hmiss, hrepeats⟩

theorem VerifyEngine.countRepeat_counters {v : VerifyEngine} (h : countersWithin v.counters) :
    countersWithin v.countRepeat.counters := by
  obtain ⟨hchunks, hmiss, hrepeats⟩ := h
  exact ⟨hchunks, hmiss, satInc_le hrepeats⟩

/-- The lanes' records are no counters. -/
@[simp] theorem VerifyEngine.lanes_counters (v : VerifyEngine) (l : Vector (Option Lane) 4) :
    { v with lanes := l }.counters = v.counters := rfl

@[simp] theorem State.chunkHandled_counters {s : State} (b : BayId) (l : LaneId) (y : Lane) (good : Bool)
    (h : countersWithin s.verify.counters) : countersWithin (s.chunkHandled b l y good).verify.counters := by
  have counted := VerifyEngine.countChunk_counters good h
  unfold State.chunkHandled
  cases good <;> dsimp only <;> (repeat' split) <;> simpa using counted

@[simp] theorem State.readOk_counters {s : State} (b : BayId) (l : LaneId) (y : Lane) (index : Nat)
    (data : List Byte) (h : countersWithin s.verify.counters) :
    countersWithin (s.readOk b l y index data).verify.counters := by
  unfold State.readOk
  split
  · exact State.chunkHandled_counters _ _ _ _ h
  · split
    · exact VerifyEngine.countRepeat_counters h
    · simpa using h

/-- A start-up begins with the counters at 0 (R109). -/
@[simp] theorem State.startup_counters (s : State) (mode : RestartMode) :
    (s.startup mode).verify.counters = (0, 0, 0) := by
  unfold State.startup
  dsimp only
  split <;> simp [State.resetBlocks, VerifyEngine.counters, VerifyEngine.afterReset]

end Sys2Proof.Machine
end

/-! # Proofs: every step keeps the capacities (01 section 1.1, R8, R106, R113, R119, R168, R175) -/

section

set_option linter.unnecessarySeqFocus false
set_option linter.unusedSimpArgs false

namespace Sys2Proof.Machine

/-! ## The Disc Table, the verify counters and the move queue, command by command -/

/-- The bounds that the blocks other than the link keep. -/
structure State.bounded (s : State) : Prop where
  discs : s.discs.within
  counters : countersWithin s.verify.counters
  forced : s.trans.forcedReleases < 16
  requesters : (s.trans.queue.map MoveReq.requester).Nodup

/-- The bounds read three parts only. -/
theorem State.bounded.of_same {s t : State} (h : s.bounded) (discs : t.discs = s.discs) (verify : t.verify = s.verify)
    (trans : t.trans = s.trans) : t.bounded := by
  obtain ⟨hdiscs, hcounters, hforced, hrequesters⟩ := h
  exact ⟨discs ▸ hdiscs, verify ▸ hcounters, trans ▸ hforced, trans ▸ hrequesters⟩

theorem DiscTable.afterReset_within : DiscTable.afterReset.within := by
  refine ⟨?_, ?_, ?_⟩ <;> decide

theorem DiscTable.readOut_within {t : DiscTable} (h : t.within) : t.readOut.within := by
  obtain ⟨hrecords, hcompletions, -⟩ := h
  exact ⟨hrecords, by simp only [DiscTable.readOut, List.length_drop]; omega, Nat.zero_le _⟩

theorem State.finishStarting_within {s : State} (mode : RestartMode) (h : s.discs.within) :
    (s.finishStarting mode).discs.within := by
  unfold State.finishStarting
  cases mode <;> exact State.beginInventory_within (by simpa using h)

theorem State.startup_within (s : State) (mode : RestartMode) : (s.startup mode).discs.within := by
  have blank : (s.strapsFor mode).resetBlocks.discs.within := DiscTable.afterReset_within
  unfold State.startup
  dsimp only
  split
  · simpa using blank
  · exact State.finishStarting_within mode (by simpa using blank)

/-- A start-up begins with the blocks at their after-reset values (R192). -/
theorem State.startup_bounded (s : State) (mode : RestartMode) : (s.startup mode).bounded :=
  ⟨State.startup_within s mode, by simp [countersWithin], by simp, State.startup_oneEach s mode⟩

theorem execPowerOn_bounded {t : State} (readings : Readings) (flash : List Byte) (s : State) (_h : s.bounded)
    (e : execPowerOn readings flash s = .next t) : t.bounded := by
  injection e with e
  exact e ▸ State.startup_bounded _ _

theorem execRestartBegin_bounded {t : State} (s : State) (h : s.bounded)
    (e : execRestartBegin s = .next t) : t.bounded := by
  unfold execRestartBegin at e
  split at e <;> (injection e with e; subst e)
  · exact h
  · exact State.startup_bounded _ _

theorem execStartupInventoryEnd_bounded {t : State} (s : State) (h : s.bounded)
    (e : execStartupInventoryEnd s = .next t) : t.bounded := by
  obtain ⟨hdiscs, hcounters, hforced, hrequesters⟩ := h
  unfold execStartupInventoryEnd at e
  (repeat' split at e) <;> (injection e with e; subst e) <;> constructor <;>
    simp [hdiscs, hcounters, hforced, hrequesters]

theorem execSettingsWriteEnd_bounded {t : State} (readBack : List Byte) (s : State) (h : s.bounded)
    (e : execSettingsWriteEnd readBack s = .next t) : t.bounded := by
  have same := execSettingsWriteEnd_frame readBack s e
  obtain ⟨hdiscs, hcounters, hforced, hrequesters⟩ := h
  unfold execSettingsWriteEnd at e
  dsimp only at e
  (repeat' split at e) <;> (injection e with e; subst e)
  · exact ⟨hdiscs, hcounters, hforced, hrequesters⟩
  · exact ⟨State.finishStarting_within _ (by simpa using hdiscs), by simpa [same] using hcounters,
      by simpa using hforced, State.finishStarting_oneEach _ (by simpa using hrequesters)⟩
  · exact ⟨by simpa using hdiscs, by simpa using hcounters, by simpa using hforced, by simpa using hrequesters⟩

theorem execCountersClear_bounded {t : State} (s : State) (h : s.bounded)
    (e : execCountersClear s = .next t) : t.bounded := by
  obtain ⟨hdiscs, -, hforced, hrequesters⟩ := h
  injection e with e
  subst e
  exact ⟨hdiscs, by simp [countersWithin, VerifyEngine.counters], hforced, hrequesters⟩

theorem execJobCancel_bounded {t : State} (number : BitVec 16) (s : State) (h : s.bounded)
    (e : execJobCancel number s = .next t) : t.bounded := by
  obtain ⟨hdiscs, hcounters, hforced, hrequesters⟩ := h
  unfold execJobCancel at e
  dsimp only at e
  (repeat' split at e) <;> (injection e with e; subst e) <;> constructor <;>
    simp [hdiscs, hcounters, hforced, hrequesters]

theorem execDiscResults_bounded {t : State} (s : State) (h : s.bounded)
    (e : execDiscResults s = .next t) : t.bounded := by
  obtain ⟨hdiscs, hcounters, hforced, hrequesters⟩ := h
  injection e with e
  subst e
  exact ⟨DiscTable.readOut_within hdiscs, hcounters, hforced, hrequesters⟩

theorem execArmHome_bounded {t : State} (s : State) (h : s.bounded)
    (e : execArmHome s = .next t) : t.bounded := by
  obtain ⟨hdiscs, hcounters, hforced, hrequesters⟩ := h
  unfold execArmHome at e
  (repeat' split at e) <;> (injection e with e; subst e) <;> constructor <;>
    simp [hdiscs, hcounters, hforced, hrequesters]

theorem execPrinterResume_bounded {t : State} (s : State) (h : s.bounded)
    (e : execPrinterResume s = .next t) : t.bounded := by
  obtain ⟨hdiscs, hcounters, hforced, hrequesters⟩ := h
  unfold execPrinterResume at e
  (repeat' split at e) <;> (injection e with e; subst e) <;> constructor <;>
    simp [hdiscs, hcounters, hforced, hrequesters]

theorem execDispatchEvaluation_bounded {t : State} (s : State) (h : s.bounded)
    (e : execDispatchEvaluation s = .next t) : t.bounded := by
  obtain ⟨hdiscs, hcounters, hforced, hrequesters⟩ := h
  unfold execDispatchEvaluation at e
  dsimp only at e
  (repeat' split at e) <;> (injection e with e; subst e) <;> constructor <;>
    simp [hdiscs, hcounters, hforced, hrequesters]

theorem execOrphanCreationGrant_bounded {t : State} (s : State) (h : s.bounded)
    (e : execOrphanCreationGrant s = .next t) : t.bounded := by
  obtain ⟨hdiscs, hcounters, hforced, hrequesters⟩ := h
  unfold execOrphanCreationGrant at e
  (injection e with e; subst e) <;> constructor <;>
    simp [hdiscs, hcounters, hforced, hrequesters]

theorem execIdentifyComplete_bounded {t : State} (b : BayId) (number : Byte) (kind : CompletionKind) (facts : DriveFacts) (s : State) (h : s.bounded)
    (e : execIdentifyComplete b number kind facts s = .next t) : t.bounded := by
  obtain ⟨hdiscs, hcounters, hforced, hrequesters⟩ := h
  unfold execIdentifyComplete at e
  dsimp only at e
  (repeat' split at e) <;> (injection e with e; subst e) <;> constructor <;>
    simp [hdiscs, hcounters, hforced, hrequesters]

theorem execWriteComplete_bounded {t : State} (b : BayId) (number : Byte) (kind : CompletionKind) (buffer : Nat) (s : State) (h : s.bounded)
    (e : execWriteComplete b number kind buffer s = .next t) : t.bounded := by
  obtain ⟨hdiscs, hcounters, hforced, hrequesters⟩ := h
  unfold execWriteComplete at e
  dsimp only at e
  (repeat' split at e) <;> (injection e with e; subst e) <;> constructor <;>
    simp [hdiscs, hcounters, hforced, hrequesters]

theorem execSpeedComplete_bounded {t : State} (b : BayId) (number : Byte) (kind : CompletionKind) (s : State) (h : s.bounded)
    (e : execSpeedComplete b number kind s = .next t) : t.bounded := by
  obtain ⟨hdiscs, hcounters, hforced, hrequesters⟩ := h
  unfold execSpeedComplete at e
  dsimp only at e
  (repeat' split at e) <;> (injection e with e; subst e) <;> constructor <;>
    simp [hdiscs, hcounters, hforced, hrequesters]

theorem execSuspendComplete_bounded {t : State} (b : BayId) (number : Byte) (kind : CompletionKind) (s : State) (h : s.bounded)
    (e : execSuspendComplete b number kind s = .next t) : t.bounded := by
  obtain ⟨hdiscs, hcounters, hforced, hrequesters⟩ := h
  unfold execSuspendComplete at e
  dsimp only at e
  (repeat' split at e) <;> (injection e with e; subst e) <;> constructor <;>
    simp [hdiscs, hcounters, hforced, hrequesters]

theorem execResumeComplete_bounded {t : State} (b : BayId) (number : Byte) (kind : CompletionKind) (s : State) (h : s.bounded)
    (e : execResumeComplete b number kind s = .next t) : t.bounded := by
  obtain ⟨hdiscs, hcounters, hforced, hrequesters⟩ := h
  unfold execResumeComplete at e
  dsimp only at e
  (repeat' split at e) <;> (injection e with e; subst e) <;> constructor <;>
    simp [hdiscs, hcounters, hforced, hrequesters]

theorem execUnsolicitedUnderrun_bounded {t : State} (b : BayId) (s : State) (h : s.bounded)
    (e : execUnsolicitedUnderrun b s = .next t) : t.bounded := by
  obtain ⟨hdiscs, hcounters, hforced, hrequesters⟩ := h
  unfold execUnsolicitedUnderrun at e
  (repeat' split at e) <;> (injection e with e; subst e) <;> constructor <;>
    simp [hdiscs, hcounters, hforced, hrequesters]

theorem execCloseComplete_bounded {t : State} (b : BayId) (number : Byte) (kind : CompletionKind) (s : State) (h : s.bounded)
    (e : execCloseComplete b number kind s = .next t) : t.bounded := by
  obtain ⟨hdiscs, hcounters, hforced, hrequesters⟩ := h
  unfold execCloseComplete at e
  dsimp only at e
  (repeat' split at e) <;> (injection e with e; subst e) <;> constructor <;>
    simp [hdiscs, hcounters, hforced, hrequesters]

theorem execReadComplete_bounded {t : State} (b : BayId) (number : Byte) (kind : CompletionKind) (index : Nat) (data : List Byte) (s : State) (h : s.bounded)
    (e : execReadComplete b number kind index data s = .next t) : t.bounded := by
  obtain ⟨hdiscs, hcounters, hforced, hrequesters⟩ := h
  unfold execReadComplete at e
  (repeat' split at e) <;> (injection e with e; subst e) <;> constructor <;>
    simp [hdiscs, hcounters, hforced, hrequesters]

theorem execVerifyLaneTake_bounded {t : State} (s : State) (h : s.bounded)
    (e : execVerifyLaneTake s = .next t) : t.bounded := by
  obtain ⟨hdiscs, hcounters, hforced, hrequesters⟩ := h
  unfold execVerifyLaneTake at e
  (injection e with e; subst e) <;> constructor <;>
    simp [hdiscs, hcounters, hforced, hrequesters]

theorem execTrayOpenComplete_bounded {t : State} (b : BayId) (number : Byte) (kind : CompletionKind) (s : State) (h : s.bounded)
    (e : execTrayOpenComplete b number kind s = .next t) : t.bounded := by
  obtain ⟨hdiscs, hcounters, hforced, hrequesters⟩ := h
  unfold execTrayOpenComplete at e
  dsimp only at e
  (repeat' split at e) <;> (injection e with e; subst e) <;> constructor <;>
    simp [hdiscs, hcounters, hforced, hrequesters]

theorem execTrayCloseComplete_bounded {t : State} (b : BayId) (number : Byte) (kind : CompletionKind) (s : State) (h : s.bounded)
    (e : execTrayCloseComplete b number kind s = .next t) : t.bounded := by
  obtain ⟨hdiscs, hcounters, hforced, hrequesters⟩ := h
  unfold execTrayCloseComplete at e
  dsimp only at e
  (repeat' split at e) <;> (injection e with e; subst e) <;> constructor <;>
    simp [hdiscs, hcounters, hforced, hrequesters]

theorem execDeadlineExpiry_bounded {t : State} (b : BayId) (ofSuspend : Bool) (s : State) (h : s.bounded)
    (e : execDeadlineExpiry b ofSuspend s = .next t) : t.bounded := by
  obtain ⟨hdiscs, hcounters, hforced, hrequesters⟩ := h
  unfold execDeadlineExpiry at e
  dsimp only at e
  (repeat' split at e) <;> (injection e with e; subst e) <;> constructor <;>
    simp [hdiscs, hcounters, hforced, hrequesters]

theorem execGrantEvaluation_bounded {t : State} (s : State) (h : s.bounded)
    (e : execGrantEvaluation s = .next t) : t.bounded := by
  obtain ⟨hdiscs, hcounters, hforced, hrequesters⟩ := h
  unfold execGrantEvaluation at e
  (injection e with e; subst e) <;> constructor <;>
    simp [hdiscs, hcounters, hforced, hrequesters]

theorem execArrival_bounded {t : State} (discSeen : Bool) (s : State) (h : s.bounded)
    (e : execArrival discSeen s = .next t) : t.bounded := by
  obtain ⟨hdiscs, hcounters, hforced, hrequesters⟩ := h
  unfold execArrival at e
  (repeat' split at e) <;> (injection e with e; subst e) <;> constructor <;>
    simp [hdiscs, hcounters, hforced, hrequesters]

theorem execMoveTimerExpiry_bounded {t : State} (s : State) (h : s.bounded)
    (e : execMoveTimerExpiry s = .next t) : t.bounded := by
  obtain ⟨hdiscs, hcounters, hforced, hrequesters⟩ := h
  unfold execMoveTimerExpiry at e
  (repeat' split at e) <;> (injection e with e; subst e) <;> constructor <;>
    simp [hdiscs, hcounters, hforced, hrequesters]

theorem execPickConfirmed_bounded {t : State} (two : Bool) (s : State) (h : s.bounded)
    (e : execPickConfirmed two s = .next t) : t.bounded := by
  obtain ⟨hdiscs, hcounters, hforced, hrequesters⟩ := h
  unfold execPickConfirmed at e
  (repeat' split at e) <;> (injection e with e; subst e) <;> constructor <;>
    simp [hdiscs, hcounters, hforced, hrequesters]

theorem execDiscSet_bounded {t : State} (s : State) (h : s.bounded)
    (e : execDiscSet s = .next t) : t.bounded := by
  obtain ⟨hdiscs, hcounters, hforced, hrequesters⟩ := h
  unfold execDiscSet at e
  (repeat' split at e) <;> (injection e with e; subst e) <;> constructor <;>
    simp [hdiscs, hcounters, hforced, hrequesters]

theorem execPrnTrayConfirmed_bounded {t : State} (s : State) (h : s.bounded)
    (e : execPrnTrayConfirmed s = .next t) : t.bounded := by
  obtain ⟨hdiscs, hcounters, hforced, hrequesters⟩ := h
  unfold execPrnTrayConfirmed at e
  dsimp only at e
  (repeat' split at e) <;> (injection e with e; subst e) <;> constructor <;>
    simp [hdiscs, hcounters, hforced, hrequesters]

theorem execDropConfirmed_bounded {t : State} (s : State) (h : s.bounded)
    (e : execDropConfirmed s = .next t) : t.bounded := by
  obtain ⟨hdiscs, hcounters, hforced, hrequesters⟩ := h
  unfold execDropConfirmed at e
  (repeat' split at e) <;> (injection e with e; subst e) <;> constructor <;>
    simp [hdiscs, hcounters, hforced, hrequesters]

theorem execAckTimerExpiry_bounded {t : State} (held : Bool) (s : State) (h : s.bounded)
    (e : execAckTimerExpiry held s = .next t) : t.bounded := by
  obtain ⟨hdiscs, hcounters, hforced, hrequesters⟩ := h
  have stopped := State.forcedRelease_forced (s := s.modTrans fun t => { t with ackTimer := none }) hforced
  have requeued := State.forcedRelease_oneEach (s := s.modTrans fun t => { t with ackTimer := none }) hrequesters
  unfold execAckTimerExpiry at e
  dsimp only at e
  (repeat' split at e) <;> (injection e with e; subst e) <;> constructor <;>
    simp [hdiscs, hcounters, hforced, hrequesters, stopped, requeued]

theorem execSwapSecondLegStart_bounded {t : State} (s : State) (h : s.bounded)
    (e : execSwapSecondLegStart s = .next t) : t.bounded := by
  obtain ⟨hdiscs, hcounters, hforced, hrequesters⟩ := h
  unfold execSwapSecondLegStart at e
  (repeat' split at e) <;> (injection e with e; subst e) <;> constructor <;>
    simp [hdiscs, hcounters, hforced, hrequesters]

theorem execHoldTimerExpiry_bounded {t : State} (s : State) (h : s.bounded)
    (e : execHoldTimerExpiry s = .next t) : t.bounded := by
  obtain ⟨hdiscs, hcounters, hforced, hrequesters⟩ := h
  unfold execHoldTimerExpiry at e
  (repeat' split at e) <;> (injection e with e; subst e) <;> constructor <;>
    simp [hdiscs, hcounters, hforced, hrequesters]

theorem execStripCodeChange_bounded {t : State} (steps code : Nat) (s : State) (h : s.bounded)
    (e : execStripCodeChange steps code s = .next t) : t.bounded := by
  obtain ⟨hdiscs, hcounters, hforced, hrequesters⟩ := h
  have faulted := State.armFaultEntry_oneEach
    (s := s.modTrans fun t => { t with pos := some (steps, code) }) .position hrequesters
  unfold execStripCodeChange at e
  dsimp only at e
  (repeat' split at e) <;> (injection e with e; subst e) <;> constructor <;>
    simp [hdiscs, hcounters, hforced, hrequesters, faulted]

theorem execBottomReferenceReached_bounded {t : State} (s : State) (h : s.bounded)
    (e : execBottomReferenceReached s = .next t) : t.bounded := by
  obtain ⟨hdiscs, hcounters, hforced, hrequesters⟩ := h
  have cleared := State.homingClear_oneEach
    (s := s.modTrans fun t => { t with pos := some (0, 0), moveTimer := none }) hrequesters
  unfold execBottomReferenceReached at e
  (repeat' split at e) <;> (injection e with e; subst e) <;> constructor <;>
    simp [hdiscs, hcounters, hforced, hrequesters, cleared]

theorem execDoorOpen_bounded {t : State} (s : State) (h : s.bounded)
    (e : execDoorOpen s = .next t) : t.bounded := by
  obtain ⟨hdiscs, hcounters, hforced, hrequesters⟩ := h
  unfold execDoorOpen at e
  (repeat' split at e) <;> (injection e with e; subst e) <;> constructor <;>
    simp [hdiscs, hcounters, hforced, hrequesters]

theorem execDoorClose_bounded {t : State} (s : State) (h : s.bounded)
    (e : execDoorClose s = .next t) : t.bounded := by
  obtain ⟨hdiscs, hcounters, hforced, hrequesters⟩ := h
  unfold execDoorClose at e
  dsimp only at e
  (repeat' split at e) <;> (injection e with e; subst e) <;> constructor <;>
    simp [hdiscs, hcounters, hforced, hrequesters]

theorem execSpindleSensorChange_bounded {t : State} (spindle : SpindleId) (empty : Bool) (s : State) (h : s.bounded)
    (e : execSpindleSensorChange spindle empty s = .next t) : t.bounded := by
  obtain ⟨hdiscs, hcounters, hforced, hrequesters⟩ := h
  unfold execSpindleSensorChange at e
  dsimp only at e
  (repeat' split at e) <;> (injection e with e; subst e) <;> constructor <;>
    simp [hdiscs, hcounters, hforced, hrequesters]

theorem execPrinterLinePeriod_bounded {t : State} (s : State) (h : s.bounded)
    (e : execPrinterLinePeriod s = .next t) : t.bounded := by
  obtain ⟨hdiscs, hcounters, hforced, hrequesters⟩ := h
  unfold execPrinterLinePeriod at e
  (repeat' split at e) <;> (injection e with e; subst e) <;> constructor <;>
    simp [hdiscs, hcounters, hforced, hrequesters]

theorem execHeadTemperatureReading_bounded {t : State} (reading : Int) (s : State) (h : s.bounded)
    (e : execHeadTemperatureReading reading s = .next t) : t.bounded := by
  obtain ⟨hdiscs, hcounters, hforced, hrequesters⟩ := h
  unfold execHeadTemperatureReading at e
  dsimp only at e
  (injection e with e; subst e) <;> constructor <;>
    simp [hdiscs, hcounters, hforced, hrequesters]

theorem execRibbonSensorChange_bounded {t : State} (out : Bool) (s : State) (h : s.bounded)
    (e : execRibbonSensorChange out s = .next t) : t.bounded := by
  obtain ⟨hdiscs, hcounters, hforced, hrequesters⟩ := h
  unfold execRibbonSensorChange at e
  dsimp only at e
  (repeat' split at e) <;> (injection e with e; subst e) <;> constructor <;>
    simp [hdiscs, hcounters, hforced, hrequesters]

/-- Every command keeps the bounds; a command that changes none of the three parts keeps them by its frame. -/
theorem exec_bounded {c : Instr} {s t : State} (h : s.bounded) (e : exec c s = .next t) : t.bounded := by
  have frame := exec_changesOnly e
  by_cases apart : Part.discs ∉ changedParts c ∧ Part.verify ∉ changedParts c ∧ Part.trans ∉ changedParts c
  · obtain ⟨hdiscs, hverify, htrans⟩ := apart
    exact h.of_same (frame _ hdiscs) (frame _ hverify) (frame _ htrans)
  · cases c with
    | powerOn _ _ => exact execPowerOn_bounded _ _ _ h e
    | restartBegin => exact execRestartBegin_bounded _ h e
    | startupInventoryEnd => exact execStartupInventoryEnd_bounded _ h e
    | settingsWriteEnd _ => exact execSettingsWriteEnd_bounded _ _ h e
    | countersClear => exact execCountersClear_bounded _ h e
    | jobCancel _ => exact execJobCancel_bounded _ _ h e
    | discResults => exact execDiscResults_bounded _ h e
    | armHome => exact execArmHome_bounded _ h e
    | printerResume => exact execPrinterResume_bounded _ h e
    | dispatchEvaluation => exact execDispatchEvaluation_bounded _ h e
    | orphanCreationGrant => exact execOrphanCreationGrant_bounded _ h e
    | identifyComplete _ _ _ _ => exact execIdentifyComplete_bounded _ _ _ _ _ h e
    | writeComplete _ _ _ _ => exact execWriteComplete_bounded _ _ _ _ _ h e
    | speedComplete _ _ _ => exact execSpeedComplete_bounded _ _ _ _ h e
    | suspendComplete _ _ _ => exact execSuspendComplete_bounded _ _ _ _ h e
    | resumeComplete _ _ _ => exact execResumeComplete_bounded _ _ _ _ h e
    | unsolicitedUnderrun _ => exact execUnsolicitedUnderrun_bounded _ _ h e
    | closeComplete _ _ _ => exact execCloseComplete_bounded _ _ _ _ h e
    | readComplete _ _ _ _ _ => exact execReadComplete_bounded _ _ _ _ _ _ h e
    | verifyLaneTake => exact execVerifyLaneTake_bounded _ h e
    | trayOpenComplete _ _ _ => exact execTrayOpenComplete_bounded _ _ _ _ h e
    | trayCloseComplete _ _ _ => exact execTrayCloseComplete_bounded _ _ _ _ h e
    | deadlineExpiry _ _ => exact execDeadlineExpiry_bounded _ _ _ h e
    | grantEvaluation => exact execGrantEvaluation_bounded _ h e
    | arrival _ => exact execArrival_bounded _ _ h e
    | moveTimerExpiry => exact execMoveTimerExpiry_bounded _ h e
    | pickConfirmed _ => exact execPickConfirmed_bounded _ _ h e
    | discSet => exact execDiscSet_bounded _ h e
    | prnTrayConfirmed => exact execPrnTrayConfirmed_bounded _ h e
    | dropConfirmed => exact execDropConfirmed_bounded _ h e
    | ackTimerExpiry _ => exact execAckTimerExpiry_bounded _ _ h e
    | swapSecondLegStart => exact execSwapSecondLegStart_bounded _ h e
    | holdTimerExpiry => exact execHoldTimerExpiry_bounded _ h e
    | stripCodeChange _ _ => exact execStripCodeChange_bounded _ _ _ h e
    | bottomReferenceReached => exact execBottomReferenceReached_bounded _ h e
    | doorOpen => exact execDoorOpen_bounded _ h e
    | doorClose => exact execDoorClose_bounded _ h e
    | spindleSensorChange _ _ => exact execSpindleSensorChange_bounded _ _ _ h e
    | printerLinePeriod => exact execPrinterLinePeriod_bounded _ h e
    | headTemperatureReading _ => exact execHeadTemperatureReading_bounded _ _ h e
    | ribbonSensorChange _ => exact execRibbonSensorChange_bounded _ _ h e
    | _ => simp [changedParts] at apart

end Sys2Proof.Machine
end

/-! ## The link (R166 to R170, R176) -/

section

namespace Sys2Proof.Machine

/-- The inbound queue and the count of link resets are within their capacities (R168, R175). -/
def Link.within (l : Link) : Prop := l.inbound.length ≤ Config.queueFrames ∧ l.linkResets ≤ Config.max16

@[simp] theorem Link.afterReset_within (port : Port) : (Link.afterReset port).within :=
  ⟨Nat.zero_le _, Nat.zero_le _⟩

@[simp] theorem Link.place_within {l : Link} (f : Frame) (h : l.within) : (l.place f).within := h

/-- Only as many waiting transfers are judged as entries are free (R168). -/
theorem Link.refill_within {l : Link} (h : l.within) : l.refill.within := by
  obtain ⟨hinbound, hresets⟩ := h
  refine ⟨?_, hresets⟩
  have judged := List.length_filterMap_le judge (l.waiting.take (Config.queueFrames - l.inbound.length))
  have taken := List.length_take_le (Config.queueFrames - l.inbound.length) l.waiting
  simp only [Link.refill, List.length_append]
  omega

theorem Link.enter_within {l : Link} (transfer : List Byte) (h : l.within) : (l.enter transfer).within := by
  obtain ⟨hinbound, hresets⟩ := h
  unfold Link.enter
  split
  · exact ⟨hinbound, hresets⟩
  · split
    next accepts =>
      simp only [Link.accepts, Bool.and_eq_true, decide_eq_true_eq] at accepts
      exact ⟨by simpa using accepts.1, hresets⟩
    next => exact ⟨hinbound, hresets⟩

theorem Link.receive_within {l : Link} (transfer : List Byte) (h : l.within) : (l.receive transfer).within := by
  have filled := Link.refill_within h
  have entered := Link.enter_within transfer filled
  unfold Link.receive
  split
  · exact filled
  · exact entered

theorem Link.oversize_within {l : Link} (header : List Byte) (h : l.within) : (l.oversize header).within := by
  have filled := Link.refill_within h
  unfold Link.oversize
  split
  · exact Link.enter_within header filled
  · exact filled

/-- An entry is freed before a waiting transfer takes its place (R168, R170). -/
theorem Link.freeEntry_within {l : Link} (h : l.within) : l.freeEntry.within := by
  obtain ⟨hinbound, hresets⟩ := h
  refine Link.refill_within ⟨?_, hresets⟩
  rw [List.length_tail]
  omega

theorem Link.answered_within {l : Link} (kind : Byte) (reply : BitVec 16 → Frame) (h : l.within) :
    (l.answered kind reply).within := by
  unfold Link.answered
  split
  · split
    · split
      · exact h
      · exact Link.freeEntry_within h
    · exact h
  · exact h

theorem Link.sent_within {l : Link} (h : l.within) : l.sent.within := by
  unfold Link.sent
  split <;> exact h

theorem Link.wasReset_within {l : Link} (detach : Bool) (h : l.within) : (l.wasReset detach).within :=
  ⟨Nat.zero_le _, satInc_le h.2⟩

@[simp] theorem State.answer_link_within {s : State} (kind : Byte) (result : Result) (data : ReplyData)
    (h : s.link.within) : (s.answer kind result data).link.within := Link.answered_within _ _ h

@[simp] theorem State.refuse_link_within {s : State} (kind : Byte) (result : Result) (h : s.link.within) :
    (s.refuse kind result).link.within := Link.answered_within _ _ h

@[simp] theorem State.answerMode_link_within {s : State} (kind : Byte) (result : Result) (h : s.link.within) :
    (s.answerMode kind result).link.within := Link.answered_within _ _ h

theorem State.takeEntry_link_within {s : State} (h : s.link.within) : s.takeEntry.link.within := by
  unfold State.takeEntry
  split
  · exact h
  · exact h
  · exact Link.freeEntry_within h

/-- No slot's answer to a join reaches the link (R90). -/
theorem State.admissionEvaluation_link (s : State) : s.admissionEvaluation.link = s.link := by
  have walk : ∀ (l : List AdmEntry) (u : State), (State.admissionWalk l u).link = u.link := by
    intro l
    induction l with
    | nil => intro u; rfl
    | cons x l ih =>
      intro u
      unfold State.admissionWalk
      split
      · exact ih u
      · exact (ih _).trans (by simp)
  unfold State.admissionEvaluation
  exact (foldl_frame (fun u => u.link) State.answerJoin (fun u x => by simp) _ _).trans (walk _ _)

/-- Every command keeps the link's bounds: a request row answers once, a row of the link acts by its own operation, and no other row reaches the link. -/
theorem exec_link_within {c : Instr} {s t : State} (h : s.link.within) (e : exec c s = .next t) : t.link.within := by
  have frame := exec_changesOnly e
  by_cases apart : Part.link ∉ changedParts c
  · rw [show t.link = s.link from frame _ apart]
    exact h
  · cases c with
    | powerOn readings flash =>
      injection e with e
      subst e
      have off : (s.powerUp readings flash).link.within := Link.afterReset_within .detached
      simpa using off
    | restartBegin =>
      simp only [exec, execRestartBegin] at e
      split at e <;> (injection e with e; subst e)
      · exact h
      · simpa using ⟨Nat.zero_le _, Nat.zero_le _⟩
    | restart mode =>
      simp only [exec, execRestart] at e
      split at e <;> (injection e with e; subst e)
      · exact State.refuse_link_within _ _ h
      · exact State.answer_link_within _ _ _ h
    | portEnumerated | portConfigured =>
      injection e with e
      subst e
      split <;> exact h
    | frameReceived bytes =>
      injection e with e
      subst e
      split
      · exact Link.receive_within bytes h
      · exact h
    | oversizeHeaderReceived header =>
      injection e with e
      subst e
      split
      · exact Link.oversize_within header h
      · exact h
    | inTransferComplete =>
      injection e with e
      subst e
      split
      · exact Link.sent_within h
      · exact h
    | linkReset detach =>
      injection e with e
      subst e
      exact Link.wasReset_within detach h
    | inboundTake =>
      injection e with e
      subst e
      split
      · exact State.takeEntry_link_within (Link.refill_within h)
      · exact h
    | noticeOffer =>
      injection e with e
      subst e
      split <;> exact h
    | imageData slot count offset data =>
      simp only [exec, execImageData] at e
      split at e
      · injection e with e
        exact e ▸ State.refuse_link_within _ _ h
      · split at e
        · injection e with e
          subst e
          exact State.refuse_link_within _ _ (by simpa using h)
        next u found =>
          have same := State.findSegment_frame s _ _ _ found
          injection e with e
          subst e
          exact State.answer_link_within _ _ _ (by simpa [same] using h)
    | admissionEvaluation =>
      injection e with e
      subst e
      simpa [State.admissionEvaluation_link] using h
    | ident | settingGet | settingSet | settingsSave =>
      simp only [exec, execIdent, execSettingGet, execSettingSet, execSettingsSave] at e
      (repeat' split at e) <;> (injection e with e; subst e) <;> simp [h]
    | statusGet | statusClear | flagForce | flagRelease | eventMask | eventAck | countersGet | countersClear =>
      simp only [exec, execStatusGet, execStatusClear, execFlagForce, execFlagRelease, execEventMask,
        execEventAck, execCountersGet, execCountersClear] at e
      (repeat' split at e) <;> (injection e with e; subst e) <;> simp [h]
    | imageOpen | passClose | imageRewind | imageRelease | imageQuery =>
      simp only [exec, execImageOpen, execPassClose, execImageRewind, execImageRelease, execImageQuery] at e
      (repeat' split at e) <;> (injection e with e; subst e) <;> simp [h]
    | labelOpen | labelData | labelDrop | labelQuery | printerResume =>
      simp only [exec, execLabelOpen, execLabelData, execLabelDrop, execLabelQuery, execPrinterResume] at e
      (repeat' split at e) <;> (injection e with e; subst e) <;> simp [h]
    | jobCreate | jobHold | jobRelease | jobRemove | jobCancel | jobQuery | discResults =>
      simp only [exec, execJobCreate, execJobHold, execJobRelease, execJobRemove, execJobCancel, execJobQuery,
        execDiscResults] at e
      (repeat' split at e) <;> (injection e with e; subst e) <;> simp [h]
    | towerPause | towerResume | towerDrain | bayQuery | bayOffline | bayOnline | armHome =>
      simp only [exec, execTowerPause, execTowerResume, execTowerDrain, execBayQuery, execBayOffline,
        execBayOnline, execArmHome] at e
      (repeat' split at e) <;> (injection e with e; subst e) <;> simp [h]
    | _ => simp [changedParts] at apart

/-! ## The statement -/

/-- The capacities are the bounds of the blocks and those of the link; the move queue's own follows from one request for each requester (R113). -/
theorem State.capacitiesKept_iff (s : State) : s.capacitiesKept ↔ s.bounded ∧ s.link.within := by
  constructor
  · rintro ⟨hrecords, hcompletions, hdropped, hinbound, hresets, hchunks, hmiss, hrepeats, hforced, hrequesters, -⟩
    exact ⟨⟨⟨hrecords, hcompletions, hdropped⟩, ⟨hchunks, hmiss, hrepeats⟩, hforced, hrequesters⟩, hinbound, hresets⟩
  · rintro ⟨⟨⟨hrecords, hcompletions, hdropped⟩, ⟨hchunks, hmiss, hrepeats⟩, hforced, hrequesters⟩, hinbound, hresets⟩
    exact ⟨hrecords, hcompletions, hdropped, hinbound, hresets, hchunks, hmiss, hrepeats, hforced, hrequesters,
      Transport.oneEach_length hrequesters⟩

theorem exec_capacitiesKept {c : Instr} {s t : State} (h : s.capacitiesKept) (e : exec c s = .next t) :
    t.capacitiesKept := by
  rw [State.capacitiesKept_iff] at h ⊢
  exact ⟨exec_bounded h.1 e, exec_link_within h.2 e⟩

/-- The capacities read neither the queue of commands nor the clock. -/
theorem State.capacitiesKept.of_same {s t : State} (h : s.capacitiesKept) (discs : t.discs = s.discs)
    (verify : t.verify = s.verify) (trans : t.trans = s.trans) (link : t.link = s.link) : t.capacitiesKept := by
  rw [State.capacitiesKept_iff] at h ⊢
  exact ⟨h.1.of_same discs verify trans, link ▸ h.2⟩

/-- Settles O6: a step takes a command, on the state or on it without the queue's front, or lets a millisecond pass. -/
theorem everyStepKeepsCapacities : Obligations.EveryStepKeepsCapacities := by
  intro s t h e
  cases hqueue : s.pending with
  | cons c rest =>
    rw [step_of_pending_cons hqueue] at e
    have kept : State.capacitiesKept { s with pending := rest } := h.of_same rfl rfl rfl rfl
    exact exec_capacitiesKept kept e
  | nil =>
    cases hdue : s.nextDue with
    | some c =>
      rw [step_of_nextDue hqueue hdue] at e
      exact exec_capacitiesKept h e
    | none =>
      rw [step_of_idle hqueue hdue] at e
      injection e with e
      subst e
      exact h.of_same (t := s.tick) rfl rfl rfl rfl

end Sys2Proof.Machine
end

/-! # Proofs: the machine after reset (R25, R48, R74, R76, R109, R134, R151, R177, R187, R192) -/

section

namespace Sys2Proof.Machine

/-- The record that the flash holds at reset passes its check and loads the defaults (R188, log 5). -/
theorem defaultRecord_loads : recordValid defaultRecord = true ∧ loadedValues defaultRecord = Config.settingDefault := by
  constructor <;> decide +kernel

/-- Every bay is at its after-reset values (R74). -/
theorem State.reset_bay (b : BayId) : State.reset.bay b = Bay.afterReset := by
  simp [State.reset, State.bay]

theorem State.reset_capacitiesKept : State.reset.capacitiesKept := by
  constructor <;> decide

theorem State.reset_conditionsHold : State.reset.conditionsHold := by
  constructor <;> decide

/-- Settles O4: the blocks' after-reset values are the tables', the rest is by evaluation. -/
theorem resetHoldsItsValuesAndInvariants : Obligations.ResetHoldsItsValuesAndInvariants := by
  refine ⟨rfl, rfl, rfl, State.reset_bay, rfl, rfl, rfl, rfl, rfl, rfl, rfl, rfl, defaultRecord_loads,
    rfl, rfl, rfl, rfl, ?segments, ?digests, ?blocks, State.reset_capacitiesKept, State.reset_conditionsHold⟩
  case segments => unfold Staging.segmentsKept; decide
  case digests => unfold Staging.digestsKept; decide
  case blocks => unfold LabelMemory.blocksKept; decide

end Sys2Proof.Machine
end

/-! # Proofs: what a part that stays as it is says of R19's triggers -/

section

namespace Sys2Proof.Machine

theorem State.bayEmptied_of_bays {s t : State} (h : t.bays = s.bays) (b : BayId) : s.bayEmptied t b = false := by
  simp [State.bayEmptied, State.bay, h]

theorem State.jobOpened_of_job {s t : State} {k : JobSlot} (h : t.job k = s.job k) : s.jobOpened t k = false := by
  unfold State.jobOpened
  rw [h]
  cases s.job k with
  | none => rfl
  | some j => cases hst : j.state <;> simp [JobState.opensTo, hst]

theorem State.recordFreed_of_records {s t : State} (h : t.discs.records = s.discs.records) :
    s.recordFreed t = false := by
  rw [← Bool.not_eq_true, State.recordFreed_iff, h]
  rintro ⟨d, hd, gone⟩
  exact gone d hd rfl

theorem State.spindleLeaves_of_trans {s t : State} (h : t.trans = s.trans) (i : SpindleId) :
    s.spindleLeaves t i = false := by
  cases i <;> simp [State.spindleLeaves, State.spindle, h]

theorem State.prnRequestLeaves_of_queue {s t : State} (h : t.trans.queue = s.trans.queue) :
    s.prnRequestLeaves t = false := by
  rw [← Bool.not_eq_true, State.prnRequestLeaves_iff, h]
  rintro ⟨r, hr, -, gone⟩
  exact (gone r hr).elim (· rfl) (· rfl)

theorem State.printerEnters_of_printer {s t : State} (h : t.printer = s.printer) :
    (t.printerIs .idle && !s.printerIs .idle) = false := by
  simp [State.printerIs, h]

theorem State.imageOpensUp_of_image {s t : State} {k : ImageId} (h : t.image k = s.image k) :
    s.imageOpensUp t k = false := by
  rw [← Bool.not_eq_true, State.imageOpensUp_iff, h]
  rintro ⟨i, j, hi, hj, opens⟩
  obtain rfl := Option.some.inj (hi.symm.trans hj)
  rcases opens with ⟨a, b⟩ | ⟨a, b⟩ | ⟨a, b⟩ <;> simp_all

/-- Before READY nothing starts an evaluation (R19). -/
theorem State.dispatchTrigger_of_notReady {s t : State} (h : t.settings.stage ≠ .ready) :
    s.dispatchTrigger t = false := by
  simp [State.dispatchTrigger, State.ready, h]

theorem State.watched_of_noTrigger {s t : State} (h : s.dispatchTrigger t = false) : s.watched t = t := by
  simp [State.watched, h]

/-- Between two states that differ in their jobs alone a trigger is the opening of a job, or a change to RUN (R16, R19). -/
theorem State.dispatchTrigger_of_jobs {s t : State} (settings : t.settings = s.settings) (bays : t.bays = s.bays)
    (discs : t.discs = s.discs) (trans : t.trans = s.trans) (printer : t.printer = s.printer)
    (staging : t.staging = s.staging) (hready : s.settings.stage = .ready) :
    s.dispatchTrigger t = (decide s.orphansServed &&
      ((List.finRange 8).any (s.jobOpened t) || (t.jobs.runMode == .run && s.jobs.runMode != .run))) := by
  have served : t.discs.servesOrphans = decide s.orphansServed := by rw [discs]; rfl
  have isReady : s.ready = true ∧ t.ready = true := by simp [State.ready, settings, hready]
  have emptied : (List.finRange 12).any (s.bayEmptied t) = false := by
    simp [State.bayEmptied_of_bays bays]
  have opensUp : (List.finRange 4).any (s.imageOpensUp t) = false :=
    List.any_eq_false.2 fun k _ => by
      simp [State.imageOpensUp_of_image (s := s) (t := t) (k := k) (by simp [State.image, staging])]
  unfold State.dispatchTrigger
  rw [emptied, opensUp, served, isReady.1, isReady.2, State.recordFreed_of_records (by rw [discs]),
    State.spindleLeaves_of_trans trans, State.spindleLeaves_of_trans trans, State.printerEnters_of_printer printer,
    State.prnRequestLeaves_of_queue (by rw [trans])]
  simp

end Sys2Proof.Machine
end

/-! # Proofs: the Job Table's requests (R9, R13 to R19) -/

section

namespace Sys2Proof.Machine

/-! ## Finding a job and a slot -/

/-- The first of all numbers that passes a test, when each lower one fails it. -/
theorem find?_finRange_eq_some {n : Nat} {p : Fin n → Bool} {k : Fin n} (hk : p k = true)
    (hlow : ∀ m, m < k → p m = false) : (List.finRange n).find? p = some k := by
  obtain ⟨lower, higher, split⟩ := List.append_of_mem (List.mem_finRange k)
  have sorted := List.pairwise_lt_finRange n
  rw [split, List.pairwise_append] at sorted
  have fails : ∀ m ∈ lower, p m = false := fun m hm => hlow m (sorted.2.2 m hm k List.mem_cons_self)
  rw [split, List.find?_append, List.find?_eq_none.2 fun m hm => by simp [fails m hm]]
  simp [hk]

theorem State.jobNamed_of_onlyJob {s : State} {k : JobSlot} {j : Job} (h : s.onlyJob k j) :
    s.jobNamed j.number = some (k, j) := by
  obtain ⟨hj, only⟩ := h
  have slot : s.jobSlot j.number = some k := by
    refine find?_finRange_eq_some (by simp [hj]) fun m hm => ?_
    cases hi : s.job m with
    | none => rfl
    | some i =>
      have other : i.number ≠ j.number := fun same => (ne_of_lt hm) (only m i hi same)
      simpa using other
  simp [State.jobNamed, slot, hj]

theorem State.jobSlot_of_absent {s : State} {n : Nat} (h : ∀ k j, s.job k = some j → j.number ≠ n) :
    s.jobSlot n = none := by
  refine List.find?_eq_none.2 fun k _ => ?_
  cases hj : s.job k with
  | none => simp
  | some j => simpa using h k j hj

theorem State.jobSlot_of_present {s : State} {n : Nat} (h : ¬ ∀ k j, s.job k = some j → j.number ≠ n) :
    (s.jobSlot n).isSome = true := by
  push Not at h
  obtain ⟨k, j, hj, named⟩ := h
  exact List.find?_isSome.2 ⟨k, List.mem_finRange k, by simp [hj, named]⟩

theorem State.jobNamed_of_absent {s : State} {n : Nat} (h : ∀ k j, s.job k = some j → j.number ≠ n) :
    s.jobNamed n = none := by
  simp [State.jobNamed, State.jobSlot_of_absent h]

theorem State.freeJobSlot_of_full {s : State} (h : ∀ m, s.job m ≠ none) : s.freeJobSlot = none :=
  List.find?_eq_none.2 fun m _ => by simp [h m]

theorem State.freeJobSlot_of_lowest {s : State} {k : JobSlot} (hk : s.job k = none)
    (hlow : ∀ m, m < k → s.job m ≠ none) : s.freeJobSlot = some k :=
  find?_finRange_eq_some (by simp [hk]) fun m hm => by
    simpa [Option.isSome_iff_ne_none] using hlow m hm

/-! ## JOB HOLD, JOB RELEASE and JOB REMOVE (R15 to R17) -/

theorem execJobHold_none {s : State} {number : BitVec 16} {k : JobSlot} {j : Job}
    (h : s.jobNamed number.toNat = some (k, j)) (hst : j.state.onHold = none) :
    exec (.jobHold number) s = .next (s.answer 0x51 .state .none) := by
  simp only [exec, execJobHold, h, hst]
  rfl

theorem execJobHold_some {s : State} {number : BitVec 16} {k : JobSlot} {j : Job} {st : JobState}
    (h : s.jobNamed number.toNat = some (k, j)) (hst : j.state.onHold = some st) :
    exec (.jobHold number) s = .next ((s.setJob k (some { j with state := st })).answer 0x51 .ok .none) := by
  simp only [exec, execJobHold, h, hst]
  rfl

theorem execJobRelease_none {s : State} {number : BitVec 16} {k : JobSlot} {j : Job}
    (h : s.jobNamed number.toNat = some (k, j)) (hr : j.onRelease = none) :
    exec (.jobRelease number) s = .next (s.answer 0x52 .state .none) := by
  simp only [exec, execJobRelease, h, hr]
  rfl

theorem execJobRelease_some {s : State} {number : BitVec 16} {k : JobSlot} {j r : Job}
    (h : s.jobNamed number.toNat = some (k, j)) (hr : j.onRelease = some r) :
    exec (.jobRelease number) s = .next ((s.watched (s.setJob k (some r))).answer 0x52 .ok .none) := by
  simp only [exec, execJobRelease, h, hr]
  rfl

theorem execJobRemove_live {s : State} {number : BitVec 16} {k : JobSlot} {j : Job}
    (h : s.jobNamed number.toNat = some (k, j)) (hlive : j.live = true) :
    exec (.jobRemove number) s = .next (s.answer 0x54 .state .none) := by
  simp only [exec, execJobRemove, h, hlive, if_true]
  rfl

theorem execJobRemove_over {s : State} {number : BitVec 16} {k : JobSlot} {j : Job}
    (h : s.jobNamed number.toNat = some (k, j)) (hover : j.live = false) :
    exec (.jobRemove number) s = .next ((s.removeJob k).answer 0x54 .ok .none) := by
  simp only [exec, execJobRemove, h, hover]
  rfl

/-! ## When a change of the Job Table starts an evaluation (R16, R19) -/

theorem State.any_jobOpened_setJob (s : State) (k : JobSlot) (r : Option Job) :
    (List.finRange 8).any (s.jobOpened (s.setJob k r)) = s.jobOpened (s.setJob k r) k := by
  rw [Bool.eq_iff_iff, List.any_eq_true]
  constructor
  · rintro ⟨m, -, opened⟩
    by_cases hm : m = k
    · exact hm ▸ opened
    · rw [State.jobOpened_of_job (State.setJob_job_ne s r hm)] at opened
      cases opened
  · exact fun opened => ⟨k, List.mem_finRange k, opened⟩

/-- A change of one job starts an evaluation exactly when it opens the job, at READY and with no orphan creation waiting for a record. -/
theorem State.setJob_dispatchTrigger (s : State) (k : JobSlot) (r : Option Job) :
    s.dispatchTrigger (s.setJob k r) =
      (decide (s.settings.stage = .ready ∧ s.orphansServed) && s.jobOpened (s.setJob k r) k) := by
  by_cases hready : s.settings.stage = .ready
  · rw [State.dispatchTrigger_of_jobs (s := s) (t := s.setJob k r) rfl rfl rfl rfl rfl rfl hready, State.any_jobOpened_setJob]
    have sameMode : (s.jobs.runMode == .run && s.jobs.runMode != .run) = false := by simp [bne]
    simp [hready, sameMode]
  · rw [State.dispatchTrigger_of_notReady (t := s.setJob k r) hready]
    simp [hready]

/-- The release of a HELD job starts an evaluation (R16). -/
theorem State.watched_released {s : State} {k : JobSlot} {j r : Job} {cause : HoldCause} (hj : s.job k = some j)
    (held : j.state = .held cause) (opened : r.state = .active ∨ r.state = .filled) :
    s.watched (s.setJob k (some r)) = { s.setJob k (some r) with
      dispatchWanted := s.dispatchWanted || decide (s.settings.stage = .ready ∧ s.orphansServed) } := by
  have opens : s.jobOpened (s.setJob k (some r)) k = true :=
    (State.jobOpened_iff _ _ _).2 (.inr ⟨j, r, hj, by simp, .inr ⟨⟨cause, held⟩, opened⟩⟩)
  unfold State.watched
  rw [State.setJob_dispatchTrigger, opens, Bool.and_true]
  rfl

/-- A job that keeps its state starts none. -/
theorem State.watched_setJob_sameState {s : State} {k : JobSlot} {j r : Job} (hj : s.job k = some j)
    (same : r.state = j.state) : s.watched (s.setJob k (some r)) = s.setJob k (some r) := by
  have stays : s.jobOpened (s.setJob k (some r)) k = false := by
    simp only [State.jobOpened, hj, State.setJob_job, same]
    cases j.state <;> rfl
  exact State.watched_of_noTrigger (by rw [State.setJob_dispatchTrigger, stays, Bool.and_false])

/-- Settles O34, by the job's state. -/
theorem jobsAreHeldReleasedAndRemoved : Obligations.JobsAreHeldReleasedAndRemoved := by
  refine ⟨fun s number k j only named => ?present, fun s number absent => ?absent⟩
  case absent =>
    have noJob := State.jobNamed_of_absent absent
    simp only [exec, execJobHold, execJobRelease, execJobRemove, noJob]
    exact ⟨rfl, rfl, rfl⟩
  case present =>
    have hnamed : s.jobNamed number.toNat = some (k, j) := named ▸ State.jobNamed_of_onlyJob only
    refine ⟨fun open_ => ?running, fun cause held => ?held, fun gone => ?gone, fun cancelling => ?cancelling⟩
    case running =>
      have onHold : j.state.onHold = some (.held .host) := by
        rcases open_ with h | h <;> simp [h, JobState.onHold]
      have onRelease : j.onRelease = some { j with consecRejects := 0 } := by
        rcases open_ with h | h <;> simp [h, Job.onRelease]
      have live : j.live = true := by
        rcases open_ with h | h <;> simp [h, Job.live]
      refine ⟨execJobHold_some hnamed onHold, ?_, execJobRemove_live hnamed live⟩
      rw [execJobRelease_some hnamed onRelease,
        State.watched_setJob_sameState (r := { j with consecRejects := 0 }) only.1 rfl]
      rfl
    case held =>
      have onRelease : j.onRelease = some { j with consecRejects := 0, state := j.byCounters } := by
        simp [held, Job.onRelease]
      have opened : j.byCounters = .active ∨ j.byCounters = .filled := by
        unfold Job.byCounters
        split
        · exact .inr rfl
        · exact .inl rfl
      have release := execJobRelease_some hnamed onRelease
      rw [State.watched_released only.1 held opened] at release
      refine ⟨?_, release, fun t released hready noOrphan => ?_, execJobRemove_live hnamed (by simp [held, Job.live])⟩
      · rw [execJobHold_some (st := .held cause) hnamed (by simp [held, JobState.onHold]), ← held]
        rfl
      · rw [release] at released
        injection released with released
        subst released
        simp [State.dispatchDue, State.mayDispatch, State.ready, hready, noOrphan]
    case gone =>
      have onHold : j.state.onHold = none := by rcases gone with h | h <;> simp [h, JobState.onHold]
      have onRelease : j.onRelease = none := by rcases gone with h | h <;> simp [h, Job.onRelease]
      have ended : j.live = false := by rcases gone with h | h <;> simp [h, Job.live]
      exact ⟨execJobHold_none hnamed onHold, execJobRelease_none hnamed onRelease, execJobRemove_over hnamed ended⟩
    case cancelling =>
      exact ⟨execJobHold_none hnamed (by simp [cancelling, JobState.onHold]),
        execJobRelease_none hnamed (by simp [cancelling, Job.onRelease]),
        execJobRemove_live hnamed (by simp [cancelling, Job.live])⟩

/-! ## JOB QUERY and DISC RESULTS (R9, R18) -/

/-- Settles O36: the rows' replies, with the job found by its number. -/
theorem jobQueryAndDiscResultsReport : Obligations.JobQueryAndDiscResultsReport := by
  refine ⟨⟨fun s number k j nonzero only named => ?one, fun s => rfl, fun s number nonzero absent => ?absent⟩,
    fun s => ?results⟩
  case one =>
    have hnamed : s.jobNamed number.toNat = some (k, j) := named ▸ State.jobNamed_of_onlyJob only
    simp only [exec, execJobQuery, nonzero, if_false, hnamed]
    rfl
  case absent =>
    simp only [exec, execJobQuery, nonzero, if_false, State.jobNamed_of_absent absent]
    rfl
  case results =>
    have left : s.discs.readOut.completions.length = s.discs.completions.length - 16 := List.length_drop
    simp only [exec, execDiscResults, left]
    rfl

/-! ## JOB CREATE (R13, R14) -/

theorem finOf_eq_none {n : Nat} {v : Byte} (h : n ≤ v.toNat) : finOf n v = none :=
  dif_neg (by omega)

theorem finOf_ofNat {n : Nat} (i : Fin n) (h : n ≤ 256) : finOf n (BitVec.ofNat 8 i.val) = some i := by
  have fits : (BitVec.ofNat 8 i.val).toNat = i.val := Nat.mod_eq_of_lt (by omega)
  unfold finOf
  rw [dif_pos (by omega)]
  exact congrArg some (Fin.ext fits)

theorem labelField_eq_none {v : Byte} (h : 8 ≤ v.toNat) (some_ : v ≠ 255) : labelField v = none := by
  rw [labelField, if_neg some_, finOf_eq_none h]
  rfl

theorem Byte.ne_of_le {v : Byte} {a : Byte} {n : Nat} (h : n ≤ v.toNat) (ha : a.toNat < n) : v ≠ a := by
  rintro rfl
  omega

theorem PrintOrder.ofByte_eq_none {v : Byte} (h : 2 ≤ v.toNat) : PrintOrder.ofByte v = none := by
  rw [PrintOrder.ofByte, if_neg (Byte.ne_of_le h (by decide)), if_neg (Byte.ne_of_le h (by decide))]

theorem VerifyMode.ofByte_eq_none {v : Byte} (h : 3 ≤ v.toNat) : VerifyMode.ofByte v = Option.none := by
  rw [VerifyMode.ofByte, if_neg (Byte.ne_of_le h (by decide)), if_neg (Byte.ne_of_le h (by decide)),
    if_neg (Byte.ne_of_le h (by decide))]

theorem VerifyStop.ofByte_eq_none {v : Byte} (h : 2 ≤ v.toNat) : VerifyStop.ofByte v = none := by
  rw [VerifyStop.ofByte, if_neg (Byte.ne_of_le h (by decide)), if_neg (Byte.ne_of_le h (by decide))]

theorem SpindleChoice.ofByte_eq_none {v : Byte} (h : 3 ≤ v.toNat) : SpindleChoice.ofByte v = none := by
  rw [SpindleChoice.ofByte, if_neg (Byte.ne_of_le h (by decide)), if_neg (Byte.ne_of_le h (by decide)),
    if_neg (Byte.ne_of_le h (by decide))]

/-- What each valid field of a JOB CREATE is (R13). -/
theorem jobFrom_eq_some {f : JobFields} {limit : Nat} {j : Job} (h : jobFrom f limit = some j) :
    (finOf 4 f.imageSlot).isSome ∧ (labelField f.label).isSome ∧ (VerifyMode.ofByte f.verifyMode).isSome ∧
      (VerifyStop.ofByte f.verifyStop).isSome ∧ (SpindleChoice.ofByte f.spindle).isSome ∧
      f.number ≠ 0 ∧ f.copies ≠ 0 ∧ f.copies.toNat ≤ 9999 ∧ f.rejectLimit.toNat ≤ 20 ∧
      (f.label ≠ 255 → (PrintOrder.ofByte f.printOrder).isSome) := by
  unfold jobFrom at h
  split at h
  next image label mode stop spindle himage hlabel hmode hstop hspindle =>
    split at h
    · cases h
    next valid =>
      simp only [not_or, not_lt] at valid
      obtain ⟨hnumber, hcopies, hmax, hlimit⟩ := valid
      refine ⟨by simp [himage], by simp [hlabel], by simp [hmode], by simp [hstop], by simp [hspindle],
        hnumber, hcopies, hmax, hlimit, fun labelled => ?_⟩
      have present : label.isSome = true := by
        rw [labelField, if_neg labelled] at hlabel
        obtain ⟨l, -, rfl⟩ := Option.map_eq_some_iff.1 hlabel
        rfl
      by_contra missing
      rw [Option.isSome_iff_ne_none, not_not] at missing
      simp [present, missing] at h
  · cases h

/-- A field out of its range or list leaves no job (R13). -/
theorem jobFrom_eq_none {f : JobFields} {limit : Nat}
    (bad : f.number = 0 ∨ 4 ≤ f.imageSlot.toNat ∨ (8 ≤ f.label.toNat ∧ f.label ≠ 255) ∨
      (f.label ≠ 255 ∧ 2 ≤ f.printOrder.toNat) ∨ 3 ≤ f.verifyMode.toNat ∨ 2 ≤ f.verifyStop.toNat ∨
      3 ≤ f.spindle.toNat ∨ f.copies = 0 ∨ 9999 < f.copies.toNat ∨ 20 < f.rejectLimit.toNat) :
    jobFrom f limit = none := by
  by_contra made
  obtain ⟨j, hj⟩ := Option.ne_none_iff_exists'.1 made
  obtain ⟨himage, hlabel, hmode, hstop, hspindle, hnumber, hcopies, hmax, hlimit, horder⟩ := jobFrom_eq_some hj
  rcases bad with h | h | ⟨h, labelled⟩ | ⟨labelled, h⟩ | h | h | h | h | h | h
  · exact hnumber h
  · simp [finOf_eq_none h] at himage
  · simp [labelField_eq_none h labelled] at hlabel
  · simp [PrintOrder.ofByte_eq_none h] at horder
    exact labelled horder
  · simp [VerifyMode.ofByte_eq_none h] at hmode
  · simp [VerifyStop.ofByte_eq_none h] at hstop
  · simp [SpindleChoice.ofByte_eq_none h] at hspindle
  · exact hcopies h
  · omega
  · omega

/-- Without a label the print order is not read (R13). -/
theorem jobFrom_printOrder {f : JobFields} (order : Byte) (limit : Nat) (h : f.label = 255) :
    jobFrom { f with printOrder := order } limit = jobFrom f limit := by
  simp only [jobFrom, labelField, h, if_true]
  cases finOf 4 f.imageSlot <;> cases VerifyMode.ofByte f.verifyMode <;> cases VerifyStop.ofByte f.verifyStop <;>
    cases SpindleChoice.ofByte f.spindle <;> simp

/-- The job that a JOB CREATE with these values asks for (R13, R14). -/
def jobAsked (number copies : BitVec 16) (image : ImageId) (label : Option (LabelId × PrintOrder))
    (mode : VerifyMode) (stop : VerifyStop) (spindle : SpindleChoice) (limit : Byte) (setting : Nat) : Job :=
  { number := number.toNat, imageSlot := image, label := label.map Prod.fst, printOrder := label.map Prod.snd
    verifyMode := mode, verifyStop := stop, spindle, copies := copies.toNat
    rejectLimit := if limit = 0 then setting else limit.toNat
    started := 0, good := 0, rejected := 0, inFlight := 0, consecRejects := 0, state := .active }

theorem labelField_ofNat (l : LabelId) : labelField (BitVec.ofNat 8 l.val) = some (some l) := by
  have small : BitVec.ofNat 8 l.val ≠ (255 : Byte) := by
    have fits : (BitVec.ofNat 8 l.val).toNat = l.val := Nat.mod_eq_of_lt (by omega)
    intro e
    rw [e] at fits
    have : (255 : Byte).toNat = 255 := rfl
    omega
  rw [labelField, if_neg small, finOf_ofNat l (by decide)]
  rfl

theorem PrintOrder.ofByte_code (o : PrintOrder) : PrintOrder.ofByte o.code = some o := by cases o <;> rfl
theorem VerifyMode.ofByte_code (m : VerifyMode) : VerifyMode.ofByte m.code = some m := by cases m <;> rfl
theorem VerifyStop.ofByte_code (m : VerifyStop) : VerifyStop.ofByte m.code = some m := by cases m <;> rfl
theorem SpindleChoice.ofByte_code (c : SpindleChoice) : SpindleChoice.ofByte c.code = some c := by cases c <;> rfl

/-- A payload is read back as the values it was laid out from (R13, R174). -/
theorem jobFrom_jobPayload {number copies : BitVec 16} {image : ImageId} {label : Option (LabelId × PrintOrder)}
    {mode : VerifyMode} {stop : VerifyStop} {spindle : SpindleChoice} {limit : Byte} (setting : Nat)
    (hnumber : number ≠ 0) (hmin : 1 ≤ copies.toNat) (hmax : copies.toNat ≤ 9999) (hlimit : limit.toNat ≤ 20) :
    jobFrom (jobPayload number image label mode stop spindle copies limit) setting =
      some (jobAsked number copies image label mode stop spindle limit setting) := by
  have valid : ¬ (number = 0 ∨ copies = 0 ∨ 9999 < copies.toNat ∨ 20 < limit.toNat) := by
    have some_ : copies ≠ 0 := by
      rintro rfl
      simp at hmin
    simp only [not_or, not_lt]
    exact ⟨hnumber, some_, hmax, hlimit⟩
  unfold jobFrom jobPayload
  cases label with
  | none =>
    simp only [finOf_ofNat image (by decide), VerifyMode.ofByte_code, VerifyStop.ofByte_code,
      SpindleChoice.ofByte_code, labelField, if_true, valid, if_false]
    rfl
  | some p =>
    obtain ⟨l, o⟩ := p
    simp only [finOf_ofNat image (by decide), VerifyMode.ofByte_code, VerifyStop.ofByte_code,
      SpindleChoice.ofByte_code, labelField_ofNat, PrintOrder.ofByte_code, valid, if_false]
    rfl

/-- The image check finds no image that FILLS or is COMPLETE (R13). -/
theorem State.imageForJob_eq_none {s : State} {k : ImageId}
    (h : ¬ ∃ i, s.image k = some i ∧ i.state ≠ .awaitRewind) : s.imageForJob k = none := by
  unfold State.imageForJob
  cases hi : s.image k with
  | none => rfl
  | some i =>
    have awaits : i.state = .awaitRewind := by_contra fun other => h ⟨i, hi, other⟩
    exact if_pos awaits

theorem State.imageForJob_eq_some {s : State} {k : ImageId} {i : Image} (hi : s.image k = some i)
    (h : i.state ≠ .awaitRewind) : s.imageForJob k = some i := by
  simp [State.imageForJob, hi, h]

theorem State.labelFails_notFitted {s : State} {j : Job} (hl : j.label ≠ none) (hp : s.printer = none) :
    s.labelFails j = some .notFitted := by
  obtain ⟨l, hl⟩ := Option.ne_none_iff_exists'.1 hl
  simp [State.labelFails, hl, hp]

theorem State.labelFails_noSuch {s : State} {j : Job} {l : LabelId} (hl : j.label = some l) (hp : s.printer ≠ none)
    (h : ¬ ∃ r, s.label l = some r ∧ r.state = .ready) : s.labelFails j = some .noSuch := by
  have unready : (s.label l).any (fun r => r.state == .ready) = false := by
    rw [← Bool.not_eq_true, Option.any_eq_true]
    simpa using h
  simp [State.labelFails, hl, Option.isNone_iff_eq_none, hp, unready]

theorem State.labelFails_passes {s : State} {j : Job} (hp : j.label = none ∨ s.printer ≠ none)
    (h : ∀ l, j.label = some l → ∃ r, s.label l = some r ∧ r.state = .ready) : s.labelFails j = none := by
  unfold State.labelFails
  cases hl : j.label with
  | none => rfl
  | some l =>
    obtain ⟨r, hr, ready⟩ := h l hl
    have fitted : s.printer ≠ none := hp.resolve_left (by simp [hl])
    simp [Option.isNone_iff_eq_none, fitted, hr, ready]

/-- A new job in a free slot starts an evaluation (R19). -/
theorem State.watched_addJob {s : State} {k : JobSlot} (j : Job) (hready : s.settings.stage = .ready)
    (free : s.job k = none) :
    s.watched (s.addJob k j) = { s with
      dispatchWanted := s.dispatchWanted || decide s.orphansServed
      jobs := { s.jobs with
        slots := s.jobs.slots.set k.val (some j)
        order := s.jobs.order ++ [k] } } := by
  have opened : (List.finRange 8).any (s.jobOpened (s.addJob k j)) = true := by
    have taken : (s.addJob k j).job k = some j := State.setJob_job s k (some j)
    exact List.any_eq_true.2
      ⟨k, List.mem_finRange k, (State.jobOpened_iff _ _ _).2 (.inl ⟨free, by simp [taken]⟩)⟩
  unfold State.watched
  rw [State.dispatchTrigger_of_jobs (s := s) (t := s.addJob k j) rfl rfl rfl rfl rfl rfl hready, opened,
    Bool.true_or, Bool.and_true]
  rfl

/-- Settles O33: the checks in their order, each on a job whose fields are valid. -/
theorem jobCreateTakesTheLowestFreeSlot : Obligations.JobCreateTakesTheLowestFreeSlot := by
  refine ⟨fun s f hready bad => ?field, fun s f hready => ?stage, fun s f order unlabelled => ?order, ?job⟩
  case field =>
    simp only [exec, execJobCreate, State.jobCreateCheck, State.ready, hready, jobFrom_eq_none bad]
    rfl
  case stage =>
    have early : s.ready = false := by simp [State.ready, hready]
    simp only [exec, execJobCreate, State.jobCreateCheck, early, if_true]
    rfl
  case order =>
    simp only [exec, execJobCreate, State.jobCreateCheck, jobFrom_printOrder order _ unlabelled]
  case job =>
    intro s number copies image label mode stop spindle limit hnumber hmin hmax hlimit
    have hfrom := jobFrom_jobPayload (image := image) (label := label) (mode := mode) (stop := stop)
      (spindle := spindle) (s.settingNat Config.sRejectLimit) hnumber hmin hmax hlimit
    intro c unique staged labelled resident
    generalize hasked : jobAsked number copies image label mode stop spindle limit (s.settingNat Config.sRejectLimit) =
      j at hfrom
    have himage : j.imageSlot = image := by rw [← hasked]; rfl
    have hlabel : j.label = label.map Prod.fst := by rw [← hasked]; rfl
    have hmode : j.verifyMode = mode := by rw [← hasked]; rfl
    have hnumbered : j.number = number.toNat := by rw [← hasked]; rfl
    have isReady : s.settings.stage = .ready → s.ready = true := fun h => by simp [State.ready, h]
    have fresh : unique → s.jobSlot number.toNat = none := State.jobSlot_of_absent
    have fitted : label = none ∨ s.printer ≠ none → labelled → s.labelFails j = none := fun hp hl =>
      State.labelFails_passes (by simpa [hlabel] using hp) fun l present => by
        obtain ⟨⟨l, o⟩, hlo, rfl⟩ := Option.map_eq_some_iff.1 (hlabel ▸ present)
        exact hl l o hlo
    refine ⟨fun ready taken => ?inUse, fun ready free unstaged => ?noImage, fun ready free hs some_ unfit => ?notFitted,
      fun ready free hs fit unready => ?noLabel, fun ready free hs fit hl streams => ?needsResident,
      fun ready free hs fit hl hr full => ?full, fun k ready free hs fit hl hr open_ lowest => ?takes⟩
    case inUse =>
      simp only [c, exec, execJobCreate, State.jobCreateCheck, isReady ready, hfrom, hnumbered,
        State.jobSlot_of_present taken]
      rfl
    case noImage =>
      simp only [c, exec, execJobCreate, State.jobCreateCheck, isReady ready, hfrom, hnumbered, fresh free, himage,
        State.imageForJob_eq_none unstaged]
      rfl
    case notFitted =>
      obtain ⟨i, hi, filled⟩ := hs
      simp only [c, exec, execJobCreate, State.jobCreateCheck, isReady ready, hfrom, hnumbered, fresh free, himage,
        State.imageForJob_eq_some hi filled, State.labelFails_notFitted (j := j) (by simpa [hlabel] using some_) unfit]
      rfl
    case noLabel =>
      obtain ⟨i, hi, filled⟩ := hs
      simp only [labelled] at unready
      push Not at unready
      obtain ⟨l, o, hlo, missing⟩ := unready
      have fails : s.labelFails j = some .noSuch :=
        State.labelFails_noSuch (l := l) (by simp [hlabel, hlo]) fit (by simpa using missing)
      simp only [c, exec, execJobCreate, State.jobCreateCheck, isReady ready, hfrom, hnumbered, fresh free, himage,
        State.imageForJob_eq_some hi filled, fails]
      rfl
    case needsResident =>
      obtain ⟨i, hi, filled⟩ := hs
      simp only [resident] at streams
      push Not at streams
      obtain ⟨full, m, hm, streaming⟩ := streams
      obtain rfl := Option.some.inj (hi.symm.trans hm)
      have fails : j.verifyMode = .full ∧ i.streaming = true := ⟨hmode.trans full, (Image.streaming_iff i).2 streaming⟩
      simp only [c, exec, execJobCreate, State.jobCreateCheck, isReady ready, hfrom, hnumbered, fresh free, himage,
        State.imageForJob_eq_some hi filled, fitted fit hl, fails]
      rfl
    case full =>
      obtain ⟨i, hi, filled⟩ := hs
      have passes : ¬ (j.verifyMode = .full ∧ i.streaming = true) := fun ⟨hfull, streaming⟩ =>
        (Image.streaming_iff i).1 streaming (hr (hmode.symm.trans hfull) i hi)
      simp only [c, exec, execJobCreate, State.jobCreateCheck, isReady ready, hfrom, hnumbered, fresh free, himage,
        State.imageForJob_eq_some hi filled, fitted fit hl, passes, State.freeJobSlot_of_full full]
      rfl
    case takes =>
      obtain ⟨i, hi, filled⟩ := hs
      have passes : ¬ (j.verifyMode = .full ∧ i.streaming = true) := fun ⟨hfull, streaming⟩ =>
        (Image.streaming_iff i).1 streaming (hr (hmode.symm.trans hfull) i hi)
      simp only [c, exec, execJobCreate, State.jobCreateCheck, isReady ready, hfrom, hnumbered, fresh free, himage,
        State.imageForJob_eq_some hi filled, fitted fit hl, passes, State.freeJobSlot_of_lowest open_ lowest]
      simp only [Bool.true_eq_false, Option.isSome_none, Bool.false_eq_true, if_false]
      rw [State.watched_addJob j ready open_, ← hasked]
      rfl

end Sys2Proof.Machine
end

/-! # Proofs: commands that start no evaluation (R19) -/

section

namespace Sys2Proof.Machine

/-! ## The states of the bays -/

/-- The states of the twelve bays. -/
def State.bayStates (s : State) : Vector BayState 12 := s.bays.map Bay.state

theorem State.bayStates_get (s : State) (b : BayId) : s.bayStates[b.val] = (s.bay b).state := by
  simp [State.bayStates, State.bay]

theorem State.bayStates_of_bays {s t : State} (h : t.bays = s.bays) : t.bayStates = s.bayStates := by
  simp only [State.bayStates, h]

@[simp] theorem State.modBay_states (s : State) (b : BayId) {f : Bay → Bay} (h : ∀ r, (f r).state = r.state) :
    (s.modBay b f).bayStates = s.bayStates := by
  refine Vector.ext fun m hm => ?_
  rw [State.bayStates_get _ ⟨m, hm⟩, State.bayStates_get _ ⟨m, hm⟩]
  by_cases e : (⟨m, hm⟩ : BayId) = b
  · rw [e, State.modBay_bay, h]
  · rw [State.modBay_bay_ne s f e]

@[simp] theorem State.issue_states (s : State) (b : BayId) (req : DriveReq) : (s.issue b req).bayStates = s.bayStates :=
  s.modBay_states b fun _ => rfl

@[simp] theorem State.feedTest_states (s : State) (b : BayId) : (s.feedTest b).bayStates = s.bayStates := by
  unfold State.feedTest
  dsimp only
  split
  · split
    · exact s.issue_states b _
    · rfl
  · rfl

@[simp] theorem State.setStable_states (s : State) (b : BayId) (n : Nat) : (s.setStable b n).bayStates = s.bayStates :=
  s.modBay_states b fun _ => rfl

@[simp] theorem State.order_states (s : State) (b : BayId) (req : DriveReq) : (s.order b req).bayStates = s.bayStates := by
  unfold State.order
  split
  · exact s.issue_states b req
  · exact s.feedTest_states b

@[simp] theorem State.setReserveLow_states (s : State) : s.setReserveLow.bayStates = s.bayStates := rfl

@[simp] theorem State.modGov_states (s : State) (f : Governor → Governor) : (s.modGov f).bayStates = s.bayStates := rfl

@[simp] theorem State.modDiscOf_states (s : State) (b : BayId) (f : Disc → Disc) :
    (s.modDiscOf b f).bayStates = s.bayStates := by
  unfold State.modDiscOf
  split <;> rfl

@[simp] theorem State.stepUpTest_states (s : State) (b : BayId) : (s.stepUpTest b).bayStates = s.bayStates := by
  unfold State.stepUpTest
  dsimp only
  (repeat' split) <;> simp

@[simp] theorem State.burningCheck_states (s : State) (b : BayId) (a : Burn) (lead : Nat) :
    (s.burningCheck b a lead).bayStates = s.bayStates := by
  unfold State.burningCheck State.issueSuspend
  dsimp only
  (repeat' split) <;> simp

@[simp] theorem State.reserveCheck_states (s : State) (b : BayId) : (s.reserveCheck b).bayStates = s.bayStates := by
  unfold State.reserveCheck
  (repeat' split) <;> simp

@[simp] theorem State.reallocate_states (s : State) (b : BayId) (a : Burn) (step stable : Nat) :
    (s.reallocate b a step stable).bayStates = s.bayStates := by
  simp [State.reallocate]

@[simp] theorem State.speedOk_states (s : State) (b : BayId) (a : Burn) (step : Nat) :
    (s.speedOk b a step).bayStates = s.bayStates := by
  unfold State.speedOk
  (repeat' split) <;> simp

@[simp] theorem State.speedRefused_states (s : State) (b : BayId) (a : Burn) (step : Nat) :
    (s.speedRefused b a step).bayStates = s.bayStates := by
  unfold State.speedRefused
  split <;> simp

@[simp] theorem State.reissueIdentify_states (s : State) (b : BayId) :
    (s.reissueIdentify b).bayStates = s.bayStates := s.modBay_states b fun _ => rfl

@[simp] theorem State.issueIdentify_states (s : State) (b : BayId) : (s.issueIdentify b).bayStates = s.bayStates :=
  by simp [State.issueIdentify]

@[simp] theorem State.reportBayFault_states (s : State) : s.reportBayFault.bayStates = s.bayStates :=
  State.bayStates_of_bays (by simp)

/-! ## The marking of an evaluation -/

/-- The mark after a command is the mark before it, or a trigger that lies between the two states (R19). -/
def State.marks (s t : State) : Prop := t.dispatchWanted = (s.dispatchWanted || s.dispatchTrigger t)

theorem State.marks_of_noTrigger {s t : State} (same : t.dispatchWanted = s.dispatchWanted)
    (h : s.dispatchTrigger t = false) : s.marks t := by
  rw [State.marks, h, same, Bool.or_false]

@[simp] theorem State.marks_self (s : State) : s.marks s := State.marks_of_noTrigger rfl s.dispatchTrigger_self

/-- The triggers read the state but for the mark itself. -/
@[simp] theorem State.dispatchTrigger_watched (s u v : State) :
    s.dispatchTrigger (u.watched v) = s.dispatchTrigger v := rfl

/-- A watched command marks what it is to mark. -/
@[simp] theorem State.marks_watched {s u : State} (same : u.dispatchWanted = s.dispatchWanted) : s.marks (s.watched u) := by
  rw [State.marks, State.watched_dispatchWanted, State.dispatchTrigger_watched, same]

/-- A reply is no trigger. -/
@[simp] theorem State.marks_answer (s u : State) (kind : Byte) (result : Result) (data : ReplyData) :
    s.marks (u.answer kind result data) ↔ s.marks u := Iff.rfl

@[simp] theorem State.marks_refuse (s u : State) (kind : Byte) (result : Result) :
    s.marks (u.refuse kind result) ↔ s.marks u := Iff.rfl

@[simp] theorem State.marks_answerMode (s u : State) (kind : Byte) (result : Result) :
    s.marks (u.answerMode kind result) ↔ s.marks u := Iff.rfl

theorem State.marks_of_notReady {s t : State} (same : t.dispatchWanted = s.dispatchWanted)
    (h : t.settings.stage ≠ .ready) : s.marks t :=
  State.marks_of_noTrigger same (State.dispatchTrigger_of_notReady h)

/-- Between two states that agree on what R19 reads, but for bays of which none becomes EMPTY, lies no trigger. -/
structure State.undisturbed (s t : State) : Prop where
  wanted : t.dispatchWanted = s.dispatchWanted
  stage : t.settings.stage = s.settings.stage
  emptied : ∀ b, (t.bay b).state = .empty → (s.bay b).state = .empty
  jobs : t.jobs = s.jobs
  records : t.discs.records.map Disc.number = s.discs.records.map Disc.number
  spindles : t.trans.spindleA = s.trans.spindleA ∧ t.trans.spindleB = s.trans.spindleB
  queue : t.trans.queue = s.trans.queue
  printer : t.printer = s.printer
  staging : t.staging = s.staging

theorem State.undisturbed.quiet {s t : State} (h : s.undisturbed t) : s.quiet t := by
  obtain ⟨-, hstage, hemptied, hjobs, hrecords, ⟨hspindleA, hspindleB⟩, hqueue, hprinter, hstaging⟩ := h
  exact {
    stage := fun ready => hstage ▸ ready
    bays := hemptied
    jobs := fun k => .inl (by simp only [State.job, hjobs])
    runMode := fun run => hjobs ▸ run
    records := fun d hd => by
      have named : d.number ∈ t.discs.records.map Disc.number := hrecords ▸ List.mem_map_of_mem hd
      exact List.mem_map.1 named
    spindles := fun i => .inr (by cases i <;> simp only [State.spindle, hspindleA, hspindleB])
    printer := fun idle => by simpa only [State.printerIs, hprinter] using idle
    queue := fun r hr => ⟨r, hqueue ▸ hr, rfl, rfl⟩
    images := fun k i j hi hj => by
      have same : t.image k = s.image k := by simp only [State.image, hstaging]
      obtain rfl := Option.some.inj (hi.symm.trans (same ▸ hj))
      exact ⟨id, id, id⟩ }

theorem State.undisturbed.marks {s t : State} (h : s.undisturbed t) : s.marks t :=
  State.marks_of_noTrigger h.wanted h.quiet.dispatchTrigger

/-- The bays' states as they stand. -/
theorem State.emptied_of_states {s t : State} (h : t.bayStates = s.bayStates) (b : BayId)
    (empty : (t.bay b).state = .empty) : (s.bay b).state = .empty := by
  rwa [← State.bayStates_get, h, State.bayStates_get] at empty

/-- The parts that R19's triggers read, and the mark. -/
def triggerParts : List Part := [.jobs, .discs, .staging, .bays, .trans, .printer, .settings, .dispatch]

theorem exec_marks_of_apart {c : Instr} {s t : State} (e : exec c s = .next t)
    (apart : ∀ p ∈ triggerParts, p ∉ changedParts c) : s.marks t := by
  have frame : ∀ p ∈ triggerParts, s.agreeOn t p := fun p hp => exec_changesOnly e p (apart p hp)
  simp only [triggerParts, List.mem_cons, List.not_mem_nil, or_false, forall_eq_or_imp, forall_eq,
    State.agreeOn] at frame
  obtain ⟨hjobs, hdiscs, hstaging, hbays, htrans, hprinter, hsettings, hwanted⟩ := frame
  exact State.undisturbed.marks {
    wanted := hwanted, stage := by rw [hsettings], jobs := hjobs, records := by rw [hdiscs]
    emptied := State.emptied_of_states (State.bayStates_of_bays hbays)
    spindles := by rw [htrans]; exact ⟨rfl, rfl⟩
    queue := by rw [htrans], printer := hprinter, staging := hstaging }

/-- A change after which no bay is EMPTY that was not, and which keeps what else R19 reads. -/
theorem State.marks_of_emptied {s t : State} (emptied : ∀ b, (t.bay b).state = .empty → (s.bay b).state = .empty)
    (jobs : t.jobs = s.jobs) (records : t.discs.records.map Disc.number = s.discs.records.map Disc.number)
    (spindleA : t.trans.spindleA = s.trans.spindleA) (spindleB : t.trans.spindleB = s.trans.spindleB)
    (queue : t.trans.queue = s.trans.queue) (printer : t.printer = s.printer) (staging : t.staging = s.staging)
    (stage : t.settings.stage = s.settings.stage) (wanted : t.dispatchWanted = s.dispatchWanted) : s.marks t :=
  State.undisturbed.marks
    { wanted, stage, emptied, jobs, records, spindles := ⟨spindleA, spindleB⟩, queue, printer, staging }

/-- The record of one bay changes to one that is not EMPTY. -/
theorem State.emptied_of_modBay (s : State) {b : BayId} {f : Bay → Bay} (h : ∀ r, (f r).state ≠ .empty) (c : BayId)
    (empty : ((s.modBay b f).bay c).state = .empty) : (s.bay c).state = .empty := by
  by_cases e : c = b
  · subst e
    rw [State.modBay_bay] at empty
    exact absurd empty (h _)
  · rwa [State.modBay_bay_ne s f e] at empty

/-- The jobs change alone, and none opens up. -/
theorem State.quiet_of_jobs (s : State) {x : JobTable} (opens : ∀ k, State.job { s with jobs := x } k = s.job k ∨
      (s.job k ≠ none ∧ ∀ i j, s.job k = some i → State.job { s with jobs := x } k = some j →
        i.state.opensTo j.state = false))
    (runMode : x.runMode = .run → s.jobs.runMode = .run) : s.quiet { s with jobs := x } :=
  { State.quiet.refl s with jobs := opens, runMode := runMode }

/-- The settings change alone, and the stage stands. -/
theorem State.marks_of_settings (s : State) {x : Settings} (stage : x.stage = s.settings.stage) :
    s.marks { s with settings := x } :=
  State.marks_of_emptied (fun _ => id) rfl rfl rfl rfl rfl rfl rfl stage rfl

/-! ## The commands that mark nothing -/

/-- The job of one slot changes and does not open up. -/
theorem State.quiet_setJob {s : State} {k : JobSlot} {j : Job} {r : Option Job} (hj : s.job k = some j)
    (opens : ∀ i, r = some i → j.state.opensTo i.state = false) : s.quiet (s.setJob k r) := by
  refine s.quiet_of_jobs (fun m => ?_) id
  by_cases e : m = k
  · subst e
    refine .inr ⟨by simp [hj], fun i l hi hl => ?_⟩
    obtain rfl := Option.some.inj (hj.symm.trans hi)
    exact opens l ((State.setJob_job s m r).symm.trans hl)
  · exact .inl (State.setJob_job_ne s r e)

theorem State.jobNamed_job {s : State} {n : Nat} {k : JobSlot} {j : Job} (h : s.jobNamed n = some (k, j)) :
    s.job k = some j := by
  unfold State.jobNamed at h
  split at h
  · exact nomatch h
  · obtain ⟨i, hi, same⟩ := Option.map_eq_some_iff.1 h
    injection same with slot job
    subst slot job
    exact hi

/-- A hold opens no job. -/
theorem JobState.onHold_shut {before after : JobState} (h : before.onHold = some after) :
    before.opensTo after = false := by
  cases before <;> cases h <;> rfl

theorem execJobHold_marks {number : BitVec 16} {s t : State} (e : execJobHold number s = .next t) : s.marks t := by
  unfold execJobHold at e
  split at e
  · injection e with e
    subst e
    exact s.marks_self
  · rename_i k j named
    split at e <;> injection e with e <;> subst e
    · exact s.marks_self
    · rename_i st held
      have hj := State.jobNamed_job named
      refine State.marks_of_noTrigger rfl (State.quiet_setJob hj fun i hi => ?_).dispatchTrigger
      obtain rfl := Option.some.inj hi
      exact JobState.onHold_shut held

theorem execJobRemove_marks {number : BitVec 16} {s t : State} (e : execJobRemove number s = .next t) : s.marks t := by
  unfold execJobRemove at e
  (repeat' split at e) <;> injection e with e <;> subst e
  · exact s.marks_self
  · exact s.marks_self
  · rename_i k j named dead
    have removed : s.quiet (s.setJob k none) := State.quiet_setJob (State.jobNamed_job named) fun i hi => nomatch hi
    exact State.marks_of_noTrigger rfl
      (s.quiet_of_jobs (x := (s.removeJob k).jobs) removed.jobs removed.runMode).dispatchTrigger

theorem execTowerPause_marks {s t : State} (e : execTowerPause s = .next t) : s.marks t := by
  unfold execTowerPause at e
  (repeat' split at e) <;> injection e with e <;> subst e
  · exact s.marks_self
  · exact s.marks_self
  · exact State.marks_of_noTrigger rfl
      (s.quiet_of_jobs (x := { s.jobs with runMode := .paused }) (fun _ => .inl rfl) nofun).dispatchTrigger

theorem execTowerDrain_marks {s t : State} (e : execTowerDrain s = .next t) : s.marks t := by
  unfold execTowerDrain State.drainTest at e
  (repeat' split at e) <;> injection e with e <;> subst e
  · exact s.marks_self
  · exact State.marks_of_noTrigger rfl
      (s.quiet_of_jobs (x := { s.jobs with runMode := .paused }) (fun _ => .inl rfl) nofun).dispatchTrigger
  · exact State.marks_of_noTrigger rfl
      (s.quiet_of_jobs (x := { s.jobs with runMode := .draining }) (fun _ => .inl rfl) nofun).dispatchTrigger

theorem execSettingSet_marks {pairs : List (Byte × BitVec 32)} {s t : State}
    (e : execSettingSet pairs s = .next t) : s.marks t := by
  unfold execSettingSet at e
  split at e <;> injection e with e <;> subst e
  · exact s.marks_self
  · exact s.marks_of_settings (x := { s.settings with working := _ }) rfl

theorem execSettingsSave_marks {s t : State} (e : execSettingsSave s = .next t) : s.marks t := by
  unfold execSettingsSave at e
  split at e <;> injection e with e <;> subst e
  · exact s.marks_self
  · exact s.marks_of_settings (x := { s.settings with saving := _ }) rfl

theorem State.saveEnded_stage (s : State) (w : Saving) (readBack : List Byte) :
    (s.saveEnded w readBack).settings.stage = s.settings.stage := by
  unfold State.saveEnded
  dsimp only
  split <;> rfl

theorem State.saveEnded_marks (s : State) (w : Saving) (readBack : List Byte) : s.marks (s.saveEnded w readBack) := by
  refine State.marks_of_emptied (State.emptied_of_states (State.bayStates_of_bays ?_)) ?_ ?_ ?_ ?_ ?_ ?_ ?_
    (s.saveEnded_stage w readBack) ?_ <;> simp

/-- The part starts and takes the inventory: it is not READY. -/
theorem State.finishStarting_stage (s : State) (mode : RestartMode) :
    (s.finishStarting mode).settings.stage = .inventory := by
  unfold State.finishStarting State.beginInventory
  cases mode <;> simp [State.setStage]

theorem execSettingsWriteEnd_marks {readBack : List Byte} {s t : State}
    (e : execSettingsWriteEnd readBack s = .next t) : s.marks t := by
  unfold execSettingsWriteEnd at e
  (repeat' split at e) <;> injection e with e <;> subst e
  · exact s.marks_self
  · split
    · refine State.marks_of_notReady (by simp) ?_
      rw [State.finishStarting_stage]
      decide
    · exact s.saveEnded_marks _ _

/-- Homing starts. -/
theorem State.startHoming_marks (s : State) : s.marks s.startHoming := by
  unfold State.startHoming
  split <;> exact State.marks_of_emptied (fun _ => id) rfl rfl rfl rfl rfl rfl rfl rfl rfl

theorem execStartupInventoryEnd_marks {s t : State} (e : execStartupInventoryEnd s = .next t) : s.marks t := by
  unfold execStartupInventoryEnd at e
  injection e with e
  subst e
  split
  · exact State.marks_of_notReady (by simp [State.setStage]) (by simp [State.setStage])
  · exact s.marks_self

theorem execArmHome_marks {s t : State} (e : execArmHome s = .next t) : s.marks t := by
  unfold execArmHome at e
  (repeat' split at e) <;> injection e with e <;> subst e
  · exact s.marks_self
  · exact s.startHoming_marks
  · exact s.marks_self

theorem execDiscSet_marks {s t : State} (e : execDiscSet s = .next t) : s.marks t := by
  unfold execDiscSet at e
  (repeat' split at e) <;> injection e with e <;> subst e
  · refine State.marks_of_emptied (State.emptied_of_states ?_) rfl rfl rfl rfl rfl rfl rfl rfl rfl
    exact State.issue_states _ _ _
  · exact State.marks_of_emptied (fun _ => id) rfl rfl rfl rfl rfl rfl rfl rfl rfl
  all_goals exact s.marks_self

theorem execSwapSecondLegStart_marks {s t : State} (e : execSwapSecondLegStart s = .next t) : s.marks t := by
  unfold execSwapSecondLegStart at e
  injection e with e
  subst e
  split
  · exact State.marks_of_emptied (fun _ => id) rfl rfl rfl rfl rfl rfl rfl rfl rfl
  · exact s.marks_self

theorem execRibbonSensorChange_marks {out : Bool} {s t : State} (e : execRibbonSensorChange out s = .next t) :
    s.marks t := by
  unfold execRibbonSensorChange at e
  dsimp only at e
  split at e <;> injection e with e <;> subst e
  · exact s.marks_self
  · exact State.marks_watched (by split <;> simp)

theorem execStripCodeChange_marks {steps code : Nat} {s t : State} (e : execStripCodeChange steps code s = .next t) :
    s.marks t := by
  unfold execStripCodeChange at e
  dsimp only at e
  (repeat' split at e) <;> injection e with e <;> subst e
  · exact s.marks_self
  · exact s.marks_self
  · exact State.marks_of_emptied (fun _ => id) rfl rfl rfl rfl rfl rfl rfl rfl rfl
  · exact State.marks_watched (by simp)

/-- An image that does not open up is no trigger. -/
theorem State.quiet_stageFull {s : State} {k : ImageId} {i : Image} (hi : s.image k = some i) : s.quiet (s.stageFull k i) := by
  refine { State.quiet.refl s with images := fun m x y hx hy => ?_ }
  by_cases e : m = k
  · subst e
    obtain rfl := Option.some.inj (hi.symm.trans hx)
    obtain rfl := Option.some.inj ((State.setImage_image s m _).symm.trans hy)
    exact ⟨id, id, id⟩
  · have same : (s.stageFull k i).image m = s.image m := State.setImage_image_ne s _ e
    obtain rfl := Option.some.inj (hx.symm.trans (same ▸ hy))
    exact ⟨id, id, id⟩

theorem State.imageDataCheck_image {s : State} {slot count : Byte} {offset : Nat} {data : List Byte} {k : ImageId}
    {i : Image} (h : s.imageDataCheck slot count offset data = .ok (k, i)) : s.image k = some i := by
  unfold State.imageDataCheck at h
  (repeat' split at h) <;> cases h
  assumption

theorem execImageData_marks {slot count : Byte} {offset : BitVec 32} {data : List Byte} {s t : State}
    (e : execImageData slot count offset data s = .next t) : s.marks t := by
  unfold execImageData at e
  split at e
  · injection e with e
    subst e
    exact s.marks_self
  · rename_i k i taken
    split at e <;> injection e with e <;> subst e
    · exact State.marks_of_noTrigger rfl (State.quiet_stageFull (State.imageDataCheck_image taken)).dispatchTrigger
    · rename_i u found
      have frame := State.findSegment_frame s _ _ _ found
      exact (State.marks_answer _ _ _ _ _).2 (State.marks_watched (by simp [frame]))

/-- A bay that is taken offline does not become EMPTY (R26). -/
theorem Bay.wentOffline_state_ne (r : Bay) : r.wentOffline.state ≠ .empty := by
  unfold Bay.wentOffline
  cases h : r.state <;> simp [h]

theorem execBayOffline_marks {bay : Byte} {s t : State} (e : execBayOffline bay s = .next t) : s.marks t := by
  unfold execBayOffline at e
  (repeat' split at e) <;> injection e with e <;> subst e
  · exact s.marks_self
  · exact s.marks_self
  · rename_i b _ _
    exact State.marks_of_emptied (s.emptied_of_modBay Bay.wentOffline_state_ne) rfl rfl rfl rfl rfl rfl rfl rfl rfl

theorem execBayOnline_marks {bay : Byte} {s t : State} (e : execBayOnline bay s = .next t) : s.marks t := by
  unfold execBayOnline at e
  (repeat' split at e) <;> injection e with e <;> subst e
  · exact s.marks_self
  · rename_i b _ _
    have emptied : ∀ c, ((s.bringOnline b).bay c).state = .empty → (s.bay c).state = .empty := by
      intro c empty
      have surveyed := State.emptied_of_states (State.reportBayFault_states _) c empty
      have identified := State.emptied_of_states (State.issueIdentify_states _ b) c surveyed
      have brought := State.emptied_of_modBay _ (b := b) (fun _ => by simp) c identified
      exact State.emptied_of_states (s.modBay_states b fun _ => by simp) c brought
    refine State.marks_of_emptied emptied ?_ ?_ ?_ ?_ ?_ ?_ ?_ ?_ ?_ <;> simp
  · exact s.marks_self

theorem execIdentifyRetryTimerExpiry_marks {b : BayId} {s t : State}
    (e : execIdentifyRetryTimerExpiry b s = .next t) : s.marks t := by
  unfold execIdentifyRetryTimerExpiry at e
  injection e with e
  subst e
  split
  · exact State.marks_of_emptied (State.emptied_of_states (s.reissueIdentify_states b)) rfl rfl rfl rfl rfl rfl rfl rfl rfl
  · exact s.marks_self

/-- An operation on a bay that keeps the states of the bays and what else R19 reads. -/
theorem State.marks_of_states {s t : State} (states : t.bayStates = s.bayStates)
    (jobs : t.jobs = s.jobs) (records : t.discs.records.map Disc.number = s.discs.records.map Disc.number)
    (trans : t.trans = s.trans) (printer : t.printer = s.printer) (staging : t.staging = s.staging)
    (settings : t.settings = s.settings) (wanted : t.dispatchWanted = s.dispatchWanted) : s.marks t :=
  State.marks_of_emptied (State.emptied_of_states states) jobs records (by rw [trans]) (by rw [trans]) (by rw [trans])
    printer staging (by rw [settings]) wanted

theorem execReserveTimerExpiry_marks {b : BayId} {s t : State} (e : execReserveTimerExpiry b s = .next t) :
    s.marks t := by
  unfold execReserveTimerExpiry at e
  injection e with e
  subst e
  split
  · apply State.marks_of_states <;> simp
  · exact s.marks_self

@[simp] theorem State.endOut_states (s : State) (b : BayId) : (s.modBay b Bay.endOut).bayStates = s.bayStates :=
  s.modBay_states b fun _ => rfl

theorem execIdentifyComplete_marks {b : BayId} {number : Byte} {kind : CompletionKind} {facts : DriveFacts} {s t : State}
    (e : execIdentifyComplete b number kind facts s = .next t) : s.marks t := by
  unfold execIdentifyComplete at e
  dsimp only at e
  (repeat' split at e) <;> injection e with e <;> subst e
  · apply State.marks_of_states <;> simp
  · exact State.marks_watched (by simp)
  · exact State.marks_watched (by simp)
  · exact s.marks_self

theorem execWriteComplete_marks {b : BayId} {number : Byte} {kind : CompletionKind} {buffer : Nat} {s t : State}
    (e : execWriteComplete b number kind buffer s = .next t) : s.marks t := by
  unfold execWriteComplete at e
  split at e
  · have ended : s.marks (s.modBay b Bay.endOut) := by
      apply State.marks_of_states <;> simp
    cases kind <;> dsimp only at e <;> (try split at e) <;> injection e with e <;> subst e
    case underrun.isTrue => exact ended
    all_goals exact State.marks_watched (by simp)
  · injection e with e
    subst e
    exact s.marks_self

@[simp] theorem State.modDiscOf_numbers (s : State) (b : BayId) {f : Disc → Disc} (h : ∀ d, (f d).number = d.number) :
    (s.modDiscOf b f).discs.records.map Disc.number = s.discs.records.map Disc.number := by
  unfold State.modDiscOf
  split
  · exact State.modDisc_numbers _ _ h
  · rfl

@[simp] theorem State.speedOk_numbers (s : State) (b : BayId) (a : Burn) (step : Nat) :
    (s.speedOk b a step).discs.records.map Disc.number = s.discs.records.map Disc.number := by
  unfold State.speedOk
  split
  · exact State.modDiscOf_numbers _ b fun _ => rfl
  · split <;> rfl

theorem execSpeedComplete_marks {b : BayId} {number : Byte} {kind : CompletionKind} {s t : State}
    (e : execSpeedComplete b number kind s = .next t) : s.marks t := by
  unfold execSpeedComplete at e
  split at e
  · cases kind <;> injection e with e <;> subst e
    case underrun => exact State.marks_watched (by simp)
    all_goals apply State.marks_of_states <;> simp
  · injection e with e
    subst e
    exact s.marks_self

theorem execSuspendComplete_marks {b : BayId} {number : Byte} {kind : CompletionKind} {s t : State}
    (e : execSuspendComplete b number kind s = .next t) : s.marks t := by
  unfold execSuspendComplete at e
  split at e
  · cases kind <;> injection e with e <;> subst e
    case ok =>
      refine State.marks_of_emptied (fun c empty => ?_) ?_ (State.modDiscOf_numbers _ b fun _ => rfl) ?_ ?_ ?_ ?_ ?_ ?_ ?_
      · have stable := State.emptied_of_states (State.modDiscOf_states _ b _) c empty
        have suspended := State.emptied_of_states (State.setStable_states _ b 0) c stable
        have ended := State.emptied_of_modBay _ (b := b) (fun _ => by simp) c suspended
        exact State.emptied_of_states (s.modBay_states b fun _ => by simp) c ended
      all_goals simp
    case underrun => exact State.marks_watched (by simp)
    all_goals apply State.marks_of_states <;> simp
  · injection e with e
    subst e
    exact s.marks_self

theorem execResumeComplete_marks {b : BayId} {number : Byte} {kind : CompletionKind} {s t : State}
    (e : execResumeComplete b number kind s = .next t) : s.marks t := by
  unfold execResumeComplete at e
  split at e
  · cases kind <;> injection e with e <;> subst e
    case ok =>
      refine State.marks_of_emptied (fun c empty => ?_) ?_ ?_ ?_ ?_ ?_ ?_ ?_ ?_ ?_
      · have stable := State.emptied_of_states (State.feedTest_states _ b) c empty
        have burning := State.emptied_of_states (State.setStable_states _ b 0) c stable
        have ended := State.emptied_of_modBay _ (b := b) (fun _ => by simp) c burning
        exact State.emptied_of_states (s.endOut_states b) c ended
      all_goals simp
    case underrun => exact State.marks_watched (by simp)
    all_goals apply State.marks_of_states <;> simp
  · injection e with e
    subst e
    exact s.marks_self

/-! ## Every command -/

theorem exec_marks {c : Instr} {s t : State} (e : exec c s = .next t) (evaluates : c ≠ .dispatchEvaluation)
    (powers : ∀ readings flash, c ≠ .powerOn readings flash) (restarts : c = .restartBegin → s.link.restart = none) :
    s.marks t := by
  by_cases apart : ∀ p ∈ triggerParts, p ∉ changedParts c
  · exact exec_marks_of_apart e apart
  · cases c with
    | dispatchEvaluation => exact absurd rfl evaluates
    | powerOn readings flash => exact absurd rfl (powers readings flash)
    | imageOpen | passClose | imageRewind | imageRelease =>
      simp only [exec, execImageOpen, execPassClose, execImageRewind, execImageRelease] at e
      (repeat' split at e) <;> (injection e with e; subst e) <;> simp
    | jobCreate | jobRelease | jobCancel | towerResume | printerResume =>
      simp only [exec, execJobCreate, execJobRelease, execJobCancel, execTowerResume, execPrinterResume] at e
      (repeat' split at e) <;> (injection e with e; subst e) <;> simp
    | startupReady | orphanCreationGrant | verifyLaneTake | admissionEvaluation | grantEvaluation =>
      simp only [exec, execStartupReady, execOrphanCreationGrant, execVerifyLaneTake, execAdmissionEvaluation,
        execGrantEvaluation] at e
      (repeat' split at e) <;> (injection e with e; subst e) <;> simp
    | unsolicitedUnderrun | closeComplete | readComplete | trayOpenComplete | trayCloseComplete | deadlineExpiry =>
      simp only [exec, execUnsolicitedUnderrun, execCloseComplete, execReadComplete, execTrayOpenComplete,
        execTrayCloseComplete, execDeadlineExpiry] at e
      (repeat' split at e) <;> (injection e with e; subst e) <;> simp
    | bottomReferenceReached | arrival | moveTimerExpiry | pickConfirmed | prnTrayConfirmed | dropConfirmed
    | ackTimerExpiry | holdTimerExpiry =>
      simp only [exec, execBottomReferenceReached, execArrival, execMoveTimerExpiry, execPickConfirmed,
        execPrnTrayConfirmed, execDropConfirmed, execAckTimerExpiry, execHoldTimerExpiry] at e
      (repeat' split at e) <;> (injection e with e; subst e) <;> simp
    | doorOpen | doorClose | spindleSensorChange | printerLinePeriod | headTemperatureReading =>
      simp only [exec, execDoorOpen, execDoorClose, execSpindleSensorChange, execPrinterLinePeriod,
        execHeadTemperatureReading] at e
      (repeat' split at e) <;> (injection e with e; subst e) <;> simp
    | restartBegin =>
      simp only [exec, execRestartBegin, restarts rfl] at e
      injection e with e
      subst e
      exact s.marks_self
    | jobHold number => exact execJobHold_marks e
    | jobRemove number => exact execJobRemove_marks e
    | towerPause => exact execTowerPause_marks e
    | towerDrain => exact execTowerDrain_marks e
    | settingSet pairs => exact execSettingSet_marks e
    | settingsSave => exact execSettingsSave_marks e
    | eventMask mask =>
      injection e with e
      subst e
      exact s.marks_of_settings (x := { s.settings with working := _ }) rfl
    | settingsWriteEnd readBack => exact execSettingsWriteEnd_marks e
    | startupInventoryEnd => exact execStartupInventoryEnd_marks e
    | discResults =>
      injection e with e
      subst e
      exact State.marks_of_emptied (fun _ => id) rfl rfl rfl rfl rfl rfl rfl rfl rfl
    | armHome => exact execArmHome_marks e
    | discSet => exact execDiscSet_marks e
    | swapSecondLegStart => exact execSwapSecondLegStart_marks e
    | stripCodeChange steps code => exact execStripCodeChange_marks e
    | ribbonSensorChange out => exact execRibbonSensorChange_marks e
    | imageData slot count offset data => exact execImageData_marks e
    | bayOffline bay => exact execBayOffline_marks e
    | bayOnline bay => exact execBayOnline_marks e
    | identifyRetryTimerExpiry b => exact execIdentifyRetryTimerExpiry_marks e
    | reserveTimerExpiry b => exact execReserveTimerExpiry_marks e
    | identifyComplete b number kind facts => exact execIdentifyComplete_marks e
    | writeComplete b number kind buffer => exact execWriteComplete_marks e
    | speedComplete b number kind => exact execSpeedComplete_marks e
    | suspendComplete b number kind => exact execSuspendComplete_marks e
    | resumeComplete b number kind => exact execResumeComplete_marks e
    | _ => simp [triggerParts, changedParts] at apart

end Sys2Proof.Machine
end

/-! # Proofs: every command answers a next state, and what it marks (R19, log 1 and log 33) -/

section

namespace Sys2Proof.Machine

/-- No command stops the part (log 33). -/
theorem exec_total (c : Instr) (s : State) : ∃ t, exec c s = .next t := by
  cases c with
  | powerOn | restartBegin | startupInventoryEnd | startupReady | strapChange | portEnumerated | portConfigured
  | linkReset | frameReceived | inboundTake | inTransferComplete | ident =>
    simp only [exec, execPowerOn, execRestartBegin, execStartupInventoryEnd, execStartupReady, execStrapChange,
      execPortEnumerated, execPortConfigured, execLinkReset, execFrameReceived, execInboundTake,
      execInTransferComplete, execIdent]
    (repeat' split) <;> exact ⟨_, rfl⟩
  | restart | settingGet | settingSet | settingsSave | settingsWriteEnd | statusGet | statusClear | flagForce
  | flagRelease | eventMask | eventAck | countersGet =>
    simp only [exec, execRestart, execSettingGet, execSettingSet, execSettingsSave, execSettingsWriteEnd,
      execStatusGet, execStatusClear, execFlagForce, execFlagRelease, execEventMask, execEventAck, execCountersGet]
    (repeat' split) <;> exact ⟨_, rfl⟩
  | countersClear | imageOpen | imageData | passClose | imageRewind | imageRelease | imageQuery | labelOpen
  | labelData | labelDrop | labelQuery | jobCreate =>
    simp only [exec, execCountersClear, execImageOpen, execImageData, execPassClose, execImageRewind,
      execImageRelease, execImageQuery, execLabelOpen, execLabelData, execLabelDrop, execLabelQuery, execJobCreate]
    (repeat' split) <;> exact ⟨_, rfl⟩
  | jobHold | jobRelease | jobCancel | jobRemove | jobQuery | discResults | bayQuery | bayOffline | bayOnline
  | armHome | printerResume | towerPause =>
    simp only [exec, execJobHold, execJobRelease, execJobCancel, execJobRemove, execJobQuery, execDiscResults,
      execBayQuery, execBayOffline, execBayOnline, execArmHome, execPrinterResume, execTowerPause]
    (repeat' split) <;> exact ⟨_, rfl⟩
  | towerResume | towerDrain | dispatchEvaluation | orphanCreationGrant | identifyComplete | identifyRetryTimerExpiry
  | writeComplete | reserveTimerExpiry | speedComplete | suspendComplete | resumeComplete | unsolicitedUnderrun =>
    simp only [exec, execTowerResume, execTowerDrain, execDispatchEvaluation, execOrphanCreationGrant,
      execIdentifyComplete, execIdentifyRetryTimerExpiry, execWriteComplete, execReserveTimerExpiry,
      execSpeedComplete, execSuspendComplete, execResumeComplete, execUnsolicitedUnderrun]
    (repeat' split) <;> exact ⟨_, rfl⟩
  | closeComplete | readComplete | verifyLaneTake | trayOpenComplete | trayCloseComplete | deadlineExpiry
  | admissionEvaluation | grantEvaluation | arrival | moveTimerExpiry | pickConfirmed | discSet =>
    simp only [exec, execCloseComplete, execReadComplete, execVerifyLaneTake, execTrayOpenComplete,
      execTrayCloseComplete, execDeadlineExpiry, execAdmissionEvaluation, execGrantEvaluation, execArrival,
      execMoveTimerExpiry, execPickConfirmed, execDiscSet]
    (repeat' split) <;> exact ⟨_, rfl⟩
  | prnTrayConfirmed | dropConfirmed | ackTimerExpiry | swapSecondLegStart | holdTimerExpiry | stripCodeChange
  | bottomReferenceReached | doorOpen | doorClose | spindleSensorChange | binFullSensorChange | printerLinePeriod =>
    simp only [exec, execPrnTrayConfirmed, execDropConfirmed, execAckTimerExpiry, execSwapSecondLegStart,
      execHoldTimerExpiry, execStripCodeChange, execBottomReferenceReached, execDoorOpen, execDoorClose,
      execSpindleSensorChange, execBinFullSensorChange, execPrinterLinePeriod]
    (repeat' split) <;> exact ⟨_, rfl⟩
  | headTemperatureReading | ribbonSensorChange | ribbonLowSensorChange | noticeOffer | gapTimerExpiry
  | oversizeHeaderReceived =>
    simp only [exec, execHeadTemperatureReading, execRibbonSensorChange, execRibbonLowSensorChange, execNoticeOffer,
      execGapTimerExpiry, execOversizeHeaderReceived]
    (repeat' split) <;> exact ⟨_, rfl⟩

/-- No command touches the queue of commands or the clock. -/
theorem pending_now_unchanged (c : Instr) : Part.pending ∉ changedParts c ∧ Part.now ∉ changedParts c := by
  cases c <;> simp [changedParts]

theorem execDispatchEvaluation_of_mayNot {s t : State} (e : exec .dispatchEvaluation s = .next t)
    (mayNot : s.settings.stage ≠ .ready ∨ s.discs.orphanWait ≠ []) : t = s := by
  have held : s.mayDispatch = false := by
    rcases mayNot with h | h <;> simp [State.mayDispatch, State.ready, h]
  simp only [exec, execDispatchEvaluation, held] at e
  injection e with e
  exact e.symm

theorem execDispatchEvaluation_answers {s t : State} (e : exec .dispatchEvaluation s = .next t)
    (stage : s.settings.stage = .ready) (served : s.discs.orphanWait = []) : t.dispatchWanted = false := by
  have may : s.mayDispatch = true := by simp [State.mayDispatch, State.ready, stage, served]
  simp only [exec, execDispatchEvaluation, may] at e
  injection e with e
  subst e
  rfl

/-- A reset of the blocks forgets the mark. -/
theorem execRestartBegin_forgets {s t : State} (e : exec .restartBegin s = .next t) (wanted : s.link.restart ≠ none) :
    t.dispatchWanted = false := by
  obtain ⟨w, hw⟩ := Option.ne_none_iff_exists'.1 wanted
  simp only [exec, execRestartBegin, hw] at e
  injection e with e
  subst e
  simp

/-- A wanted evaluation is the part's next command when nothing stands before it. -/
theorem State.nextDue_dispatch {s : State} (wanted : s.dispatchWanted = true) (stage : s.settings.stage = .ready)
    (served : s.discs.orphanWait = []) (owner : s.link.owner = none) (restart : s.restartDue = false)
    (notice : s.noticeDue = false) (lane : s.laneDue = false) (second : s.secondLegReady = false)
    (grant : s.canGrant = false) (admission : s.admissionDue = false) : s.nextDue = some .dispatchEvaluation := by
  have owned : s.ownedDue = none := by simp [State.ownedDue, owner]
  have orphan : s.orphanDue = false := by simp [State.orphanDue, served]
  have dispatch : s.dispatchDue = true := by simp [State.dispatchDue, State.mayDispatch, State.ready, wanted, stage, served]
  simp [State.nextDue, State.workDue, firstDue, due, owned, orphan, dispatch, restart, notice, lane, second, grant,
    admission]

/-- Settles O3, from the frame of every command and what each marks. -/
theorem everyCommandAnswersANextState : Obligations.EveryCommandAnswersANextState := by
  refine ⟨fun c s => ?_, fun s wanted stage served owner restart notice lane second grant admission =>
    State.nextDue_dispatch wanted stage served owner restart notice lane second grant admission⟩
  obtain ⟨t, e⟩ := exec_total c s
  have frame := exec_changesOnly e
  obtain ⟨pending, now⟩ := pending_now_unchanged c
  refine ⟨t, e, frame .pending pending, frame .now now, fun evaluates powers restarts => ?marked, ?held, ?answered⟩
  case marked =>
    have mark : s.marks t := exec_marks e evaluates powers restarts
    rw [mark, Bool.or_eq_true, State.dispatchTrigger_iff]
  case held =>
    rintro rfl
    exact execDispatchEvaluation_of_mayNot e
  case answered =>
    rintro (⟨rfl, stage, served⟩ | ⟨readings, flash, rfl⟩ | ⟨rfl, wanted⟩)
    · exact execDispatchEvaluation_answers e stage served
    · exact (execPowerOn_frame readings flash s e).2.1
    · exact execRestartBegin_forgets e wanted

end Sys2Proof.Machine
end

/-! # Proofs: orphan records (R2, R57, R130, R149) -/

section

namespace Sys2Proof.Machine

/-! ## New numbers -/

/-- The counter's number is the new one while no record and no entry holds it (R2). -/
theorem DiscTable.newNumber_of_free {t : DiscTable} (free : t.taken t.counter = false) : t.newNumber = t.counter := by
  unfold DiscTable.newNumber
  cases t.records.length + t.completions.length with
  | zero => rfl
  | succ tries => simp [DiscTable.firstFree, free]

theorem DiscTable.numbers_ne_of_free {t : DiscTable} {n : Nat} (free : t.taken n = false) (d : Disc) (hd : d ∈ t.records) :
    d.number ≠ n := by
  simp only [DiscTable.taken, Bool.or_eq_false_iff, List.any_eq_false, beq_iff_eq] at free
  exact free.1 d hd

/-! ## Changes that change no record -/

/-- A change that every record of the number already shows changes nothing. -/
theorem State.modDisc_of_unchanged {s : State} {n : Nat} {f : Disc → Disc}
    (shown : ∀ d ∈ s.discs.records, d.number = n → f d = d) : s.modDisc n f = s := by
  have records : s.discs.records.map (fun d => if d.number == n then f d else d) = s.discs.records :=
    (List.map_congr_left fun d hd => by
      by_cases e : d.number = n
      · simp [e, shown d hd e]
      · simp [e]).trans (List.map_id _)
  simp only [State.modDisc, records]

/-- A post of a disc whose record is TO_OUT already changes no record. -/
theorem State.postMove_of_toOut {s : State} {r : MoveReq}
    (toOut : ∀ d ∈ s.discs.records, d.number = r.disc → d.stage = .toOut) : s.postMove r = s.joinQueue r := by
  unfold State.postMove
  split
  · exact State.modDisc_of_unchanged fun d hd hn => by rw [← toOut d hd hn]
  · rfl

theorem Transport.asked.keeps {t u : Transport} {r q : MoveReq} (asked : t.asked u r) (hq : q ∈ t.queue) :
    q ∈ u.queue := by
  by_cases has : ∃ p ∈ t.queue, p.requester = r.requester
  · rw [(asked.waits has).1]
    exact hq
  · rw [(asked.joins fun p hp same => has ⟨p, hp, same⟩).1]
    exact List.mem_append_left _ hq

/-! ## The block that takes its orphan -/

/-- Every record of the number is an orphan's that leaves (R2). -/
def State.orphanRecorded (s : State) (n : Nat) : Prop :=
  ∀ d ∈ s.discs.records, d.number = n → d.stage = .toOut ∧ d.disposition = .reject .orphan

theorem State.orphanRecorded.unloadDest {s : State} {n : Nat} (h : s.orphanRecorded n) : s.unloadDest n = .reject := by
  unfold State.unloadDest
  split
  · rfl
  · rename_i d found
    have named := List.find?_some found
    rw [(h d (List.mem_of_find?_eq_some found) (by simpa using named)).2]

/-- The record of a number that no other holds is its only one. -/
theorem State.orphanRecorded_create {s : State} {n : Nat} (place : Station) (free : s.discs.taken n = false) :
    State.orphanRecorded { s with discs := s.discs.create (.orphan n place) } n := by
  intro d hd hn
  rcases List.mem_append.1 hd with old | new
  · exact absurd hn (DiscTable.numbers_ne_of_free free d old)
  · rw [List.mem_singleton.1 new]
    exact ⟨rfl, rfl⟩

/-- The record of a bay that has taken its orphan (R57). -/
def Bay.withOrphan (r : Bay) (n : Nat) : Bay :=
  { r with disc := some n, job := none, imageSlot := none, state := .awaitUnload, dest := some .reject, survey := false }

/-- The move of an orphan from its bay to REJECT. -/
def orphanUnload (b : BayId) (n : Nat) : MoveReq := .posted .unload (.bay b) (.bay b) (.bin .reject) n none

/-- A bay unloads its orphan to REJECT; with no job of its own the unload is no SWAP (R23). -/
theorem State.bayTakesOrphan_eq {s : State} {n : Nat} (b : BayId) (h : s.orphanRecorded n) :
    s.bayTakesOrphan b n = (s.modBay b (·.withOrphan n)).joinQueue (orphanUnload b n) := by
  have dest : (s.modBay b fun r => { r with disc := some n, job := none, imageSlot := none }).unloadDest n = .reject :=
    State.orphanRecorded.unloadDest h
  have both : (s.modBay b fun r => { r with disc := some n, job := none, imageSlot := none }).modBay b
      (fun r => { r with state := .awaitUnload, dest := some .reject, survey := false }) =
        s.modBay b (·.withOrphan n) := by
    simp [State.modBay, State.setBay, State.bay, Bay.withOrphan]
  have alone : (s.modBay b (·.withOrphan n)).swapJob b = none := by
    simp [State.swapJob, State.modBay_bay, Bay.withOrphan]
  unfold State.bayTakesOrphan State.enterAwaitUnload State.postUnload
  dsimp only
  rw [dest, both, alone]
  exact State.postMove_of_toOut fun d hd hn => (h d hd hn).1

theorem State.clearArm_eq {s : State} {n : Nat} (h : s.orphanRecorded n) :
    s.clearArm n = (s.setArm (.homing .carry)).depart := by
  have rejected : s.setReject n .handling = s := State.modDisc_of_unchanged fun d hd hn => by
    simp [Disc.rejected, (h d hd hn).2, Disposition.isReject]
  have leaving : s.setToOut n = s := State.modDisc_of_unchanged fun d hd hn => by rw [← (h d hd hn).1]
  rw [State.clearArm, rejected, leaving]

end Sys2Proof.Machine
end

/-! # Proofs: dispatch evaluations and orphan grants -/

section

namespace Sys2Proof.Machine

theorem State.joinQueue_spindles (s : State) (r : MoveReq) :
    (s.joinQueue r).trans.spindleA = s.trans.spindleA ∧ (s.joinQueue r).trans.spindleB = s.trans.spindleB := by
  unfold State.joinQueue State.modTrans
  dsimp only
  split <;> exact ⟨rfl, rfl⟩

/-! ## The grant of a free record to an orphan creation -/

/-- The record of the oldest waiting creation is made. -/
def State.orphanMade (s : State) (w : OrphanAt) (rest : List OrphanAt) : State :=
  { s with discs := { s.discs with orphanWait := rest }.create (.orphan s.discs.counter w.station) }

theorem State.grantOrphan_eq {s : State} {w : OrphanAt} {rest : List OrphanAt} (waits : s.discs.orphanWait = w :: rest)
    (room : s.discs.records.length < 16) (free : s.discs.taken s.discs.counter = false) :
    s.grantOrphan = (s.orphanMade w rest).orphanGiven w s.discs.counter := by
  have spare : s.discs.free ≠ 0 := by
    unfold DiscTable.free
    have : Config.discRecords = 16 := rfl
    omega
  simp only [State.grantOrphan, waits, spare, if_false, DiscTable.newNumber_of_free free, State.orphanMade]

theorem State.orphanMade_recorded {s : State} (w : OrphanAt) (rest : List OrphanAt)
    (free : s.discs.taken s.discs.counter = false) : (s.orphanMade w rest).orphanRecorded s.discs.counter :=
  State.orphanRecorded_create (s := { s with discs := { s.discs with orphanWait := rest } }) w.station free

/-- What every grant makes, whichever block asked. -/
structure State.orphanGranted (s : State) (w : OrphanAt) (rest : List OrphanAt) (t : State) : Prop where
  discs : t.discs = { s.discs with orphanWait := rest }.create (.orphan s.discs.counter w.station)
  bays : ∀ b, w ≠ .bay b → t.bay b = s.bay b
  bay : ∀ b, w = .bay b → t.bay b = (s.bay b).withOrphan s.discs.counter ∧
    s.trans.asked t.trans (orphanUnload b s.discs.counter)
  printer : w ≠ .prn → t.printer = s.printer
  tray : w = .prn → s.trans.asked t.trans (.posted .clear .printer .prn (.bin .reject) s.discs.counter none) ∧
    ∃ p, s.printer = some p ∧ t.printer = some { p with
      trayDisc := some s.discs.counter, trayMove := true
      state := if p.state = .idle then .awaitRemove else p.state }
  arm : w = .arm → t.trans = if s.trans.arm = .homing .awaitRecord then { s.trans with
    arm := .homing .carry, moveTimer := some (s.now + 12000), ackTimer := none, handover := none } else s.trans
  spindles : t.trans.spindleA = s.trans.spindleA ∧ t.trans.spindleB = s.trans.spindleB
  queue : ∀ q ∈ s.trans.queue, q ∈ t.trans.queue
  frame : s.changesOnly [.discs, .bays, .trans, .printer, .status] t

theorem State.grantOrphan_granted {s : State} {w : OrphanAt} {rest : List OrphanAt}
    (waits : s.discs.orphanWait = w :: rest) (room : s.discs.records.length < 16)
    (free : s.discs.taken s.discs.counter = false) (fitted : w ≠ .prn ∨ s.printer ≠ none) :
    s.orphanGranted w rest s.grantOrphan := by
  have recorded := State.orphanMade_recorded w rest free
  rw [State.grantOrphan_eq waits room free]
  cases w with
  | bay b =>
    have given : (s.orphanMade (.bay b) rest).orphanGiven (.bay b) s.discs.counter =
        ((s.orphanMade (.bay b) rest).modBay b (·.withOrphan s.discs.counter)).joinQueue (orphanUnload b s.discs.counter) :=
      State.bayTakesOrphan_eq b recorded
    rw [given]
    have asked := ((s.orphanMade (.bay b) rest).modBay b (·.withOrphan s.discs.counter)).joinQueue_asked
      (orphanUnload b s.discs.counter)
    exact {
      discs := rfl
      bays := fun c other => (s.orphanMade (.bay b) rest).modBay_bay_ne (·.withOrphan s.discs.counter)
        (by rintro rfl; exact other rfl)
      bay := fun c same => by
        cases same
        exact ⟨(s.orphanMade (.bay b) rest).modBay_bay b (·.withOrphan s.discs.counter), asked⟩
      printer := fun _ => rfl
      tray := nofun
      arm := nofun
      spindles := State.joinQueue_spindles _ _
      queue := fun q hq => asked.keeps hq
      frame := by
        rw [State.changesOnly_iff]
        simp [State.orphanMade] }
  | prn =>
    obtain ⟨p, hp⟩ := Option.ne_none_iff_exists'.1 (fitted.resolve_left (by simp))
    let taken : Printer := { p with
      trayDisc := some s.discs.counter, trayMove := true
      state := if p.state = .idle then .awaitRemove else p.state }
    let clear := MoveReq.posted .clear .printer .prn (.bin .reject) s.discs.counter none
    have given : (s.orphanMade .prn rest).orphanGiven .prn s.discs.counter =
        ((s.orphanMade .prn rest).setPrinter taken).joinQueue clear := by
      have held : (s.orphanMade .prn rest).printer = some p := hp
      simp only [State.orphanGiven, State.printerTakesOrphan, held, State.postTrayMove]
      exact State.postMove_of_toOut fun d hd hn => (recorded d hd hn).1
    rw [given]
    have asked := ((s.orphanMade .prn rest).setPrinter taken).joinQueue_asked clear
    exact {
      discs := rfl
      bays := fun _ _ => rfl
      bay := nofun
      printer := fun other => absurd rfl other
      tray := fun _ => ⟨asked, p, hp, rfl⟩
      arm := nofun
      spindles := State.joinQueue_spindles _ _
      queue := fun q hq => asked.keeps hq
      frame := by
        rw [State.changesOnly_iff]
        simp [State.orphanMade] }
  | arm =>
    have given : (s.orphanMade .arm rest).orphanGiven .arm s.discs.counter =
        if s.trans.arm = .homing .awaitRecord then ((s.orphanMade .arm rest).setArm (.homing .carry)).depart
        else s.orphanMade .arm rest := by
      rw [State.orphanGiven, State.clearArm_eq recorded]
      rfl
    rw [given]
    split
    · rename_i homing
      exact {
        discs := by simp [State.orphanMade]
        bays := fun _ _ => State.bay_of_bays (by simp [State.orphanMade]) _
        bay := nofun
        printer := fun _ => by simp [State.orphanMade]
        tray := nofun
        arm := fun _ => by
          rw [if_pos homing]
          rfl
        spindles := ⟨rfl, rfl⟩
        queue := fun _ hq => hq
        frame := by
          rw [State.changesOnly_iff]
          simp [State.orphanMade] }
    · rename_i still
      exact {
        discs := rfl
        bays := fun _ _ => rfl
        bay := nofun
        printer := fun _ => rfl
        tray := nofun
        arm := fun _ => by
          rw [if_neg still]
          rfl
        spindles := ⟨rfl, rfl⟩
        queue := fun _ hq => hq
        frame := by
          rw [State.changesOnly_iff]
          simp [State.orphanMade] }

/-- A granted orphan is no trigger of R19: it takes a record, and no block opens up. -/
theorem State.orphanGranted.quiet {s t : State} {w : OrphanAt} {rest : List OrphanAt} (h : s.orphanGranted w rest t) :
    s.quiet t := by
  obtain ⟨-, jobs, -, staging, -, -, -, -, -, -, -, settings, -⟩ := (State.changesOnly_iff _ _ _).1 h.frame
  have settings := settings (by decide)
  have jobs := jobs (by decide)
  have staging := staging (by decide)
  exact {
    stage := fun ready => settings ▸ ready
    bays := fun b empty => by
      by_cases at_ : w = .bay b
      · rw [(h.bay b at_).1] at empty
        exact nomatch empty
      · rwa [h.bays b at_] at empty
    jobs := fun k => .inl (by simp only [State.job, jobs])
    runMode := fun run => jobs ▸ run
    records := fun d hd => ⟨d, h.discs ▸ List.mem_append_left _ hd, rfl⟩
    spindles := fun i => .inr (by cases i <;> simp only [State.spindle, h.spindles])
    printer := fun idle => by
      by_cases at_ : w = .prn
      · obtain ⟨-, p, hp, after⟩ := h.tray at_
        obtain ⟨q, hq, state⟩ := (State.printerIs_iff t .idle).1 idle
        obtain rfl := Option.some.inj (after.symm.trans hq)
        refine (State.printerIs_iff s .idle).2 ⟨p, hp, ?_⟩
        by_contra busy
        simp only [if_neg busy] at state
        exact busy state
      · simpa only [State.printerIs, h.printer at_] using idle
    queue := fun q hq => ⟨q, h.queue q hq, rfl, rfl⟩
    images := fun k i j hi hj => by
      have same : t.image k = s.image k := by simp only [State.image, staging]
      obtain rfl := Option.some.inj (hi.symm.trans (same ▸ hj))
      exact ⟨id, id, id⟩ }

theorem execOrphanCreationGrant_granted {s : State} {w : OrphanAt} {rest : List OrphanAt}
    (waits : s.discs.orphanWait = w :: rest) (room : s.discs.records.length < 16)
    (free : s.discs.taken s.discs.counter = false) (fitted : w ≠ .prn ∨ s.printer ≠ none) :
    ∃ t, exec .orphanCreationGrant s = .next t ∧ s.orphanGranted w rest t := by
  have granted := State.grantOrphan_granted waits room free fitted
  refine ⟨s.grantOrphan, ?_, granted⟩
  simp only [exec, execOrphanCreationGrant, granted.quiet.watched]

/-! ## Dispatch evaluations -/

/-- One more disc of an ACTIVE job leaves it ACTIVE or makes it FILLED (R15, R21). -/
theorem Job.settleCancel_countDispatch {j : Job} (active : j.state = .active) :
    j.countDispatch.settleCancel = j.dispatched := by
  unfold Job.countDispatch Job.recount Job.settleCancel Job.cancelDone Job.dispatched Job.byCounters
  simp only [active, true_or, if_true]
  split <;> simp [*]

theorem Job.dispatched_live (j : Job) : j.dispatched.state = .filled ∨ j.dispatched.state = .active := by
  unfold Job.dispatched
  dsimp only
  split <;> simp

/-- A dispatch makes its record and counts its job, and no more (R21). -/
theorem State.createDispatch_eq {s : State} {k : JobSlot} {j : Job} (i : SpindleId) (b : BayId) (hj : s.job k = some j)
    (active : j.state = .active) : s.createDispatch k i b =
      { s with discs := s.discs.create (dispatchRecord s.discs.newNumber k i b) }.setJob k (some j.dispatched) := by
  have noEnd : ¬ (j.dispatched.state ≠ j.state ∧ (j.dispatched.state = .complete ∨ j.dispatched.state = .cancelled)) := by
    rcases j.dispatched_live with h | h <;> simp [h]
  have noHold : ¬ (j.dispatched.state ≠ j.state ∧ j.dispatched.state = .held .rejectLimit) := by
    rcases j.dispatched_live with h | h <;> simp [h]
  have held : State.job { s with discs := s.discs.create (.dispatched s.discs.newNumber k i b) } k = some j := hj
  simp only [State.createDispatch, State.countJob, held, Job.settleCancel_countDispatch active, if_neg noEnd,
    if_neg noHold]
  rfl

/-- The first move of a dispatched disc goes to no bin, and so changes no record (R21 step 4). -/
theorem State.postMove_firstMove (s : State) (j : Job) (i : SpindleId) (b : BayId) (n : Nat) :
    s.postMove (j.firstMove i b n) = s.joinQueue (j.firstMove i b n) := by
  simp [State.postMove, Job.firstMove_notBin]

theorem State.oldestFit.job {s : State} {k : JobSlot} {j : Job} {i : SpindleId} (h : s.oldestFit k j i) :
    s.job k = some j ∧ j.state = .active ∧ s.discs.orphanWait = [] := by
  obtain ⟨_, _, _, hj, fits, _⟩ := h
  exact ⟨hj, fits.active, fits.orphans⟩

theorem State.bayFree_iff (s : State) (b : BayId) :
    s.bayFree b = true ↔ b.val < s.settings.fittedBays ∧ (s.bay b).state = .empty := by
  simp [State.bayFree, State.fitted]

theorem State.bayFree_of_notEmpty {s : State} {b : BayId} (h : b.val < s.settings.fittedBays → (s.bay b).state ≠ .empty) :
    s.bayFree b = false := by
  rw [← Bool.not_eq_true, State.bayFree_iff]
  exact fun free => h free.1 free.2

theorem execDispatchEvaluation_runs {s : State} (stage : s.settings.stage = .ready) (served : s.discs.orphanWait = []) :
    exec .dispatchEvaluation s = .next { s.dispatchAll with dispatchWanted := false } := by
  have may : s.mayDispatch = true := by simp [State.mayDispatch, State.ready, stage, served]
  simp [exec, execDispatchEvaluation, may]

theorem execDispatchEvaluation_nothing {s : State} (stage : s.settings.stage = .ready)
    (served : s.discs.orphanWait = []) (nothing : s.noneFits ∨ ∀ b, s.bayFree b = false) :
    exec .dispatchEvaluation s = .next { s with dispatchWanted := false } := by
  rw [execDispatchEvaluation_runs stage served, State.dispatchAll_nothing nothing]

theorem State.dispatch_stage (s : State) (b : BayId) (k : JobSlot) (j : Job) (i : SpindleId) :
    (s.dispatch b k j i).settings = s.settings := by
  simp [State.dispatch]

theorem State.dispatch_orphanWait (s : State) (b : BayId) (k : JobSlot) (j : Job) (i : SpindleId) :
    (s.dispatch b k j i).discs.orphanWait = s.discs.orphanWait := by
  rw [State.dispatch_discs]
  rfl

theorem execDispatchEvaluation_first {s : State} {k : JobSlot} {j : Job} {i : SpindleId} {b : BayId}
    (stage : s.settings.stage = .ready) (served : s.discs.orphanWait = []) (fits : s.oldestFit k j i)
    (free : s.bayFree b = true) (before : ∀ m, m < b → s.bayFree m = false) :
    exec .dispatchEvaluation s = exec .dispatchEvaluation (s.dispatch b k j i) := by
  rw [execDispatchEvaluation_runs stage served, State.dispatchAll_first fits free before,
    execDispatchEvaluation_runs (by rwa [State.dispatch_stage]) (by rwa [State.dispatch_orphanWait])]

/-- The first move: a LOAD, or the PRINT_IN of a print-first job (R21 step 4). -/
theorem Job.firstMove_eq (j : Job) (i : SpindleId) (b : BayId) (n : Nat) : j.firstMove i b n =
    { kind := if j.label.isSome = true ∧ j.printOrder = some .printFirst then .printIn else .load
      requester := .bay b, source := .spindle i
      dest := if j.label.isSome = true ∧ j.printOrder = some .printFirst then .prn else .bay b
      disc := n, second := none, retries := 0, granted := false, interrupted := false } := by
  unfold Job.firstMove
  by_cases first : j.label.isSome = true ∧ j.printOrder = some .printFirst
  · rw [if_pos ((Job.printsFirst_iff j).2 first), if_pos first, if_pos first]
    rfl
  · rw [if_neg fun p => first ((Job.printsFirst_iff j).1 p), if_neg first, if_neg first]
    rfl

/-- The transport after a dispatch is the one that its first move has joined. -/
theorem State.dispatch_joins (s : State) (b : BayId) (k : JobSlot) (j : Job) (i : SpindleId) :
    (s.dispatch b k j i).trans =
      ((s.createDispatch k i b).joinQueue (j.firstMove i b s.discs.newNumber)).trans := by
  rw [State.dispatch, State.postMove_firstMove]
  rfl

/-- One dispatch, part by part (R21). -/
theorem State.dispatch_eq {s : State} {k : JobSlot} {j : Job} {i : SpindleId} (b : BayId) (hj : s.job k = some j)
    (active : j.state = .active) : s.dispatch b k j i = { s with
      discs := s.discs.create (dispatchRecord s.discs.newNumber k i b)
      jobs := { s.jobs with slots := s.jobs.slots.set k.val (some j.dispatched) }
      bays := s.bays.set b.val { s.bay b with
        state := .awaitDisc, disc := some s.discs.newNumber, job := some k, imageSlot := some j.imageSlot }
      trans := (s.dispatch b k j i).trans } := by
  rw [State.dispatch_joins, State.dispatch, State.postMove_firstMove, State.createDispatch_eq i b hj active]
  rfl

theorem State.joinQueue_trans_eq (s : State) (r : MoveReq) : (s.joinQueue r).trans =
    { s.trans with queue := (s.joinQueue r).trans.queue, waiting := (s.joinQueue r).trans.waiting } := by
  unfold State.joinQueue State.modTrans
  dsimp only
  split <;> rfl

/-- A dispatch changes the queue of moves alone of the transport. -/
theorem State.dispatch_trans {s : State} {k : JobSlot} {j : Job} {i : SpindleId} (b : BayId) :
    s.trans.asked (s.dispatch b k j i).trans (j.firstMove i b s.discs.newNumber) ∧
      (s.dispatch b k j i).trans = { s.trans with
        queue := (s.dispatch b k j i).trans.queue, waiting := (s.dispatch b k j i).trans.waiting } := by
  have before : (s.createDispatch k i b).trans = s.trans := by simp
  rw [State.dispatch_joins]
  exact ⟨before ▸ State.joinQueue_asked _ _, before ▸ State.joinQueue_trans_eq _ _⟩

/-- Settles O38: an evaluation goes bay by bay through single dispatches, and a grant goes to the block that asked. -/
theorem dispatchAndOrphansMakeRecords : Obligations.DispatchAndOrphansMakeRecords := by
  refine ⟨⟨fun s held => ?_, fun s stage served nothing => ?_, fun t free => DiscTable.newNumber_of_free free,
    fun s k j i b stage fits fitted empty before => ?_⟩, fun s rest w waits room free => ?_⟩
  · obtain ⟨t, e⟩ := exec_total .dispatchEvaluation s
    rw [e, execDispatchEvaluation_of_mayNot e held]
  · exact execDispatchEvaluation_nothing stage served
      (nothing.imp_right fun h b => State.bayFree_of_notEmpty (h b))
  · intro n unused first
    obtain ⟨hj, active, served⟩ := fits.job
    have free := (State.bayFree_iff s b).2 ⟨fitted, empty⟩
    have once := execDispatchEvaluation_first stage served fits free fun m hm =>
      State.bayFree_of_notEmpty fun _ => before m hm
    obtain ⟨asked, trans⟩ := s.dispatch_trans b (k := k) (j := j) (i := i)
    refine ⟨s.dispatch b k j i, ?_, Job.firstMove_eq j i b n ▸ asked, once, fun nothing => ?_⟩
    · rw [← trans]
      exact State.dispatch_eq b hj active
    · rw [once]
      refine execDispatchEvaluation_nothing (by rwa [State.dispatch_stage]) (by rwa [State.dispatch_orphanWait])
        (nothing.symm.imp_right fun others m => ?_)
      rw [State.dispatch_bayFree]
      split
      · rfl
      · rename_i other
        exact State.bayFree_of_notEmpty fun _ => others m other
  · intro n fittedPrinter
    obtain ⟨t, e, h⟩ := execOrphanCreationGrant_granted waits room free fittedPrinter
    refine ⟨t, e, by rw [h.discs]; rfl, by rw [h.discs]; rfl, by rw [h.discs]; rfl, by rw [h.discs]; rfl,
      fun b at_ => ?_, fun at_ => ?_, h.arm, h.frame⟩
    · obtain ⟨bay, asked⟩ := h.bay b at_
      rw [bay]
      exact ⟨rfl, rfl, rfl, asked⟩
    · obtain ⟨asked, p, hp, after⟩ := h.tray at_
      refine ⟨asked, fun q hq => ?_⟩
      obtain rfl := Option.some.inj (hp.symm.trans hq)
      exact after

end Sys2Proof.Machine
end

/-! # Proofs: a bay that unloads its disc, and one that rejects it (R23, R37, R66) -/

section

namespace Sys2Proof.Machine

/-! ## The consumers of an image (R37) -/

/-- The bays that a slot's image serves. -/
def State.consumersOf (s : State) (k : ImageId) : Option (List BayId) := (s.image k).map Image.consumers

theorem State.setImage_consumersOf (s : State) (k : ImageId) (j : Image) (x : ImageId) :
    (s.setImage k (some j)).consumersOf x = if x = k then some j.consumers else s.consumersOf x := by
  unfold State.consumersOf
  split
  · rename_i same
    rw [same, State.setImage_image]
    rfl
  · rename_i other
    rw [State.setImage_image_ne _ _ other]

/-- A change of a slot's image that keeps its consumers. -/
theorem State.setImage_consumersOf_same {s : State} {k : ImageId} {i j : Image} (hi : s.image k = some i)
    (same : j.consumers = i.consumers) (x : ImageId) : (s.setImage k (some j)).consumersOf x = s.consumersOf x := by
  rw [State.setImage_consumersOf]
  split
  · rename_i at_
    simp [at_, State.consumersOf, hi, same]
  · rfl

@[simp] theorem State.raise_consumersOf (s : State) (e : Event) (x : ImageId) :
    (s.raise e).consumersOf x = s.consumersOf x := rfl

@[simp] theorem State.returnSegments_consumersOf (s : State) (n : Nat) (x : ImageId) :
    (s.returnSegments n).consumersOf x = s.consumersOf x := by
  unfold State.returnSegments
  split
  · rfl
  · unfold State.consumersOf
    rw [State.stageSpace_image, Option.map_map]
    rfl

@[simp] theorem State.passEndTest_consumersOf (s : State) (k x : ImageId) :
    (s.passEndTest k).consumersOf x = s.consumersOf x := by
  unfold State.passEndTest
  split
  · rfl
  · rename_i i hi
    split
    · simp only [State.endPass, State.raise_consumersOf, State.returnSegments_consumersOf]
      exact State.setImage_consumersOf_same hi (by rfl) x
    · rfl

theorem State.releaseHead_consumersOf {s : State} {k : ImageId} {i : Image} (hi : s.image k = some i) (x : ImageId) :
    (s.releaseHead k i).consumersOf x = s.consumersOf x := by
  simp only [State.releaseHead, State.passEndTest_consumersOf, State.returnSegments_consumersOf]
  exact State.setImage_consumersOf_same hi (by rfl) x

theorem State.releaseLoop_consumersOf (k x : ImageId) (n : Nat) (s : State) :
    (State.releaseLoop k n s).consumersOf x = s.consumersOf x := by
  induction n generalizing s with
  | zero => rfl
  | succ n ih =>
    unfold State.releaseLoop
    split
    · rfl
    · rename_i i hi
      split
      · rw [ih, State.releaseHead_consumersOf hi]
      · rfl

@[simp] theorem State.releaseEvaluation_consumersOf (s : State) (k x : ImageId) :
    (s.releaseEvaluation k).consumersOf x = s.consumersOf x := by
  unfold State.releaseEvaluation
  split
  · rfl
  · exact State.releaseLoop_consumersOf k x _ s

/-- A bay that leaves an image's consumers is none of them (R37). -/
theorem State.leaveConsumers_gone {s : State} {k : ImageId} {b : BayId} {i : Image}
    (after : (s.leaveConsumers k b).image k = some i) : b ∉ i.consumers := by
  unfold State.leaveConsumers at after
  split at after
  · rename_i absent
    exact nomatch absent.symm.trans after
  · rename_i j hj
    split at after
    · have left : (((s.setImage k (some { j with consumers := j.consumers.filter (· ≠ b) })).passEndTest k).releaseEvaluation
          k).consumersOf k = some (j.consumers.filter (· ≠ b)) := by
        rw [State.releaseEvaluation_consumersOf, State.passEndTest_consumersOf, State.setImage_consumersOf, if_pos rfl]
      rw [State.consumersOf, after] at left
      rw [Option.some.inj left]
      simp
    · rename_i none_
      obtain rfl := Option.some.inj (hj.symm.trans after)
      exact none_

/-! ## The unload (R23) -/

theorem State.postMove_disc (s : State) (r : MoveReq) : (s.postMove r).disc r.disc =
    (s.disc r.disc).map fun d =>
      if r.dest.isBin = true ∧ s.hasMove r.requester = false then { d with stage := .toOut } else d := by
  unfold State.postMove
  by_cases joins : r.dest.isBin = true ∧ s.hasMove r.requester = false
  · simp only [if_pos joins]
    exact State.modDisc_disc _ _ fun _ => rfl
  · simp only [if_neg joins, Option.map_id']
    rfl

/-- A dispatch leaves the records that stand. -/
theorem State.createDispatch_disc {s : State} {n : Nat} {d : Disc} (k : JobSlot) (i : SpindleId) (b : BayId)
    (hd : s.disc n = some d) : (s.createDispatch k i b).disc n = some d := by
  unfold State.disc at hd ⊢
  rw [State.createDispatch_discs, DiscTable.create, List.find?_append, hd]
  rfl

/-- The record of a disc whose unload is posted to a bin: TO_OUT once the move joins the queue (R4). -/
def Disc.postedFrom (d : Disc) (s : State) (b : BayId) : Disc :=
  if s.hasMove (.bay b) = false then { d with stage := .toOut } else d

theorem State.postUnload_disc {s : State} {n : Nat} {d : Disc} {b : BayId} {dest : Station} (bin : dest.isBin = true)
    (hd : s.disc n = some d) : (s.postUnload b n dest).disc n = some (d.postedFrom s b) := by
  have posted : ∀ (u : State) (r : MoveReq), u.trans = s.trans → u.disc n = some d → r.disc = n → r.dest = dest →
      r.requester = .bay b → (u.postMove r).disc n = some (d.postedFrom s b) := by
    intro u r trans hu rdisc rdest rby
    have has : u.hasMove (.bay b) = s.hasMove (.bay b) := by simp only [State.hasMove, trans]
    have made := u.postMove_disc r
    rw [rdisc, rdest, rby, hu, has] at made
    simpa [bin, Disc.postedFrom] using made
  unfold State.postUnload
  split
  · exact posted s _ rfl hd rfl rfl rfl
  · rename_i k j i _
    exact posted (s.createDispatch k i b) _ (by simp) (State.createDispatch_disc k i b hd) rfl rfl rfl

/-- The unload, alone or the first leg of a SWAP (R23). -/
theorem State.postUnload_asks (s : State) (b : BayId) (n : Nat) (dest : Station) :
    ∃ r, s.trans.asked (s.postUnload b n dest).trans r ∧ r.disc = n ∧ r.requester = .bay b ∧ r.source = .bay b ∧
      r.dest = dest := by
  unfold State.postUnload
  split
  · exact ⟨_, State.postMove_asked s _, rfl, rfl, rfl, rfl⟩
  · rename_i k j i _
    have before : (s.createDispatch k i b).trans = s.trans := by simp
    exact ⟨_, before ▸ State.postMove_asked _ _, rfl, rfl, rfl, rfl⟩

/-- The bay's record in AWAIT_UNLOAD. -/
def Bay.unloading (r : Bay) (dest : UnloadDest) : Bay := { r with state := .awaitUnload, dest := some dest, survey := false }

theorem State.enterAwaitUnload_bay (s : State) (b : BayId) (n : Nat) :
    (s.enterAwaitUnload b n).bay b = (s.bay b).unloading (s.unloadDest n) := by
  unfold State.enterAwaitUnload
  rw [State.bay_of_bays (State.postUnload_frame _ b n _).2.2.1, State.modBay_bay]
  rfl

theorem State.enterAwaitUnload_disc {s : State} {n : Nat} {d : Disc} {b : BayId} (reject : s.unloadDest n = .reject)
    (hd : s.disc n = some d) : (s.enterAwaitUnload b n).disc n = some (d.postedFrom s b) := by
  unfold State.enterAwaitUnload
  rw [reject]
  exact State.postUnload_disc rfl hd

theorem State.enterAwaitUnload_asks (s : State) (b : BayId) (n : Nat) :
    ∃ r, s.trans.asked (s.enterAwaitUnload b n).trans r ∧ r.disc = n ∧ r.requester = .bay b ∧ r.source = .bay b ∧
      r.dest = (s.unloadDest n).station :=
  State.postUnload_asks (s.modBay b (·.unloading (s.unloadDest n))) b n _

theorem Disc.postedFrom_stage {s : State} {b : BayId} (d : Disc) (clear : ∀ q ∈ s.trans.queue, q.requester ≠ .bay b) :
    (d.postedFrom s b).stage = .toOut := by
  rw [Disc.postedFrom, if_pos (State.hasMove_false.2 clear)]

theorem Disc.postedFrom_keeps (d : Disc) (s : State) (b : BayId) :
    (d.postedFrom s b).disposition = d.disposition ∧ (d.postedFrom s b).media = d.media := by
  unfold Disc.postedFrom
  split <;> exact ⟨rfl, rfl⟩

/-! ## The rejection (R66) -/

theorem Disc.rejected_number (why : RejectReason) (d : Disc) : (d.rejected why).number = d.number := by
  unfold Disc.rejected
  split <;> rfl

theorem Disc.rejected_disposition (why : RejectReason) (d : Disc) :
    (d.rejected why).disposition = d.disposition.rejectedWith why := by
  unfold Disc.rejected Disposition.rejectedWith
  split <;> rfl

/-- A rejected disc goes to REJECT. -/
theorem State.unloadDest_of_reject {s : State} {n : Nat} (h : ∀ d, s.disc n = some d → d.disposition.isReject = true) :
    s.unloadDest n = .reject := by
  unfold State.unloadDest
  split
  · rfl
  · rename_i d hd
    have rejected := h d hd
    split
    · rfl
    · rename_i pending
      exact absurd rejected (by simp [pending, Disposition.isReject])
    · rename_i good
      exact absurd rejected (by simp [good, Disposition.isReject])

theorem State.setReject_disc (s : State) (n : Nat) (why : RejectReason) :
    (s.setReject n why).disc n = (s.disc n).map (Disc.rejected why) :=
  State.modDisc_disc _ _ (Disc.rejected_number why)

theorem State.setReject_isReject {s : State} {n : Nat} {why : RejectReason} {d : Disc}
    (hd : (s.setReject n why).disc n = some d) : d.disposition.isReject = true := by
  rw [State.setReject_disc] at hd
  obtain ⟨c, -, rfl⟩ := Option.map_eq_some_iff.1 hd
  rw [Disc.rejected_disposition]
  unfold Disposition.rejectedWith
  split
  · assumption
  · rfl

theorem State.releaseAllocation_governor (s : State) (b : BayId) : (s.releaseAllocation b).governor =
    { s.governor with sum := s.governor.sum - ((s.bay b).burn.elim 0 Burn.rate) } := by
  unfold State.releaseAllocation
  cases (s.bay b).burn <;> rfl

theorem State.leaveAdmission_bay (s : State) (b : BayId) :
    (s.leaveAdmission b).bay b = { s.bay b with burn := none } := by
  simp [State.leaveAdmission]

/-- Who leaves the admission queue is not in it, and its rate leaves the sum once (R66 step 4, R75). -/
theorem State.abandonWork_governor (s : State) (b : BayId) : (s.abandonWork b).governor =
    { queue := s.governor.queue.filter fun e => e.bay != b
      sum := s.governor.sum - ((s.bay b).burn.elim 0 Burn.rate) } := by
  let u := (s.portReset b).modBay b fun r => { r with retryTimer := none, identDeadline := none, reserveTimer := none }
  have burn : (u.bay b).burn = (s.bay b).burn := by simp [u, State.portReset]
  have left : (u.leaveAdmission b).governor =
      { queue := s.governor.queue.filter fun e => e.bay != b
        sum := s.governor.sum - ((s.bay b).burn.elim 0 Burn.rate) } := by
    rw [State.leaveAdmission, State.releaseAllocation_governor, State.modGov_bay, burn]
    simp [u, State.modGov]
  have released : (((u.leaveAdmission b).leaveImage b).bay b).burn = none := by
    rw [State.leaveImage_bay, State.leaveAdmission_bay]
  unfold State.abandonWork
  simp only [State.leaveVerify_frame, State.releaseAllocation_governor]
  rw [released, (State.leaveImage_frame _ b).2.2.2.2.1, left]
  rfl

theorem State.abandonWork_consumers {s : State} {b : BayId} {k : ImageId} {i : Image}
    (slot : (s.bay b).imageSlot = some k) (hi : (s.abandonWork b).image k = some i) : b ∉ i.consumers := by
  let u := ((s.portReset b).modBay b fun r =>
    { r with retryTimer := none, identDeadline := none, reserveTimer := none }).leaveAdmission b
  have at_ : (u.bay b).imageSlot = some k := by simp [u, State.leaveAdmission_bay, State.portReset, slot]
  have same : (s.abandonWork b).image k = (u.leaveConsumers k b).image k := by
    have left : u.leaveImage b = u.leaveConsumers k b := by simp only [State.leaveImage, at_]
    rw [← left]
    simp [State.abandonWork, State.image, u]
  exact State.leaveConsumers_gone (same ▸ hi)

theorem State.abandonWork_lanes (s : State) (b : BayId) : b ∉ (s.abandonWork b).verify.queue ∧
    ∀ l y, (s.abandonWork b).lane l = some y → y.bay ≠ b := by
  unfold State.abandonWork State.leaveVerify State.modVerify State.lane
  refine ⟨by simp, fun l y hy => ?_⟩
  simp only [Vector.getElem_map, Option.bind_eq_some_iff] at hy
  obtain ⟨x, -, kept⟩ := hy
  unfold Lane.unless at kept
  split at kept
  · exact nomatch kept
  · rename_i other
    rwa [← Option.some.inj kept]

/-- The disc is rejected, and its bay's work given up. -/
def State.rejecting (s : State) (b : BayId) (n : Nat) (why : RejectReason) : State := (s.setReject n why).abandonWork b

theorem State.rejecting_disc (s : State) (b : BayId) (n : Nat) (why : RejectReason) :
    (s.rejecting b n why).disc n = (s.disc n).map (Disc.rejected why) := by
  rw [← State.setReject_disc]
  exact State.disc_of_discs (by simp [State.rejecting]) n

theorem State.rejecting_unloadDest (s : State) (b : BayId) (n : Nat) (why : RejectReason) :
    (s.rejecting b n why).unloadDest n = .reject :=
  State.unloadDest_of_reject fun _ hd =>
    State.setReject_isReject ((s.setReject_disc n why).trans ((s.rejecting_disc b n why).symm.trans hd))

theorem State.bayReject_eq {s : State} {b : BayId} {n : Nat} (why : RejectReason) (holds : (s.bay b).disc = some n) :
    s.bayReject b why = (s.rejecting b n why).enterAwaitUnload b n := by
  simp only [State.bayReject, holds, State.rejecting]

/-- The bay's record once its channel has rejected its disc. -/
theorem State.bayReject_bay {s : State} {b : BayId} {n : Nat} (why : RejectReason) (holds : (s.bay b).disc = some n) :
    (s.bayReject b why).bay b = Bay.unloading { s.bay b with
      out := none, susp := none, retryTimer := none, identDeadline := none, reserveTimer := none, burn := none } .reject := by
  rw [State.bayReject_eq why holds, State.enterAwaitUnload_bay, State.rejecting_unloadDest, State.rejecting, State.abandonWork_bay]
  rfl

/-- A channel that rejects its disc, part by part (R66). -/
theorem State.bayReject_unloadsToReject {s : State} {b : BayId} {n : Nat} (why : RejectReason)
    (holds : (s.bay b).disc = some n) : s.unloadsToReject (s.bayReject b why) b n why := by
  have unload := s.bayReject_unload b n why holds
  have bay := State.bayReject_bay why holds
  rw [State.bayReject_eq why holds] at unload bay ⊢
  have dest : (s.rejecting b n why).unloadDest n = .reject := s.rejecting_unloadDest b n why
  have governor : ((s.rejecting b n why).enterAwaitUnload b n).governor =
      { queue := s.governor.queue.filter fun e => e.bay != b
        sum := s.governor.sum - ((s.bay b).burn.elim 0 Burn.rate) } :=
    (State.enterAwaitUnload_frame _ b n).2.2.1.trans (State.abandonWork_governor _ b)
  have trans : (s.rejecting b n why).trans = s.trans := by simp [State.rejecting]
  have staging : ((s.rejecting b n why).enterAwaitUnload b n).staging = (s.rejecting b n why).staging := (State.enterAwaitUnload_frame _ b n).2.1
  have verify : ((s.rejecting b n why).enterAwaitUnload b n).verify = (s.rejecting b n why).verify := (State.enterAwaitUnload_frame _ b n).2.2.2.1
  exact {
    bay := by
      rw [bay]
      exact ⟨rfl, holds, rfl⟩
    port := by
      rw [bay]
      exact ⟨rfl, rfl⟩
    timers := by
      rw [bay]
      exact ⟨rfl, rfl, rfl⟩
    burn := by
      rw [bay]
      rfl
    disc := fun d hd => by
      have rejected : (s.rejecting b n why).disc n = some (d.rejected why) := by rw [s.rejecting_disc b n why, hd]; rfl
      refine ⟨_, State.enterAwaitUnload_disc dest rejected, ?_, fun clear => Disc.postedFrom_stage _ (trans ▸ clear)⟩
      rw [(Disc.postedFrom_keeps _ _ b).1, Disc.rejected_disposition]
    move := by
      obtain ⟨r, asked, discIs, by_, source, goes⟩ := State.enterAwaitUnload_asks (s.rejecting b n why) b n
      exact ⟨r, trans ▸ asked, discIs, by_, source, by rw [goes, dest]; rfl⟩
    unload := unload
    admission := by
      rw [governor]
      simp
    allocation := by rw [governor]
    consumers := fun k i slot hi => by
      refine State.abandonWork_consumers (s := s.setReject n why) slot (k := k) ?_
      rw [← hi, State.image, State.image, staging]
      rfl
    lanes := by
      unfold State.lane
      rw [verify]
      exact State.abandonWork_lanes _ b }

/-- A rejection seen from a state that holds the same about the disc, the bay and the arm. -/
theorem State.unloadsToReject.seenFrom {u s t : State} {b : BayId} {n : Nat} {why : RejectReason}
    (h : u.unloadsToReject t b n why) (jobs : u.jobs = s.jobs) (trans : u.trans = s.trans) (printer : u.printer = s.printer)
    (governor : u.governor = s.governor)
    (numbers : u.discs.records.map Disc.number = s.discs.records.map Disc.number)
    (counter : u.discs.counter = s.discs.counter) (completions : u.discs.completions = s.discs.completions)
    (orphans : u.discs.orphanWait = s.discs.orphanWait)
    (disc : ∀ d, s.disc n = some d → ∃ c, u.disc n = some c ∧ c.disposition = d.disposition)
    (off : (u.bay b).offlineAfter = (s.bay b).offlineAfter) (job : (u.bay b).job = (s.bay b).job)
    (burn : (u.bay b).burn = (s.bay b).burn) (slot : (u.bay b).imageSlot = (s.bay b).imageSlot) :
    s.unloadsToReject t b n why := by
  obtain ⟨hbay, hport, htimers, hburn, hdisc, hmove, hunload, hadmission, hallocation, hconsumers, hlanes⟩ := h
  exact {
    bay := hbay, port := hport, timers := htimers, burn := hburn
    disc := fun d hd => by
      obtain ⟨c, hc, same⟩ := disc d hd
      obtain ⟨e, he, disposition, stage⟩ := hdisc c hc
      exact ⟨e, he, by rw [disposition, same], fun clear => stage (trans ▸ clear)⟩
    move := trans ▸ hmove
    unload := State.unloadPosted.of_same hunload jobs rfl trans printer numbers counter completions orphans off job
    admission := hadmission
    allocation := by rw [hallocation, governor, burn]
    consumers := fun k i at_ => hconsumers k i (slot.trans at_)
    lanes := hlanes }

/-- The mark of an evaluation is no part of a rejection. -/
theorem State.unloadsToReject.watched {s t : State} {b : BayId} {n : Nat} {why : RejectReason}
    (h : s.unloadsToReject t b n why) (w : State) : s.unloadsToReject (w.watched t) b n why := by
  obtain ⟨hbay, hport, htimers, hburn, hdisc, hmove, hunload, hadmission, hallocation, hconsumers, hlanes⟩ := h
  exact ⟨hbay, hport, htimers, hburn, hdisc, hmove, ⟨hunload.alone, hunload.swap⟩, hadmission, hallocation, hconsumers,
    hlanes⟩

end Sys2Proof.Machine
end

/-! # Proofs: the end of a dispatched disc's IDENTIFY (R57 to R59, R62) -/

section

namespace Sys2Proof.Machine

/-! ## The tests -/

/-- The rates that a drive lists are one to six, in range and strictly ascending (R59). -/
def ratesListed (l : List Nat) : Prop :=
  1 ≤ l.length ∧ l.length ≤ 6 ∧ (∀ r ∈ l, 1 ≤ r ∧ r ≤ 65535) ∧ l.IsChain (· < ·)

theorem ascending_iff (l : List Nat) : ((l.zip l.tail).all fun p => p.1 < p.2) = true ↔ l.IsChain (· < ·) := by
  induction l with
  | nil => simp
  | cons x l ih =>
    cases l with
    | nil => simp
    | cons y l =>
      rw [List.isChain_cons_cons, ← ih]
      simp

theorem ratesValid_iff (l : List Nat) : ratesValid l = true ↔ ratesListed l := by
  unfold ratesValid ratesListed
  rw [Bool.and_eq_true, ascending_iff]
  simp only [Bool.and_eq_true, List.all_eq_true, decide_eq_true_eq, and_assoc]
  rfl

/-- The first test of R62 that fails, and its reason. -/
inductive failsFirst (f : DriveFacts) (i : Image) : RejectReason → Prop
  | noDisc : f.discPresent = false → failsFirst f i .handling
  | rates : f.discPresent = true → ¬ ratesListed f.rates → failsFirst f i .wrongMedia
  | notBlank : f.discPresent = true → ratesListed f.rates → f.blank = false → failsFirst f i .notBlank
  | media : f.discPresent = true → ratesListed f.rates → f.blank = true → f.media ≠ i.media →
      failsFirst f i .wrongMedia
  | capacity : f.discPresent = true → ratesListed f.rates → f.blank = true → f.media = i.media →
      f.capacity < i.size → failsFirst f i .shortMedia

theorem identFailure_of_failsFirst {f : DriveFacts} {i : Image} {why : RejectReason} (h : failsFirst f i why) :
    identFailure f (some i) = some why := by
  unfold identFailure
  cases h with
  | noDisc present => simp [present]
  | rates present listed => simp [present, Bool.not_eq_true _ ▸ mt (ratesValid_iff f.rates).1 listed]
  | notBlank present listed blank => simp [present, (ratesValid_iff f.rates).2 listed, blank]
  | media present listed blank media => simp [present, (ratesValid_iff f.rates).2 listed, blank, media]
  | capacity present listed blank media capacity =>
    simp [present, (ratesValid_iff f.rates).2 listed, blank, media, capacity]

theorem identFailure_none {f : DriveFacts} {i : Image} (present : f.discPresent = true) (listed : ratesListed f.rates)
    (blank : f.blank = true) (media : f.media = i.media) (capacity : i.size ≤ f.capacity) :
    identFailure f (some i) = none := by
  simp [identFailure, present, (ratesValid_iff f.rates).2 listed, blank, media, Nat.not_lt.2 capacity]

/-! ## The completion -/

theorem Bay.outMatching_own {r : Bay} {o : Outstanding} (out : r.out = some o) : r.outMatching o.number = some o.req := by
  simp [Bay.outMatching, out]

/-- The bay of an IDENTIFY that has ended. -/
def Bay.identEnded (r : Bay) : Bay := { r with out := none, identDeadline := none }

theorem State.modBay_modBay (s : State) (b : BayId) (f g : Bay → Bay) :
    (s.modBay b f).modBay b g = s.modBay b fun r => g (f r) := by
  simp [State.modBay, State.setBay, State.bay]

theorem State.modDisc_modBay (s : State) (n : Nat) (b : BayId) (f : Disc → Disc) (g : Bay → Bay) :
    (s.modDisc n f).modBay b g = (s.modBay b g).modDisc n f := rfl

variable {s : State} {b : BayId} {o : Outstanding}

theorem execIdentifyComplete_notReady (f : DriveFacts) (state : (s.bay b).state = .ident) (out : (s.bay b).out = some o)
    (req : o.req = .identify) : exec (.identifyComplete b o.number .notReady f) s =
      .next (s.modBay b fun r => { r with out := none, retryTimer := some (s.now + 500) }) := by
  simp only [exec, execIdentifyComplete, state, Bay.outMatching_own out, req, if_true, State.modBay_modBay]
  rfl

/-- The completion goes to the survey or to the tests of the dispatched disc. -/
theorem execIdentifyComplete_ends (kind : CompletionKind) (f : DriveFacts) (state : (s.bay b).state = .ident)
    (out : (s.bay b).out = some o) (req : o.req = .identify) (ready : kind ≠ .notReady) :
    exec (.identifyComplete b o.number kind f) s = .next (s.watched (
      if (s.bay b).survey then (s.modBay b Bay.identEnded).surveyResult b kind f
      else (s.modBay b Bay.identEnded).identResult b kind f)) := by
  have survey : ((s.modBay b Bay.identEnded).bay b).survey = (s.bay b).survey := by simp [Bay.identEnded]
  simp only [exec, execIdentifyComplete, state, Bay.outMatching_own out, req, if_neg ready, State.modBay_modBay]
  rw [← survey]
  rfl

/-- The facts are stored, and the disc's class (R62). -/
def State.factsStored (s : State) (b : BayId) (n : Nat) (f : DriveFacts) : State :=
  (s.modBay b fun r => { r with facts := some f }).modDisc n fun d => { d with media := some f.media }

theorem State.factsStored_bay (s : State) (b : BayId) (n : Nat) (f : DriveFacts) :
    (s.factsStored b n f).bay b = { s.bay b with facts := some f } :=
  s.modBay_bay b fun r => { r with facts := some f }

/-- The tests read the image that the bay burns, which the stored facts do not touch. -/
theorem State.factsStored_imageOf (s : State) (b : BayId) (n : Nat) (f : DriveFacts) :
    (s.factsStored b n f).imageOf ((s.factsStored b n f).bay b) = s.imageOf (s.bay b) := by
  rw [State.factsStored_bay]
  rfl

theorem State.identified_fails {n : Nat} {f : DriveFacts} {why : RejectReason}
    (fails : identFailure f (s.imageOf (s.bay b)) = some why) :
    s.identified b n f = (s.factsStored b n f).bayReject b why := by
  rw [← s.factsStored_imageOf b n f, State.factsStored] at fails
  simp only [State.identified, State.factsStored, fails]

theorem State.identified_passes {n : Nat} {f : DriveFacts} (passes : identFailure f (s.imageOf (s.bay b)) = none) :
    s.identified b n f =
      ((s.factsStored b n f).modBay b fun r => { r with state := .admitWait }).joinAdmission b := by
  rw [← s.factsStored_imageOf b n f, State.factsStored] at passes
  simp only [State.identified, State.factsStored, passes]

/-- An OK of a dispatched disc goes to the tests of R62. -/
theorem State.identResult_ok {n : Nat} (f : DriveFacts) {k : ImageId} {i : Image} (holds : (s.bay b).disc = some n)
    (slot : (s.bay b).imageSlot = some k) (hi : s.image k = some i) :
    (s.modBay b Bay.identEnded).identResult b .ok f = (s.modBay b Bay.identEnded).identified b n f ∧
      (s.modBay b Bay.identEnded).imageOf ((s.modBay b Bay.identEnded).bay b) = some i := by
  have ended : ((s.modBay b Bay.identEnded).bay b).disc = some n := by simp [Bay.identEnded, holds]
  refine ⟨by simp only [State.identResult, ended], ?_⟩
  rw [State.modBay_bay]
  simp only [State.imageOf, Bay.identEnded, slot, Option.bind_some]
  exact hi

/-- A disc that passes takes its class, and its bay the tail of the admission queue (R63, R74). -/
theorem execIdentifyComplete_passes {n : Nat} {f : DriveFacts} {k : ImageId} {i : Image}
    (state : (s.bay b).state = .ident) (out : (s.bay b).out = some o) (req : o.req = .identify)
    (dispatched : (s.bay b).survey = false) (holds : (s.bay b).disc = some n) (slot : (s.bay b).imageSlot = some k)
    (hi : s.image k = some i) (passes : identFailure f (some i) = none) :
    exec (.identifyComplete b o.number .ok f) s = .next { s with
      bays := s.bays.set b.val { s.bay b with
        out := none, identDeadline := none, facts := some f, state := .admitWait }
      discs := { s.discs with records := s.discs.records.map fun e =>
        if e.number == n then { e with media := some f.media } else e }
      governor := { s.governor with queue := s.governor.queue ++ [{ bay := b, admitting := none }] } } := by
  let admitted : Bay → Bay := fun r =>
    { r with out := none, identDeadline := none, facts := some f, state := .admitWait }
  let t := ((s.modBay b admitted).modDisc n fun d => { d with media := some f.media }).joinAdmission b
  have result : (s.modBay b Bay.identEnded).identResult b .ok f = t := by
    obtain ⟨tested, image⟩ := State.identResult_ok f holds slot hi
    rw [tested, State.identified_passes (image ▸ passes), State.factsStored]
    rw [State.modDisc_modBay, State.modBay_modBay, State.modBay_modBay]
    rfl
  have quiet : s.quiet t := State.undisturbed.quiet {
    wanted := rfl, stage := rfl, jobs := rfl, spindles := ⟨rfl, rfl⟩, queue := rfl, printer := rfl, staging := rfl
    emptied := s.emptied_of_modBay (b := b) (f := admitted) fun _ => by simp [admitted]
    records := State.modDisc_numbers s n fun _ => rfl }
  rw [execIdentifyComplete_ends .ok f state out req nofun, dispatched, if_neg Bool.false_ne_true, result, quiet.watched]
  rfl

/-- A rejection of the disc by the bay whose IDENTIFY has ended, seen from before the completion (R62, R66). -/
theorem State.rejects_afterIdentify {n : Nat} {why : RejectReason} {f : Disc → Disc} {g : Bay → Bay}
    (holds : (s.bay b).disc = some n) (number : ∀ d, (f d).number = d.number)
    (disposition : ∀ d, (f d).disposition = d.disposition)
    (kept : (g (s.bay b)).disc = (s.bay b).disc ∧ (g (s.bay b)).offlineAfter = (s.bay b).offlineAfter ∧
      (g (s.bay b)).job = (s.bay b).job ∧ (g (s.bay b)).burn = (s.bay b).burn ∧
      (g (s.bay b)).imageSlot = (s.bay b).imageSlot) :
    s.unloadsToReject (((s.modBay b g).modDisc n f).bayReject b why) b n why ∧
      ((((s.modBay b g).modDisc n f).bayReject b why).bay b).facts = (g (s.bay b)).facts := by
  obtain ⟨disc, off, job, burn, slot⟩ := kept
  have bay : ((s.modBay b g).modDisc n f).bay b = g (s.bay b) := s.modBay_bay b g
  have held : (((s.modBay b g).modDisc n f).bay b).disc = some n := by rw [bay, disc, holds]
  refine ⟨State.unloadsToReject.seenFrom (State.bayReject_unloadsToReject why held) rfl rfl rfl rfl
    (State.modDisc_numbers (s.modBay b g) n number) rfl rfl rfl (fun d hd => ?_) (by rw [bay, off]) (by rw [bay, job])
    (by rw [bay, burn]) (by rw [bay, slot]), ?_⟩
  · refine ⟨f d, ?_, disposition d⟩
    rw [State.modDisc_disc _ _ number]
    exact congrArg (Option.map f) hd
  · rw [State.bayReject_bay why held, bay]
    rfl

/-- Settles O40, by the completion's kind and the tests of R62 in their order. -/
theorem identifyTestsTheDisc : Obligations.IdentifyTestsTheDisc := by
  intro s b o f state out req
  refine ⟨execIdentifyComplete_notReady f state out req, fun n d k i dispatched holds hd slot hi =>
    ⟨fun present listed blank media capacity => ?passes, fun why fails => ?fails, fun kind bad => ?bad⟩⟩
  case passes =>
    exact execIdentifyComplete_passes state out req dispatched holds slot hi
      (identFailure_none present listed blank media capacity)
  case fails =>
    have first : failsFirst f i why := by
      rcases fails with ⟨present, rfl⟩ | ⟨present, listed, rfl⟩ | ⟨present, listed, blank, rfl⟩ |
        ⟨present, listed, blank, media, rfl⟩ | ⟨present, listed, blank, media, capacity, rfl⟩
      · exact .noDisc present
      · exact .rates present listed
      · exact .notBlank present listed blank
      · exact .media present listed blank media
      · exact .capacity present listed blank media capacity
    obtain ⟨rejected, facts⟩ := State.rejects_afterIdentify (s := s) (why := why)
      (f := fun d => { d with media := some f.media }) (g := fun r => { r.identEnded with facts := some f })
      holds (fun _ => rfl) (fun _ => rfl) ⟨rfl, rfl, rfl, rfl, rfl⟩
    obtain ⟨tested, image⟩ := State.identResult_ok f holds slot hi
    rw [execIdentifyComplete_ends .ok f state out req nofun, dispatched, if_neg Bool.false_ne_true, tested,
      State.identified_fails (image ▸ identFailure_of_failsFirst first), State.factsStored, State.modBay_modBay]
    exact ⟨_, rfl, rejected.watched s, facts⟩
  case bad =>
    have ended : ((s.modBay b Bay.identEnded).bay b).disc = some n := by simp [Bay.identEnded, holds]
    have wrong : (s.modBay b Bay.identEnded).identResult b kind f = (s.modBay b Bay.identEnded).bayReject b .wrongMedia := by
      rcases bad with rfl | rfl | rfl <;> simp only [State.identResult, ended]
    have ready : kind ≠ .notReady := by
      rcases bad with rfl | rfl | rfl <;> nofun
    obtain ⟨rejected, -⟩ := State.rejects_afterIdentify (s := s) (why := .wrongMedia) (f := id) (g := Bay.identEnded)
      holds (fun _ => rfl) (fun _ => rfl) ⟨rfl, rfl, rfl, rfl, rfl⟩
    rw [State.modDisc_of_unchanged (f := id) fun _ _ _ => rfl] at rejected
    rw [execIdentifyComplete_ends kind f state out req ready, dispatched, if_neg Bool.false_ne_true, wrong]
    exact ⟨_, rfl, rejected.watched s⟩

end Sys2Proof.Machine
end

/-! # Proofs: surveys and retries (R57, R58, R121, R162) -/

section

namespace Sys2Proof.Machine

/-! ## A rejected disc's record retired (R7, R8, R12) -/

theorem State.freeRecord_discs (s : State) (n : Nat) : (s.freeRecord n).discs =
    { s.discs with records := s.discs.records.filter fun d => d.number != n } := by
  unfold State.freeRecord
  rw [(State.drainTest_frame _).2.1]

theorem State.freeRecord_job (s : State) (n : Nat) (k : JobSlot) : (s.freeRecord n).job k = s.job k := by
  unfold State.freeRecord State.drainTest
  split <;> rfl

theorem Job.countReject_counts (j : Job) : j.countReject.settleCancel.rejected = j.rejected + 1 ∧
    j.countReject.settleCancel.inFlight = j.inFlight - 1 := by
  obtain ⟨inFlight, -, rejected, -⟩ := j.countReject_spec
  exact ⟨rejected, inFlight⟩

/-- What the retirement of a rejected disc at REJECT leaves, when other records may hold its number. -/
structure State.retiredRejected (s : State) (n : Nat) (d : Disc) (t : State) : Prop where
  gone : t.disc n = none
  entry : s.discs.completed t.discs (d.completion ((s.jobOf d).map Job.number) d.disposition)
  orphans : t.discs.orphanWait = s.discs.orphanWait
  counts : ∀ k j, d.job = some k → s.job k = some j →
    ∃ i, t.job k = some i ∧ i.rejected = j.rejected + 1 ∧ i.inFlight = j.inFlight - 1
  done : t.status.pending.getLsbD 0 = true

theorem State.retire_retiredRejected {s : State} {n : Nat} {d : Disc} (hd : s.disc n = some d)
    (rejected : d.disposition.isReject = true) : s.retiredRejected n d (s.retire n .reject) := by
  have kept : d.breach .reject = false := by simp [Disc.breach, rejected]
  have out : d.retiredAs .reject = d.disposition := by simp [Disc.retiredAs, kept]
  have notGood : d.disposition ≠ .good := by
    rintro good
    simp [good, Disposition.isReject] at rejected
  obtain ⟨a, b, ha, alone, counted, steps⟩ := State.retire_steps .reject hd
  rw [out] at ha
  simp only [out, if_neg notGood] at counted
  rw [steps, kept, if_neg Bool.false_ne_true]
  have discs : b.discs = a.discs := by
    cases hk : d.job with
    | none => rw [alone hk]
    | some k => rw [counted k hk]; simp
  have freed : ((b.freeRecord n).raise .discDone).discs =
      { a.discs with records := a.discs.records.filter fun d => d.number != n } := by
    rw [← discs]
    exact b.freeRecord_discs n
  exact {
    gone := by
      unfold State.disc
      rw [freed, List.find?_eq_none]
      intro e he
      have other := (List.mem_filter.1 he).2
      simpa using other
    entry := by
      have appended := DiscTable.append_completed s.discs (d.completion ((s.jobOf d).map Job.number) d.disposition)
      rw [freed, ha]
      exact appended
    orphans := by
      rw [freed, ha]
      simp only [DiscTable.append]
      split <;> rfl
    counts := fun k j hk hj => by
      have held : a.job k = some j := by rw [ha]; exact hj
      refine ⟨j.countReject.settleCancel, ?_, Job.countReject_counts j⟩
      change (b.freeRecord n).job k = _
      rw [State.freeRecord_job, counted k hk, State.countJob_job _ held, if_pos rfl]
    done := (State.raise_pending _ .discDone .discDone).trans (if_pos rfl) }

/-- A lost disc whose disposition stands (R6, R121). -/
theorem State.lostDisc_retiredRejected {s : State} {n : Nat} {d : Disc} (hd : s.disc n = some d)
    (rejected : d.disposition.isReject = true) :
    s.retiredRejected n d (s.lostDisc n) ∧ (s.lostDisc n).cond .handling = true := by
  have unchanged : d.rejected .handling = d := by simp [Disc.rejected, rejected]
  have held : ((s.setReject n .handling).latch .handling).disc n = some d := by
    refine (s.setReject_disc n .handling).trans ?_
    rw [hd, Option.map_some, unchanged]
  obtain ⟨gone, entry, orphans, counts, done⟩ := State.retire_retiredRejected held rejected
  exact ⟨⟨gone, entry, orphans, counts, done⟩, State.retire_cond _ _ (by simp)⟩

/-! ## The result of a survey -/

/-- The bay's record once a survey's IDENTIFY has ended: the facts of an OK are stored (R57). -/
def Bay.surveyed (kind : CompletionKind) (f : DriveFacts) (r : Bay) : Bay :=
  { r with out := none, identDeadline := none, facts := if kind = .ok then some f else r.facts }

/-- The record of the disc that the bay holds: an OK in its target bay gives its class (R162). -/
def Disc.surveyedIn (b : BayId) (kind : CompletionKind) (f : DriveFacts) (d : Disc) : Disc :=
  if kind = .ok ∧ d.target = some b then { d with media := some f.media } else d

theorem Disc.surveyedIn_keeps (b : BayId) (kind : CompletionKind) (f : DriveFacts) (d : Disc) :
    (d.surveyedIn b kind f).number = d.number ∧ (d.surveyedIn b kind f).disposition = d.disposition ∧
      (d.surveyedIn b kind f).job = d.job := by
  unfold Disc.surveyedIn
  split <;> exact ⟨rfl, rfl, rfl⟩

/-- A survey's completion, before what it found is acted on. -/
def State.surveyEnded (s : State) (b : BayId) (kind : CompletionKind) (f : DriveFacts) : State :=
  (s.modBay b (Bay.surveyed kind f)).modDiscOf b (Disc.surveyedIn b kind f)

variable {s : State} {b : BayId} {o : Outstanding} {kind : CompletionKind} {f : DriveFacts}

theorem State.surveyResult_ok : (s.modBay b Bay.identEnded).surveyResult b .ok f =
    if f.discPresent then (s.surveyEnded b .ok f).surveyFoundDisc b else (s.surveyEnded b .ok f).surveyFoundNone b := by
  have bay : (s.modBay b Bay.identEnded).modBay b (fun r => { r with facts := some f }) =
      s.modBay b (Bay.surveyed .ok f) := State.modBay_modBay s b _ _
  have disc : Disc.surveyedIn b .ok f = Disc.identifiedIn b f.media := by
    funext d
    simp [Disc.surveyedIn, Disc.identifiedIn]
  simp only [State.surveyResult, bay, State.surveyEnded, disc]

/-- A survey that finds a disc. -/
theorem State.surveyResult_found (ready : kind ≠ .notReady) (present : kind = .ok → f.discPresent = true) :
    (s.modBay b Bay.identEnded).surveyResult b kind f = (s.surveyEnded b kind f).surveyFoundDisc b := by
  by_cases ok : kind = .ok
  · subst ok
    rw [State.surveyResult_ok, if_pos (present rfl)]
  · have disc : Disc.surveyedIn b kind f = id := by
      funext d
      simp [Disc.surveyedIn, ok]
    have bay : Bay.surveyed kind f = Bay.identEnded := by
      funext r
      simp [Bay.surveyed, Bay.identEnded, ok]
    have same : s.surveyEnded b kind f = s.modBay b Bay.identEnded := by
      rw [State.surveyEnded, disc, bay, State.modDiscOf]
      split
      · exact State.modDisc_of_unchanged (f := id) fun _ _ _ => rfl
      · rfl
    rw [same]
    cases kind with
    | ok => exact absurd rfl ok
    | notReady => exact absurd rfl ready
    | mediaError | underrun | refused => rfl

theorem execIdentifyComplete_survey (state : (s.bay b).state = .ident) (out : (s.bay b).out = some o)
    (req : o.req = .identify) (survey : (s.bay b).survey = true) (ready : kind ≠ .notReady) :
    exec (.identifyComplete b o.number kind f) s =
      .next (s.watched ((s.modBay b Bay.identEnded).surveyResult b kind f)) := by
  rw [execIdentifyComplete_ends kind f state out req ready, if_pos survey]

/-- A bay with no disc in its record: the survey changes the bay alone. -/
theorem State.surveyEnded_empty (none_ : (s.bay b).disc = none) :
    s.surveyEnded b kind f = s.modBay b (Bay.surveyed kind f) := by
  have at_ : ((s.modBay b (Bay.surveyed kind f)).bay b).disc = none := by simp [Bay.surveyed, none_]
  simp only [State.surveyEnded, State.modDiscOf, at_]

theorem State.surveyEnded_holding {n : Nat} (holds : (s.bay b).disc = some n) : s.surveyEnded b kind f =
    (s.modBay b (Bay.surveyed kind f)).modDisc n (Disc.surveyedIn b kind f) := by
  have at_ : ((s.modBay b (Bay.surveyed kind f)).bay b).disc = some n := by simp [Bay.surveyed, holds]
  simp only [State.surveyEnded, State.modDiscOf, at_]

/-! ## No disc in the tray -/

/-- The bay that a survey finds empty (R57, log 29). -/
def Bay.foundEmpty (f : DriveFacts) (r : Bay) : Bay := (r.surveyed .ok f).cleared.toIdle

theorem execIdentifyComplete_emptyTray (state : (s.bay b).state = .ident) (out : (s.bay b).out = some o)
    (req : o.req = .identify) (survey : (s.bay b).survey = true) (none_ : (s.bay b).disc = none)
    (absent : f.discPresent = false) : exec (.identifyComplete b o.number .ok f) s =
      .next (s.watched (s.modBay b (Bay.foundEmpty f))) := by
  have at_ : ((s.modBay b (Bay.surveyed .ok f)).bay b).disc = none := by simp [Bay.surveyed, none_]
  rw [execIdentifyComplete_survey (kind := .ok) state out req survey nofun, State.surveyResult_ok, absent,
    if_neg Bool.false_ne_true, State.surveyEnded_empty none_]
  simp only [State.surveyFoundNone, at_, State.modBay_modBay]
  rfl

/-! ## A disc that no record names -/

theorem DiscTable.free_eq_zero (t : DiscTable) : t.free = 0 ↔ 16 ≤ t.records.length :=
  Nat.sub_eq_zero_iff_le

theorem State.surveyFoundDisc_waits {u : State} (none_ : (u.bay b).disc = none)
    (waits : u.discs.orphanWait ≠ [] ∨ 16 ≤ u.discs.records.length) : u.surveyFoundDisc b =
      { u with discs := { u.discs with orphanWait := u.discs.orphanWait ++ [.bay b] } } := by
  have held : u.discs.free = 0 ∨ u.discs.orphanWait ≠ [] := (waits.imp_right u.discs.free_eq_zero.2).symm
  simp only [State.surveyFoundDisc, none_, State.askOrphan, if_pos held]

theorem State.surveyFoundDisc_orphan {u : State} (none_ : (u.bay b).disc = none) (served : u.discs.orphanWait = [])
    (room : u.discs.records.length < 16) (free : u.discs.taken u.discs.counter = false) : u.surveyFoundDisc b =
      (State.modBay { u with discs := u.discs.create (.orphan u.discs.counter (.bay b)) } b
        (·.withOrphan u.discs.counter)).joinQueue (orphanUnload b u.discs.counter) := by
  have granted : ¬ (u.discs.free = 0 ∨ u.discs.orphanWait ≠ []) := by
    rintro (full | waits)
    · exact absurd (u.discs.free_eq_zero.1 full) (Nat.not_le.2 room)
    · exact waits served
  simp only [State.surveyFoundDisc, none_, State.askOrphan, if_neg granted, DiscTable.newNumber_of_free free]
  exact State.bayTakesOrphan_eq b (State.orphanRecorded_create (.bay b) free)

section

variable (state : (s.bay b).state = .ident) (out : (s.bay b).out = some o) (req : o.req = .identify)
  (survey : (s.bay b).survey = true) (ready : kind ≠ .notReady) (present : kind = .ok → f.discPresent = true)

include state out req survey ready present

/-- With no record free, or creations that wait, the creation waits (R2, R57). -/
theorem execIdentifyComplete_orphanWaits (none_ : (s.bay b).disc = none)
    (waits : s.discs.orphanWait ≠ [] ∨ 16 ≤ s.discs.records.length) :
    exec (.identifyComplete b o.number kind f) s = .next { s.modBay b (Bay.surveyed kind f) with
      discs := { s.discs with orphanWait := s.discs.orphanWait ++ [.bay b] } } := by
  have at_ : ((s.modBay b (Bay.surveyed kind f)).bay b).disc = none := by simp [Bay.surveyed, none_]
  have quiet : s.quiet { s.modBay b (Bay.surveyed kind f) with
      discs := { s.discs with orphanWait := s.discs.orphanWait ++ [.bay b] } } := State.undisturbed.quiet {
    wanted := rfl, stage := rfl, jobs := rfl, spindles := ⟨rfl, rfl⟩, queue := rfl, printer := rfl, staging := rfl
    emptied := State.emptied_of_states (s.modBay_states b fun _ => by rfl)
    records := rfl }
  rw [execIdentifyComplete_survey state out req survey ready, State.surveyResult_found ready present,
    State.surveyEnded_empty none_, State.surveyFoundDisc_waits at_ waits]
  exact congrArg _ quiet.watched

/-- With a record free the disc becomes an orphan, which the bay unloads to REJECT (R57). -/
theorem execIdentifyComplete_orphan (none_ : (s.bay b).disc = none) (served : s.discs.orphanWait = [])
    (room : s.discs.records.length < 16) (free : s.discs.taken s.discs.counter = false) :
    exec (.identifyComplete b o.number kind f) s = .next (s.watched (
      (State.modBay { s with discs := s.discs.create (.orphan s.discs.counter (.bay b)) } b
        fun r => (r.surveyed kind f).withOrphan s.discs.counter).joinQueue (orphanUnload b s.discs.counter))) := by
  have at_ : ((s.modBay b (Bay.surveyed kind f)).bay b).disc = none := by simp [Bay.surveyed, none_]
  rw [execIdentifyComplete_survey state out req survey ready, State.surveyResult_found ready present,
    State.surveyEnded_empty none_, State.surveyFoundDisc_orphan at_ served room free]
  rw [← State.modBay_modBay _ b (Bay.surveyed kind f) (·.withOrphan s.discs.counter)]
  rfl

end

/-! ## A disc that the bay's record names -/

/-- A rejected disc that the bay holds is unloaded to REJECT, its disposition kept (R162). -/
theorem execIdentifyComplete_holding (state : (s.bay b).state = .ident) (out : (s.bay b).out = some o)
    (req : o.req = .identify) (survey : (s.bay b).survey = true) (ready : kind ≠ .notReady)
    (present : kind = .ok → f.discPresent = true) {n : Nat} {d : Disc} (holds : (s.bay b).disc = some n)
    (hd : s.disc n = some d) (rejected : d.disposition.isReject = true) :
    ∃ t e r, exec (.identifyComplete b o.number kind f) s = .next t ∧ (t.bay b).state = .awaitUnload ∧
      (t.bay b).disc = some n ∧ (t.bay b).dest = some .reject ∧ t.disc n = some e ∧
      e.disposition = d.disposition ∧ e.media = (if kind = .ok ∧ d.target = some b then some f.media else d.media) ∧
      ((∀ q ∈ s.trans.queue, q.requester ≠ .bay b) → e.stage = .toOut) ∧
      s.trans.asked t.trans r ∧ r.disc = n ∧ r.requester = .bay b ∧ r.source = .bay b ∧ r.dest = .bin .reject ∧
      s.unloadPosted t b n (.bin .reject) := by
  let u := (s.modBay b (Bay.surveyed kind f)).modDisc n (Disc.surveyedIn b kind f)
  have bay : u.bay b = (s.bay b).surveyed kind f := s.modBay_bay b _
  have at_ : (u.bay b).disc = some n := by rw [bay]; exact holds
  have disc : u.disc n = some (d.surveyedIn b kind f) := by
    refine (State.modDisc_disc _ _ fun c => (c.surveyedIn_keeps b kind f).1).trans ?_
    exact congrArg (Option.map _) hd
  have dest : u.unloadDest n = .reject := State.unloadDest_of_reject fun c hc => by
    obtain rfl := Option.some.inj (disc.symm.trans hc)
    rwa [(d.surveyedIn_keeps b kind f).2.1]
  have found : u.surveyFoundDisc b = u.enterAwaitUnload b n := by simp only [State.surveyFoundDisc, at_]
  obtain ⟨r, asked, discIs, by_, source, goes⟩ := u.enterAwaitUnload_asks b n
  have unload := u.enterAwaitUnload_unload b n
  rw [dest] at goes unload
  have after := u.enterAwaitUnload_bay b n
  rw [dest, bay] at after
  obtain ⟨disposition, media⟩ := (d.surveyedIn b kind f).postedFrom_keeps u b
  refine ⟨s.watched (u.enterAwaitUnload b n), (d.surveyedIn b kind f).postedFrom u b, r, ?_, ?_, ?_, ?_,
    State.enterAwaitUnload_disc dest disc, ?_, ?_, fun clear => Disc.postedFrom_stage _ clear, asked, discIs, by_,
    source, goes, ?_⟩
  · rw [execIdentifyComplete_survey state out req survey ready, State.surveyResult_found ready present,
      State.surveyEnded_holding holds, found]
  · exact congrArg Bay.state after
  · exact (congrArg Bay.disc after).trans holds
  · exact congrArg Bay.dest after
  · rw [disposition, (d.surveyedIn_keeps b kind f).2.1]
  · rw [media]
    unfold Disc.surveyedIn
    split <;> rfl
  · have seen : s.unloadPosted (u.enterAwaitUnload b n) b n (.bin .reject) :=
      State.unloadPosted.of_same unload rfl rfl rfl rfl
        (State.modDisc_numbers (s.modBay b _) n fun c => (c.surveyedIn_keeps b kind f).1) rfl rfl rfl (by rw [bay]; rfl)
        (by rw [bay]; rfl)
    exact ⟨seen.alone, seen.swap⟩

/-- An emptied bay is EMPTY, or OFFLINE by its flag, which is used up (log 29). -/
theorem Bay.foundEmpty_idle (r : Bay) (f : DriveFacts) :
    ((r.foundEmpty f).facts = none ∧ (r.foundEmpty f).disc = none ∧ (r.foundEmpty f).job = none ∧
      (r.foundEmpty f).imageSlot = none ∧ (r.foundEmpty f).out = none) ∧
    (r.foundEmpty f).state = (if r.offlineAfter then .offline else .empty) ∧ (r.foundEmpty f).offlineAfter = false := by
  cases off : r.offlineAfter <;> simp [Bay.foundEmpty, Bay.toIdle, Bay.cleared, Bay.surveyed, off]

/-- The bay whose disc is lost (R121). -/
def Bay.foundLost (f : DriveFacts) (r : Bay) : Bay := { (r.surveyed .ok f).cleared with state := .empty }

/-- A rejected disc that the bay holds and the drive does not find is lost (R121, R162). -/
theorem execIdentifyComplete_lost (state : (s.bay b).state = .ident) (out : (s.bay b).out = some o)
    (req : o.req = .identify) (survey : (s.bay b).survey = true) (absent : f.discPresent = false) {n : Nat} {d : Disc}
    (holds : (s.bay b).disc = some n) (hd : s.disc n = some d) (rejected : d.disposition.isReject = true) :
    ∃ u, exec (.identifyComplete b o.number .ok f) s = .next (s.watched u) ∧
      u.settings = s.settings ∧ u.cond .handling = true ∧
      (∀ m, u.bay m = (s.modBay b (Bay.foundLost f)).bay m) ∧ s.retiredRejected n (d.surveyedIn b .ok f) u := by
  let v := (s.modBay b (Bay.surveyed .ok f)).modDisc n (Disc.surveyedIn b .ok f)
  obtain ⟨number, disposition, job⟩ := d.surveyedIn_keeps b .ok f
  have bay : v.bay b = (s.bay b).surveyed .ok f := s.modBay_bay b _
  have at_ : (v.bay b).disc = some n := by rw [bay]; exact holds
  have lostBay : (v.lostDisc n).bay b = (s.bay b).surveyed .ok f :=
    (State.bay_of_bays (State.lostDisc_frame v n).2.2.1 b).trans bay
  have found : v.surveyFoundNone b = (v.lostDisc n).modBay b fun r => { r.cleared with state := .empty } := by
    simp only [State.surveyFoundNone, at_]
  have disc : v.disc n = some (d.surveyedIn b .ok f) := by
    refine (State.modDisc_disc _ _ fun c => (c.surveyedIn_keeps b .ok f).1).trans ?_
    exact congrArg (Option.map _) hd
  obtain ⟨retired, handling⟩ := State.lostDisc_retiredRejected disc (disposition ▸ rejected)
  obtain ⟨gone, entry, orphans, counts, done⟩ := retired
  refine ⟨(v.lostDisc n).modBay b fun r => { r.cleared with state := .empty }, ?_, by simp [v], handling,
    fun m => ?_, ⟨gone, entry, orphans, counts, done⟩⟩
  · rw [execIdentifyComplete_survey (kind := .ok) state out req survey nofun, State.surveyResult_ok, absent,
      if_neg Bool.false_ne_true, State.surveyEnded_holding holds, found]
  · by_cases at_b : m = b
    · subst at_b
      rw [State.modBay_bay, State.modBay_bay, lostBay]
      rfl
    · rw [State.modBay_bay_ne _ _ at_b, State.modBay_bay_ne _ _ at_b, State.bay_of_bays (State.lostDisc_frame v n).2.2.1]
      exact s.modBay_bay_ne _ at_b

/-- Settles O41, by what the survey finds and what the bay's record names. -/
theorem surveysAndRetriesEnd : Obligations.SurveysAndRetriesEnd := by
  refine ⟨fun s b o f state out req survey => ⟨fun none_ absent => ?emptyTray,
    fun kind none_ ready present served room free => ?orphan, fun kind none_ ready present waits => ?waits,
    fun n d holds hd rejected => ⟨fun kind ready present => ?held, fun absent => ?lost⟩⟩,
    fun s b e running deadline => ?retries, fun s b stopped => ?idle⟩
  case emptyTray =>
    have bay : (s.modBay b (Bay.foundEmpty f)).bay b = (s.bay b).foundEmpty f := s.modBay_bay b _
    obtain ⟨idle, ends⟩ := (s.bay b).foundEmpty_idle f
    refine ⟨_, execIdentifyComplete_emptyTray state out req survey none_ absent, ?_, ?_, ?_⟩
    · obtain ⟨facts, disc, job, slot, done⟩ := idle
      exact ⟨bay ▸ facts, bay ▸ disc, bay ▸ job, bay ▸ slot, bay ▸ done, fun m other => s.modBay_bay_ne _ other⟩
    · rw [State.changesOnly_iff]
      simp
    · exact bay ▸ ends
  case orphan =>
    let u : State := State.modBay { s with discs := s.discs.create (.orphan s.discs.counter (.bay b)) } b
      fun r => (r.surveyed kind f).withOrphan s.discs.counter
    have bay : u.bay b = ((s.bay b).surveyed kind f).withOrphan s.discs.counter := State.modBay_bay _ b _
    exact ⟨_, execIdentifyComplete_orphan state out req survey ready present none_ served room free,
      congrArg Bay.state bay, congrArg Bay.disc bay, congrArg Bay.dest bay, rfl, u.joinQueue_asked _⟩
  case waits => exact execIdentifyComplete_orphanWaits state out req survey ready present none_ waits
  case held => exact execIdentifyComplete_holding state out req survey ready present holds hd rejected
  case lost =>
    obtain ⟨u, e, settings, handling, bays, retired⟩ :=
      execIdentifyComplete_lost state out req survey absent holds hd rejected
    obtain ⟨gone, entry, orphans, counts, done⟩ := retired
    obtain ⟨-, disposition, job⟩ := d.surveyedIn_keeps b .ok f
    have bay : u.bay b = (s.bay b).foundLost f := (bays b).trans (s.modBay_bay b _)
    have empty : (u.bay b).state = .empty := congrArg Bay.state bay
    have numbered : (d.surveyedIn b .ok f).number = n := by
      rw [(d.surveyedIn_keeps b .ok f).1]
      simpa using List.find?_some hd
    have off : (u.bay b).offlineAfter = (s.bay b).offlineAfter := by rw [bay]; rfl
    have wanted : s.settings.stage = .ready → s.discs.orphanWait = [] → (s.watched u).dispatchWanted = true :=
      fun ready served => by
        have trigger : s.dispatchTrigger u = true := (State.dispatchTrigger_iff s u).2
          ⟨settings ▸ ready, by simp [State.orphansServed, orphans, served],
            .inr (.inl ⟨b, empty, by rw [state]; decide⟩)⟩
        rw [State.watched_dispatchWanted, trigger, Bool.or_true]
    refine ⟨s.watched u, _, e, ?_, gone, empty, off, wanted, entry, numbered, disposition,
      fun k j hk hj => counts k j (job.trans hk) hj, handling, done⟩
    exact ⟨congrArg Bay.facts bay, congrArg Bay.disc bay, congrArg Bay.job bay, congrArg Bay.imageSlot bay,
      congrArg Bay.out bay, fun m other => (bays m).trans (s.modBay_bay_ne _ other)⟩
  case retries =>
    obtain ⟨at_, timer⟩ := Option.ne_none_iff_exists'.1 running
    simp only [exec, execIdentifyRetryTimerExpiry, timer, Option.isSome_some, if_true, State.reissueIdentify,
      State.modBay, State.setBay, deadline, Option.getD_some]
    rfl
  case idle => simp [exec, execIdentifyRetryTimerExpiry, stopped]

end Sys2Proof.Machine
end

/-! # Proofs: the print, line by line (R136, R143 to R145, R150) -/

section

namespace Sys2Proof.Machine

/-! ## The label's lines, and the strobe -/

theorem clamp_eq {lo hi : Int} (ordered : lo ≤ hi) (v : Int) : clamp lo hi v = max lo (min hi v) := by
  unfold clamp
  split <;> (try split) <;> omega

/-- The on-time is clamped (R150). -/
theorem onTime_eq {p : Nat} (least : 1 ≤ p) (base darkness t : Int) : onTime p base darkness t =
    (max 32 (min (128 * (p : Int) - 16) (base + 8 * darkness - (if 25 < t then 4 * (t - 25) else 0)))).toNat := by
  rw [onTime, clamp_eq (by omega)]

theorem Label.dots_eq (l : Label) (band line : Nat) : l.dots band line = (List.range l.width).map fun x =>
    (((l.band band).drop (line * ((l.width + 7) / 8))).getD (x / 8) 0#8).getLsbD (7 - x % 8) := rfl

/-! ## One line -/

variable {s : State} {p : Printer} {r : Print} {l : Label}

theorem execPrinterLinePeriod_prints (fitted : s.printer = some p) (state : p.state = .printing)
    (print : p.print = some r) (label : s.label r.label = some l) :
    exec .printerLinePeriod s = .next (s.watched (s.linePrinted p r l)) := by
  simp only [exec, execPrinterLinePeriod, fitted, state, print, label]

/-- The printer with the dots of the line just printed. -/
def Printer.afterLine (p : Printer) (r : Print) (l : Label) : Printer := { p with dots := l.dots r.band r.line }

/-- The printer changes alone, and does not become IDLE: no trigger of R19. -/
theorem State.quiet_setPrinter (s : State) {p : Printer} (busy : p.state ≠ .idle) : s.quiet (s.setPrinter p) :=
  { State.quiet.refl s with
    printer := fun idle => by
      obtain ⟨q, hq, state⟩ := (State.printerIs_iff _ .idle).1 idle
      obtain rfl := Option.some.inj hq
      exact absurd state busy }

/-- A line inside its band. -/
theorem State.linePrinted_inBand (inside : r.line + 1 < min 64 (l.lines - 64 * r.band)) :
    s.linePrinted p r l = s.setPrinter { p.afterLine r l with print := some { r with line := r.line + 1 } } := by
  have goesOn : r.line + 1 < bandLinesOf l.lines r.band := inside
  simp only [State.linePrinted, if_pos goesOn]
  rfl

/-- The last line of a band that is not the label's last. -/
theorem State.linePrinted_lastOfBand (last : min 64 (l.lines - 64 * r.band) ≤ r.line + 1)
    (more : r.band + 1 < (l.lines + 63) / 64) : s.linePrinted p r l =
      s.bandStart (p.afterLine r l) { r with band := r.band + 1, line := r.line + 1 } true := by
  have outside : ¬ r.line + 1 < bandLinesOf l.lines r.band := Nat.not_lt.2 last
  have goesOn : r.band + 1 < bandCount l.lines := more
  simp only [State.linePrinted, if_neg outside, if_pos goesOn]
  rfl

/-- The label's last line. -/
theorem State.linePrinted_last (last : min 64 (l.lines - 64 * r.band) ≤ r.line + 1)
    (lastBand : (l.lines + 63) / 64 ≤ r.band + 1) : s.linePrinted p r l = s.printEnd (p.afterLine r l) := by
  have outside : ¬ r.line + 1 < bandLinesOf l.lines r.band := Nat.not_lt.2 last
  have ended : ¬ r.band + 1 < bandCount l.lines := Nat.not_lt.2 lastBand
  simp only [State.linePrinted, if_neg outside, if_neg ended]
  rfl

theorem State.bandStart_hot (reading : headTemp s.sensors = some s.sensors.headReading)
    (hot : 65 ≤ s.sensors.headReading) : s.bandStart p r true =
      s.setPrinter { p with state := .cooling, print := some { r with line := 0, period := none, onTime := none } } := by
  have stops : s.headStops true = true := by
    simp only [State.headStops, headIsHot, reading, Bool.true_and, decide_eq_true_eq]
    exact hot
  simp only [State.bandStart, stops, if_true]

theorem State.bandStart_cool (reading : headTemp s.sensors = some s.sensors.headReading)
    (cool : s.sensors.headReading < 65) (label : s.label r.label = some l) : s.bandStart p r true =
      s.setPrinter { p with
        state := .printing
        print := some { r with
          line := 0
          period := some (128 * s.settingNat 12)
          onTime := some (onTime (s.settingNat 12) (s.setting 13) l.darkness s.sensors.headReading) } } := by
  have goes : s.headStops true = false := by
    simp only [State.headStops, headIsHot, reading, Bool.true_and, decide_eq_false_iff_not]
    exact not_le.2 cool
  simp only [State.bandStart, goes, Bool.false_eq_true, if_false, label, reading]
  rfl

/-! ## The end of a print -/

/-- The record of a printed disc, and the printer that asks for its PRINT_OUT (R145). -/
def State.printedOut (s : State) (p : Printer) (n : Nat) (dest : Station) : State :=
  ((s.modDisc n fun d => { d with printed := true }).setPrinter
    { p with state := .awaitRemove, print := none, trayMove := true }).postMove
      (.posted .printOut .printer .prn dest n none)

theorem State.printed_disc {n : Nat} {d : Disc} (hd : s.disc n = some d) :
    (s.modDisc n fun d => { d with printed := true }).disc n = some { d with printed := true } :=
  (State.modDisc_disc s n fun _ => by rfl).trans (congrArg (Option.map _) hd)

theorem State.printOutDest_pending {n : Nat} {d : Disc} {b : BayId} (hd : s.disc n = some d)
    (pending : d.disposition = .pending) (target : d.target = some b) : s.printOutDest n = .bay b := by
  simp only [State.printOutDest, hd, pending, target]

theorem State.printOutDest_good {n : Nat} {d : Disc} (hd : s.disc n = some d) (good : d.disposition = .good) :
    s.printOutDest n = .bin .out := by
  simp only [State.printOutDest, hd, good]

theorem State.printOutDest_reject {n : Nat} {d : Disc} (hd : s.disc n = some d) (rejected : d.disposition.isReject = true) :
    s.printOutDest n = .bin .reject := by
  cases disposition : d.disposition with
  | reject why => simp only [State.printOutDest, hd, disposition]
  | pending | good => simp [disposition, Disposition.isReject] at rejected

/-- A print ends: the disc is printed and its PRINT_OUT asked for, and the bay that awaits a spoiled print-first disc is told (R142, R145). -/
theorem State.printEnd_eq {n : Nat} {place : Station} (tray : p.trayDisc = some n)
    (dest : (s.modDisc n fun d => { d with printed := true }).printOutDest n = place) :
    s.printEnd p = if place = .bin .reject ∧ (s.printedOut p n place).discPrintsFirst n then
      (s.printedOut p n place).tellTarget n else s.printedOut p n place := by
  subst dest
  obtain ⟨state, trayDisc, trayMove, print, clampOpen, dots⟩ := p
  cases tray
  rfl

/-- The record of a printed disc: TO_OUT once its PRINT_OUT to a bin has joined the queue (R4). -/
def Disc.printedFrom (d : Disc) (s : State) (place : Station) : Disc :=
  if place.isBin = true ∧ s.hasMove .printer = false then { d with printed := true, stage := .toOut }
  else { d with printed := true }

theorem Disc.printedFrom_keeps (d : Disc) (s : State) (place : Station) :
    d.printedFrom s place = { d with printed := true, stage := (d.printedFrom s place).stage } := by
  unfold Disc.printedFrom
  split <;> rfl

theorem Disc.printedFrom_stage {place : Station} (d : Disc) (bin : place.isBin = true)
    (clear : ∀ q ∈ s.trans.queue, q.requester ≠ .printer) : (d.printedFrom s place).stage = .toOut := by
  rw [Disc.printedFrom, if_pos ⟨bin, State.hasMove_false.2 clear⟩]

theorem State.printedOut_disc {n : Nat} {d : Disc} (place : Station) (hd : s.disc n = some d) :
    (s.printedOut p n place).disc n = some (d.printedFrom s place) := by
  have printed := State.printed_disc hd
  refine (State.postMove_disc _ (.posted .printOut .printer .prn place n none)).trans ?_
  exact (congrArg (Option.map _) printed).trans rfl

theorem State.printedOut_asked (n : Nat) (place : Station) :
    s.trans.asked (s.printedOut p n place).trans (.posted .printOut .printer .prn place n none) :=
  State.postMove_asked ((s.modDisc n fun d => { d with printed := true }).setPrinter
    { p with state := .awaitRemove, print := none, trayMove := true }) _

theorem State.printedOut_printer (n : Nat) (place : Station) : (s.printedOut p n place).printer =
    some { p with state := .awaitRemove, print := none, trayMove := true } := by
  simp [State.printedOut, State.setPrinter]

theorem State.printedOut_frame (n : Nat) (place : Station) :
    s.changesOnly [.discs, .printer, .trans] (s.printedOut p n place) := by
  rw [State.changesOnly_iff]
  simp [State.printedOut, State.setPrinter]

theorem State.printedOut_numbers (n : Nat) (place : Station) :
    (s.printedOut p n place).discs.records.map Disc.number = s.discs.records.map Disc.number :=
  (State.postMove_numbers _ _).trans (s.modDisc_numbers n fun _ => by rfl)

/-- A print's end is no trigger of R19: the printer waits for its disc to go. -/
theorem State.printedOut_quiet (n : Nat) (place : Station) : s.quiet (s.printedOut p n place) := by
  obtain ⟨-, jobs, -, staging, bays, -, -, -, -, -, -, settings, -⟩ :=
    (State.changesOnly_iff _ _ _).1 (s.printedOut_frame (p := p) n place)
  have jobs := jobs (by decide)
  have staging := staging (by decide)
  have bays := bays (by decide)
  have settings := settings (by decide)
  have asked := s.printedOut_asked (p := p) n place
  have spindles : (s.printedOut p n place).trans.spindleA = s.trans.spindleA ∧
      (s.printedOut p n place).trans.spindleB = s.trans.spindleB := by
    rw [State.printedOut, State.postMove_trans]
    exact State.joinQueue_spindles _ _
  exact {
    stage := fun ready => settings ▸ ready
    bays := fun b empty => by rwa [State.bay_of_bays bays] at empty
    jobs := fun k => .inl (by simp only [State.job, jobs])
    runMode := fun run => jobs ▸ run
    records := fun d hd => by
      have named : d.number ∈ (s.printedOut p n place).discs.records.map Disc.number :=
        s.printedOut_numbers n place ▸ List.mem_map_of_mem hd
      exact List.mem_map.1 named
    spindles := fun i => .inr (by cases i <;> simp only [State.spindle, spindles])
    printer := fun idle => by
      obtain ⟨q, hq, state⟩ := (State.printerIs_iff _ .idle).1 idle
      obtain rfl := Option.some.inj ((s.printedOut_printer n place).symm.trans hq)
      exact nomatch state
    queue := fun q hq => ⟨q, asked.keeps hq, rfl, rfl⟩
    images := fun k i j hi hj => by
      have same : (s.printedOut p n place).image k = s.image k := by simp only [State.image, staging]
      obtain rfl := Option.some.inj (hi.symm.trans (same ▸ hj))
      exact ⟨id, id, id⟩ }

/-- The bay that awaits a print-first disc is told that it will not come (R142). -/
theorem State.tellTarget_stops {v : State} {n : Nat} {e : Disc} {b : BayId} (bays : v.bays = s.bays)
    (he : v.disc n = some e) (target : e.target = some b) : s.stopsAwaiting (v.tellTarget n) b n := by
  have told : v.tellTarget n = v.discWillNotCome b n false := by
    simp only [State.tellTarget, he, Option.bind_some, target]
  rw [told]
  have stops := v.discWillNotCome_stops b n
  unfold State.stopsAwaiting at stops ⊢
  rwa [State.bay_of_bays bays] at stops

theorem State.printEnd_elsewhere {n : Nat} {place : Station} (tray : p.trayDisc = some n)
    (dest : (s.modDisc n fun d => { d with printed := true }).printOutDest n = place) (kept : place ≠ .bin .reject) :
    s.watched (s.printEnd p) = s.printedOut p n place := by
  rw [State.printEnd_eq tray dest, if_neg fun h => kept h.1]
  exact (s.printedOut_quiet n place).watched

/-- The end of a rejected disc's print (R142, R145). -/
theorem State.printEnd_rejected {n : Nat} {d : Disc} (tray : p.trayDisc = some n) (hd : s.disc n = some d)
    (rejected : d.disposition.isReject = true) :
    let t := s.printEnd p
    let v := s.printedOut p n (.bin .reject)
    (t.discs = v.discs ∧ t.trans = v.trans ∧ t.printer = v.printer) ∧
      ∀ j b, s.jobOf d = some j → j.label.isSome = true → j.printOrder = some .printFirst → d.target = some b →
        s.stopsAwaiting t b n := by
  have dest := State.printOutDest_reject (State.printed_disc hd) rejected
  have frame := (State.changesOnly_iff _ _ _).1 (s.printedOut_frame (p := p) n (.bin .reject))
  intro t v
  have ends : t = if v.discPrintsFirst n then v.tellTarget n else v := by
    refine (State.printEnd_eq tray dest).trans ?_
    simp only [true_and]
    rfl
  refine ⟨?_, fun j b hj label order target => ?_⟩
  · rw [ends]
    split
    · exact ⟨by simp, by simp, by simp⟩
    · exact ⟨rfl, rfl, rfl⟩
  · have he : v.disc n = some (d.printedFrom s (.bin .reject)) := State.printedOut_disc _ hd
    obtain ⟨-, jobs, -, -, bays, -⟩ := frame
    have jobs := jobs (by decide)
    have kept := d.printedFrom_keeps s (.bin .reject)
    have job : v.jobOf (d.printedFrom s (.bin .reject)) = some j := by
      have slots : v.job = s.job := funext fun k => by simp only [State.job, v, jobs]
      rw [← hj, kept, State.jobOf, State.jobOf, slots]
    have first : v.discPrintsFirst n = true := by
      simp only [State.discPrintsFirst, he, Option.bind_some, job]
      exact (Job.printsFirst_iff j).2 ⟨label, order⟩
    rw [ends, if_pos first]
    exact State.tellTarget_stops (bays (by decide)) he (by rw [kept]; exact target)

/-- Settles O59, by where in its label the printed line stands. -/
theorem printingGoesLineByLineToItsEnd : Obligations.PrintingGoesLineByLineToItsEnd := by
  refine ⟨fun p base darkness t least => onTime_eq least base darkness t, fun s p r l fitted state print label =>
    ⟨fun inside => ?inBand, fun last more => ⟨fun reading hot => ?hot, fun reading cool => ?cool⟩,
      fun n d last lastBand tray hd => ⟨fun b pending target => ?toBay, fun good => ?toOut, fun rejected => ?toReject⟩⟩⟩
  case inBand =>
    rw [execPrinterLinePeriod_prints fitted state print label, State.linePrinted_inBand inside,
      (s.quiet_setPrinter _).watched]
    · rfl
    · simp [Printer.afterLine, state]
  case hot =>
    rw [execPrinterLinePeriod_prints fitted state print label, State.linePrinted_lastOfBand last more,
      State.bandStart_hot reading hot, (s.quiet_setPrinter _).watched]
    · rfl
    · simp
  case cool =>
    rw [execPrinterLinePeriod_prints fitted state print label, State.linePrinted_lastOfBand last more,
      State.bandStart_cool (r := { r with band := r.band + 1, line := r.line + 1 }) reading cool label,
      (s.quiet_setPrinter _).watched]
    · rw [← state]
      rfl
    · simp
  case toBay =>
    have dest := State.printOutDest_pending (State.printed_disc hd) pending target
    refine ⟨s.printedOut (p.afterLine r l) n (.bay b), ?_, State.printedOut_disc _ hd, State.printedOut_printer n _,
      State.printedOut_asked n _, State.printedOut_frame n _⟩
    rw [execPrinterLinePeriod_prints fitted state print label, State.linePrinted_last last lastBand,
      State.printEnd_elsewhere (p := p.afterLine r l) tray dest (by simp)]
  case toOut =>
    have dest := State.printOutDest_good (State.printed_disc hd) good
    refine ⟨s.printedOut (p.afterLine r l) n (.bin .out), d.printedFrom s (.bin .out), ?_,
      ⟨State.printedOut_disc _ hd, d.printedFrom_keeps s _, d.printedFrom_stage rfl⟩, State.printedOut_printer n _,
      State.printedOut_asked n _, State.printedOut_frame n _⟩
    rw [execPrinterLinePeriod_prints fitted state print label, State.linePrinted_last last lastBand,
      State.printEnd_elsewhere (p := p.afterLine r l) tray dest (by simp)]
  case toReject =>
    obtain ⟨⟨discs, trans, printer⟩, told⟩ := State.printEnd_rejected (p := p.afterLine r l) tray hd rejected
    refine ⟨s.watched (s.printEnd (p.afterLine r l)), d.printedFrom s (.bin .reject), ?_,
      ⟨?_, d.printedFrom_keeps s _, d.printedFrom_stage rfl⟩, ?_, ?_, told⟩
    · rw [execPrinterLinePeriod_prints fitted state print label, State.linePrinted_last last lastBand]
    · exact (State.disc_of_discs discs n).trans (State.printedOut_disc _ hd)
    · exact printer.trans (State.printedOut_printer n _)
    · exact trans ▸ State.printedOut_asked n _

end Sys2Proof.Machine
end

/-! # Proofs: every step conserves the pools (R27, R31, R135) -/

section

namespace Sys2Proof.Machine

/-! ## Staging memory (R27, R31) -/

/-- Free and allocated segments and digest entries make up their memories (R27, R31). -/
def Staging.kept (g : Staging) : Prop := g.segmentsKept ∧ g.digestsKept

/-- The two counts read the size in effect and the two totals only. -/
theorem Staging.kept.of_totals {g h : Staging} (kept : g.kept) (same : h.totals = g.totals) : h.kept := by
  obtain ⟨segments, digests⟩ := kept
  simp only [Staging.totals, Prod.mk.injEq] at same
  obtain ⟨size, segmentTotal, digestTotal⟩ := same
  exact ⟨by rw [Staging.segmentsKept, segmentTotal, size]; exact segments,
    by rw [Staging.digestsKept, digestTotal]; exact digests⟩

/-- After a reset every segment and every digest entry is free, whatever the size in effect (R48). -/
theorem Staging.afterReset_kept (segmentSize : Nat) : (Staging.afterReset segmentSize).kept := by
  constructor
  · exact Nat.add_zero _
  · exact Nat.add_zero _

/-- What a command can make of staging memory: it moves segments and entries between a pool and the slots, or resets the whole of it. -/
def State.staged (s t : State) : Prop :=
  t.staging.totals = s.staging.totals ∨ ∃ segmentSize, t.staging = .afterReset segmentSize

theorem State.staged.kept {s t : State} (h : s.staged t) (kept : s.staging.kept) : t.staging.kept := by
  obtain same | ⟨segmentSize, reset⟩ := h
  · exact kept.of_totals same
  · exact reset ▸ Staging.afterReset_kept segmentSize

theorem State.beginInventory_staging (s : State) : s.beginInventory.staging = s.staging := by
  simp

/-- STARTING ends with staging memory reset for the segment size in effect (R48, R192). -/
theorem State.finishStarting_staging (s : State) (mode : RestartMode) :
    ∃ segmentSize, (s.finishStarting mode).staging = .afterReset segmentSize := by
  unfold State.finishStarting
  rw [State.beginInventory_staging]
  exact ⟨_, rfl⟩

/-- A start-up resets staging memory before it waits for the flash, too (R192, log 23). -/
theorem State.startup_staging (s : State) (mode : RestartMode) :
    ∃ segmentSize, (s.startup mode).staging = .afterReset segmentSize := by
  unfold State.startup
  dsimp only
  split
  · exact ⟨_, rfl⟩
  · exact State.finishStarting_staging _ mode

theorem execSettingsWriteEnd_staged {readBack : List Byte} {s t : State}
    (e : execSettingsWriteEnd readBack s = .next t) : s.staged t := by
  unfold execSettingsWriteEnd at e
  dsimp only at e
  (repeat' split at e) <;> (injection e with e; subst e)
  · exact .inl rfl
  · exact .inr (State.finishStarting_staging _ _)
  · exact .inl (congrArg Staging.totals (by simp))

theorem execImageOpen_staged {slot media need : Byte} {size : BitVec 32} {s t : State}
    (e : execImageOpen slot media need size s = .next t) : s.staged t := by
  unfold execImageOpen at e
  split at e <;> (injection e with e; subst e)
  · exact .inl (by simp)
  · rename_i k i opens
    obtain ⟨closed, segments, digests⟩ := State.imageOpenCheck_room opens
    exact .inl (by simpa using s.openSlot_totals closed segments digests)

theorem execImageData_staged {slot count : Byte} {offset : BitVec 32} {data : List Byte} {s t : State}
    (e : execImageData slot count offset data s = .next t) : s.staged t := by
  unfold execImageData at e
  split at e
  · injection e with e
    exact .inl (by simp [← e])
  · rename_i k i taken
    have hi := State.imageDataCheck_image taken
    split at e <;> (injection e with e; subst e)
    · exact .inl (by simpa using s.stageFull_totals hi)
    · rename_i u found
      obtain ⟨j, hj⟩ := Option.isSome_iff_exists.1 ((State.findSegment_isSome hi found k).trans (by rw [hi]; rfl))
      have stored := (u.storeSectors_totals (sectorsOf count.toNat data) hj).trans (State.findSegment_totals hi found)
      exact .inl (by simpa [hj] using stored)

theorem execPassClose_staged {slot : Byte} {pass : BitVec 16} {s t : State}
    (e : execPassClose slot pass s = .next t) : s.staged t := by
  unfold execPassClose at e
  split at e <;> (injection e with e; subst e)
  · exact .inl (by simp)
  · rename_i k i taken
    have hi : s.image k = some i := by
      unfold State.passCloseCheck at taken
      (repeat' split at taken) <;> cases taken
      assumption
    exact .inl (by simpa using s.closePass_totals hi)

theorem execImageRewind_staged {slot : Byte} {s t : State} (e : execImageRewind slot s = .next t) : s.staged t := by
  unfold execImageRewind at e
  split at e <;> (injection e with e; subst e)
  · exact .inl (by simp)
  · rename_i k i taken
    have hi : s.image k = some i := by
      unfold State.rewindCheck at taken
      (repeat' split at taken) <;> cases taken
      assumption
    exact .inl (by simpa using s.rewound_totals hi)

theorem execImageRelease_staged {slot : Byte} {s t : State} (e : execImageRelease slot s = .next t) : s.staged t := by
  unfold execImageRelease at e
  split at e <;> (injection e with e; subst e)
  · exact .inl (by simp)
  · rename_i k i taken
    have hi : s.image k = some i := by
      unfold State.imageReleaseCheck at taken
      (repeat' split at taken) <;> cases taken
      assumption
    exact .inl (by simpa using s.closeSlot_totals hi)

/-- Every command moves segments and entries between the pools and the slots, or resets staging memory. -/
theorem exec_staged {c : Instr} {s t : State} (e : exec c s = .next t) : s.staged t := by
  have frame := exec_changesOnly e
  by_cases apart : Part.staging ∉ changedParts c
  · exact .inl (congrArg Staging.totals (frame _ apart))
  · cases c with
    | powerOn _ _ =>
      injection e with e
      exact .inr (e ▸ State.startup_staging _ _)
    | restartBegin =>
      simp only [exec, execRestartBegin] at e
      split at e <;> (injection e with e; subst e)
      · exact .inl rfl
      · exact .inr (State.startup_staging _ _)
    | settingsWriteEnd _ => exact execSettingsWriteEnd_staged e
    | imageOpen _ _ _ _ => exact execImageOpen_staged e
    | imageData _ _ _ _ => exact execImageData_staged e
    | passClose _ _ => exact execPassClose_staged e
    | imageRewind _ => exact execImageRewind_staged e
    | imageRelease _ => exact execImageRelease_staged e
    | jobCancel _ =>
      simp only [exec, execJobCancel] at e
      (repeat' split at e) <;> (injection e with e; subst e; refine .inl ?_) <;> simp
    | identifyComplete _ _ _ _ =>
      simp only [exec, execIdentifyComplete] at e
      (repeat' split at e) <;> (injection e with e; subst e; refine .inl ?_) <;> simp
    | writeComplete _ _ _ _ | speedComplete _ _ _ | suspendComplete _ _ _ | resumeComplete _ _ _ =>
      simp only [exec, execWriteComplete, execSpeedComplete, execSuspendComplete, execResumeComplete] at e
      (repeat' split at e) <;> (injection e with e; subst e; refine .inl ?_) <;> simp
    | unsolicitedUnderrun _ | closeComplete _ _ _ | readComplete _ _ _ _ _ =>
      simp only [exec, execUnsolicitedUnderrun, execCloseComplete, execReadComplete] at e
      (repeat' split at e) <;> (injection e with e; subst e; refine .inl ?_) <;> simp
    | deadlineExpiry _ _ | trayOpenComplete _ _ _ | trayCloseComplete _ _ _ | admissionEvaluation =>
      simp only [exec, execDeadlineExpiry, execTrayOpenComplete, execTrayCloseComplete, execAdmissionEvaluation] at e
      (repeat' split at e) <;> (injection e with e; subst e; refine .inl ?_) <;> simp
    | arrival _ | ackTimerExpiry _ | moveTimerExpiry | stripCodeChange _ _ | pickConfirmed _ | prnTrayConfirmed =>
      simp only [exec, execArrival, execAckTimerExpiry, execMoveTimerExpiry, execStripCodeChange, execPickConfirmed,
        execPrnTrayConfirmed] at e
      (repeat' split at e) <;> (injection e with e; subst e; refine .inl ?_) <;> simp
    | printerLinePeriod | headTemperatureReading _ | ribbonSensorChange _ =>
      simp only [exec, execPrinterLinePeriod, execHeadTemperatureReading, execRibbonSensorChange] at e
      (repeat' split at e) <;> (injection e with e; subst e; refine .inl ?_) <;> simp
    | _ => simp [changedParts] at apart

/-! ## Label memory (R135) -/

theorem LabelMemory.afterReset_kept : LabelMemory.afterReset.blocksKept := rfl

/-- What a command can make of label memory: it moves blocks between the pool and the labels, or resets the whole of it. -/
def State.labelled (s t : State) : Prop :=
  t.labels.blockTotal = s.labels.blockTotal ∨ t.labels = .afterReset

theorem State.labelled.kept {s t : State} (h : s.labelled t) (kept : s.labels.blocksKept) : t.labels.blocksKept := by
  obtain same | reset := h
  · exact same.trans kept
  · exact reset ▸ LabelMemory.afterReset_kept

theorem State.startup_labels (s : State) (mode : RestartMode) : (s.startup mode).labels = .afterReset := by
  unfold State.startup
  dsimp only
  split
  · simp; rfl
  · simp; rfl

theorem execLabelOpen_labelled {label darkness : Byte} {width lines : BitVec 16} {s t : State}
    (e : execLabelOpen label darkness width lines s = .next t) : s.labelled t := by
  unfold execLabelOpen at e
  dsimp only at e
  split at e
  · injection e with e
    exact .inl (e ▸ rfl)
  split at e
  · injection e with e
    exact .inl (e ▸ rfl)
  next k _ absent =>
    split at e <;> injection e with e <;> subst e
    · exact .inl rfl
    next room => exact .inl (s.openLabel_blockTotal (by simpa using absent) (Nat.not_lt.1 room))

theorem execLabelData_labelled {label band : Byte} {data : List Byte} {s t : State}
    (e : execLabelData label band data s = .next t) : s.labelled t := by
  unfold execLabelData at e
  split at e <;> (injection e with e; subst e)
  · exact .inl rfl
  · rename_i k l taken
    have hl : s.label k = some l := by
      unfold State.labelDataCheck at taken
      (repeat' split at taken) <;> cases taken
      assumption
    exact .inl (s.setLabel_blockTotal hl (l.withBand_blocks data))

theorem execLabelDrop_labelled {label : Byte} {s t : State} (e : execLabelDrop label s = .next t) : s.labelled t := by
  unfold execLabelDrop at e
  split at e <;> (injection e with e; subst e)
  · exact .inl rfl
  · rename_i k l taken
    have hl : s.label k = some l := by
      unfold State.labelDropCheck at taken
      (repeat' split at taken) <;> cases taken
      assumption
    exact .inl (s.dropLabel_blockTotal hl)

/-- Every command moves blocks between the pool and the labels, or resets label memory. -/
theorem exec_labelled {c : Instr} {s t : State} (e : exec c s = .next t) : s.labelled t := by
  have frame := exec_changesOnly e
  by_cases apart : Part.labels ∉ changedParts c
  · exact .inl (congrArg LabelMemory.blockTotal (frame _ apart))
  · cases c with
    | powerOn _ _ =>
      injection e with e
      exact .inr (e ▸ State.startup_labels _ _)
    | restartBegin =>
      simp only [exec, execRestartBegin] at e
      split at e <;> (injection e with e; subst e)
      · exact .inl rfl
      · exact .inr (State.startup_labels _ _)
    | labelOpen _ _ _ _ => exact execLabelOpen_labelled e
    | labelData _ _ _ => exact execLabelData_labelled e
    | labelDrop _ => exact execLabelDrop_labelled e
    | _ => simp [changedParts] at apart

/-! ## The statement -/

/-- A step takes a command on a state with the same blocks, or leaves the blocks alone. -/
theorem step_takes {s t : State} (e : step s = .next t) :
    (∃ c u, exec c u = .next t ∧ u.staging = s.staging ∧ u.labels = s.labels) ∨
      (t.staging = s.staging ∧ t.labels = s.labels) := by
  cases hqueue : s.pending with
  | cons c rest =>
    rw [step_of_pending_cons hqueue] at e
    exact .inl ⟨c, _, e, rfl, rfl⟩
  | nil =>
    cases hdue : s.nextDue with
    | some c =>
      rw [step_of_nextDue hqueue hdue] at e
      exact .inl ⟨c, s, e, rfl, rfl⟩
    | none =>
      rw [step_of_idle hqueue hdue] at e
      injection e with e
      exact .inr (e ▸ ⟨rfl, rfl⟩)

/-- Settles O5: a command moves what it takes from a pool into the slots or the labels, or resets both memories. -/
theorem everyStepConservesPools : Obligations.EveryStepConservesPools := by
  refine ⟨fun s t segments digests e => ?staging, fun s t blocks e => ?labels⟩
  case staging =>
    have kept : s.staging.kept := ⟨segments, digests⟩
    obtain ⟨c, u, taken, same, -⟩ | ⟨same, -⟩ := step_takes e
    · exact (exec_staged taken).kept (same ▸ kept)
    · exact same ▸ kept
  case labels =>
    obtain ⟨c, u, taken, -, same⟩ | ⟨-, same⟩ := step_takes e
    · exact (exec_labelled taken).kept (same ▸ blocks)
    · exact same ▸ blocks

end Sys2Proof.Machine
end

/-! # Proofs: what head releases and the end of a pass leave of the slots (R39 to R43) -/

section

namespace Sys2Proof.Machine

/-! ## The record of one slot -/

/-- Head releases and a pass end change of a slot's record the window, the base, the gate (to CLOSED), the state (to AWAIT_REWIND) and the stage-full-refused field (to no), and of a RESIDENT slot's the last only. -/
structure Image.releasesTo (i j : Image) : Prop where
  same : j = { i with
    window := j.window, base := j.base, gate := j.gate, state := j.state, stageFullRefused := j.stageFullRefused }
  gate : j.gate = i.gate ∨ j.gate = .closed
  state : j.state = i.state ∨ j.state = .awaitRewind
  refused : i.stageFullRefused = false → j.stageFullRefused = false
  resident : i.residency = .resident → j = { i with stageFullRefused := j.stageFullRefused }

theorem Image.releasesTo.refl (i : Image) : i.releasesTo i := ⟨rfl, .inl rfl, .inl rfl, id, fun _ => rfl⟩

theorem Image.releasesTo.trans {i j l : Image} (h : i.releasesTo j) (g : j.releasesTo l) : i.releasesTo l := by
  obtain ⟨hsame, hgate, hstate, hrefused, hresident⟩ := h
  obtain ⟨gsame, ggate, gstate, grefused, gresident⟩ := g
  refine ⟨by rw [gsame, hsame], ?gate, ?state, grefused ∘ hrefused, fun resident => ?resident⟩
  case gate => exact ggate.elim (fun same => same ▸ hgate) .inr
  case state => exact gstate.elim (fun same => same ▸ hstate) .inr
  case resident =>
    have still : j.residency = .resident := by rw [hsame]; exact resident
    rw [gresident still, hresident resident]

/-- What R36, R37 and R47 read of a slot besides its window stands. -/
theorem Image.releasesTo.keeps {i j : Image} (h : i.releasesTo j) : j.fill = i.fill ∧ j.size = i.size ∧
    j.residency = i.residency ∧ j.pass = i.pass ∧ j.consumers = i.consumers ∧ j.digests = i.digests ∧ j.acc = i.acc ∧
    j.differing = i.differing := by
  rw [h.same]
  exact ⟨rfl, rfl, rfl, rfl, rfl, rfl, rfl, rfl⟩

/-- Segments came back: no slot is refused any more (R41). -/
theorem Image.releasesTo_unrefused (i : Image) : i.releasesTo { i with stageFullRefused := false } :=
  ⟨rfl, .inl rfl, .inl rfl, fun _ => rfl, fun _ => rfl⟩

/-! ## Every slot -/

/-- Every slot is open or CLOSED as it was, and an open one's record has changed as head releases change it. -/
def State.releasesTo (s t : State) : Prop :=
  ∀ x, (s.image x = none ∧ t.image x = none) ∨
    ∃ i j, s.image x = some i ∧ t.image x = some j ∧ i.releasesTo j

theorem State.releasesTo_of_image {s t : State} (h : ∀ x, t.image x = s.image x) : s.releasesTo t := by
  intro x
  rw [h x]
  cases s.image x with
  | none => exact .inl ⟨rfl, rfl⟩
  | some i => exact .inr ⟨i, i, rfl, rfl, .refl i⟩

theorem State.releasesTo.refl (s : State) : s.releasesTo s := State.releasesTo_of_image fun _ => rfl

theorem State.releasesTo.trans {s t u : State} (h : s.releasesTo t) (g : t.releasesTo u) : s.releasesTo u := by
  intro x
  obtain ⟨hs, ht⟩ | ⟨i, j, hi, hj, ij⟩ := h x <;> obtain ⟨gt, gu⟩ | ⟨a, l, ga, gl, al⟩ := g x
  · exact .inl ⟨hs, gu⟩
  · exact nomatch ht.symm.trans ga
  · exact nomatch hj.symm.trans gt
  · obtain rfl := Option.some.inj (hj.symm.trans ga)
    exact .inr ⟨i, l, hi, gl, ij.trans al⟩

/-- The record that an open slot has afterwards. -/
theorem State.releasesTo.after {s t : State} (h : s.releasesTo t) {x : ImageId} {i : Image} (hi : s.image x = some i) :
    ∃ j, t.image x = some j ∧ i.releasesTo j := by
  obtain ⟨closed, -⟩ | ⟨a, j, ha, hj, aj⟩ := h x
  · exact nomatch hi.symm.trans closed
  · obtain rfl := Option.some.inj (hi.symm.trans ha)
    exact ⟨j, hj, aj⟩

/-- The record that an open slot had before. -/
theorem State.releasesTo.before {s t : State} (h : s.releasesTo t) {x : ImageId} {j : Image} (hj : t.image x = some j) :
    ∃ i, s.image x = some i ∧ i.releasesTo j := by
  obtain ⟨-, closed⟩ | ⟨i, a, hi, ha, ia⟩ := h x
  · exact nomatch hj.symm.trans closed
  · obtain rfl := Option.some.inj (hj.symm.trans ha)
    exact ⟨i, hi, ia⟩

theorem State.releasesTo_setImage {s : State} {k : ImageId} {i j : Image} (hi : s.image k = some i)
    (h : i.releasesTo j) : s.releasesTo (s.setImage k (some j)) := by
  intro x
  by_cases e : x = k
  · exact .inr ⟨i, j, e ▸ hi, e ▸ State.setImage_image .., h⟩
  · rw [State.setImage_image_ne s _ e]
    exact State.releasesTo.refl s x

theorem State.returnSegments_releasesTo (s : State) (n : Nat) : s.releasesTo (s.returnSegments n) := by
  unfold State.returnSegments
  split
  · exact .refl s
  · intro x
    rw [State.stageSpace_image]
    change (_ ∧ (s.image x).map _ = none) ∨ ∃ i j, _ ∧ (s.image x).map _ = some j ∧ _
    cases s.image x with
    | none => exact .inl ⟨rfl, rfl⟩
    | some i => exact .inr ⟨i, _, rfl, rfl, i.releasesTo_unrefused⟩

theorem State.passEndTest_releasesTo (s : State) (k : ImageId) : s.releasesTo (s.passEndTest k) := by
  unfold State.passEndTest
  split
  · exact .refl s
  · next i hi =>
    split
    · next ends =>
      have streams : i.residency ≠ .resident := i.streaming_iff.1 ends.1
      have ended : i.releasesTo { i with window := [], state := .awaitRewind } :=
        ⟨rfl, .inl rfl, .inr rfl, id, fun resident => absurd resident streams⟩
      exact ((State.releasesTo_setImage hi ended).trans (State.returnSegments_releasesTo _ _)).trans
        (State.releasesTo_of_image fun _ => rfl)
    · exact .refl s

/-- A head passes on, and the gate closes behind it (R35, R40). -/
theorem Image.releasesTo_headGone {i : Image} (streams : i.residency ≠ .resident) (window : List Segment) (base : Nat) :
    i.releasesTo { i with window, base, gate := .closed } :=
  ⟨rfl, .inr rfl, .inl rfl, id, fun resident => absurd resident streams⟩

theorem State.releaseHead_releasesTo {s : State} {k : ImageId} {i : Image} (hi : s.image k = some i)
    (streams : i.residency ≠ .resident) : s.releasesTo (s.releaseHead k i) :=
  ((State.releasesTo_setImage hi (Image.releasesTo_headGone streams _ _)).trans (State.returnSegments_releasesTo _ 1)).trans
    (State.passEndTest_releasesTo _ k)

theorem State.headReleasable_streams {s : State} {i : Image} (h : s.headReleasable i = true) :
    i.residency ≠ .resident := by
  simp only [State.headReleasable, Bool.and_eq_true] at h
  exact i.streaming_iff.1 h.1.1.1

theorem State.releaseLoop_releasesTo (k : ImageId) (n : Nat) (s : State) : s.releasesTo (State.releaseLoop k n s) := by
  induction n generalizing s with
  | zero => exact .refl s
  | succ n ih =>
    unfold State.releaseLoop
    split
    · exact .refl s
    · next i hi =>
      split
      · next goes => exact (State.releaseHead_releasesTo hi (State.headReleasable_streams goes)).trans (ih _)
      · exact .refl s

theorem State.releaseEvaluation_releasesTo (s : State) (k : ImageId) : s.releasesTo (s.releaseEvaluation k) := by
  unfold State.releaseEvaluation
  split
  · exact .refl s
  · exact State.releaseLoop_releasesTo k _ s

theorem State.poolEmptied_releasesTo (s : State) : s.releasesTo s.poolEmptied :=
  (((s.releaseEvaluation_releasesTo 0).trans (State.releaseEvaluation_releasesTo _ 1)).trans
    (State.releaseEvaluation_releasesTo _ 2)).trans (State.releaseEvaluation_releasesTo _ 3)

theorem State.turnWindow_releasesTo {s : State} {k : ImageId} {i : Image} (hi : s.image k = some i)
    (streams : i.residency ≠ .resident) : s.releasesTo (s.turnWindow k i) :=
  (State.releasesTo_setImage hi (Image.releasesTo_headGone streams _ _)).trans (State.passEndTest_releasesTo _ k)

/-- The sectors of a segment are those of the size in effect, which the totals hold (R26). -/
theorem State.segSectors_of_totals {s t : State} (h : t.staging.totals = s.staging.totals) :
    t.segSectors = s.segSectors := by
  have size : t.staging.segmentSize = s.staging.segmentSize := congrArg Prod.fst h
  rw [State.segSectors, State.segSectors, size]

theorem State.releaseEvaluation_digests (s : State) (k : ImageId) :
    (s.releaseEvaluation k).staging.freeDigests = s.staging.freeDigests :=
  (s.releaseEvaluation_evaluates k).digests

theorem State.poolEmptied_digests (s : State) : s.poolEmptied.staging.freeDigests = s.staging.freeDigests := by
  simp only [State.poolEmptied, State.releaseEvaluation_digests]

/-! ## No slot opens up (R19) -/

/-- A slot's record does not open up from one to the other: no promotion, no gate that opens, no rewind (R19). -/
def Image.opensNot (i j : Image) : Prop :=
  (j.residency = .resident → i.residency = .resident) ∧ (j.gate = .opened → i.gate = .opened) ∧
    (i.state = .awaitRewind → j.state = .awaitRewind)

theorem Image.releasesTo.opensNot {i j : Image} (h : i.releasesTo j) : i.opensNot j := by
  obtain ⟨-, -, residency, -⟩ := h.keeps
  refine ⟨residency ▸ id, fun opened => ?gate, fun waits => ?state⟩
  case gate => exact h.gate.elim (fun same => same ▸ opened) fun closed => nomatch opened.symm.trans closed
  case state => exact h.state.elim (fun same => same.trans waits) id

/-- Between two states that differ in the link, staging memory, the bays, the Governor and status, with no slot that opens up and no bay that becomes EMPTY, nothing starts an evaluation (R19). -/
theorem State.quiet_of_images {s t : State} (images : ∀ x i j, s.image x = some i → t.image x = some j → i.opensNot j)
    (emptied : ∀ b, (t.bay b).state = .empty → (s.bay b).state = .empty)
    (frame : s.changesOnly [.link, .staging, .bays, .governor, .status] t) : s.quiet t := by
  have jobs : t.jobs = s.jobs := frame .jobs (by decide)
  have discs : t.discs = s.discs := frame .discs (by decide)
  have trans : t.trans = s.trans := frame .trans (by decide)
  have printer : t.printer = s.printer := frame .printer (by decide)
  have settings : t.settings = s.settings := frame .settings (by decide)
  exact {
    stage := settings ▸ id
    bays := emptied
    jobs := fun k => .inl (by simp only [State.job, jobs])
    runMode := jobs ▸ id
    records := fun d hd => ⟨d, discs ▸ hd, rfl⟩
    spindles := fun i => .inr (by cases i <;> simp only [State.spindle, trans])
    printer := fun idle => by simpa only [State.printerIs, printer] using idle
    queue := fun r hr => ⟨r, trans ▸ hr, rfl, rfl⟩
    images }

/-- A change of staging memory and status in which no slot opens up. -/
theorem State.quiet_of_staging {s t : State} (images : ∀ x i j, s.image x = some i → t.image x = some j → i.opensNot j)
    (frame : s.changesOnly [.staging, .status] t) : s.quiet t := by
  have bays : t.bays = s.bays := frame .bays (by decide)
  exact State.quiet_of_images images (State.emptied_of_states (State.bayStates_of_bays bays))
    fun p hp => frame p (by rintro (_ | ⟨_, _ | ⟨_, _ | _⟩⟩) <;> simp at hp)

theorem State.releasesTo.opensNot {s t : State} (h : s.releasesTo t) {x : ImageId} {i j : Image} (hi : s.image x = some i)
    (hj : t.image x = some j) : i.opensNot j := by
  obtain ⟨a, ha, ij⟩ := h.before hj
  obtain rfl := Option.some.inj (hi.symm.trans ha)
  exact ij.opensNot

end Sys2Proof.Machine
end

/-! # Proofs: IMAGE OPEN (R28, R29, R31, R40) -/

section

namespace Sys2Proof.Machine

variable {s : State} {k : ImageId} {i : Image}

/-! ## The checks, in their order (R28) -/

theorem State.ready_of_stage (h : s.settings.stage = .ready) : s.ready = true := s.ready_iff.2 h

theorem State.ready_of_stage_ne (h : s.settings.stage ≠ .ready) : s.ready = false :=
  Bool.not_eq_true _ ▸ mt s.ready_iff.1 h

theorem MediaClass.ofByte_eq_none {v : Byte} (h : 3 ≤ v.toNat) : MediaClass.ofByte v = none := by
  rw [MediaClass.ofByte, if_neg (Byte.ne_of_le h (by decide)), if_neg (Byte.ne_of_le h (by decide)),
    if_neg (Byte.ne_of_le h (by decide))]

theorem yesNo_eq_none {v : Byte} (h : 2 ≤ v.toNat) : yesNo v = none := by
  rw [yesNo, if_neg (Byte.ne_of_le h (by decide)), if_neg (Byte.ne_of_le h (by decide))]

/-- A flag in its range is no or yes (R174). -/
theorem yesNo_of_le {v : Byte} (h : v.toNat ≤ 1) : v = 0 ∧ yesNo v = some false ∨ v = 1 ∧ yesNo v = some true := by
  have cases_ : v = 0 ∨ v = 1 := by bv_omega
  exact cases_.imp (fun e => ⟨e, e ▸ rfl⟩) fun e => ⟨e, e ▸ rfl⟩

theorem State.imageOpenCheck_busy (slot media need : Byte) (size : Nat) (h : s.settings.stage ≠ .ready) :
    s.imageOpenCheck slot media need size = .error .busy := by
  rw [State.imageOpenCheck, if_pos (State.ready_of_stage_ne h)]

theorem State.imageOpenCheck_badField {slot media need : Byte} {size : Nat} (ready : s.settings.stage = .ready)
    (bad : 4 ≤ slot.toNat ∨ 3 ≤ media.toNat ∨ 2 ≤ need.toNat ∨ size = 0 ∨ 4173824 < size) :
    s.imageOpenCheck slot media need size = .error .badField := by
  have go : ¬ s.ready = false := by simp [State.ready_of_stage ready]
  rw [State.imageOpenCheck, if_neg go]
  split
  · next hslot hmedia hneed =>
    rw [if_pos]
    rcases bad with bad | bad | bad | bad
    · exact nomatch hslot.symm.trans (finOf_eq_none bad)
    · exact nomatch hmedia.symm.trans (MediaClass.ofByte_eq_none bad)
    · exact nomatch hneed.symm.trans (yesNo_eq_none bad)
    · exact bad
  · rfl

/-- The checks of fields in their ranges: the slot, the digest entries, the residency (R28). -/
theorem State.imageOpenCheck_inRange {code need : Byte} {media : MediaClass} {r : Bool} {size : Nat}
    (ready : s.settings.stage = .ready) (class_ : MediaClass.ofByte code = some media) (flag : yesNo need = some r)
    (low : 1 ≤ size) (high : size ≤ 4173824) :
    s.imageOpenCheck (BitVec.ofNat 8 k.val) code need size =
      if (s.image k).isSome then .error .state
      else if s.staging.freeDigests < chunkCount size then .error .digestFull
      else (s.residency media r size).elim (.error .stageFull) fun i => .ok (k, i) := by
  have go : ¬ s.ready = false := by simp [State.ready_of_stage ready]
  have inRange : ¬ (size = 0 ∨ Config.maxImageSectors < size) := by
    show ¬ (size = 0 ∨ 4173824 < size)
    omega
  rw [State.imageOpenCheck, if_neg go, finOf_ofNat k (by decide), class_, flag]
  dsimp only
  rw [if_neg inRange]
  cases s.residency media r size <;> rfl

theorem execImageOpen_refuses {slot media need : Byte} {size : BitVec 32} {why : Result}
    (h : s.imageOpenCheck slot media need size.toNat = .error why) :
    exec (.imageOpen slot media need size) s = .next (s.answer 0x30 why .none) := by
  simp only [exec, execImageOpen, h]
  rfl

theorem execImageOpen_opens {slot media need : Byte} {size : BitVec 32}
    (h : s.imageOpenCheck slot media need size.toNat = .ok (k, i)) :
    exec (.imageOpen slot media need size) s = .next ((s.watched (s.openSlot k i)).answer 0x30 .ok
      (.imageOpened (!i.streaming) i.window.length i.cap i.digests.length)) := by
  simp only [exec, execImageOpen, h]
  rfl

/-! ## The residency (R29) -/

/-- An image of at least one sector takes at least one segment (R29). -/
theorem State.segmentsFor_pos (s : State) {size : Nat} (h : 1 ≤ size) : 0 < segmentsFor size s.segSectors := by
  have seg : 0 < s.segSectors := by
    unfold State.segSectors Config.segmentSectors
    split <;> decide
  exact Nat.div_pos (by omega) seg

theorem State.residency_resident {media : MediaClass} {r : Bool} {size : Nat}
    (room : segmentsFor size s.segSectors ≤ s.staging.freeSegments) : s.residency media r size =
      some (.opened size media .resident (List.replicate (segmentsFor size s.segSectors) [])) :=
  if_pos room

theorem State.residency_streaming {media : MediaClass} {size : Nat}
    (short : s.staging.freeSegments < segmentsFor size s.segSectors) (eight : 8 ≤ s.staging.freeSegments) :
    s.residency media false size = some (.opened size media (.streaming s.newCap false) []) := by
  unfold State.residency
  dsimp only
  rw [if_neg (Nat.not_le.2 short), if_neg (by simpa using eight)]

theorem State.residency_none {media : MediaClass} {r : Bool} {size : Nat}
    (short : s.staging.freeSegments < segmentsFor size s.segSectors) (no : r = true ∨ s.staging.freeSegments < 8) :
    s.residency media r size = none := by
  unfold State.residency
  dsimp only
  rw [if_neg (Nat.not_le.2 short), if_pos no]

/-! ## The slot is filled (R29, R31) -/

theorem State.fillSlot_changesOnly (s : State) (k : ImageId) (i : Image) :
    s.changesOnly [.staging, .status] (s.fillSlot k i) := by
  rw [State.changesOnly_iff]
  simp [State.fillSlot]

/-- A slot that was CLOSED is none that opens up (R19). -/
theorem State.fillSlot_quiet (closed : s.image k = none) : s.quiet (s.fillSlot k i) := by
  refine State.quiet_of_staging (fun x j l hj hl => ?images) fun p hp => ?frame
  case images =>
    have other : x ≠ k := fun e => by simp [e, closed] at hj
    have same : (s.fillSlot k i).image x = s.image x := State.setImage_image_ne _ _ other
    exact (State.releasesTo_of_image (s := s) (t := s) fun _ => rfl).opensNot hj (same ▸ hl)
  case frame => exact s.fillSlot_changesOnly k i p hp

/-- A pool that an image leaves something in starts no evaluation (R29, R40). -/
theorem State.openSlot_leaves (left : i.window = [] ∨ i.window.length < s.staging.freeSegments) :
    s.openSlot k i = s.fillSlot k i := by
  unfold State.openSlot
  dsimp only
  refine if_neg fun ⟨takes, empty⟩ => ?_
  have gone : s.staging.freeSegments - i.window.length = 0 := empty
  rcases left with none_ | left
  · exact takes none_
  · omega

theorem State.openSlot_empties (takes : i.window ≠ []) (all : i.window.length = s.staging.freeSegments) :
    s.openSlot k i = (s.fillSlot k i).poolEmptied :=
  if_pos ⟨takes, Nat.sub_eq_zero_of_le (Nat.le_of_eq all.symm)⟩

theorem execImageOpen_fills {slot media need : Byte} {size : BitVec 32}
    (h : s.imageOpenCheck slot media need size.toNat = .ok (k, i)) (closed : s.image k = none)
    (left : i.window = [] ∨ i.window.length < s.staging.freeSegments) :
    exec (.imageOpen slot media need size) s = .next ((s.fillSlot k i).answer 0x30 .ok
      (.imageOpened (!i.streaming) i.window.length i.cap i.digests.length)) := by
  rw [execImageOpen_opens h, State.openSlot_leaves left, (State.fillSlot_quiet closed).watched]

/-- A slot that an image filled stays as it is while others let heads go: it is RESIDENT, and no request of it was refused. -/
theorem State.releasesTo.keepsResident {t u : State} (h : t.releasesTo u) (hi : t.image k = some i)
    (resident : i.residency = .resident) (fresh : i.stageFullRefused = false) : u.image k = some i := by
  obtain ⟨j, hj, ij⟩ := h.after hi
  have same : j = i := by
    rw [ij.resident resident, ij.refused fresh, ← fresh]
  exact hj.trans (congrArg some same)

/-- An image that takes the last segments (R29, R40, log 34, log 36). -/
theorem State.openSlot_poolGone (closed : s.image k = none) (takes : i.window ≠ [])
    (all : i.window.length = s.staging.freeSegments) (resident : i.residency = .resident)
    (fresh : i.stageFullRefused = false) :
    let u := s.watched (s.openSlot k i)
    (s.fillSlot k i).poolGone u ∧ u.image k = some i ∧
      u.staging.freeDigests = s.staging.freeDigests - i.digests.length ∧ s.changesOnly [.staging, .status] u := by
  have released := (s.fillSlot k i).poolEmptied_releasesTo
  have frame : s.changesOnly [.staging, .status] (s.fillSlot k i).poolEmptied := by
    rw [State.changesOnly_iff]
    simp [State.fillSlot]
  have quiet : s.quiet (s.fillSlot k i).poolEmptied := by
    refine State.quiet_of_staging (fun x j l hj hl => ?_) frame
    have other : x ≠ k := fun e => by simp [e, closed] at hj
    exact released.opensNot ((State.setImage_image_ne _ _ other).trans hj) hl
  dsimp only
  rw [State.openSlot_empties takes all, quiet.watched]
  exact ⟨State.poolEmptied_poolGone _, released.keepsResident (State.setImage_image ..) resident fresh,
    State.poolEmptied_digests _, frame⟩

/-! ## The statement -/

/-- Settles O25: the checks in their order, then the residency by the free segments. -/
theorem imageOpenDecidesResidency : Obligations.ImageOpenDecidesResidency := by
  refine ⟨fun s slot code need size ready bad => ?badField, fun s slot code need size early => ?busy,
    fun s k code need media size class_ flag low high => ?inRange⟩
  case badField =>
    have bad : 4 ≤ slot.toNat ∨ 3 ≤ code.toNat ∨ 2 ≤ need.toNat ∨ size.toNat = 0 ∨ 4173824 < size.toNat :=
      bad.imp_right (.imp_right (.imp_right (.imp_left fun zero => by rw [zero]; rfl)))
    exact execImageOpen_refuses (State.imageOpenCheck_badField ready bad)
  case busy => exact execImageOpen_refuses (State.imageOpenCheck_busy _ _ _ _ early)
  case inRange =>
    intro chunks seg n c opened cap
    obtain ⟨r, hr, yes, no⟩ : ∃ r, yesNo need = some r ∧ (need = 1 → r = true) ∧ (need = 0 → r = false) := by
      obtain ⟨rfl, e⟩ | ⟨rfl, e⟩ := yesNo_of_le flag
      · exact ⟨false, e, nofun, fun _ => rfl⟩
      · exact ⟨true, e, fun _ => rfl, nofun⟩
    have check := fun ready => State.imageOpenCheck_inRange (s := s) (k := k) ready class_ hr low high
    have room : ∀ ready : s.settings.stage = .ready, s.image k = none → chunks ≤ s.staging.freeDigests →
        s.imageOpenCheck (BitVec.ofNat 8 k.val) code need size.toNat =
          (s.residency media r size.toNat).elim (.error .stageFull) fun i => .ok (k, i) := fun ready closed digests => by
      rw [check ready, closed, if_neg (by simp)]
      exact if_neg (Nat.not_lt.2 digests)
    have takes : List.replicate n ([] : Segment) ≠ [] :=
      mt (List.replicate_eq_nil_iff _).1 (s.segmentsFor_pos low).ne'
    refine ⟨fun ready open_ => ?state, fun ready closed few => ?digestFull, fun ready closed digests fits => ?resident,
      fun ready closed digests all => ?last, fun ready closed digests short zero eight => ?streaming,
      fun ready closed digests short none_ => ?stageFull⟩
    case state =>
      exact execImageOpen_refuses ((check ready).trans (if_pos (Option.isSome_iff_ne_none.2 open_)))
    case digestFull =>
      exact execImageOpen_refuses ((check ready).trans (by rw [closed, if_neg (by simp)]; exact if_pos few))
    case resident =>
      have opens := (room ready closed digests).trans (by rw [State.residency_resident (Nat.le_of_lt fits)])
      rw [execImageOpen_fills opens closed (.inr (lt_of_eq_of_lt List.length_replicate fits))]
      simp only [State.fillSlot, Image.opened, List.length_replicate]
      rfl
    case last =>
      have opens := (room ready closed digests).trans (by rw [State.residency_resident (Nat.le_of_eq all)])
      have length : (List.replicate n ([] : Segment)).length = s.staging.freeSegments := by rw [List.length_replicate, all]
      obtain ⟨gone, image, entries, frame⟩ := State.openSlot_poolGone (i := opened .resident (List.replicate n []))
        closed takes length rfl rfl
      refine ⟨_, (execImageOpen_opens opens).trans ?reply, ?gone, image, ?digests, frame⟩
      case reply =>
        simp only [Image.opened, List.length_replicate]
        rfl
      case gone =>
        convert gone using 1
        simp only [State.fillSlot, opened, length, Nat.sub_self, List.length_replicate]
        rfl
      case digests => simpa [opened] using entries
    case streaming =>
      rw [no zero] at room
      have opens := (room ready closed digests).trans (by rw [State.residency_streaming short eight])
      rw [execImageOpen_fills opens closed (.inl rfl)]
      simp only [State.fillSlot, Image.opened, List.length_replicate]
      rfl
    case stageFull =>
      have no_ : r = true ∨ s.staging.freeSegments < 8 := none_.imp_left yes
      exact execImageOpen_refuses ((room ready closed digests).trans (by rw [State.residency_none short no_]; rfl))

end Sys2Proof.Machine
end

/-! # Proofs: PASS CLOSE and IMAGE REWIND (R41 to R45) -/

section

namespace Sys2Proof.Machine

variable {s : State} {k : ImageId} {i : Image}

/-! ## The checks (R42, R45) -/

theorem execPassClose_refuses {slot : Byte} {pass : BitVec 16} {why : Result}
    (h : s.passCloseCheck slot pass.toNat = .error why) :
    exec (.passClose slot pass) s = .next (s.answer 0x32 why .none) := by
  simp only [exec, execPassClose, h]
  rfl

theorem execPassClose_closes {slot : Byte} {pass : BitVec 16} (h : s.passCloseCheck slot pass.toNat = .ok (k, i)) :
    exec (.passClose slot pass) s = .next ((s.watched (s.closePass k i)).answer 0x32 .ok .none) := by
  simp only [exec, execPassClose, h]
  rfl

theorem execImageRewind_refuses {slot : Byte} {why : Result} (h : s.rewindCheck slot = .error why) :
    exec (.imageRewind slot) s = .next (s.answer 0x33 why .none) := by
  simp only [exec, execImageRewind, h]
  rfl

theorem execImageRewind_rewinds {slot : Byte} (h : s.rewindCheck slot = .ok (k, i)) :
    exec (.imageRewind slot) s =
      .next ((s.watched (s.setImage k (some i.rewound))).answer 0x33 .ok (.pass (i.pass + 1))) := by
  simp only [exec, execImageRewind, h]
  rfl

theorem State.passCloseCheck_busy (slot : Byte) (pass : Nat) (h : s.settings.stage ≠ .ready) :
    s.passCloseCheck slot pass = .error .busy :=
  if_pos (State.ready_of_stage_ne h)

theorem State.rewindCheck_busy (slot : Byte) (h : s.settings.stage ≠ .ready) : s.rewindCheck slot = .error .busy :=
  if_pos (State.ready_of_stage_ne h)

theorem State.passCloseCheck_badField {slot : Byte} (pass : Nat) (ready : s.settings.stage = .ready)
    (none_ : 4 ≤ slot.toNat) : s.passCloseCheck slot pass = .error .badField := by
  rw [State.passCloseCheck, if_neg (by simp [State.ready_of_stage ready]), finOf_eq_none none_]

theorem State.rewindCheck_badField {slot : Byte} (ready : s.settings.stage = .ready) (none_ : 4 ≤ slot.toNat) :
    s.rewindCheck slot = .error .badField := by
  rw [State.rewindCheck, if_neg (by simp [State.ready_of_stage ready]), finOf_eq_none none_]

theorem State.passCloseCheck_slot (k : ImageId) (pass : Nat) (ready : s.settings.stage = .ready) :
    s.passCloseCheck (BitVec.ofNat 8 k.val) pass = (s.image k).elim (.error .state) fun i =>
      if i.state = .awaitRewind ∨ i.streaming = false ∨ pass ≠ i.pass then .error .state else .ok (k, i) := by
  rw [State.passCloseCheck, if_neg (by simp [State.ready_of_stage ready]), finOf_ofNat k (by decide)]
  dsimp only
  cases s.image k <;> rfl

theorem State.rewindCheck_slot (k : ImageId) (ready : s.settings.stage = .ready) :
    s.rewindCheck (BitVec.ofNat 8 k.val) = (s.image k).elim (.error .state) fun i =>
      if i.state ≠ .awaitRewind ∨ i.pass = 65535 then .error .state else .ok (k, i) := by
  rw [State.rewindCheck, if_neg (by simp [State.ready_of_stage ready]), finOf_ofNat k (by decide)]
  dsimp only
  cases s.image k <;> rfl

/-! ## Segments come back (R27, R41) -/

theorem State.returnSegments_image (n : Nat) (x : ImageId) :
    (s.returnSegments n).image x = if n = 0 then s.image x else (s.image x).map Image.unrefused := by
  unfold State.returnSegments
  split
  · rfl
  · exact State.stageSpace_image _ x

theorem State.returnSegments_freeSegments (n : Nat) :
    (s.returnSegments n).staging.freeSegments = s.staging.freeSegments + n := by
  unfold State.returnSegments State.stageSpace
  (repeat' split) <;> simp_all

/-! ## The pass closes (R42, R43) -/

theorem Image.opensNot.trans {i j l : Image} (h : i.opensNot j) (g : j.opensNot l) : i.opensNot l :=
  ⟨h.1 ∘ g.1, h.2.1 ∘ g.2.1, g.2.2 ∘ h.2.2⟩

theorem Image.opensNot.refl (i : Image) : i.opensNot i := ⟨id, id, id⟩

/-- A record written over a slot's, and then head releases: no slot opens up. -/
theorem State.opensNot_of_setImage {j : Image} {t : State} (hi : s.image k = some i) (h : i.opensNot j)
    (g : (s.setImage k (some j)).releasesTo t) (x : ImageId) (a b : Image) (ha : s.image x = some a)
    (hb : t.image x = some b) : a.opensNot b := by
  obtain ⟨c, hc, -⟩ := g.before hb
  refine Image.opensNot.trans ?_ (g.opensNot hc hb)
  by_cases e : x = k
  · subst e
    obtain rfl := Option.some.inj (hi.symm.trans ha)
    obtain rfl := Option.some.inj ((State.setImage_image ..).symm.trans hc)
    exact h
  · obtain rfl := Option.some.inj (ha.symm.trans ((State.setImage_image_ne s _ e).symm.trans hc))
    exact .refl a

theorem State.closePass_quiet (hi : s.image k = some i) : s.quiet (s.closePass k i) := by
  have frame : s.changesOnly [.staging, .status] (s.closePass k i) := by
    rw [State.changesOnly_iff]
    simp
  refine State.quiet_of_staging (fun x a b ha hb => ?_) frame
  have closing : i.opensNot i.passClosing ∧ i.opensNot { i.passClosing with gate := .closed } := by
    unfold Image.passClosing
    split
    · next c p streams =>
      have never : Residency.streaming c true = .resident → i.residency = .resident := nofun
      exact ⟨⟨never, id, id⟩, never, nofun, id⟩
    · exact ⟨⟨id, id, id⟩, id, nofun, id⟩
  unfold State.closePass at hb
  split at hb
  · exact (State.releasesTo.refl s).opensNot ha hb
  · dsimp only at hb
    split at hb
    · exact State.opensNot_of_setImage hi closing.2 (State.passEndTest_releasesTo _ k) x a b ha hb
    · exact State.opensNot_of_setImage hi closing.1 (State.releaseEvaluation_releasesTo _ k) x a b ha hb

/-- A pass that is closed already: nothing changes (R42). -/
theorem State.closePass_again {cap : Nat} (streams : i.residency = .streaming cap true) : s.closePass k i = s :=
  if_pos (by simp [Image.passClosed, streams])

/-- Without consumers the pass ends at once (R42, R43). -/
theorem State.closePass_ends {cap : Nat} (streams : i.residency = .streaming cap false) (goes : i.state ≠ .awaitRewind)
    (alone : i.consumers = []) :
    let u := s.closePass k i
    u.image k = some { i with
      residency := .streaming cap true, gate := .closed, window := [], state := .awaitRewind
      stageFullRefused := if i.window = [] then i.stageFullRefused else false } ∧
      u.staging.freeSegments = s.staging.freeSegments + i.window.length ∧ u.status.pending.getLsbD 4 = true := by
  let closing : Image := { i with residency := .streaming cap true, gate := .closed }
  let ended : Image := { closing with window := [], state := .awaitRewind }
  have ends : s.closePass k i =
      (((s.setImage k (some closing)).setImage k (some ended)).returnSegments i.window.length).raise .passEnd := by
    unfold State.closePass State.passEndTest
    rw [if_neg (by simp [Image.passClosed, streams])]
    dsimp only
    rw [Image.passClosing, streams]
    dsimp only
    rw [if_pos alone, State.setImage_image]
    exact if_pos ⟨rfl, goes, rfl, alone⟩
  dsimp only
  rw [ends]
  refine ⟨?image, State.returnSegments_freeSegments _, ?raised⟩
  case image =>
    show State.image (State.returnSegments _ _) k = _
    rw [State.returnSegments_image, State.setImage_image]
    by_cases e : i.window = [] <;> simp [e, ended, closing, Image.unrefused]
  case raised => exact State.raise_pending _ .passEnd .passEnd

/-- Head releases judged from a slot's record before its residency is written. -/
theorem State.headsReleased.of_setImage {j : Image} {u : State} {m : Nat} (hi : s.image k = some i)
    (refused : j.stageFullRefused = i.stageFullRefused) (h : (s.setImage k (some j)).headsReleased u k j m) :
    s.headsReleased u k j m := by
  have some_ : (∃ x y, s.image x = some y ∧ y.stageFullRefused = true) ↔
      ∃ x y, (s.setImage k (some j)).image x = some y ∧ y.stageFullRefused = true :=
    (s.staging.refusedAny_iff).symm.trans
      ((by rw [State.setImage_refusedAny hi refused] : _ ↔ _).trans (Staging.refusedAny_iff _))
  have none_ : (∀ x y, s.image x = some y → y.stageFullRefused = false) →
      ∀ x y, (s.setImage k (some j)).image x = some y → y.stageFullRefused = false := fun none_ x y hy => by
    by_contra field
    obtain ⟨a, b, hb, e⟩ := some_.2 ⟨x, y, hy, by simpa using field⟩
    exact nomatch e.symm.trans (none_ a b hb)
  refine ⟨h.slot, h.pool, fun x hx => ?_, fun hm some' => h.raised hm (some_.1 some'), fun none' => h.quiet (none'.imp_right none_)⟩
  rw [h.others x hx, State.setImage_image_ne s _ hx]

/-- With consumers the field is set, and exactly the heads go that every consumer has passed (R40, R42). -/
theorem State.closePass_releases {cap : Nat} (hi : s.image k = some i) (streams : i.residency = .streaming cap false)
    (consumed : i.consumers ≠ []) :
    ∃ m, s.headsGo (fun x => (s.bay x).cursor.getD 0) i cap true m ∧
      s.headsReleased (s.closePass k i) k { i with residency := .streaming cap true } m := by
  have closes : s.closePass k i =
      (s.setImage k (some { i with residency := .streaming cap true })).releaseEvaluation k := by
    unfold State.closePass
    rw [if_neg (by simp [Image.passClosed, streams])]
    dsimp only
    rw [Image.passClosing, streams]
    exact if_neg consumed
  obtain ⟨m, goes, released⟩ := State.releaseEvaluation_spec
    (s := s.setImage k (some { i with residency := .streaming cap true })) (State.setImage_image ..) rfl consumed
  exact ⟨m, goes, closes ▸ released.of_setImage hi rfl⟩

/-! ## The next pass (R45) -/

/-- A rewind starts an evaluation, unless an orphan creation waits for a record (R2, R19). -/
theorem State.watched_rewound (hi : s.image k = some i) (ready : s.settings.stage = .ready) (waits : i.state = .awaitRewind) :
    s.watched (s.setImage k (some i.rewound)) = { s.setImage k (some i.rewound) with
      dispatchWanted := s.dispatchWanted || decide s.orphansServed } := by
  have opens : s.imageOpensUp (s.setImage k (some i.rewound)) k = true :=
    (State.imageOpensUp_iff _ _ _).2 ⟨i, i.rewound, hi, State.setImage_image .., .inr (.inr ⟨waits, nofun⟩)⟩
  have trigger : s.dispatchTrigger (s.setImage k (some i.rewound)) = decide s.orphansServed := by
    have images := List.any_eq_true.2 ⟨k, List.mem_finRange k, opens⟩
    unfold State.dispatchTrigger
    rw [images, Bool.or_true, Bool.and_true]
    exact congrArg (· && _) (State.ready_of_stage ready)
  rw [State.watched, trigger]
  rfl

/-! ## The statement -/

/-- Settles O29: the checks in their order, then the pass end, the head releases and the rewind. -/
theorem passesCloseAndRewind : Obligations.PassesCloseAndRewind := by
  refine ⟨fun s slot pass => ⟨fun early => ?busy, fun ready none_ => ?badField, fun k ready closed => ?closed⟩,
    fun s k i pass cap closed ready hi streams => ?streaming, fun s k i pass ready hi resident => ?resident,
    fun s k i ready hi => ⟨fun wrong => ?stays, fun cap closed waits low streams => ?rewinds⟩⟩
  case busy =>
    exact ⟨execPassClose_refuses (State.passCloseCheck_busy _ _ early),
      execImageRewind_refuses (State.rewindCheck_busy _ early)⟩
  case badField =>
    exact ⟨execPassClose_refuses (State.passCloseCheck_badField _ ready none_),
      execImageRewind_refuses (State.rewindCheck_badField ready none_)⟩
  case closed =>
    exact ⟨execPassClose_refuses (by rw [State.passCloseCheck_slot k _ ready, closed]; rfl),
      execImageRewind_refuses (by rw [State.rewindCheck_slot k ready, closed]; rfl)⟩
  case streaming =>
    have check := State.passCloseCheck_slot k pass.toNat ready
    rw [hi] at check
    have named : i.state ≠ .awaitRewind → pass.toNat = i.pass → exec (.passClose (BitVec.ofNat 8 k.val) pass) s =
        .next ((s.closePass k i).answer 0x32 .ok .none) := fun goes same => by
      rw [execPassClose_closes (check.trans (if_neg (by simp [goes, same, Image.streaming, streams]))),
        (State.closePass_quiet hi).watched]
    have frame : s.changesOnly [.staging, .status] (s.closePass k i) := by
      rw [State.changesOnly_iff]
      simp
    refine ⟨fun wrong => ?wrong, fun goes same again => ?again, fun goes same fresh alone => ?ends,
      fun goes same fresh consumed => ?releases⟩
    case wrong => exact execPassClose_refuses (check.trans (if_pos (wrong.imp_right .inr)))
    case again => rw [named goes same, State.closePass_again (again ▸ streams)]
    case ends =>
      obtain ⟨image, pool, raised⟩ := State.closePass_ends (s := s) (k := k) (fresh ▸ streams) goes alone
      exact ⟨_, named goes same, image, pool, raised, frame⟩
    case releases =>
      obtain ⟨m, heads, released⟩ := State.closePass_releases hi (fresh ▸ streams) consumed
      exact ⟨_, m, named goes same, heads, released, frame⟩
  case resident =>
    exact execPassClose_refuses (by
      rw [State.passCloseCheck_slot k _ ready, hi]
      exact if_pos (.inr (.inl (i.streaming_false_iff.2 resident))))
  case stays =>
    exact execImageRewind_refuses (by rw [State.rewindCheck_slot k ready, hi]; exact if_pos wrong)
  case rewinds =>
    have check : s.rewindCheck (BitVec.ofNat 8 k.val) = .ok (k, i) := by
      rw [State.rewindCheck_slot k ready, hi]
      exact if_neg (by simp [waits]; omega)
    rw [execImageRewind_rewinds check, State.watched_rewound hi ready waits, Image.rewound, streams]
    rfl

end Sys2Proof.Machine
end

/-! # Proofs: IMAGE RELEASE and IMAGE QUERY (R41, R46, R47) -/

section

namespace Sys2Proof.Machine

variable {s : State} {k : ImageId} {i : Image}

/-! ## The checks (R46) -/

/-- A job of some slot is live and passes a test. -/
theorem State.anyLiveJob_iff (f : Job → Bool) : s.anyLiveJob f = true ↔
    ∃ m j, s.job m = some j ∧ f j = true ∧ j.state ≠ .complete ∧ j.state ≠ .cancelled := by
  have passes (j : Job) : (j.live && f j) = true ↔ f j = true ∧ j.state ≠ .complete ∧ j.state ≠ .cancelled := by
    simp [Job.live, and_comm]
  unfold State.anyLiveJob
  rw [List.any_eq_true]
  constructor
  · rintro ⟨o, ho, live⟩
    obtain ⟨m, hm, rfl⟩ := List.getElem_of_mem ho
    simp only [Vector.length_toList] at hm
    rw [Vector.getElem_toList] at live
    cases e : s.jobs.slots[m] with
    | none => simp [e] at live
    | some j => exact ⟨⟨m, hm⟩, j, e, (passes j).1 (by simpa [e] using live)⟩
  · rintro ⟨m, j, e, live⟩
    exact ⟨some j, by rw [← e]; simp [State.job], (passes j).2 live⟩

theorem execImageRelease_refuses {slot : Byte} {why : Result} (h : s.imageReleaseCheck slot = .error why) :
    exec (.imageRelease slot) s = .next (s.answer 0x34 why .none) := by
  simp only [exec, execImageRelease, h]
  rfl

theorem execImageRelease_closes {slot : Byte} (h : s.imageReleaseCheck slot = .ok (k, i)) :
    exec (.imageRelease slot) s = .next ((s.watched (s.closeSlot k i)).answer 0x34 .ok .none) := by
  simp only [exec, execImageRelease, h]
  rfl

theorem State.imageReleaseCheck_busy (slot : Byte) (h : s.settings.stage ≠ .ready) :
    s.imageReleaseCheck slot = .error .busy :=
  if_pos (State.ready_of_stage_ne h)

theorem State.imageReleaseCheck_badField {slot : Byte} (ready : s.settings.stage = .ready) (none_ : 4 ≤ slot.toNat) :
    s.imageReleaseCheck slot = .error .badField := by
  rw [State.imageReleaseCheck, if_neg (by simp [State.ready_of_stage ready]), finOf_eq_none none_]

theorem State.imageReleaseCheck_slot (k : ImageId) (ready : s.settings.stage = .ready) :
    s.imageReleaseCheck (BitVec.ofNat 8 k.val) = (s.image k).elim (.error .state) fun i =>
      if s.anyLiveJob fun j => j.imageSlot == k then .error .inUse else .ok (k, i) := by
  rw [State.imageReleaseCheck, if_neg (by simp [State.ready_of_stage ready]), finOf_ofNat k (by decide)]
  dsimp only
  cases s.image k <;> rfl

/-! ## The slot is CLOSED (R41, R46) -/

theorem State.closeSlot_image (s : State) (k : ImageId) (i : Image) : (s.closeSlot k i).image k = none :=
  State.setImage_image ..

theorem State.closeSlot_image_ne {x : ImageId} (h : x ≠ k) :
    (s.closeSlot k i).image x = (s.returnSegments i.window.length).image x :=
  State.setImage_image_ne _ _ h

theorem State.closeSlot_freeSegments :
    (s.closeSlot k i).staging.freeSegments = s.staging.freeSegments + i.window.length :=
  State.returnSegments_freeSegments _

theorem State.closeSlot_freeDigests :
    (s.closeSlot k i).staging.freeDigests = s.staging.freeDigests + i.digests.length :=
  congrArg (· + _) (State.returnSegments_digests _ s)

theorem State.closeSlot_changesOnly : s.changesOnly [.staging, .status] (s.closeSlot k i) := by
  rw [State.changesOnly_iff]
  simp

/-- A slot that becomes CLOSED is none that opens up (R19). -/
theorem State.closeSlot_quiet : s.quiet (s.closeSlot k i) := by
  refine State.quiet_of_staging (fun x a b ha hb => ?_) State.closeSlot_changesOnly
  have other : x ≠ k := fun e => by simp [e, State.closeSlot_image] at hb
  exact (s.returnSegments_releasesTo _).opensNot ha (State.closeSlot_image_ne other ▸ hb)

/-- Segments come back, and a slot was refused: STAGE_SPACE, and no slot is refused any more (R41). -/
theorem State.returnSegments_refused {n : Nat} (some_ : n ≠ 0) (refused : s.staging.refusedAny = true) :
    (s.returnSegments n).status.pending = s.status.pending ||| (1#16 <<< 5) := by
  unfold State.returnSegments State.stageSpace
  rw [if_neg some_, if_pos (show Staging.refusedAny { s.staging with freeSegments := s.staging.freeSegments + n } = true from refused)]
  rfl

/-- Without a segment that comes back, or without a slot that was refused, the slots and status stand (R41). -/
theorem State.returnSegments_stands {n : Nat}
    (h : n = 0 ∨ ∀ x y, s.image x = some y → y.stageFullRefused = false) :
    (s.returnSegments n).status = s.status ∧ ∀ x, (s.returnSegments n).image x = s.image x := by
  rcases h with rfl | clear
  · exact ⟨rfl, fun _ => rfl⟩
  · rw [State.returnSegments_clear n clear]
    exact ⟨rfl, fun _ => rfl⟩

/-! ## The statement -/

/-- Settles O30: the checks in their order, then what the slot gives back; and IMAGE QUERY's reply. -/
theorem imageReleaseAndQueryActOnTheSlot : Obligations.ImageReleaseAndQueryActOnTheSlot := by
  refine ⟨fun s slot => ⟨fun early => ?busy, fun ready none_ => ?badField⟩, fun s k ready => ?release, fun s k => ?query⟩
  case busy => exact execImageRelease_refuses (State.imageReleaseCheck_busy _ early)
  case badField => exact execImageRelease_refuses (State.imageReleaseCheck_badField ready none_)
  case release =>
    intro c named
    have check := State.imageReleaseCheck_slot k ready
    have named_iff : s.anyLiveJob (fun j => j.imageSlot == k) = true ↔ named := by
      rw [State.anyLiveJob_iff]
      simp only [beq_iff_eq, named]
    refine ⟨fun closed => ?closed, fun open_ live => ?inUse, fun i hi idle => ?releases⟩
    case closed => exact execImageRelease_refuses (check.trans (by rw [closed]; rfl))
    case inUse =>
      obtain ⟨i, hi⟩ := Option.ne_none_iff_exists'.1 open_
      exact execImageRelease_refuses (check.trans (by rw [hi]; exact if_pos (named_iff.2 live)))
    case releases =>
      have closes := execImageRelease_closes (check.trans (by rw [hi]; exact if_neg (mt named_iff.1 idle)))
      rw [State.closeSlot_quiet.watched] at closes
      refine ⟨_, closes, State.closeSlot_image .., State.closeSlot_freeSegments, State.closeSlot_freeDigests,
        fun some_ refused => ⟨?raised, fun x hx => ?cleared⟩, fun none_ => ?stands, State.closeSlot_changesOnly⟩
      case raised =>
        exact State.returnSegments_refused (mt List.length_eq_zero_iff.1 some_) (s.staging.refusedAny_iff.2 refused)
      case cleared =>
        rw [State.closeSlot_image_ne hx, State.returnSegments_image, if_neg (mt List.length_eq_zero_iff.1 some_)]
        rfl
      case stands =>
        obtain ⟨status, images⟩ := State.returnSegments_stands (none_.imp_left List.length_eq_zero_iff.2)
        exact ⟨status, fun x hx => (State.closeSlot_image_ne hx).trans (images x)⟩
  case query =>
    have reply : exec (.imageQuery (BitVec.ofNat 8 k.val)) s =
        .next (s.answer 0x35 .ok (.image ((s.image k).map s.imageReport) s.stagingFigures)) := by
      simp only [exec, execImageQuery, finOf_ofNat k (by decide)]
      rfl
    refine ⟨fun closed => ?closedReply, fun i hi => ?openReply, fun v none_ => ?noSlot⟩
    case closedReply =>
      rw [reply, closed]
      rfl
    case openReply =>
      rw [reply, hi]
      rfl
    case noSlot =>
      simp only [exec, execImageQuery, finOf_eq_none none_]
      rfl

end Sys2Proof.Machine
end

/-! # Proofs: IMAGE DATA's checks, and what storing sectors leaves (R30, R33, R34, R36, R44) -/

section

namespace Sys2Proof.Machine

variable {s : State} {k : ImageId} {i : Image}

/-! ## The checks, in their order (R34) -/

theorem execImageData_refuses {slot count : Byte} {o : BitVec 32} {data : List Byte} {why : Result}
    (h : s.imageDataCheck slot count o.toNat data = .error why) :
    exec (.imageData slot count o data) s = .next (s.answer 0x31 why .none) := by
  simp only [exec, execImageData, h]
  rfl

/-- No segment is found: the slot's field is set (R35). -/
theorem execImageData_stageFull {slot count : Byte} {o : BitVec 32} {data : List Byte}
    (h : s.imageDataCheck slot count o.toNat data = .ok (k, i)) (short : s.findSegment k i count.toNat = none) :
    exec (.imageData slot count o data) s =
      .next ((s.setImage k (some { i with stageFullRefused := true })).answer 0x31 .stageFull .none) := by
  simp only [exec, execImageData, h, short]
  rfl

/-- The sectors are stored in the slot as the search for a segment has left it (R35, R36). -/
theorem execImageData_stores {slot count : Byte} {o : BitVec 32} {data : List Byte} {t : State} {j : Image}
    (h : s.imageDataCheck slot count o.toNat data = .ok (k, i)) (found : s.findSegment k i count.toNat = some t)
    (hj : t.image k = some j) :
    exec (.imageData slot count o data) s = .next
      ((s.watched (t.storeSectors k j (sectorsOf count.toNat data))).answer 0x31
        (if j.firstDiffering (sectorsOf count.toNat data) = none then .ok else .digestDiffers)
        (.imageData (j.fill + count.toNat) (j.firstDiffering (sectorsOf count.toNat data)))) := by
  simp only [exec, execImageData, h, found, hj, Option.getD_some]
  generalize s.watched (t.storeSectors k j (sectorsOf count.toNat data)) = u
  cases j.firstDiffering (sectorsOf count.toNat data) <;> rfl

theorem State.imageDataCheck_busy (slot count : Byte) (o : Nat) (data : List Byte) (h : s.settings.stage ≠ .ready) :
    s.imageDataCheck slot count o data = .error .busy :=
  if_pos (State.ready_of_stage_ne h)

theorem State.imageDataCheck_badField {slot count : Byte} {data : List Byte} (o : Nat) (ready : s.settings.stage = .ready)
    (bad : 4 ≤ slot.toNat ∨ count = 0 ∨ 32 < count.toNat ∨ data.length ≠ count.toNat * 2048) :
    s.imageDataCheck slot count o data = .error .badField := by
  rw [State.imageDataCheck, if_neg (by simp [State.ready_of_stage ready])]
  split
  · rfl
  · next hslot =>
    refine if_pos (bad.resolve_left fun none_ => ?_)
    exact nomatch hslot.symm.trans (finOf_eq_none none_)

/-- The checks of a request whose count and length are in their ranges. -/
theorem State.imageDataCheck_inRange (k : ImageId) {count : Byte} {data : List Byte} (o : Nat)
    (ready : s.settings.stage = .ready) (low : 1 ≤ count.toNat) (high : count.toNat ≤ 32)
    (length : data.length = count.toNat * 2048) :
    s.imageDataCheck (BitVec.ofNat 8 k.val) count o data = (s.image k).elim (.error .state) fun i =>
      if i.state ≠ .filling then .error .state
      else if o ≠ i.fill then .error .outOfOrder
      else if i.size < o + count.toNat then .error .badField
      else .ok (k, i) := by
  have inRange : ¬ (count = 0 ∨ 32 < count.toNat ∨ data.length ≠ count.toNat * Config.sectorBytes) := by
    rintro (rfl | many | other)
    · exact absurd low (by decide)
    · omega
    · exact other length
  rw [State.imageDataCheck, if_neg (by simp [State.ready_of_stage ready]), finOf_ofNat k (by decide)]
  dsimp only
  rw [if_neg inRange]
  cases s.image k <;> rfl

/-- A request that is accepted, if a segment is found for it. -/
theorem State.imageDataCheck_ok {count : Byte} {data : List Byte} {o : Nat} (ready : s.settings.stage = .ready)
    (hi : s.image k = some i) (low : 1 ≤ count.toNat) (high : count.toNat ≤ 32)
    (length : data.length = count.toNat * 2048) (filling : i.state = .filling) (next : o = i.fill)
    (within : i.fill + count.toNat ≤ i.size) :
    s.imageDataCheck (BitVec.ofNat 8 k.val) count o data = .ok (k, i) := by
  rw [State.imageDataCheck_inRange k o ready low high length, hi]
  subst next
  exact (if_neg (by simp [filling])).trans ((if_neg (by simp)).trans (if_neg (Nat.not_lt.2 within)))

/-! ## Sectors in the window (R30, R36) -/

theorem sectorsOf_length (n : Nat) (data : List Byte) : (sectorsOf n data).length = n := by
  induction n generalizing data with
  | zero => rfl
  | succ n ih => exact congrArg (· + 1) (ih _)

theorem fillWindow_nil (seg : Nat) (w : List Segment) : fillWindow seg w [] = w := by
  induction w with
  | nil => rfl
  | cons a r ih => simp [fillWindow, ih]

/-- Full segments take nothing. -/
theorem fillWindow_full {seg : Nat} {before : List Segment} (full : ∀ w ∈ before, w.length = seg) (w : List Segment)
    (d : List Sector) : fillWindow seg (before ++ w) d = before ++ fillWindow seg w d := by
  induction before with
  | nil => rfl
  | cons a r ih =>
    simp [fillWindow, full a (List.mem_cons_self ..), ih fun x hx => full x (List.mem_cons_of_mem _ hx)]

/-- A segment with room for all sectors takes them. -/
theorem fillWindow_fits {seg : Nat} {p : Segment} {d : List Sector} (room : d.length ≤ seg - p.length) (after : List Segment) :
    fillWindow seg (p :: after) d = (p ++ d) :: after := by
  simp [fillWindow, List.take_of_length_le room, List.drop_of_length_le room, fillWindow_nil]

/-- What one segment has no room for goes into the next. -/
theorem fillWindow_spills {seg : Nat} {p q : Segment} {d : List Sector}
    (room : q.length + (d.length - (seg - p.length)) ≤ seg) (rest : List Segment) :
    fillWindow seg (p :: q :: rest) d =
      (p ++ d.take (seg - p.length)) :: (q ++ d.drop (seg - p.length)) :: rest := by
  rw [fillWindow, fillWindow_fits (by rw [List.length_drop]; omega)]

/-! ## The record after the sectors are stored (R33, R36, R44) -/

/-- Taking sectors moves the fill point and the digests' fields alone (R33). -/
theorem Image.takeSectors_eq (i : Image) (d : List Sector) : i.takeSectors d = { i with
    fill := i.fill + d.length, acc := (i.takeSectors d).acc, digests := (i.takeSectors d).digests
    differing := (i.takeSectors d).differing } := by
  induction d generalizing i with
  | nil => rfl
  | cons x r ih =>
    have one : i.takeSector x = { i with
        fill := i.fill + 1, acc := (i.takeSector x).acc, digests := (i.takeSector x).digests
        differing := (i.takeSector x).differing } := by
      unfold Image.takeSector
      dsimp only
      split <;> rfl
    have rest := ih (i.takeSector x)
    have all : i.takeSectors (x :: r) = (i.takeSector x).takeSectors r := rfl
    rw [all, rest, one]
    simp only [List.length_cons, Nat.add_assoc, Nat.add_comm r.length 1]

/-- The record of a slot that has stored sectors. -/
theorem Image.stored_eq (i : Image) (seg : Nat) (d : List Sector) :
    i.stored seg d = { i.takeSectors d with
      fill := i.fill + d.length, window := fillWindow seg i.window d, stageFullRefused := false
      state := if i.fill + d.length = i.size ∧ i.state ≠ .awaitRewind then .complete else i.state
      residency := if (i.fill + d.length = i.size ∧ i.state ≠ .awaitRewind) ∧ i.base = 0 then .resident
        else i.residency } := by
  unfold Image.stored Image.completed Image.promoted
  rw [Image.takeSectors_eq]
  dsimp only
  by_cases done : i.fill + d.length = i.size ∧ i.state ≠ .awaitRewind
  · by_cases whole : i.base = 0
    · rw [if_pos done, if_pos whole, if_pos done, if_pos ⟨done, whole⟩]
    · rw [if_pos done, if_neg whole, if_pos done, if_neg fun h => whole h.2]
  · rw [if_neg done, if_neg done, if_neg fun h => done h.1]

/-- What IMAGE DATA leaves of a state in which the slot's window covers its sectors (R36). -/
structure State.storesSectors (t u : State) (k : ImageId) (j : Image) (d : List Sector) : Prop where
  slot : u.image k = some (j.stored t.segSectors d)
  others : ∀ x, x ≠ k → u.image x = t.image x
  segments : u.staging.freeSegments = t.staging.freeSegments
  entries : u.staging.freeDigests = t.staging.freeDigests
  status : u.status = if j.fill + d.length = j.size then
    { t.status with pending := t.status.pending ||| (1#16 <<< 3) } else t.status
  rests : ∀ b, (t.bay b).imageSlot ≠ some k → u.bay b = t.bay b
  feeds : ∀ b, (t.bay b).imageSlot = some k → u.feeds (t.bay b) (u.bay b)
  frame : t.changesOnly [.staging, .bays, .status] { u with dispatchWanted := t.dispatchWanted }

theorem State.storesSectors.watched {t v : State} {j : Image} {d : List Sector} (h : t.storesSectors v k j d) (s : State) :
    t.storesSectors (s.watched v) k j d :=
  ⟨h.slot, h.others, h.segments, h.entries, h.status, h.rests,
    fun b hb => State.feeds_of_eq (s := s.watched v) (t := v) rfl rfl (h.feeds b hb), h.frame⟩

theorem State.storeSectors_stores (t : State) (k : ImageId) (j : Image) (d : List Sector) :
    t.storesSectors (t.storeSectors k j d) k j d := by
  have fill : (j.stored t.segSectors d).fill = j.fill + d.length := by rw [Image.stored_eq]
  have size : (j.stored t.segSectors d).size = j.size := by rw [Image.stored_eq, Image.takeSectors_eq]
  obtain ⟨raised, stores, hraised⟩ : ∃ raised : State, t.storeSectors k j d = raised.feedImage k ∧
      raised = if j.fill + d.length = j.size then (t.setImage k (some (j.stored t.segSectors d))).raise .imageStaged
        else t.setImage k (some (j.stored t.segSectors d)) := by
    refine ⟨_, ?_, rfl⟩
    unfold State.storeSectors
    dsimp only
    rw [fill, size]
  have staging : raised.staging = (t.setImage k (some (j.stored t.segSectors d))).staging := by
    rw [hraised]
    split <;> rfl
  have bays : ∀ b, raised.bay b = t.bay b := fun b => by
    rw [hraised]
    split <;> rfl
  have status : raised.status = if j.fill + d.length = j.size then
      { t.status with pending := t.status.pending ||| (1#16 <<< 3) } else t.status := by
    rw [hraised]
    split <;> rfl
  have frame := State.storeSectors_frame t k j d
  rw [stores] at frame ⊢
  have same := State.feedImage_frame raised k
  have fed := State.feedImage_feeds raised k
  generalize raised.feedImage k = u at frame same fed
  obtain ⟨-, -, -, sameStaging, -, -, -, -, -, sameStatus, -, -, sameNow, -⟩ := same
  have image : ∀ x, u.image x = (t.setImage k (some (j.stored t.segSectors d))).image x := fun x => by
    rw [State.image, sameStaging, staging]
    rfl
  refine ⟨(image k).trans (State.setImage_image ..), fun x hx => (image x).trans (State.setImage_image_ne t _ hx),
    ?segments, ?entries, sameStatus.trans status, fun b hb => ((fed b).1 (bays b ▸ hb)).trans (bays b), fun b hb => ?feeds, ?frame⟩
  case segments =>
    rw [sameStaging, staging]
    rfl
  case entries =>
    rw [sameStaging, staging]
    rfl
  case feeds => exact State.feeds_of_eq sameStaging.symm sameNow.symm (bays b ▸ (fed b).2 (bays b ▸ hb))
  case frame =>
    rw [State.changesOnly_iff]
    simp [frame]

end Sys2Proof.Machine
end

/-! # Proofs: IMAGE DATA into a window that covers it (R32 to R36, R44) -/

section

namespace Sys2Proof.Machine

variable {s : State} {k : ImageId} {i : Image}

/-- A RESIDENT image, and a window that covers the request, need no segment (R35). -/
theorem State.findSegment_covered {count : Nat}
    (covered : i.residency = .resident ∨ i.fill + count ≤ i.base + i.window.length * s.segSectors) :
    s.findSegment k i count = some s := by
  have needs : s.needsSegment i count = false := by
    rcases covered with resident | covered
    · simp [State.needsSegment, Image.streaming, resident]
    · simp [State.needsSegment, Nat.not_lt.2 covered]
  rw [State.findSegment, needs]
  rfl

/-- The window after a request that its segment, or its segment and the next, have room for (R30). -/
theorem fillWindow_atFill {seg : Nat} {before after window : List Segment} {p : Segment} {d : List Sector}
    (full : ∀ w ∈ before, w.length = seg)
    (fits : (d.length ≤ seg - p.length ∧ window = before ++ (p ++ d) :: after) ∨
      (seg - p.length < d.length ∧ ∃ q rest, after = q :: rest ∧ q.length + (d.length - (seg - p.length)) ≤ seg ∧
        window = before ++ (p ++ d.take (seg - p.length)) :: (q ++ d.drop (seg - p.length)) :: rest)) :
    fillWindow seg (before ++ p :: after) d = window := by
  rw [fillWindow_full full]
  rcases fits with ⟨room, rfl⟩ | ⟨-, q, rest, rfl, room, rfl⟩
  · rw [fillWindow_fits room]
  · rw [fillWindow_spills room]

/-- Settles O26: the checks in their order, then what storing the sectors leaves. -/
theorem imageDataStoresItsSectors : Obligations.ImageDataStoresItsSectors := by
  refine ⟨fun s slot count o data => ⟨fun early => ?busy, fun ready bad => ?badField,
    fun k ready low high length closed => ?closed⟩, fun s k i count data ready hi low high length => ?open_⟩
  case busy => exact execImageData_refuses (State.imageDataCheck_busy _ _ _ _ early)
  case badField => exact execImageData_refuses (State.imageDataCheck_badField _ ready bad)
  case closed =>
    exact execImageData_refuses (by rw [State.imageDataCheck_inRange k _ ready low high length, closed]; rfl)
  case open_ =>
    have check := fun o => State.imageDataCheck_inRange k (count := count) o ready low high length
    rw [hi] at check
    refine ⟨fun other o => ?state, fun o filling skips => ?outOfOrder, fun o filling next beyond => ?beyond,
      fun o before after window p filling next within covered split full room fits => ?stores⟩
    case state => exact execImageData_refuses ((check _).trans (if_pos other))
    case outOfOrder =>
      exact execImageData_refuses ((check _).trans ((if_neg (by simp [filling])).trans (if_pos skips)))
    case beyond =>
      exact execImageData_refuses ((check _).trans ((if_neg (by simp [filling])).trans
        ((if_neg (by simp [next])).trans (if_pos (next ▸ beyond)))))
    case stores =>
      have ok := State.imageDataCheck_ok ready hi low high length filling next within
      have stores := execImageData_stores ok (State.findSegment_covered covered) hi
      have count_ : (sectorsOf count.toNat data).length = count.toNat := sectorsOf_length ..
      obtain ⟨slot, others, segments, entries, status, rests, feeds, frame⟩ :=
        (s.storeSectors_stores k i (sectorsOf count.toNat data)).watched s
      rw [Image.stored_eq, Image.takeSectors_eq, count_] at slot
      rw [count_] at status
      refine ⟨_, _, _, _, stores, rfl, slot, rfl, rfl, rfl, rfl, rfl, rfl, rfl, ?window, ?finished, ?promoted, status,
        others, segments, entries, rests, feeds, ?frame⟩
      case window =>
        rw [split]
        exact fillWindow_atFill full (by rw [count_]; exact fits)
      case finished => simp [filling]
      case promoted => simp [filling]
      case frame =>
        rw [State.changesOnly_iff] at frame ⊢
        simp

/-! ## The digests (R32, R33) -/

/-- A present digest stays; an absent one is stored (R33). -/
theorem placeDigest_eq_ite (l : List (Option (BitVec 32))) (c : Nat) (d : BitVec 32) :
    placeDigest l c d = if l.getD c none = none then l.set c (some d) else l := by
  unfold placeDigest
  cases l.getD c none <;> rfl

/-- The digest over gathered bytes and further ones, from the register after the gathered ones (R32). -/
theorem digestOf_append {acc : BitVec 32} {gathered : List Byte} (h : ~~~ acc = digestOf gathered) (data : List Byte) :
    ~~~ crcBytes32 acc data = digestOf (gathered ++ data) := by
  have register : acc = crcBytes32 crcInit32 gathered := by
    rw [← BitVec.not_not (b := acc), h, digestOf, BitVec.not_not]
  rw [digestOf, crcBytes32_append, register]

theorem crcBytes32_eq_not_digestOf {acc : BitVec 32} {gathered : List Byte} (h : ~~~ acc = digestOf gathered)
    (data : List Byte) : crcBytes32 acc data = ~~~ digestOf (gathered ++ data) := by
  rw [← digestOf_append h, BitVec.not_not]

/-- Sectors up to the end of a chunk, and further ones: those go on from the record that the first leave (R33). -/
theorem Image.takeSectors_twoChunks (n m : Nat) (i : Image) (data : List Byte) (hn : n ≠ 0)
    (hd : data.length = (n + m) * 2048) (h : i.fill + n = i.chunkEnd) :
    let d := ~~~ crcBytes32 i.acc (data.take (n * 2048))
    let b := digestDiffers i.digests (i.fill / 32) d
    let j : Image := { i with
      fill := i.fill + n, acc := crcInit32, digests := placeDigest i.digests (i.fill / 32) d
      differing := if b then satInc Config.max16 i.differing else i.differing }
    let more := sectorsOf m (data.drop (n * 2048))
    i.takeSectors (sectorsOf (n + m) data) = j.takeSectors more ∧
      i.firstDiffering (sectorsOf (n + m) data) = if b then some (i.fill / 32) else j.firstDiffering more := by
  intro d b j more
  obtain ⟨taken, first⟩ := Image.takeSectors_ends n i (data.take (n * 2048)) hn (by rw [List.length_take]; omega) h
  have split : sectorsOf (n + m) data = sectorsOf n (data.take (n * 2048)) ++ more := by
    rw [sectorsOf_append]
    exact congrArg (· ++ more) (sectorsOf_take n data).symm
  constructor
  · rw [split, Image.takeSectors, List.foldl_append]
    exact congrArg (fun x : Image => x.takeSectors more) taken
  · by_cases differs : b = true
    · rw [if_pos differs, split, Image.firstDiffering_append, first, if_pos differs]
    · rw [if_neg differs, split, Image.firstDiffering_append, first, if_neg differs]
      exact congrArg (fun x : Image => x.firstDiffering more) taken

/-- What IMAGE DATA leaves of a slot's digests, from what taking its sectors makes of them. -/
theorem execImageData_digests {count : Byte} {o : BitVec 32} {data : List Byte} {acc : BitVec 32}
    {l : List (Option (BitVec 32))} {n : Nat} {first : Option Nat} (hi : s.image k = some i)
    (ok : s.imageDataCheck (BitVec.ofNat 8 k.val) count o.toNat data = .ok (k, i))
    (covered : i.residency = .resident ∨ i.fill + count.toNat ≤ i.base + i.window.length * s.segSectors)
    (taken : i.takeSectors (sectorsOf count.toNat data) =
      { i with fill := i.fill + count.toNat, acc := acc, digests := l, differing := n })
    (differs : i.firstDiffering (sectorsOf count.toNat data) = first) :
    ∃ (u : State) (j : Image),
      exec (.imageData (BitVec.ofNat 8 k.val) count o data) s =
        .next (u.answer 0x31 (if first = none then .ok else .digestDiffers) (.imageData (i.fill + count.toNat) first)) ∧
      u.image k = some j ∧ j.acc = acc ∧ j.digests = l ∧ j.differing = n := by
  have stores := execImageData_stores ok (State.findSegment_covered covered) hi
  have slot := ((s.storeSectors_stores k i (sectorsOf count.toNat data)).watched s).slot
  rw [Image.stored_eq, taken] at slot
  rw [differs] at stores
  exact ⟨_, _, stores, slot, rfl, rfl, rfl⟩

/-- Settles O27: the request ends inside its chunk, ends it, or goes on into the next. -/
theorem imageDataFormsAndComparesDigests : Obligations.ImageDataFormsAndComparesDigests := by
  refine ⟨by decide +kernel, fun s k i count gathered data o ready hi low high length filling next within covered register => ?_⟩
  intro fill chunk last differs placed counted gives
  have ok := State.imageDataCheck_ok ready hi low high length filling next within
  have given := fun {acc l n first} => execImageData_digests (acc := acc) (l := l) (n := n) (first := first) hi ok covered
  have placed_eq : placed = placeDigest := by
    funext l c d
    exact (placeDigest_eq_ite l c d).symm
  have differs_eq : differs = digestDiffers := rfl
  clear_value placed differs
  subst placed_eq differs_eq
  have some_ : count.toNat ≠ 0 := by omega
  refine ⟨fun inside => ?inside, fun ends => ?ends, fun goesOn => ?goesOn⟩
  case inside =>
    obtain ⟨taken, none_⟩ := Image.takeSectors_inside count.toNat i data length inside
    rw [crcBytes32_eq_not_digestOf register] at taken
    exact given taken none_
  case ends =>
    obtain ⟨taken, first⟩ := Image.takeSectors_ends count.toNat i data some_ length ends
    rw [digestOf_append register] at taken first
    exact given taken first
  case goesOn =>
    intro own d b l rest again
    have ends : i.fill + (last - i.fill) = i.chunkEnd := by
      show _ = min (32 * (i.fill / 32 + 1)) i.size
      omega
    have split : (last - i.fill) + (fill - last) = count.toNat := by omega
    obtain ⟨taken, first⟩ := Image.takeSectors_twoChunks (last - i.fill) (fill - last) i data (by omega) (by rw [split, length]) ends
    rw [split, digestOf_append register] at taken first
    let j : Image := { i with
      fill := i.fill + (last - i.fill), acc := crcInit32, digests := placeDigest i.digests (i.fill / 32) d
      differing := if digestDiffers i.digests (i.fill / 32) d then satInc Config.max16 i.differing else i.differing }
    have rest_length : (data.drop own).length = (fill - last) * 2048 := by
      rw [List.length_drop]
      omega
    have fill_eq : j.fill + (fill - last) = fill := by
      show i.fill + (last - i.fill) + (fill - last) = fill
      omega
    have nextChunk : j.fill / 32 = chunk + 1 := by
      show (i.fill + (last - i.fill)) / 32 = chunk + 1
      omega
    have chunkEnd : j.chunkEnd = min (32 * (chunk + 2)) i.size := by rw [Image.chunkEnd, nextChunk]
    have register_ : crcBytes32 j.acc (data.drop own) = ~~~ rest := BitVec.not_not.symm
    refine ⟨fun short => ?short, ?whole⟩
    case short =>
      obtain ⟨more, none_⟩ := Image.takeSectors_inside (fill - last) j (data.drop own) rest_length
        (by rw [fill_eq, chunkEnd]; omega)
      rw [fill_eq, register_] at more
      exact given (taken.trans more) (first.trans (congrArg _ none_))
    case whole =>
      intro first_ whole
      obtain ⟨more, again_⟩ := Image.takeSectors_ends (fill - last) j (data.drop own) (by omega) rest_length
        (by rw [fill_eq, chunkEnd]; omega)
      rw [fill_eq, nextChunk] at more
      rw [nextChunk] at again_
      have first_eq : first_ = if b then some chunk else if again then some (chunk + 1) else none := by
        simp only [first_, cond_eq_ite]
      exact given (taken.trans more) ((first.trans (congrArg _ again_)).trans first_eq.symm)

end Sys2Proof.Machine
end

/-! # Proofs: IMAGE DATA that needs a segment (R35, R39 to R43, log 36, log 37) -/

section

namespace Sys2Proof.Machine

variable {s t v : State} {k : ImageId} {i h : Image} {cap : Nat} {closed : Bool}

/-! ## The sectors are stored once the segment is found (R35, R36) -/

/-- IMAGE DATA stores its sectors in what the search for a segment has left. -/
theorem execImageData_storesSectors {count : Byte} {o : BitVec 32} {data : List Byte}
    (ok : s.imageDataCheck (BitVec.ofNat 8 k.val) count o.toNat data = .ok (k, i))
    (found : s.findSegment k i count.toNat = some v) (hv : v.image k = some h) :
    ∃ (u : State) (result : Result) (reply : ReplyData),
      exec (.imageData (BitVec.ofNat 8 k.val) count o data) s = .next (u.answer 0x31 result reply) ∧
        v.storesSectors u k h (sectorsOf count.toNat data) :=
  ⟨_, _, _, execImageData_stores ok found hv, (v.storeSectors_stores k h _).watched s⟩

/-- The bays of the slot make the feed test, and the others stand (R36, R59). -/
theorem State.storesSectors.fed {u : State} {d : List Sector} (stores : v.storesSectors u k h d) (bays : v.bays = s.bays)
    (b : BayId) : ((s.bay b).imageSlot ≠ some k → u.bay b = s.bay b) ∧
      ((s.bay b).imageSlot = some k → u.feeds (s.bay b) (u.bay b)) := by
  have same : v.bay b = s.bay b := State.bay_of_bays bays b
  exact ⟨fun other => (stores.rests b (same ▸ other)).trans same, fun own => same ▸ stores.feeds b (same ▸ own)⟩

theorem State.findSegment_bays {n : Nat} (found : s.findSegment k i n = some v) : v.bays = s.bays := by
  simp [State.findSegment_frame s k i n found]

theorem State.findSegment_segSectors {n : Nat} (hi : s.image k = some i) (found : s.findSegment k i n = some v) :
    v.segSectors = s.segSectors :=
  State.segSectors_of_totals (State.findSegment_totals hi found)

/-- Head releases came first, or the pass has ended: the sectors are stored all the same (log 37). -/
theorem execImageData_storesAfter {count : Byte} {o : BitVec 32} {data : List Byte} {a : Image} (hi : s.image k = some i)
    (ok : s.imageDataCheck (BitVec.ofNat 8 k.val) count o.toNat data = .ok (k, i))
    (found : s.findSegment k i count.toNat = some v) (ha : t.image k = some a) (fill : a.fill = i.fill)
    (size : a.size = i.size) (filling : a.state = .filling) (released : t.releasesTo v) :
    ∃ (u : State) (h : Image), v.image k = some h ∧ ∃ (j : Image) (result : Result) (reply : ReplyData),
      exec (.imageData (BitVec.ofNat 8 k.val) count o data) s = .next (u.answer 0x31 result reply) ∧
      u.image k = some j ∧ j.fill = i.fill + count.toNat ∧ j.base = h.base ∧ j.gate = h.gate ∧
      j.window = fillWindow s.segSectors h.window (sectorsOf count.toNat data) ∧
      j.state = (if h.state = .awaitRewind then .awaitRewind
        else if i.fill + count.toNat = i.size then .complete else .filling) ∧
      u.status = { v.status with pending :=
        if i.fill + count.toNat = i.size then v.status.pending ||| (1#16 <<< 3) else v.status.pending } ∧
      u.staging.freeSegments = v.staging.freeSegments ∧ (∀ x, x ≠ k → u.image x = v.image x) ∧
      ∀ b, ((s.bay b).imageSlot ≠ some k → u.bay b = s.bay b) ∧
        ((s.bay b).imageSlot = some k → u.feeds (s.bay b) (u.bay b)) := by
  obtain ⟨h, hv, ah⟩ := released.after ha
  obtain ⟨sameFill, sameSize, -⟩ := ah.keeps
  have hfill : h.fill = i.fill := sameFill.trans fill
  have hsize : h.size = i.size := sameSize.trans size
  have hstate : h.state = .filling ∨ h.state = .awaitRewind := ah.state.imp_left fun same => same.trans filling
  obtain ⟨u, result, reply, runs, stores⟩ := execImageData_storesSectors ok found hv
  have slot := stores.slot
  have status := stores.status
  rw [Image.stored_eq, Image.takeSectors_eq, sectorsOf_length, hfill, hsize,
    State.findSegment_segSectors hi found] at slot
  rw [sectorsOf_length, hfill, hsize] at status
  refine ⟨u, h, hv, _, result, reply, runs, slot, rfl, rfl, rfl, rfl, ?state, ?status, stores.segments, stores.others,
    stores.fed (State.findSegment_bays found)⟩
  case state => rcases hstate with waits | waits <;> simp [waits]
  case status =>
    rw [status]
    split <;> rfl

/-! ## A segment is taken from the pool (R35 case 1) -/

theorem State.needsSegment_of_short {count : Nat} (streams : i.residency = .streaming cap closed)
    (short : i.base + i.window.length * s.segSectors < i.fill + count) : s.needsSegment i count = true := by
  simp [State.needsSegment, Image.streaming, streams, short]

theorem State.findSegment_grows {count : Nat} (needs : s.needsSegment i count = true)
    (streams : i.residency = .streaming cap closed) (below : i.window.length < cap) (free : 0 < s.staging.freeSegments) :
    s.findSegment k i count = some (s.growWindow k i) := by
  unfold State.findSegment
  rw [if_pos needs, if_pos]
  simp [Image.atCap, streams, below, free]

/-- The state in which a segment has left the pool and joined the window. -/
def State.grown (s : State) (k : ImageId) (i : Image) : State :=
  { s with staging := { s.staging with
      freeSegments := s.staging.freeSegments - 1
      slots := s.staging.slots.set k.val (some { i with window := i.window ++ [[]] }) } }

theorem State.grown_image (s : State) (k : ImageId) (i : Image) :
    (s.grown k i).image k = some { i with window := i.window ++ [[]] } :=
  State.setImage_image ..

theorem State.grown_image_ne {x : ImageId} (other : x ≠ k) : (s.grown k i).image x = s.image x :=
  State.setImage_image_ne _ _ other

theorem State.growWindow_empties (last : s.staging.freeSegments = 1) :
    s.growWindow k i = (s.grown k i).poolEmptied := by
  have gone : (s.grown k i).staging.freeSegments = 0 := Nat.sub_eq_zero_of_le (Nat.le_of_eq last)
  exact if_pos gone

theorem State.growWindow_evaluates (left : 1 < s.staging.freeSegments) (streams : i.residency = .streaming cap closed)
    (full : cap = i.window.length + 1) : s.growWindow k i = (s.grown k i).releaseEvaluation k := by
  have some_ : ¬ s.staging.freeSegments - 1 = 0 := by omega
  exact (if_neg some_).trans (if_pos (by simp [Image.atCap, streams, full]))

theorem State.growWindow_plain (left : 1 < s.staging.freeSegments) (streams : i.residency = .streaming cap closed)
    (below : i.window.length + 1 < cap) : s.growWindow k i = s.grown k i := by
  have some_ : ¬ s.staging.freeSegments - 1 = 0 := by omega
  exact (if_neg some_).trans (if_neg (by simp [Image.atCap, streams]; omega))

/-- Without consumers no head goes (R39). -/
theorem State.headsGo_alone {cursor : BayId → Nat} (alone : i.consumers = []) : s.headsGo cursor i cap closed 0 :=
  ⟨nofun, fun goes => goes.1 alone⟩

/-- No head goes: nothing has changed. -/
theorem State.headsReleased_none (hi : s.image k = some i) : s.headsReleased s k i 0 :=
  ⟨by simpa using hi, rfl, fun _ _ => rfl, fun none_ => absurd rfl none_, fun _ => rfl⟩

/-! ## A head passes to the tail (R35 case 2), or STAGE_FULL -/

/-- The window is at its cap, or the pool is empty: no segment can be taken (R35). -/
theorem State.findSegment_turnsOr {count : Nat} (needs : s.needsSegment i count = true)
    (streams : i.residency = .streaming cap closed) (none_ : cap ≤ i.window.length ∨ s.staging.freeSegments = 0) :
    s.findSegment k i count = if s.headReleasable i then some (s.turnWindow k i) else none := by
  unfold State.findSegment
  rw [if_pos needs, if_neg]
  simp [Image.atCap, streams]
  omega

theorem State.headReleasable_of_passed (streams : i.residency = .streaming cap closed)
    (none_ : cap ≤ i.window.length ∨ s.staging.freeSegments = 0) (some_ : i.window ≠ []) (consumed : i.consumers ≠ [])
    (passed : ∀ b ∈ i.consumers, i.base + s.segSectors ≤ (s.bay b).cursor.getD 0) : s.headReleasable i = true := by
  refine (State.headReleasable_iff streams consumed).2 ⟨consumed, List.length_pos_iff.2 some_, fun b hb => ?_, .inr ?_⟩
  · rw [Nat.zero_add, Nat.one_mul]
    exact passed b hb
  · exact none_

theorem State.headReleasable_of_closed (streams : i.residency = .streaming cap true) (some_ : i.window ≠ [])
    (alone : i.consumers = []) : s.headReleasable i = true := by
  simp [State.headReleasable, State.headPassed, Image.streaming, Image.passClosed, streams, some_, alone]

theorem State.headReleasable_stays (streams : i.residency = .streaming cap closed)
    (stays : i.window = [] ∨ (i.consumers = [] ∧ closed = false) ∨
      (∃ b ∈ i.consumers, (s.bay b).cursor.getD 0 < i.base + s.segSectors)) : s.headReleasable i = false := by
  rcases stays with empty | ⟨alone, still⟩ | ⟨b, hb, behind⟩
  · simp [State.headReleasable, empty]
  · simp [State.headReleasable, State.headPassed, Image.passClosed, streams, alone, still]
  · have consumed : i.consumers ≠ [] := List.ne_nil_of_mem hb
    refine Bool.not_eq_true _ ▸ fun goes => ?_
    have passed := ((State.headReleasable_iff streams consumed).1 goes).2.2.1 b hb
    rw [Nat.zero_add, Nat.one_mul] at passed
    exact absurd passed (Nat.not_le.2 behind)

/-! ## The statement -/

/-- Settles O28: by the case of R35 that the pool, the cap and the consumers decide. -/
theorem imageDataFindsItsSegment : Obligations.ImageDataFindsItsSegment := by
  intro s k i count data o cap closed ready hi low high length filling next within streams short fed
  have ok := State.imageDataCheck_ok ready hi low high length filling next within
  have needs := State.needsSegment_of_short (count := count.toNat) streams short
  have grows := fun below free => State.findSegment_grows (k := k) needs streams below free
  have turns := fun none_ => State.findSegment_turnsOr (k := k) needs streams none_
  have segments : 0 < s.segSectors := by
    unfold State.segSectors Config.segmentSectors
    split <;> decide
  refine ⟨fun below left => ?plain, ?_⟩
  case plain =>
    have found := grows (by omega) (by omega)
    rw [State.growWindow_plain left streams below] at found
    obtain ⟨u, result, reply, runs, stores⟩ := execImageData_storesSectors ok found (s.grown_image k i)
    have slot := stores.slot
    rw [Image.stored_eq, Image.takeSectors_eq, sectorsOf_length] at slot
    refine ⟨u, _, result, reply, runs, slot, ?longer, rfl, rfl, rfl, stores.segments,
      fun m hm => (stores.others m hm).trans (State.grown_image_ne hm), stores.fed rfl⟩
    case longer =>
      rw [fillWindow_length]
      simp
  intro staged stores
  have storesAfter := fun {t v : State} {a : Image} found => execImageData_storesAfter (t := t) (v := v) (a := a) hi ok found
  refine ⟨fun below => ?grow, fun head rest none_ split => ?turn, fun none_ stays => ?full⟩
  case grow =>
    intro grown t
    have image : t.image k = some grown := s.grown_image k i
    refine ⟨fun full left goes => ?heads, fun full left alone close => ?ended, fun last => ?emptied⟩
    case heads =>
      have found := grows below (by omega)
      rw [State.growWindow_evaluates left streams full] at found
      obtain ⟨u, h, hv, stored⟩ := storesAfter found image rfl rfl filling (t.releaseEvaluation_releasesTo k)
      by_cases alone : i.consumers = []
      · have still : closed = false := goes.resolve_left (not_not_intro alone)
        have same : t.releaseEvaluation k = t := (t.releaseEvaluation_evaluates k).stays fun j hj => by
          obtain rfl := Option.some.inj (image.symm.trans hj)
          exact .inr (.inr ⟨alone, cap, still ▸ streams⟩)
        exact ⟨0, _, u, h, State.headsGo_alone alone, same.symm ▸ State.headsReleased_none image, hv, stored⟩
      · obtain ⟨m, heads, released⟩ := State.releaseEvaluation_spec image streams alone
        exact ⟨m, _, u, h, heads, released, hv, stored⟩
    case ended =>
      have found := grows below (by omega)
      rw [State.growWindow_evaluates left streams full] at found
      obtain ⟨u, h, hv, stored⟩ := storesAfter found image rfl rfl filling (t.releaseEvaluation_releasesTo k)
      have ends := (t.releaseEvaluation_evaluates k).ends grown cap image (close ▸ streams) alone (by simp [grown])
        (by simp [grown, filling])
      exact ⟨_, u, h, ends, hv, stored⟩
    case emptied =>
      have found := grows below (by omega)
      rw [State.growWindow_empties last] at found
      obtain ⟨u, h, hv, stored⟩ := storesAfter found image rfl rfl filling t.poolEmptied_releasesTo
      exact ⟨_, u, h, t.poolEmptied_poolGone, hv, stored⟩
  case turn =>
    have some_ : i.window ≠ [] := by simp [split]
    have found := turns none_
    refine ⟨fun consumed passed => ?passes, fun alone close => ?ends⟩
    case passes =>
      rw [if_pos (State.headReleasable_of_passed streams none_ some_ consumed passed),
        State.turnWindow_turns consumed] at found
      obtain ⟨u, result, reply, runs, stored⟩ := execImageData_storesSectors ok found (State.setImage_image ..)
      have slot := stored.slot
      have status := stored.status
      rw [Image.stored_eq, Image.takeSectors_eq, sectorsOf_length] at slot
      rw [sectorsOf_length] at status
      refine ⟨u, _, result, reply, runs, slot, rfl, rfl, rfl, ?window, ?residency, rfl, stored.segments,
        fun m hm => (stored.others m hm).trans (State.setImage_image_ne _ _ hm), stored.fed rfl, ?status⟩
      case window => rw [split]; rfl
      case residency => exact if_neg fun whole => by have := whole.2; dsimp only at this; omega
      case status =>
        rw [status]
        dsimp only [staged]
        split <;> rfl
    case ends =>
      rw [if_pos (State.headReleasable_of_closed (close ▸ streams) some_ alone)] at found
      obtain ⟨u, h, hv, stored⟩ := storesAfter found hi rfl rfl filling
        (State.turnWindow_releasesTo hi fun resident => nomatch streams.symm.trans resident)
      exact ⟨_, u, h, State.turnWindow_ends hi streams alone some_ (by simp [filling]), hv, stored⟩
  case full =>
    have found := turns none_
    rw [State.headReleasable_stays streams stays] at found
    exact execImageData_stageFull ok found

end Sys2Proof.Machine
end

/-! # Proofs: the reserve check, and the feed test after it (R59, R79 to R86) -/

section

namespace Sys2Proof.Machine

variable {s t u : State} {b : BayId} {r : Bay} {a : Burn} {lead : Nat}

/-! ## What the reserve check and the feed test touch -/

/-- From one state to the other, one bay's requests, allocation and stable count have changed, the Governor's sum, and of status RESERVE_LOW's bits: the other bays, the bay's cursor and buffer, and STAGE_SPACE stand. -/
structure State.feedsOnly (s t : State) (b : BayId) : Prop where
  others : ∀ m, m ≠ b → t.bay m = s.bay m
  cursor : (t.bay b).cursor = (s.bay b).cursor
  buffer : (t.bay b).buffer = (s.bay b).buffer
  stageSpace : t.status.pending.getLsbD 5 = s.status.pending.getLsbD 5

theorem State.feedsOnly.refl (s : State) (b : BayId) : s.feedsOnly s b := ⟨fun _ _ => rfl, rfl, rfl, rfl⟩

theorem State.feedsOnly.trans (h : s.feedsOnly t b) (g : t.feedsOnly u b) : s.feedsOnly u b :=
  ⟨fun m hm => (g.others m hm).trans (h.others m hm), g.cursor.trans h.cursor, g.buffer.trans h.buffer,
    g.stageSpace.trans h.stageSpace⟩

theorem State.feedsOnly_modBay (s : State) (b : BayId) {f : Bay → Bay}
    (keeps : ∀ r, (f r).cursor = r.cursor ∧ (f r).buffer = r.buffer) : s.feedsOnly (s.modBay b f) b :=
  ⟨fun _ hm => State.modBay_bay_ne s f hm, by rw [State.modBay_bay, (keeps _).1], by rw [State.modBay_bay, (keeps _).2], rfl⟩

theorem State.feedsOnly_issue (s : State) (b : BayId) (req : DriveReq) : s.feedsOnly (s.issue b req) b :=
  s.feedsOnly_modBay b fun _ => ⟨rfl, rfl⟩

theorem State.feedsOnly_setStable (s : State) (b : BayId) (n : Nat) : s.feedsOnly (s.setStable b n) b :=
  s.feedsOnly_modBay b fun _ => ⟨rfl, rfl⟩

theorem State.feedsOnly_feedTest (s : State) (b : BayId) : s.feedsOnly (s.feedTest b) b := by
  unfold State.feedTest
  dsimp only
  split
  · split
    · exact s.feedsOnly_issue b _
    · exact .refl s b
  · exact .refl s b

theorem State.feedsOnly_order (s : State) (b : BayId) (req : DriveReq) : s.feedsOnly (s.order b req) b := by
  unfold State.order
  split
  · exact s.feedsOnly_issue b req
  · exact s.feedsOnly_feedTest b

theorem State.feedsOnly_setReserveLow (s : State) (b : BayId) : s.feedsOnly s.setReserveLow b :=
  ⟨fun _ _ => rfl, rfl, rfl, State.raise_pending _ .reserveLow .stageSpace⟩

theorem State.feedsOnly_stepUpTest (s : State) (b : BayId) : s.feedsOnly (s.stepUpTest b) b := by
  unfold State.stepUpTest
  dsimp only
  split
  · exact .refl s b
  · next a _ =>
    split
    · split
      · have allocated : s.feedsOnly ((s.modBay b fun r =>
            { r with burn := some { a with rate := (s.bay b).rate (a.step + 1), stable := 0 } }).modGov fun g =>
              { g with sum := g.sum - a.rate + (s.bay b).rate (a.step + 1) }) b := by
          obtain ⟨others, cursor, buffer, stageSpace⟩ := s.feedsOnly_modBay b
            (f := fun r => { r with burn := some { a with rate := (s.bay b).rate (a.step + 1), stable := 0 } })
            fun _ => ⟨rfl, rfl⟩
          exact ⟨others, cursor, buffer, stageSpace⟩
        exact allocated.trans (State.feedsOnly_issue _ b _)
      · exact s.feedsOnly_feedTest b
    · exact .refl s b

theorem State.feedsOnly_burningCheck (s : State) (b : BayId) (a : Burn) (lead : Nat) :
    s.feedsOnly (s.burningCheck b a lead) b := by
  have low := s.feedsOnly_setReserveLow b
  have stable := fun (t : State) n => t.feedsOnly_setStable b n
  unfold State.burningCheck
  dsimp only
  split
  · have lowered := low.trans (stable _ 0)
    split
    · exact lowered
    · split
      · exact lowered.trans (State.feedsOnly_modBay _ b fun _ => ⟨rfl, rfl⟩)
      · exact lowered.trans (State.feedsOnly_feedTest _ b)
  · split
    · split
      · exact (low.trans (stable _ 0)).trans (State.feedsOnly_order _ b _)
      · exact (stable s 0).trans (State.feedsOnly_order _ b _)
    · split
      · exact low.trans (stable _ 0)
      · split
        · exact (stable s _).trans (State.feedsOnly_stepUpTest _ b)
        · exact stable s 0

theorem State.feedsOnly_reserveCheck (s : State) (b : BayId) : s.feedsOnly (s.reserveCheck b) b := by
  unfold State.reserveCheck
  split
  · split
    · exact s.feedsOnly_burningCheck b _ _
    · split
      · exact s.feedsOnly_order b _
      · exact .refl s b
  · exact .refl s b

/-! ## One bay's record after each (R49, R81, R82, R86) -/

/-- A port that is not free, and a bay that is not in BURNING, have no feed test (R59). -/
theorem State.feedTest_bay_of_rests (h : (u.bay b).state ≠ .burning ∨ (u.bay b).out ≠ none ∨ (u.bay b).susp ≠ none) :
    (u.feedTest b).bay b = u.bay b :=
  (u.feedTest_feeds b).rests (h.imp_right (.imp_right .inl))

/-- R59, read in the state after. -/
theorem State.feedTest_feeds_after (u : State) (b : BayId) :
    (u.feedTest b).feeds (u.bay b) ((u.feedTest b).bay b) :=
  State.feeds_of_eq (by simp) (by simp) (u.feedTest_feeds b)

theorem State.issue_bay (u : State) (b : BayId) (req : DriveReq) :
    (u.issue b req).bay b = (u.bay b).withRequest req (u.now + req.timeout) :=
  State.modBay_bay ..

theorem State.setStable_bay (alloc : (u.bay b).burn = some a) (n : Nat) :
    (u.setStable b n).bay b = { u.bay b with burn := some { a with stable := n } } := by
  simp [State.setStable, alloc]

/-- An order on a port with no WRITE outstanding, and the feed test after it: issued, or declined by the SUSPEND that is outstanding (R49, R86). -/
theorem State.order_feedTest_bay (req : DriveReq) (free : (u.bay b).out = none) :
    ((u.order b req).feedTest b).bay b =
      if (u.bay b).susp = none then (u.bay b).withRequest req (u.now + req.timeout) else u.bay b := by
  by_cases alone : (u.bay b).susp = none
  · have issues : u.order b req = u.issue b req := if_pos (by simp [Bay.portFree, free, alone])
    rw [issues, if_pos alone, State.feedTest_bay_of_rests, State.issue_bay]
    rw [State.issue_bay]
    exact .inr (.inl nofun)
  · have declines : u.order b req = u.feedTest b := if_neg (by simp [Bay.portFree, alone])
    have stays : (u.feedTest b).bay b = u.bay b := State.feedTest_bay_of_rests (.inr (.inr alone))
    rw [declines, if_neg alone, State.feedTest_bay_of_rests (stays.symm ▸ .inr (.inr alone)), stays]

/-- RESERVE_LOW is true, and its event pending (R81, R180). -/
def State.reservesLow (s : State) : Prop := s.cond .reserveLow = true ∧ s.status.pending.getLsbD 6 = true

theorem State.setReserveLow_reservesLow (u : State) : u.setReserveLow.reservesLow :=
  ⟨by simp [State.setReserveLow], State.raise_pending _ .reserveLow .reserveLow⟩

theorem State.reservesLow_of_status (h : t.status = u.setReserveLow.status) : t.reservesLow := by
  obtain ⟨low, raised⟩ := u.setReserveLow_reservesLow
  exact ⟨by rw [State.cond, h]; exact low, h ▸ raised⟩

/-! ## The cases of the reserve check of a bay that burns (R81 to R84) -/

/-- From the recovery level on the check counts as a stable one, and the step may go up (R84). -/
theorem State.burningCheck_recovered (order : u.settingNat 3 < u.settingNat 4) (order' : u.settingNat 4 < u.settingNat 5)
    (above : u.settingNat 5 ≤ lead) :
    u.burningCheck b a lead = (u.setStable b (satInc Config.max16 a.stable)).stepUpTest b :=
  (if_neg fun h => absurd (h.1.trans (order.trans order')) (Nat.not_lt.2 above)).trans
    ((if_neg fun h => absurd (h.1.trans order') (Nat.not_lt.2 above)).trans
      ((if_neg (Nat.not_lt.2 (order'.le.trans above))).trans (if_pos above)))

section

variable (hr : u.bay b = r) (free : r.out = none) (alloc : r.burn = some a)

include hr free alloc

/-- Below the critical level a drive that can be suspended is (R81). -/
theorem State.burningCheck_suspends (critical : lead < u.settingNat 3) (can : r.suspends = true) :
    let v := (u.burningCheck b a lead).feedTest b
    let x := { r with burn := some { a with stable := 0 } }
    v.governor = u.governor ∧ v.reservesLow ∧ (r.susp ≠ none → v.bay b = x) ∧
      (r.susp = none → v.bay b = { x with
        requestNumber := r.requestNumber + 1
        susp := some { number := r.requestNumber + 1, deadline := u.now + 2000 } }) := by
  subst hr
  intro v x
  let w := u.setReserveLow.setStable b 0
  have wbay : w.bay b = x := State.setStable_bay (u := u.setReserveLow) alloc 0
  have check : u.burningCheck b a lead = if (w.bay b).susp.isSome then w
      else if (w.bay b).canSuspend then w.issueSuspend b else w.feedTest b :=
    if_pos ⟨critical, can⟩
  by_cases alone : (u.bay b).susp = none
  · have suspends : u.burningCheck b a lead = w.issueSuspend b := by
      rw [check, wbay, if_neg (by simp [x, alone]), if_pos (by simp [x, Bay.canSuspend, alone, free])]
    have after : (w.issueSuspend b).bay b = { x with
        requestNumber := (u.bay b).requestNumber + 1
        susp := some { number := (u.bay b).requestNumber + 1, deadline := w.now + 2000 } } := by
      rw [State.issueSuspend, State.modBay_bay, wbay]
      rfl
    refine ⟨by simp [v, suspends, w], State.reservesLow_of_status (u := u) (by simp [v, suspends, w]),
      fun busy => absurd alone busy, fun _ => ?_⟩
    show ((u.burningCheck b a lead).feedTest b).bay b = _
    rw [suspends, State.feedTest_bay_of_rests (by rw [after]; exact .inr (.inr nofun)), after]
    simp [w]
  · have stays : u.burningCheck b a lead = w := by
      rw [check, wbay]
      exact if_pos (Option.isSome_iff_ne_none.2 alone)
    refine ⟨by simp [v, stays, w], State.reservesLow_of_status (u := u) (by simp [v, stays, w]), fun _ => ?_,
      fun none_ => absurd none_ alone⟩
    show ((u.burningCheck b a lead).feedTest b).bay b = _
    rw [stays, State.feedTest_bay_of_rests (by rw [wbay]; exact .inr (.inr alone)), wbay]

/-- Below the low level the step goes down (R82). -/
theorem State.burningCheck_stepsDown (below : lead < u.settingNat 4)
    (not_ : ¬ (lead < u.settingNat 3 ∧ r.suspends = true)) (higher : 0 < a.step) :
    let v := (u.burningCheck b a lead).feedTest b
    let x := { r with burn := some { a with stable := 0 } }
    v.governor = u.governor ∧ (lead < u.settingNat 3 → v.reservesLow) ∧
      v.bay b = if r.susp = none then x.withRequest (.speed (a.step - 1)) (u.now + 2000) else x := by
  subst hr
  intro v x
  let w := if lead < u.settingNat 3 then u.setReserveLow else u
  have wu : w.governor = u.governor ∧ w.now = u.now ∧ w.bay b = u.bay b := by
    unfold w
    split <;> exact ⟨rfl, rfl, rfl⟩
  have check : u.burningCheck b a lead = (w.setStable b 0).order b (.speed (a.step - 1)) :=
    (if_neg not_).trans (if_pos ⟨below, higher⟩)
  have wbay : (w.setStable b 0).bay b = x := by
    rw [State.setStable_bay (wu.2.2 ▸ alloc), wu.2.2]
  refine ⟨by simp [v, check, wu], fun critical => ?low, ?bay⟩
  case low =>
    refine State.reservesLow_of_status (u := u) ?_
    simp [v, check, w, critical]
  case bay =>
    show ((u.burningCheck b a lead).feedTest b).bay b = _
    rw [check, State.order_feedTest_bay _ (by rw [wbay]; exact free), wbay]
    simp [wu, x, DriveReq.timeout]

/-- Below the low level at the lowest step nothing is left to do but to say so (R82). -/
theorem State.burningCheck_lowest (below : lead < u.settingNat 4)
    (not_ : ¬ (lead < u.settingNat 3 ∧ r.suspends = true)) (lowest : a.step = 0) :
    let v := (u.burningCheck b a lead).feedTest b
    v.governor = u.governor ∧ v.reservesLow ∧ v.feeds { r with burn := some { a with stable := 0 } } (v.bay b) := by
  subst hr
  intro v
  have check : u.burningCheck b a lead = u.setReserveLow.setStable b 0 :=
    (if_neg not_).trans ((if_neg (by simp [lowest])).trans (if_pos below))
  have after := (u.burningCheck b a lead).feedTest_feeds_after b
  rw [check, State.setStable_bay (u := u.setReserveLow) alloc] at after
  refine ⟨by simp [v, check], State.reservesLow_of_status (u := u) (by simp [v, check]), ?_⟩
  show ((u.burningCheck b a lead).feedTest b).feeds _ (((u.burningCheck b a lead).feedTest b).bay b)
  rw [check]
  exact after

/-- Between the low and the recovery level the count starts again (R83). -/
theorem State.burningCheck_between (order : u.settingNat 3 < u.settingNat 4) (above : u.settingNat 4 ≤ lead)
    (below : lead < u.settingNat 5) :
    let v := (u.burningCheck b a lead).feedTest b
    v.governor = u.governor ∧ v.feeds { r with burn := some { a with stable := 0 } } (v.bay b) := by
  subst hr
  intro v
  have check : u.burningCheck b a lead = u.setStable b 0 :=
    (if_neg fun h => absurd (h.1.trans order) (Nat.not_lt.2 above)).trans ((if_neg fun h => absurd h.1 (Nat.not_lt.2 above)).trans
      ((if_neg (Nat.not_lt.2 above)).trans (if_neg (Nat.not_le.2 below))))
  have after := (u.burningCheck b a lead).feedTest_feeds_after b
  rw [check, State.setStable_bay alloc] at after
  refine ⟨by simp [v, check], ?_⟩
  show ((u.burningCheck b a lead).feedTest b).feeds _ (((u.burningCheck b a lead).feedTest b).bay b)
  rw [check]
  exact after

omit free in
/-- A step-up that R84 does not allow. -/
theorem State.stepUpTest_stays (not_ : ¬ (u.settingNat 6 ≤ a.stable ∧ a.step < r.lastStep ∧ u.governor.queue = [] ∧
    u.governor.sum - a.rate + r.rate (a.step + 1) ≤ u.settingNat 2)) : u.stepUpTest b = u := by
  subst hr
  unfold State.stepUpTest
  dsimp only
  rw [alloc]
  exact if_neg not_

/-- A step-up that R84 allows: issued on a free port, its allocation taken, or declined by the SUSPEND that is outstanding (R84, R86). -/
theorem State.stepUpTest_steps (steps : u.settingNat 6 ≤ a.stable ∧ a.step < r.lastStep ∧ u.governor.queue = [] ∧
    u.governor.sum - a.rate + r.rate (a.step + 1) ≤ u.settingNat 2) :
    let v := (u.stepUpTest b).feedTest b
    (r.susp ≠ none → v.governor = u.governor ∧ v.bay b = r) ∧
      (r.susp = none → v.governor = { u.governor with sum := u.governor.sum - a.rate + r.rate (a.step + 1) } ∧
        v.bay b = { r with burn := some { a with rate := r.rate (a.step + 1), stable := 0 } }.withRequest
          (.speed (a.step + 1)) (u.now + 2000)) := by
  subst hr
  intro v
  let w := (u.modBay b fun x => { x with burn := some { a with rate := (u.bay b).rate (a.step + 1), stable := 0 } }).modGov
    fun g => { g with sum := g.sum - a.rate + (u.bay b).rate (a.step + 1) }
  have check : u.stepUpTest b = if (u.bay b).portFree then w.issue b (.speed (a.step + 1)) else u.feedTest b := by
    unfold State.stepUpTest
    dsimp only
    rw [alloc]
    exact if_pos steps
  refine ⟨fun busy => ?declined, fun alone => ?issued⟩
  case declined =>
    have declines : u.stepUpTest b = u.feedTest b := check.trans (if_neg (by simp [Bay.portFree, busy]))
    have stays : (u.feedTest b).bay b = u.bay b := State.feedTest_bay_of_rests (.inr (.inr busy))
    refine ⟨by simp [v, declines], ?_⟩
    show ((u.stepUpTest b).feedTest b).bay b = _
    rw [declines, State.feedTest_bay_of_rests (stays.symm ▸ .inr (.inr busy)), stays]
  case issued =>
    have issues : u.stepUpTest b = w.issue b (.speed (a.step + 1)) :=
      check.trans (if_pos (by simp [Bay.portFree, free, alone]))
    have wbay : w.bay b = { u.bay b with burn := some { a with rate := (u.bay b).rate (a.step + 1), stable := 0 } } :=
      (State.modGov_bay _ _ b).trans (State.modBay_bay ..)
    refine ⟨by simp [v, issues, w], ?_⟩
    show ((u.stepUpTest b).feedTest b).bay b = _
    rw [issues, State.feedTest_bay_of_rests (by rw [State.issue_bay]; exact .inr (.inl nofun)), State.issue_bay, wbay]
    rfl

/-- From the recovery level on: the count, and the step up where R84 allows it. -/
theorem State.burningCheck_recovers (order : u.settingNat 3 < u.settingNat 4) (order' : u.settingNat 4 < u.settingNat 5)
    (above : u.settingNat 5 ≤ lead) :
    let v := (u.burningCheck b a lead).feedTest b
    let up := r.rate (a.step + 1)
    let stable := if a.stable < 65535 then a.stable + 1 else 65535
    let steps := u.settingNat 6 ≤ stable ∧ a.step < r.lastStep ∧ u.governor.queue = [] ∧
      u.governor.sum - a.rate + up ≤ u.settingNat 2
    let x := { r with burn := some { a with stable } }
    (¬ steps → v.governor = u.governor ∧ v.feeds x (v.bay b)) ∧
      (steps → r.susp ≠ none → v.governor = u.governor ∧ v.bay b = x) ∧
      (steps → r.susp = none → v.governor = { u.governor with sum := u.governor.sum - a.rate + up } ∧
        v.bay b = { r with burn := some { a with rate := up, stable := 0 } }.withRequest (.speed (a.step + 1))
          (u.now + 2000)) := by
  intro v up stable steps x
  let w := u.setStable b stable
  have wbay : w.bay b = x := by
    rw [State.setStable_bay (hr ▸ alloc), hr]
  have wgovernor : w.governor = u.governor := by simp [w]
  have wnow : w.now = u.now := by simp [w]
  have check : u.burningCheck b a lead = w.stepUpTest b := State.burningCheck_recovered order order' above
  have may := State.stepUpTest_steps (u := w) (r := x) (a := { a with stable }) wbay free rfl
  refine ⟨fun not_ => ?stays, fun goes busy => ?declined, fun goes alone => ?issued⟩
  case stays =>
    have rests : u.burningCheck b a lead = w :=
      check.trans (State.stepUpTest_stays (r := x) (a := { a with stable }) wbay rfl (by rw [wgovernor]; exact not_))
    have after := w.feedTest_feeds_after b
    rw [wbay, ← rests] at after
    exact ⟨by simp [v, rests, w], after⟩
  case declined =>
    rw [← check, wgovernor] at may
    exact (may goes).1 busy
  case issued =>
    rw [← check, wgovernor, wnow] at may
    exact (may goes).2 alone

end

end Sys2Proof.Machine
end

/-! # Proofs: WRITE completions (R36, R40, R59 to R63, R66, R80 to R86) -/

section

namespace Sys2Proof.Machine

variable {s : State} {b : BayId} {o : Outstanding} {start count buffer c n : Nat} {data : List Byte} {k : ImageId}
  {i : Image} {a : Burn}

/-! ## The completion (R60, R63) -/

/-- WRITE OK of `count` sectors, at the bay's record. -/
def Bay.wrote (r : Bay) (c buffer : Nat) : Bay := { r with out := none, cursor := some c, buffer := some (min buffer 4096) }

/-- The bay's record is written, and the heads that may go have gone (R40, R60). -/
def State.wrote (s : State) (b : BayId) (k : ImageId) (c buffer : Nat) : State :=
  (s.modBay b (·.wrote c buffer)).releaseEvaluation k

theorem State.wrote_bay (s : State) (b : BayId) (k : ImageId) (c buffer : Nat) :
    (s.wrote b k c buffer).bay b = (s.bay b).wrote c buffer :=
  (State.bay_of_bays (State.releaseEvaluation_frame _ k).2.2.2.1 b).trans (State.modBay_bay ..)

theorem State.wrote_bay_ne {m : BayId} (h : m ≠ b) : (s.wrote b k c buffer).bay m = s.bay m :=
  (State.bay_of_bays (State.releaseEvaluation_frame _ k).2.2.2.1 m).trans (State.modBay_bay_ne s _ h)

theorem State.wrote_changesOnly : s.changesOnly [.staging, .bays, .status] (s.wrote b k c buffer) := by
  rw [State.changesOnly_iff]
  simp [State.wrote]

theorem State.wrote_releasesTo : s.releasesTo (s.wrote b k c buffer) :=
  (State.releasesTo_of_image (t := s.modBay b (·.wrote c buffer)) fun _ => rfl).trans
    (State.releaseEvaluation_releasesTo _ k)

theorem Bay.feeding_iff (r : Bay) : r.feeding = true ↔ r.state = .burning ∨ r.state = .suspended := by
  simp [Bay.feeding]

/-- WRITE OK: the last WRITE ends the burn, any other is followed by the reserve check and the feed test (R60, R61). -/
theorem execWriteComplete_ok (feeding : (s.bay b).state = .burning ∨ (s.bay b).state = .suspended)
    (out : (s.bay b).out = some o) (req : o.req = .write start count data) (cursor : (s.bay b).cursor = some c)
    (slot : (s.bay b).imageSlot = some k) (hi : s.image k = some i) :
    exec (.writeComplete b o.number .ok buffer) s = .next (s.watched
      (if c + count = i.size then (s.wrote b k (c + count) buffer).endBurn b
      else ((s.wrote b k (c + count) buffer).reserveCheck b).feedTest b)) := by
  have evaluated : (s.modBay b Bay.endOut).written b count buffer =
      if c + count = i.size then (s.wrote b k (c + count) buffer).endBurn b
      else ((s.wrote b k (c + count) buffer).reserveCheck b).feedTest b := by
    have record : (s.modBay b Bay.endOut).modBay b (fun r => { r with
        cursor := some (r.cursor.getD 0 + count), buffer := some (min buffer Config.maxDriveBuffer) }) =
        s.modBay b (·.wrote (c + count) buffer) := by
      simp [State.modBay, State.setBay, State.bay, Bay.endOut, Bay.wrote, Config.maxDriveBuffer,
        show s.bays[b.val].cursor = some c from cursor]
    obtain ⟨j, hj, ij⟩ := (State.wrote_releasesTo (s := s) (b := b) (k := k) (c := c + count) (buffer := buffer)).after hi
    have size : j.size = i.size := ij.keeps.2.1
    have bay := s.wrote_bay b k (c + count) buffer
    have ends : ((s.wrote b k (c + count) buffer).bay b).cursor =
        ((s.wrote b k (c + count) buffer).imageOf ((s.wrote b k (c + count) buffer).bay b)).map Image.size ↔
          c + count = i.size := by
      rw [bay]
      simp [Bay.wrote, State.imageOf, slot, hj, size]
    unfold State.written
    rw [record]
    dsimp only
    rw [State.modBay_bay, show ((s.bay b).wrote (c + count) buffer).imageSlot = some k from slot]
    exact if_congr ends rfl rfl
  simp only [exec, execWriteComplete, (s.bay b).feeding_iff.2 feeding, Bay.outMatching_own out, req, evaluated]

/-! ## Any WRITE but the last (R40, R60, R80) -/

/-- The state after a WRITE OK that is not the last one. -/
def State.wroteOn (s : State) (b : BayId) (k : ImageId) (c buffer : Nat) : State :=
  ((s.wrote b k c buffer).reserveCheck b).feedTest b

theorem State.wroteOn_feedsOnly : (s.wrote b k c buffer).feedsOnly (s.wroteOn b k c buffer) b :=
  (State.feedsOnly_reserveCheck _ b).trans (State.feedsOnly_feedTest _ b)

theorem State.wroteOn_staging : (s.wroteOn b k c buffer).staging = (s.wrote b k c buffer).staging := by
  simp [State.wroteOn]

theorem State.wroteOn_states : (s.wroteOn b k c buffer).bayStates = s.bayStates := by
  have recorded : (s.wrote b k c buffer).bayStates = s.bayStates :=
    (State.bayStates_of_bays (State.releaseEvaluation_frame _ k).2.2.2.1).trans (s.modBay_states b fun _ => rfl)
  simp [State.wroteOn, recorded]

theorem State.wroteOn_changesOnly :
    s.changesOnly [.staging, .bays, .governor, .status] (s.wroteOn b k c buffer) := by
  rw [State.changesOnly_iff]
  simp [State.wroteOn, State.wrote]

theorem State.changesOnly.weaken {l l' : List Part} {t : State} (h : s.changesOnly l t) (sub : ∀ p ∈ l, p ∈ l') :
    s.changesOnly l' t :=
  fun p hp => h p fun hl => hp (sub p hl)

/-- No slot opens up, and no bay becomes EMPTY (R19). -/
theorem State.wroteOn_quiet : s.quiet (s.wroteOn b k c buffer) := by
  refine State.quiet_of_images (fun x j l hj hl => ?_) (State.emptied_of_states State.wroteOn_states)
    (State.wroteOn_changesOnly.weaken (by decide))
  have same : (s.wroteOn b k c buffer).image x = (s.wrote b k c buffer).image x := by
    rw [State.image, State.wroteOn_staging]
    rfl
  exact State.wrote_releasesTo.opensNot hj (same ▸ hl)

/-- The heads that go are those that every consumer has passed, the bay's new cursor among them (R40, R60). -/
theorem State.wroteOn_headsReleased {cap : Nat} {closed : Bool} (hi : s.image k = some i)
    (streams : i.residency = .streaming cap closed) (consumed : i.consumers ≠ []) :
    ∃ m, s.headsGo (fun x => if x = b then c else (s.bay x).cursor.getD 0) i cap closed m ∧
      s.headsReleased (s.wroteOn b k c buffer) k i m := by
  let recorded := s.modBay b (·.wrote c buffer)
  obtain ⟨m, heads, released⟩ := State.releaseEvaluation_spec (s := recorded) hi streams consumed
  have cursors : recorded.cursors = fun x => if x = b then c else (s.bay x).cursor.getD 0 := by
    funext x
    by_cases e : x = b
    · rw [if_pos e, e, State.cursors, State.modBay_bay]
      rfl
    · rw [if_neg e, State.cursors, State.modBay_bay_ne s _ e]
  have image : ∀ x, (s.wroteOn b k c buffer).image x = (s.wrote b k c buffer).image x := fun x => by
    rw [State.image, State.wroteOn_staging]
    rfl
  have space : (s.wroteOn b k c buffer).status.pending.getLsbD 5 = (s.wrote b k c buffer).status.pending.getLsbD 5 :=
    State.wroteOn_feedsOnly.stageSpace
  exact ⟨m, cursors ▸ heads, (image k).trans released.slot,
    (congrArg Staging.freeSegments State.wroteOn_staging).trans released.pool,
    fun x hx => (image x).trans (released.others x hx), fun some_ refused => space.trans (released.raised some_ refused),
    fun none_ => space.trans (released.quiet none_)⟩

/-- Where no head may go, staging memory stands. -/
theorem State.wroteOn_resident (hi : s.image k = some i) (resident : i.residency = .resident) :
    (s.wroteOn b k c buffer).staging = s.staging := by
  have stays : s.wrote b k c buffer = s.modBay b (·.wrote c buffer) :=
    (State.releaseEvaluation_evaluates _ k).stays fun j hj => by
      obtain rfl := Option.some.inj (hi.symm.trans hj)
      exact .inl resident
  rw [State.wroteOn_staging, stays]
  rfl

/-- The lead after the WRITE (R79). -/
theorem State.wrote_lead (feeding : (s.bay b).state = .burning ∨ (s.bay b).state = .suspended)
    (slot : (s.bay b).imageSlot = some k) (hi : s.image k = some i) (alloc : (s.bay b).burn = some a) :
    (s.wrote b k c buffer).lead b =
      some (leadFrom c (min buffer 4096) i.fill i.size (((s.bay b).wrote c buffer).rate a.step)) := by
  obtain ⟨j, hj, ij⟩ := (State.wrote_releasesTo (s := s) (b := b) (k := k) (c := c) (buffer := buffer)).after hi
  obtain ⟨fill, size, -⟩ := ij.keeps
  have image : (s.wrote b k c buffer).imageOf ((s.bay b).wrote c buffer) = some j := by
    rw [State.imageOf, show ((s.bay b).wrote c buffer).imageSlot = some k from slot]
    exact hj
  have feeds : ((s.bay b).wrote c buffer).feeding = true := (Bay.feeding_iff _).2 feeding
  unfold State.lead
  rw [State.wrote_bay]
  dsimp only
  rw [image, show ((s.bay b).wrote c buffer).burn = some a from alloc, if_pos feeds]
  simp only [fill, size]
  rfl

/-- The check of a bay in SUSPENDED (R85). -/
theorem State.reserveCheck_suspended {u : State} {lead : Nat} {r : Bay} (hr : u.bay b = r) (free : r.out = none)
    (suspended : r.state = .suspended) (hlead : u.lead b = some lead) (alloc : r.burn = some a) :
    let v := (u.reserveCheck b).feedTest b
    v.governor = u.governor ∧
      (u.settingNat 5 ≤ lead → v.bay b = if r.susp = none then r.withRequest .resume (u.now + 2000) else r) ∧
      (lead < u.settingNat 5 → v.bay b = r) := by
  subst hr
  intro v
  have check : u.reserveCheck b = if u.settingNat 5 ≤ lead then u.order b .resume else u := by
    unfold State.reserveCheck
    rw [hlead, alloc]
    exact if_neg (by simp [suspended])
  by_cases recovered : u.settingNat 5 ≤ lead
  · have orders : u.reserveCheck b = u.order b .resume := check.trans (if_pos recovered)
    refine ⟨by simp [v, orders], fun _ => ?_, fun below => absurd recovered (Nat.not_le.2 below)⟩
    show ((u.reserveCheck b).feedTest b).bay b = _
    rw [orders]
    exact State.order_feedTest_bay .resume free
  · have stays : u.reserveCheck b = u := check.trans (if_neg recovered)
    refine ⟨by simp [v, stays], fun above => absurd above recovered, fun _ => ?_⟩
    show ((u.reserveCheck b).feedTest b).bay b = _
    rw [stays]
    exact State.feedTest_bay_of_rests (.inl (by simp [suspended]))

/-- The check of a bay in BURNING (R81). -/
theorem State.reserveCheck_burning {u : State} {lead : Nat} {r : Bay} (hr : u.bay b = r) (burning : r.state = .burning)
    (hlead : u.lead b = some lead) (alloc : r.burn = some a) : u.reserveCheck b = u.burningCheck b a lead := by
  subst hr
  unfold State.reserveCheck
  rw [hlead, alloc]
  exact if_pos burning

/-! ## The last WRITE (R37, R61) -/

/-- The burn ends: the bay leaves the image's consumers and closes the disc (R37, R61). -/
theorem State.endBurn_bay (u : State) (b : BayId) : (u.endBurn b).bay b =
    Bay.withRequest { u.bay b with burn := none, reserveTimer := none, state := .closing } .close (u.now + 240000) := by
  simp [State.endBurn, State.issue_bay, DriveReq.timeout]

theorem State.endBurn_governor (u : State) (alloc : (u.bay b).burn = some a) :
    (u.endBurn b).governor = { u.governor with sum := u.governor.sum - a.rate } := by
  have left : ((u.leaveImage b).bay b).burn = some a := by rw [State.leaveImage_bay, alloc]
  have same : (u.leaveImage b).governor = u.governor := by simp
  have released := (u.leaveImage b).releaseAllocation_governor b
  rw [left, same] at released
  exact released

theorem State.endBurn_image {u : State} (slot : (u.bay b).imageSlot = some k) (x : ImageId) :
    (u.endBurn b).image x = (u.leaveConsumers k b).image x := by
  have left : u.leaveImage b = u.leaveConsumers k b := by simp [State.leaveImage, slot]
  simp [State.endBurn, State.image, left]

/-- No slot opens up when a consumer leaves (R19, R37). -/
theorem State.leaveConsumers_opensNot {u : State} (x : ImageId) (j l : Image) (hj : u.image x = some j)
    (hl : (u.leaveConsumers k b).image x = some l) : j.opensNot l := by
  unfold State.leaveConsumers at hl
  split at hl
  · exact (State.releasesTo.refl u).opensNot hj hl
  · next i hi =>
    split at hl
    · exact State.opensNot_of_setImage (j := { i with consumers := i.consumers.filter (· ≠ b) }) hi ⟨id, id, id⟩
        ((State.passEndTest_releasesTo _ k).trans (State.releaseEvaluation_releasesTo _ k)) x j l hj hl
    · exact (State.releasesTo.refl u).opensNot hj hl

theorem State.endBurn_bay_ne {u : State} {m : BayId} (h : m ≠ b) : (u.endBurn b).bay m = u.bay m := by
  have released : ((u.leaveImage b).releaseAllocation b).bay m = (u.leaveImage b).bay m := by
    unfold State.releaseAllocation
    split
    · rfl
    · rw [State.modGov_bay, State.modBay_bay_ne _ _ h]
  rw [State.endBurn, State.issue, State.modBay_bay_ne _ _ h, State.modBay_bay_ne _ _ h, released, State.leaveImage_bay]

theorem State.wrote_endBurn_changesOnly :
    s.changesOnly [.staging, .bays, .governor, .status] ((s.wrote b k c buffer).endBurn b) := by
  rw [State.changesOnly_iff]
  simp [State.wrote]

theorem State.wrote_endBurn_quiet (slot : (s.bay b).imageSlot = some k) :
    s.quiet ((s.wrote b k c buffer).endBurn b) := by
  refine State.quiet_of_images (fun x j l hj hl => ?images) (fun m empty => ?emptied)
    (State.wrote_endBurn_changesOnly.weaken (by decide))
  case images =>
    obtain ⟨h, hh, jh⟩ := (State.wrote_releasesTo (s := s) (b := b) (k := k) (c := c) (buffer := buffer)).after hj
    rw [State.endBurn_image (by rw [State.wrote_bay]; exact slot)] at hl
    exact jh.opensNot.trans (State.leaveConsumers_opensNot x h l hh hl)
  case emptied =>
    by_cases e : m = b
    · rw [e, State.endBurn_bay] at empty
      exact nomatch empty
    · rwa [State.endBurn_bay_ne e, State.wrote_bay_ne e] at empty

/-! ## A WRITE that did not succeed (R63, R66) -/

/-- Latches and events are no part of a rejection. -/
theorem State.unloadsToReject.reported {t v : State} {why : RejectReason} (h : s.unloadsToReject t b n why)
    (status : v = { t with status := v.status }) : s.unloadsToReject v b n why := by
  obtain ⟨hbay, hport, htimers, hburn, hdisc, hmove, hunload, hadmission, hallocation, hconsumers, hlanes⟩ := h
  rw [status]
  exact ⟨hbay, hport, htimers, hburn, hdisc, hmove, ⟨hunload.alone, hunload.swap⟩, hadmission, hallocation, hconsumers,
    hlanes⟩

/-- The channel rejects its disc once its WRITE is over (R63, R66). -/
theorem State.endOut_bayReject (holds : (s.bay b).disc = some n) (why : RejectReason) :
    s.unloadsToReject ((s.modBay b Bay.endOut).bayReject b why) b n why := by
  have over_ : (s.modBay b Bay.endOut).bay b = (s.bay b).endOut := State.modBay_bay ..
  refine (State.bayReject_unloadsToReject (s := s.modBay b Bay.endOut) why (by rw [over_]; exact holds)).seenFrom
    rfl rfl rfl rfl rfl rfl rfl rfl (fun d hd => ⟨d, hd, rfl⟩) ?_ ?_ ?_ ?_ <;> rw [over_] <;> rfl

theorem execWriteComplete_runs {kind : CompletionKind} (feeding : (s.bay b).state = .burning ∨ (s.bay b).state = .suspended)
    (out : (s.bay b).out = some o) (req : o.req = .write start count data) :
    (kind = .underrun → exec (.writeComplete b o.number kind buffer) s =
      .next (if (s.bay b).state = .suspended then s.modBay b Bay.endOut else s.watched ((s.modBay b Bay.endOut).ranDry b))) ∧
    (kind = .mediaError ∨ kind = .refused ∨ kind = .notReady → exec (.writeComplete b o.number kind buffer) s =
      .next (s.watched ((s.modBay b Bay.endOut).bayReject b .writeError))) := by
  have runs : exec (.writeComplete b o.number kind buffer) s = execWriteComplete b o.number kind buffer s := rfl
  rw [runs, execWriteComplete, (s.bay b).feeding_iff.2 feeding, Bay.outMatching_own out, req]
  constructor
  · rintro rfl
    simp [Bay.endOut]
  · rintro (rfl | rfl | rfl) <;> rfl

/-! ## The statement -/

theorem Bay.suspends_iff (r : Bay) : r.suspends = true ↔ ∃ f, r.facts = some f ∧ f.suspendSupported = true := by
  unfold Bay.suspends
  cases r.facts <;> simp

/-- Settles O42: by the completion's kind, the WRITE's place in the image, and the case of the reserve check. -/
theorem writeCompletionAdvancesOrEndsTheBurn : Obligations.WriteCompletionAdvancesOrEndsTheBurn := by
  intro s b o start count data buffer c n k i a feeding out req cursor slot hi alloc holds
  have runs := execWriteComplete_ok (buffer := buffer) feeding out req cursor slot hi
  have others := fun kind => execWriteComplete_runs (buffer := buffer) (kind := kind) feeding out req
  refine ⟨fun more => ?on, fun last => ?last, fun suspended => ?suspendedDry, fun burning => ?ranDry, fun kind bad => ?bad⟩
  case on =>
    rw [if_neg more] at runs
    have only := State.wroteOn_feedsOnly (s := s) (b := b) (k := k) (c := c + count) (buffer := buffer)
    have bay := s.wrote_bay b k (c + count) buffer
    have states := congrArg (·[b.val]) (State.wroteOn_states (s := s) (b := b) (k := k) (c := c + count) (buffer := buffer))
    refine ⟨s.wroteOn b k (c + count) buffer, runs.trans (congrArg _ State.wroteOn_quiet.watched), ?cursor, ?buffer, ?state,
      fun m hm => (only.others m hm).trans (State.wrote_bay_ne hm), State.wroteOn_changesOnly,
      State.wroteOn_resident hi, fun cap closed streams consumed => State.wroteOn_headsReleased hi streams consumed,
      fun order order' => ?check⟩
    case cursor =>
      rw [only.cursor, bay]
      rfl
    case buffer =>
      rw [only.buffer, bay]
      rfl
    case state => simpa only [State.bayStates_get] using states
    case check =>
      intro r lead up stable steps suspends burnt order_ sum low
      have governor : (s.wrote b k (c + count) buffer).governor = s.governor := by simp [State.wrote]
      have now : (s.wrote b k (c + count) buffer).now = s.now := by simp [State.wrote]
      have settings : (s.wrote b k (c + count) buffer).settingNat = s.settingNat := by
        have same : (s.wrote b k (c + count) buffer).settings = s.settings := by simp [State.wrote]
        funext x
        simp only [State.settingNat, State.setting, same]
      have hlead : (s.wrote b k (c + count) buffer).lead b = some lead := State.wrote_lead feeding slot hi alloc
      refine ⟨fun suspended => ?suspended, fun burning => ?burning⟩
      case suspended =>
        have check := State.reserveCheck_suspended bay rfl suspended hlead alloc
        rw [governor, settings, now] at check
        exact check
      case burning =>
        have check : (s.wrote b k (c + count) buffer).reserveCheck b = _ := State.reserveCheck_burning bay burning hlead alloc
        have suspending := State.burningCheck_suspends (lead := lead) bay rfl alloc
        have lower := State.burningCheck_stepsDown (lead := lead) bay rfl alloc
        have lowest := State.burningCheck_lowest (lead := lead) bay rfl alloc
        have between := State.burningCheck_between (lead := lead) bay rfl alloc
        have recovers := State.burningCheck_recovers (lead := lead) bay rfl alloc
        rw [settings, governor, ← check] at suspending lower lowest between recovers
        rw [now] at suspending lower recovers
        have can : suspends ↔ ((s.bay b).wrote (c + count) buffer).suspends = true := (Bay.suspends_iff _).symm
        have cannot : ¬ (lead < s.settingNat 3 ∧ suspends) →
            ¬ (lead < s.settingNat 3 ∧ ((s.bay b).wrote (c + count) buffer).suspends = true) := mt (And.imp_right can.2)
        refine ⟨fun critical may => suspending critical (can.1 may), fun below not_ higher => lower below (cannot not_) higher,
          fun below not_ least => lowest below (cannot not_) least, fun above below => between order above below,
          fun above => (recovers order order' above).1, fun above => (recovers order order' above).2.1,
          fun above goes alone =>
            ((recovers order order' above).2.2 goes alone).imp_right fun issued => issued.trans (if_pos alone).symm⟩
  case last =>
    rw [if_pos last, (State.wrote_endBurn_quiet slot).watched] at runs
    have slot' : ((s.wrote b k (c + count) buffer).bay b).imageSlot = some k := by
      rw [State.wrote_bay]
      exact slot
    refine ⟨_, runs, ?bay, ?governor, fun j hj => ?consumers, State.wrote_endBurn_changesOnly⟩
    case bay =>
      have now : (s.wrote b k (c + count) buffer).now = s.now := by simp [State.wrote]
      rw [State.endBurn_bay, State.wrote_bay, now]
      rfl
    case governor =>
      have governor : (s.wrote b k (c + count) buffer).governor = s.governor := by simp [State.wrote]
      rw [State.endBurn_governor (a := a) _ (by rw [State.wrote_bay]; exact alloc), governor]
    case consumers =>
      rw [State.endBurn_image slot'] at hj
      exact State.leaveConsumers_gone hj
  case suspendedDry =>
    rw [(others .underrun).1 rfl, if_pos suspended]
    rfl
  case ranDry =>
    have rejected := (s.endOut_bayReject holds .underrun).reported (v := (s.modBay b Bay.endOut).ranDry b) rfl
    have dry := (others .underrun).1 rfl
    rw [if_neg (by simp [burning])] at dry
    refine ⟨_, dry, rejected.watched s, ?latched, ?raised⟩
    case latched =>
      show ((s.modBay b Bay.endOut).ranDry b).cond .underrun = true
      simp [State.ranDry]
    case raised => exact State.raise_pending _ .underrun .underrun
  case bad => exact ⟨_, (others kind).2 bad, (s.endOut_bayReject holds .writeError).watched s⟩

end Sys2Proof.Machine
end

/-! # Proofs: SPEED, SUSPEND and RESUME completions (R59, R62, R63, R66, R82 to R85, R91) -/

section

namespace Sys2Proof.Machine

variable {s u : State} {b : BayId} {o : Outstanding} {a : Burn} {n : Nat} {r : Bay}

/-! ## A drive that ran dry (R63) -/

/-- The channel rejects its disc after a change of the bay's record that a rejection does not read (R66). -/
theorem State.modBay_bayReject {g : Bay → Bay} (holds : (s.bay b).disc = some n) (why : RejectReason)
    (kept : (g (s.bay b)).disc = (s.bay b).disc ∧ (g (s.bay b)).offlineAfter = (s.bay b).offlineAfter ∧
      (g (s.bay b)).job = (s.bay b).job ∧ (g (s.bay b)).burn = (s.bay b).burn ∧
      (g (s.bay b)).imageSlot = (s.bay b).imageSlot) :
    s.unloadsToReject ((s.modBay b g).bayReject b why) b n why := by
  obtain ⟨disc, off, job, burn, slot⟩ := kept
  have bay : (s.modBay b g).bay b = g (s.bay b) := s.modBay_bay b g
  exact (State.bayReject_unloadsToReject (s := s.modBay b g) why (by rw [bay, disc, holds])).seenFrom
    rfl rfl rfl rfl rfl rfl rfl rfl (fun d hd => ⟨d, hd, rfl⟩) (by rw [bay, off]) (by rw [bay, job]) (by rw [bay, burn])
    (by rw [bay, slot])

/-- A disc that a dry drive spoils is rejected with UNDERRUN, which is latched and raised (R63). -/
theorem State.ranDry_spoils (rejects : s.unloadsToReject (u.bayReject b .underrun) b n .underrun) (w : State) :
    s.unloadsToReject (w.watched (u.ranDry b)) b n .underrun ∧ (w.watched (u.ranDry b)).cond .underrun = true ∧
      (w.watched (u.ranDry b)).status.pending.getLsbD 7 = true :=
  ⟨(rejects.reported rfl).watched w, by simp [State.ranDry],
    (State.raise_pending _ .underrun .underrun).trans (if_pos rfl)⟩

/-! ## The feed test after a completion (R59) -/

/-- A state whose bay `b` has the record `r`, while the other bays, the slots and the clock stand. -/
structure State.hasBay (s u : State) (b : BayId) (r : Bay) : Prop where
  bay : u.bay b = r
  others : ∀ m, m ≠ b → u.bay m = s.bay m
  staging : u.staging = s.staging
  now : u.now = s.now

theorem State.hasBay_modBay (s : State) (b : BayId) (f : Bay → Bay) : s.hasBay (s.modBay b f) b (f (s.bay b)) :=
  ⟨s.modBay_bay b f, fun _ hm => s.modBay_bay_ne f hm, rfl, rfl⟩

/-- The feed test changes a record's port alone. -/
theorem State.feedTest_keeps (u : State) (b : BayId) : ((u.feedTest b).bay b).state = (u.bay b).state ∧
    ((u.feedTest b).bay b).burn = (u.bay b).burn ∧ ((u.feedTest b).bay b).susp = (u.bay b).susp ∧
    ((u.feedTest b).bay b).cursor = (u.bay b).cursor := by
  unfold State.feedTest
  dsimp only
  split
  · split
    · rw [State.issue_bay]
      exact ⟨rfl, rfl, rfl, rfl⟩
    · exact ⟨rfl, rfl, rfl, rfl⟩
  · exact ⟨rfl, rfl, rfl, rfl⟩

/-- What the feed test after a completion leaves of the bay and of the others. -/
theorem State.hasBay.fed (h : s.hasBay u b r) :
    (s.feeds r ((u.feedTest b).bay b) ∧ ∀ m, m ≠ b → (u.feedTest b).bay m = s.bay m) ∧
      ((u.feedTest b).bay b).state = r.state ∧ ((u.feedTest b).bay b).burn = r.burn ∧
      ((u.feedTest b).bay b).susp = r.susp ∧ ((u.feedTest b).bay b).cursor = r.cursor := by
  obtain ⟨bay, others, staging, now⟩ := h
  subst bay
  exact ⟨⟨State.feeds_of_eq staging now (u.feedTest_feeds b),
    fun m hm => (u.feedTest_bay_ne hm).trans (others m hm)⟩, u.feedTest_keeps b⟩

/-! ## SPEED (R83, R84, R91) -/

theorem execSpeedComplete_runs {step : Nat} (burning : (s.bay b).state = .burning) (out : (s.bay b).out = some o)
    (req : o.req = .speed step) (alloc : (s.bay b).burn = some a) (kind : CompletionKind) :
    let t := s.modBay b Bay.endOut
    let c : Instr := .speedComplete b o.number kind
    (kind = .ok → exec c s = .next ((t.speedOk b a step).feedTest b)) ∧
      (kind = .underrun → exec c s = .next (s.watched (t.ranDry b))) ∧
      (kind = .mediaError ∨ kind = .refused ∨ kind = .notReady →
        exec c s = .next ((t.speedRefused b a step).feedTest b)) := by
  intro t c
  have runs : exec c s = execSpeedComplete b o.number kind s := rfl
  rw [runs, execSpeedComplete, (s.bay b).feeding_iff.2 (.inl burning), Bay.outMatching_own out, req, alloc]
  refine ⟨?_, ?_, ?_⟩
  · rintro rfl
    rfl
  · rintro rfl
    rfl
  · rintro (rfl | rfl | rfl) <;> rfl

/-- An allocation that becomes the rate of a step, after the request is over (R75). -/
theorem State.endOut_reallocate (s : State) (b : BayId) (a : Burn) (step stable : Nat) :
    let v := (s.modBay b Bay.endOut).reallocate b a step stable
    s.hasBay v b { s.bay b with out := none, burn := some { step, rate := (s.bay b).rate step, stable } } ∧
      v.governor = { s.governor with sum := s.governor.sum - a.rate + (s.bay b).rate step } := by
  intro v
  let x := s.modBay b fun r => { r with out := none, burn := some { step, rate := (s.bay b).rate step, stable } }
  have made : v = x.modGov fun g => { g with sum := g.sum - a.rate + (s.bay b).rate step } := by
    simp only [v, x, State.reallocate, State.modBay_modBay, State.modBay_bay]
    rfl
  rw [made]
  obtain ⟨bay, others, staging, now⟩ := s.hasBay_modBay b fun r =>
    { r with out := none, burn := some { step, rate := (s.bay b).rate step, stable } }
  exact ⟨⟨bay, others, staging, now⟩, rfl⟩

theorem State.modDiscOf_holding (holds : (u.bay b).disc = some n) (f : Disc → Disc) :
    u.modDiscOf b f = u.modDisc n f := by
  simp only [State.modDiscOf, holds]

/-- A step-down takes the lower rate and counts on the disc (R75, R83). -/
theorem State.speedOk_down {step : Nat} (holds : (s.bay b).disc = some n) (down : step < a.step) :
    let v := (s.modBay b Bay.endOut).speedOk b a step
    s.hasBay v b { s.bay b with out := none, burn := some { step, rate := (s.bay b).rate step, stable := 0 } } ∧
      v.governor = { s.governor with sum := s.governor.sum - a.rate + (s.bay b).rate step } ∧
      v.discs = { s.discs with records := s.discs.records.map fun d =>
        if d.number == n then d.steppedDown else d } := by
  intro v
  obtain ⟨⟨bay, others, staging, now⟩, governor⟩ := s.endOut_reallocate b a step 0
  have made : v = ((s.modBay b Bay.endOut).reallocate b a step 0).modDisc n Disc.steppedDown := by
    rw [← State.modDiscOf_holding (by rw [bay]; exact holds)]
    exact if_pos down
  rw [made]
  refine ⟨⟨bay, others, staging, now⟩, governor, ?_⟩
  simp [State.modDisc]

/-- A step-up has its allocation already (R84). -/
theorem State.speedOk_up {step : Nat} (up : a.step < step) : (s.modBay b Bay.endOut).speedOk b a step =
    s.modBay b fun r => { r with out := none, burn := some { a with step } } := by
  rw [State.speedOk, if_neg (Nat.lt_asymm up), if_pos up, State.modBay_modBay]
  rfl

theorem State.speedOk_same {step : Nat} (same : a.step = step) :
    (s.modBay b Bay.endOut).speedOk b a step = s.modBay b Bay.endOut := by
  rw [State.speedOk, if_neg same.ge.not_gt, if_neg same.le.not_gt]

/-! ## SUSPEND and RESUME (R62, R82, R85) -/

theorem execSuspendComplete_runs {o : OutSuspend} (burning : (s.bay b).state = .burning) (susp : (s.bay b).susp = some o)
    (kind : CompletionKind) :
    let t := s.modBay b fun r => { r with susp := none }
    let c : Instr := .suspendComplete b o.number kind
    (kind = .ok → exec c s =
        .next (((t.modBay b fun r => { r with state := .suspended }).setStable b 0).modDiscOf b Disc.suspended)) ∧
      (kind = .underrun → exec c s = .next (s.watched (t.ranDry b))) ∧
      (kind = .mediaError ∨ kind = .refused ∨ kind = .notReady → exec c s = .next (t.feedTest b)) := by
  intro t c
  have own : (s.bay b).suspMatching o.number = true := by simp [Bay.suspMatching, Bay.feeding, burning, susp]
  have runs : exec c s = execSuspendComplete b o.number kind s := rfl
  rw [runs, execSuspendComplete, own, if_pos rfl]
  refine ⟨?_, ?_, ?_⟩
  · rintro rfl
    rfl
  · rintro rfl
    rfl
  · rintro (rfl | rfl | rfl) <;> rfl

theorem execResumeComplete_runs (suspended : (s.bay b).state = .suspended) (out : (s.bay b).out = some o)
    (req : o.req = .resume) (kind : CompletionKind) :
    let t := s.modBay b Bay.endOut
    let c : Instr := .resumeComplete b o.number kind
    (kind = .ok → exec c s =
        .next (((t.modBay b fun r => { r with state := .burning }).setStable b 0).feedTest b)) ∧
      (kind = .underrun → exec c s = .next (s.watched (t.ranDry b))) ∧
      (kind = .mediaError ∨ kind = .refused ∨ kind = .notReady → exec c s = .next t) := by
  intro t c
  have runs : exec c s = execResumeComplete b o.number kind s := rfl
  rw [runs, execResumeComplete, suspended, Bay.outMatching_own out, req]
  refine ⟨?_, ?_, ?_⟩
  · rintro rfl
    rfl
  · rintro rfl
    rfl
  · rintro (rfl | rfl | rfl) <;> rfl

/-- The bay goes on in another state with a new stable count. -/
theorem State.setStable_goesOn (alloc : (s.bay b).burn = some a) {g : Bay → Bay} (kept : (g (s.bay b)).burn = (s.bay b).burn)
    (st : BayState) : ((s.modBay b g).modBay b fun r => { r with state := st }).setStable b 0 =
      s.modBay b fun r => { g r with state := st, burn := some { a with stable := 0 } } := by
  simp [State.setStable, State.modBay, State.setBay, State.bay, show s.bays[b.val].burn = some a from alloc,
    show (g s.bays[b.val]).burn = s.bays[b.val].burn from kept]

/-- Settles O43, by the request that completes, and by the completion's kind. -/
theorem speedSuspendAndResumeComplete : Obligations.SpeedSuspendAndResumeComplete := by
  intro s b a n alloc holds counted fed
  have over_ := s.hasBay_modBay b Bay.endOut
  refine ⟨fun o step burning out req => ?speed, fun o burning susp => ?suspend, fun o suspended out req => ?resume⟩
  case speed =>
    have runs := execSpeedComplete_runs burning out req alloc
    refine ⟨fun down => ?down, fun up => ?up, fun same => ?same, fun kind up bad => ?refusedUp,
      fun kind notUp bad => ?refusedDown, ?dry⟩
    case down =>
      obtain ⟨record, governor, discs⟩ := State.speedOk_down holds down
      obtain ⟨feeds, state, burn, -⟩ := record.fed
      refine ⟨_, (runs .ok).1 rfl, burn, by simp [governor], ?_, feeds, state.trans burning, by rw [State.changesOnly_iff]; simp⟩
      rw [(State.feedTest_frame ..).2.2.1, discs]
      rfl
    case up =>
      obtain ⟨feeds, state, burn, -⟩ := (s.hasBay_modBay b fun r => { r with out := none, burn := some { a with step } }).fed
      refine ⟨_, (runs .ok).1 rfl, ?_⟩
      rw [State.speedOk_up up]
      exact ⟨burn, state.trans burning, feeds, by rw [State.changesOnly_iff]; simp⟩
    case same =>
      obtain ⟨feeds, state, burn, -⟩ := over_.fed
      refine ⟨_, (runs .ok).1 rfl, ?_⟩
      rw [State.speedOk_same same]
      exact ⟨burn.trans alloc, state.trans burning, feeds, by rw [State.changesOnly_iff]; simp⟩
    case refusedUp =>
      obtain ⟨record, governor⟩ := s.endOut_reallocate b a a.step 0
      obtain ⟨feeds, state, burn, -⟩ := record.fed
      have ends : exec (.speedComplete b o.number kind) s =
          .next (((s.modBay b Bay.endOut).reallocate b a a.step 0).feedTest b) := by
        rw [(runs kind).2.2 bad, State.speedRefused, if_pos up]
      exact ⟨_, ends, burn, by simp [governor], feeds, state.trans burning, by rw [State.changesOnly_iff]; simp⟩
    case refusedDown =>
      obtain ⟨feeds, state, burn, -⟩ := over_.fed
      have ends : exec (.speedComplete b o.number kind) s = .next ((s.modBay b Bay.endOut).feedTest b) := by
        rw [(runs kind).2.2 bad, State.speedRefused, if_neg (Nat.not_lt.2 notUp)]
      exact ⟨_, ends, burn.trans alloc, state.trans burning, feeds, by rw [State.changesOnly_iff]; simp⟩
    case dry =>
      exact ⟨_, (runs .underrun).2.1 rfl, State.ranDry_spoils (s.endOut_bayReject holds .underrun) s⟩
  case suspend =>
    have runs := execSuspendComplete_runs burning susp
    refine ⟨?ok, fun kind bad => ?refused, ?dry⟩
    case ok =>
      rw [(runs .ok).1 rfl, State.setStable_goesOn alloc (by rfl), State.modDiscOf_holding (n := n) (by rw [State.modBay_bay]; exact holds)]
      rfl
    case refused =>
      obtain ⟨feeds, state, burn, free, -⟩ := (s.hasBay_modBay b fun r => { r with susp := none }).fed
      exact ⟨_, (runs kind).2.2 bad, free, state.trans burning, burn.trans alloc, feeds, by rw [State.changesOnly_iff]; simp⟩
    case dry =>
      exact ⟨_, (runs .underrun).2.1 rfl, State.ranDry_spoils (State.modBay_bayReject holds .underrun ⟨rfl, rfl, rfl, rfl, rfl⟩) s⟩
  case resume =>
    have runs := execResumeComplete_runs suspended out req
    refine ⟨?ok, fun kind bad => ?refused, ?dry⟩
    case ok =>
      obtain ⟨feeds, state, burn, -, cursor⟩ := (s.hasBay_modBay b fun r =>
        { r with out := none, state := .burning, burn := some { a with stable := 0 } }).fed
      refine ⟨_, (runs .ok).1 rfl, ?_⟩
      rw [State.setStable_goesOn alloc (by rfl)]
      exact ⟨state, burn, cursor, feeds, by rw [State.changesOnly_iff]; simp⟩
    case refused => exact (runs kind).2.2 bad
    case dry =>
      exact ⟨_, (runs .underrun).2.1 rfl, State.ranDry_spoils (s.endOut_bayReject holds .underrun) s⟩

end Sys2Proof.Machine
end

/-! # Proofs: a GOOD disc's unload, UNDERRUN and CLOSE (R6, R23, R63 to R68, R93) -/

section

namespace Sys2Proof.Machine

variable {s u : State} {b : BayId} {o : Outstanding} {n : Nat} {d : Disc} {k : JobSlot} {j : Job}

/-! ## A disc that becomes GOOD, and its unload (R6, R68) -/

/-- The job prints its label after the burn. -/
abbrev Job.printsAfter (j : Job) : Prop := j.label.isSome = true ∧ j.printOrder = some .burnFirst

/-- A PENDING disc that its job's verify mode lets be GOOD becomes it (R6). -/
theorem State.setGood_disc (hd : s.disc n = some d) (pending : d.disposition = .pending)
    (allowed : goodAllowed d ((s.jobOf d).map Job.verifyMode) = true) :
    (s.setGood n).disc n = some { d with disposition := .good } := by
  refine (State.modDisc_disc _ _ fun c => ?_).trans ?_
  · unfold Disc.madeGood
    split <;> rfl
  · rw [hd, Option.map_some, Disc.madeGood, if_pos ⟨pending, allowed⟩]

/-- A GOOD disc goes to the printer when its job prints after the burn, and else to OUT (R68). -/
theorem State.unloadDest_of_good (hd : s.disc n = some d) (good : d.disposition = .good) :
    ((∃ j, s.jobOf d = some j ∧ j.printsAfter) → s.unloadDest n = .prn) ∧
      ((∀ j, s.jobOf d = some j → ¬ j.printsAfter) → s.unloadDest n = .out) := by
  simp only [State.unloadDest, hd, good]
  constructor
  · rintro ⟨j, job, prints⟩
    rw [job]
    exact if_pos prints
  · intro not_
    cases job : s.jobOf d with
    | none => rfl
    | some j => exact if_neg (not_ j job)

/-- The record of a disc whose unload is posted to a station. -/
def Disc.unloadedTo (d : Disc) (s : State) (b : BayId) (dest : Station) : Disc :=
  if dest.isBin then d.postedFrom s b else d

theorem Disc.unloadedTo_keeps (d : Disc) (s : State) (b : BayId) (dest : Station) :
    (d.unloadedTo s b dest).disposition = d.disposition ∧ (d.unloadedTo s b dest).burned = d.burned ∧
      (d.unloadedTo s b dest).verified = d.verified := by
  unfold Disc.unloadedTo Disc.postedFrom
  (repeat' split) <;> exact ⟨rfl, rfl, rfl⟩

/-- A move that leads to no bin changes no record of a disc that stands (R4). -/
theorem State.postUnload_disc_notBin {dest : Station} (notBin : dest.isBin = false) (hd : s.disc n = some d) :
    (s.postUnload b n dest).disc n = some d := by
  have posted : ∀ (u : State) (r : MoveReq), r.dest = dest → u.disc n = some d → (u.postMove r).disc n = some d := by
    intro u r rdest hu
    have joins : u.postMove r = u.joinQueue r := if_neg (by simp [rdest, notBin])
    rw [joins]
    exact hu
  unfold State.postUnload
  split
  · exact posted s _ rfl hd
  · rename_i k j i _
    exact posted (s.createDispatch k i b) _ rfl (State.createDispatch_disc k i b hd)

theorem State.enterAwaitUnload_disc_to (hd : s.disc n = some d) :
    (s.enterAwaitUnload b n).disc n = some (d.unloadedTo s b (s.unloadDest n).station) := by
  unfold State.enterAwaitUnload Disc.unloadedTo
  cases bin : (s.unloadDest n).station.isBin with
  | true => exact State.postUnload_disc bin hd
  | false => exact State.postUnload_disc_notBin bin hd

/-- The mark of an evaluation is no part of an unload. -/
theorem State.unloadPosted.watched {t : State} {dest : Station} (h : s.unloadPosted t b n dest) (w : State) :
    s.unloadPosted (w.watched t) b n dest := ⟨h.alone, h.swap⟩

/-! ## UNDERRUN that no completion brings (R63) -/

theorem execUnsolicitedUnderrun_burning (burning : (s.bay b).state = .burning) :
    exec (.unsolicitedUnderrun b) s = .next (s.watched (s.ranDry b)) :=
  congrArg Host.Outcome.next (if_pos burning)

theorem execUnsolicitedUnderrun_discarded (not_ : (s.bay b).state ≠ .burning) : exec (.unsolicitedUnderrun b) s = .next s :=
  congrArg Host.Outcome.next (if_neg not_)

/-! ## CLOSE (R64, R65) -/

theorem execCloseComplete_runs (closing : (s.bay b).state = .closing) (out : (s.bay b).out = some o) (req : o.req = .close)
    (kind : CompletionKind) : exec (.closeComplete b o.number kind) s = .next (s.watched
      (if kind = .ok then (s.modBay b Bay.endOut).closed b else (s.modBay b Bay.endOut).bayReject b .writeError)) := by
  have runs : exec (.closeComplete b o.number kind) s = execCloseComplete b o.number kind s := rfl
  rw [runs, execCloseComplete, closing, Bay.outMatching_own out, req]

/-- The bay's record once its CLOSE is over. -/
def Bay.closedOut (r : Bay) : Bay := { r with out := none, timeouts := 0 }

/-- A closed disc is burned (R64). -/
def State.burnedIn (s : State) (b : BayId) (n : Nat) : State :=
  (s.modBay b Bay.closedOut).modDisc n fun d => { d with burned := true }

theorem State.burnedIn_bay (s : State) (b : BayId) (n : Nat) : (s.burnedIn b n).bay b = (s.bay b).closedOut :=
  s.modBay_bay b Bay.closedOut

theorem State.burnedIn_disc (hd : s.disc n = some d) : (s.burnedIn b n).disc n = some { d with burned := true } := by
  refine (State.modDisc_disc (s.modBay b Bay.closedOut) n (f := fun d => { d with burned := true }) fun _ => rfl).trans ?_
  exact congrArg (Option.map _) hd

theorem State.closed_eq (holds : (s.bay b).disc = some n) (job : (s.bay b).job = some k) (hj : s.job k = some j) :
    (s.modBay b Bay.endOut).closed b =
      if j.verifyMode = .none then ((s.burnedIn b n).setGood n).enterAwaitUnload b n
      else ((s.burnedIn b n).modBay b fun r => { r with state := .verifyWait }).joinVerify b := by
  have held : ((s.modBay b Bay.endOut).bay b).disc = some n := by rw [State.modBay_bay]; exact holds
  have burned : ((s.modBay b Bay.endOut).modDisc n fun d => { d with burned := true }).modBay b (fun r =>
      { r with timeouts := 0 }) = s.burnedIn b n := by
    rw [State.modDisc_modBay, State.modBay_modBay]
    rfl
  have mode : (((s.burnedIn b n).bay b).job.bind (s.burnedIn b n).job).map Job.verifyMode = some j.verifyMode := by
    rw [State.burnedIn_bay, show (s.bay b).closedOut.job = some k from job]
    exact congrArg (Option.map _) hj
  simp only [State.closed, held, burned, mode]
  cases j.verifyMode <;> rfl

/-- With a verify mode the bay waits for a lane (R65, R93). -/
theorem execCloseComplete_waits (closing : (s.bay b).state = .closing) (out : (s.bay b).out = some o) (req : o.req = .close)
    (holds : (s.bay b).disc = some n) (job : (s.bay b).job = some k) (hj : s.job k = some j)
    (verifies : j.verifyMode ≠ .none) : exec (.closeComplete b o.number .ok) s = .next { s with
      bays := s.bays.set b.val { s.bay b with out := none, timeouts := 0, state := .verifyWait }
      discs := { s.discs with records := s.discs.records.map fun e =>
        if e.number == n then { e with burned := true } else e }
      verify := { s.verify with queue := s.verify.queue ++ [b] } } := by
  let waiting : Bay → Bay := fun r => { r with out := none, timeouts := 0, state := .verifyWait }
  let t := ((s.modBay b waiting).modDisc n fun d => { d with burned := true }).joinVerify b
  have waits : (s.modBay b Bay.endOut).closed b = t := by
    rw [State.closed_eq holds job hj, if_neg verifies, State.burnedIn, State.modDisc_modBay, State.modBay_modBay]
    rfl
  have quiet : s.quiet t := State.undisturbed.quiet {
    wanted := rfl, stage := rfl, jobs := rfl, spindles := ⟨rfl, rfl⟩, queue := rfl, printer := rfl, staging := rfl
    emptied := s.emptied_of_modBay (b := b) (f := waiting) fun _ => by simp [waiting]
    records := State.modDisc_numbers s n fun _ => rfl }
  rw [execCloseComplete_runs closing out req, if_pos rfl, waits, quiet.watched]
  rfl

/-- Without one the disc is GOOD and goes to the station `dest` of R68. -/
theorem State.closed_unloads (holds : (s.bay b).disc = some n) (job : (s.bay b).job = some k) (hj : s.job k = some j)
    (plain : j.verifyMode = .none) (hd : s.disc n = some d) (of : d.job = some k) (pending : d.disposition = .pending)
    {dest : UnloadDest} (leads : dest = if j.printsAfter then .prn else .out) :
    let t := (s.modBay b Bay.endOut).closed b
    t.bay b = (s.bay b).closedOut.unloading dest ∧
      t.disc n = some (Disc.unloadedTo { d with burned := true, disposition := .good } s b dest.station) ∧
      (∃ r, s.trans.asked t.trans r ∧ r.disc = n ∧ r.requester = .bay b ∧ r.source = .bay b ∧ r.dest = dest.station) ∧
      s.unloadPosted t b n dest.station := by
  intro t
  let u := (s.burnedIn b n).setGood n
  have burned : (s.burnedIn b n).disc n = some { d with burned := true } := State.burnedIn_disc hd
  have its : (s.burnedIn b n).jobOf { d with burned := true } = some j := by
    rw [State.jobOf, show ({ d with burned := true } : Disc).job = some k from of]
    exact hj
  have good : u.disc n = some { d with burned := true, disposition := .good } :=
    State.setGood_disc burned pending (by rw [its]; simp [goodAllowed, plain])
  have goes : u.unloadDest n = dest := by
    obtain ⟨prints, plainly⟩ := State.unloadDest_of_good good rfl
    rw [leads]
    split
    · next yes => exact prints ⟨j, its, yes⟩
    · next no => exact plainly fun i hi => Option.some.inj (its.symm.trans hi) ▸ no
  have enters : t = u.enterAwaitUnload b n := (State.closed_eq holds job hj).trans (if_pos plain)
  have bay : u.bay b = (s.bay b).closedOut := s.burnedIn_bay b n
  obtain ⟨r, asked, discIs, by_, source, leadsTo⟩ := u.enterAwaitUnload_asks b n
  have unload := u.enterAwaitUnload_unload b n
  rw [goes] at leadsTo unload
  rw [enters]
  refine ⟨by rw [State.enterAwaitUnload_bay, goes, bay], ?_, ⟨r, asked, discIs, by_, source, leadsTo⟩, ?_⟩
  · rw [State.enterAwaitUnload_disc_to good, goes]
    rfl
  · refine unload.of_same rfl rfl rfl rfl ?_ rfl rfl rfl (by rw [bay]; rfl) (by rw [bay]; rfl)
    exact (State.modDisc_numbers _ n fun e => by unfold Disc.madeGood; split <;> rfl).trans
      (State.modDisc_numbers (s.modBay b Bay.closedOut) n fun _ => rfl)

/-- Settles O45: the report of a dry drive, and CLOSE by its kind, the job's verify mode and its label. -/
theorem underrunAndCloseEndTheBurn : Obligations.UnderrunAndCloseEndTheBurn := by
  refine ⟨fun s b n burning holds => ?dry, fun s b not_ => execUnsolicitedUnderrun_discarded not_,
    fun s b o n d k j closing out req holds hd job of hj => ⟨fun verifies => ?waits, fun plain pending => ?unloads,
      fun kind failed => ?fails⟩⟩
  case dry =>
    exact ⟨_, execUnsolicitedUnderrun_burning burning,
      State.ranDry_spoils (State.bayReject_unloadsToReject .underrun holds) s⟩
  case waits => exact execCloseComplete_waits closing out req holds job hj verifies
  case unloads =>
    intro prints
    let dest : UnloadDest := if prints then .prn else .out
    have station : dest.station = if prints then .prn else .bin .out := by
      simp only [dest]
      split <;> rfl
    obtain ⟨bay, disc, ⟨r, asked, discIs, by_, source, leads⟩, unload⟩ :=
      State.closed_unloads holds job hj plain hd of pending (dest := dest) rfl
    rw [station] at disc leads unload
    let e := Disc.unloadedTo { d with burned := true, disposition := .good } s b (if prints then .prn else .bin .out)
    obtain ⟨disposition, burned, -⟩ := Disc.unloadedTo_keeps { d with burned := true, disposition := .good } s b
      (if prints then .prn else .bin .out)
    have runs : exec (.closeComplete b o.number .ok) s = .next (s.watched ((s.modBay b Bay.endOut).closed b)) := by
      rw [execCloseComplete_runs closing out req, if_pos rfl]
    refine ⟨_, e, r, runs, disc, burned, disposition,
      fun clear => ?stage, congrArg Bay.state bay, congrArg Bay.timeouts bay, congrArg Bay.dest bay, asked, discIs, by_,
      source, leads, unload.watched s⟩
    case stage =>
      by_cases yes : prints
      · simp [e, yes, Disc.unloadedTo, Station.isBin]
      · have posted := Disc.postedFrom_stage { d with burned := true, disposition := .good } (clear.resolve_left yes)
        simp [e, yes, Disc.unloadedTo, Station.isBin, posted]
  case fails =>
    refine ⟨_, execCloseComplete_runs closing out req kind, ?_⟩
    rw [if_neg failed]
    exact (s.endOut_bayReject holds .writeError).watched s

end Sys2Proof.Machine
end

/-! # Proofs: the lead, and the reserve check at an expiry of its timer (R49, R79 to R86) -/

section

namespace Sys2Proof.Machine

variable {s u : State} {b : BayId} {r : Bay} {a : Burn} {lead n : Nat}

/-! ## Changes of one bay's record -/

theorem State.setBay_setBay (s : State) (b : BayId) (r q : Bay) : (s.setBay b r).setBay b q = s.setBay b q := by
  simp [State.setBay]

theorem State.setBay_modBay (s : State) (b : BayId) (r : Bay) (f : Bay → Bay) :
    (s.setBay b r).modBay b f = s.setBay b (f r) := by
  rw [State.modBay, State.setBay_bay, State.setBay_setBay]

theorem State.setBay_issue (s : State) (b : BayId) (r : Bay) (req : DriveReq) :
    (s.setBay b r).issue b req = s.setBay b (r.withRequest req (s.now + req.timeout)) :=
  s.setBay_modBay b r _

theorem State.setBay_setStable (alloc : r.burn = some a) (n : Nat) :
    (s.setBay b r).setStable b n = s.setBay b { r with burn := some { a with stable := n } } := by
  rw [State.setStable, State.setBay_modBay, alloc]
  rfl

theorem State.setBay_setReserveLow (s : State) (b : BayId) (r : Bay) :
    (s.setBay b r).setReserveLow = s.setReserveLow.setBay b r := rfl

/-- A port that is not free, and a bay that is not in BURNING, have no feed test (R59). -/
theorem State.feedTest_rests (h : (u.bay b).state ≠ .burning ∨ (u.bay b).out ≠ none ∨ (u.bay b).susp ≠ none) :
    u.feedTest b = u := by
  unfold State.feedTest
  dsimp only
  split
  · refine if_neg fun ⟨burning, out, susp, _⟩ => ?_
    rcases h with h | h | h
    · exact h burning
    · exact h out
    · exact h susp
  · rfl

/-! ## Orders (R49, R86) -/

theorem Bay.portFree_iff (r : Bay) : r.portFree = true ↔ r.out = none ∧ r.susp = none := by
  simp [Bay.portFree]

theorem DriveReq.isWrite_iff (req : DriveReq) : req.isWrite = true ↔ ∃ first n data, req = .write first n data := by
  cases req <;> simp [DriveReq.isWrite]

theorem Bay.canSuspend_iff (r : Bay) : r.canSuspend = true ↔ r.susp = none ∧
    (r.out = none ∨ ∃ o first n data, r.out = some o ∧ o.req = .write first n data) := by
  unfold Bay.canSuspend
  cases out : r.out <;> simp [DriveReq.isWrite_iff]

/-- A port that has a request outstanding has no feed test. -/
theorem State.setBay_feedTest_busy (busy : ¬ (r.out = none ∧ r.susp = none)) :
    (s.setBay b r).feedTest b = s.setBay b r :=
  State.feedTest_rests (by rw [State.setBay_bay]; exact .inr (not_and_or.1 busy))

/-- An order is issued on a free port. -/
theorem State.setBay_order_free (free : r.out = none ∧ r.susp = none) (req : DriveReq) :
    (s.setBay b r).order b req = s.setBay b (r.withRequest req (s.now + req.timeout)) := by
  rw [State.order, State.setBay_bay, if_pos (r.portFree_iff.2 free), State.setBay_issue]

/-- On any other it is declined. -/
theorem State.setBay_order_busy (busy : ¬ (r.out = none ∧ r.susp = none)) (req : DriveReq) :
    (s.setBay b r).order b req = s.setBay b r := by
  rw [State.order, State.setBay_bay, if_neg (mt r.portFree_iff.1 busy), State.setBay_feedTest_busy busy]

/-! ## The check of a bay in BURNING (R81 to R84) -/

section

variable (alloc : r.burn = some a)

include alloc

/-- Below the critical level with a drive that can be suspended: SUSPEND, issued or not (R81). -/
theorem State.setBay_burningCheck_suspends (critical : lead < s.settingNat 3) (can : r.suspends = true) :
    let x := { r with burn := some { a with stable := 0 } }
    (¬ r.canSuspend = true → (s.setBay b r).burningCheck b a lead = s.setReserveLow.setBay b x) ∧
      (r.canSuspend = true → (s.setBay b r).burningCheck b a lead = s.setReserveLow.setBay b { x with
        requestNumber := r.requestNumber + 1
        susp := some { number := r.requestNumber + 1, deadline := s.now + 2000 } }) := by
  intro x
  let w := s.setReserveLow.setBay b x
  have wbay : w.bay b = x := State.setBay_bay ..
  have check : (s.setBay b r).burningCheck b a lead = if (w.bay b).susp.isSome then w
      else if (w.bay b).canSuspend then w.issueSuspend b else w.feedTest b := by
    have low : (s.setBay b r).setReserveLow.setStable b 0 = w := State.setBay_setStable (s := s.setReserveLow) alloc 0
    rw [← low]
    exact if_pos ⟨critical, by rw [State.setBay_bay]; exact can⟩
  rw [check, wbay]
  have same : x.canSuspend = r.canSuspend := rfl
  rw [same]
  refine ⟨fun not_ => ?declined, fun may => ?issued⟩
  case declined =>
    rw [if_neg not_]
    split
    · rfl
    · next alone =>
      refine State.setBay_feedTest_busy fun free => not_ (r.canSuspend_iff.2 ⟨free.2, .inl free.1⟩)
  case issued =>
    rw [if_neg (by simp [x, (r.canSuspend_iff.1 may).1]), if_pos may]
    exact State.setBay_modBay ..

/-- Below the low level above the lowest step: a step down (R82). -/
theorem State.setBay_burningCheck_stepsDown (below : lead < s.settingNat 4)
    (not_ : ¬ (lead < s.settingNat 3 ∧ r.suspends = true)) (higher : 0 < a.step) :
    let v := if lead < s.settingNat 3 then s.setReserveLow else s
    let x := { r with burn := some { a with stable := 0 } }
    (s.setBay b r).burningCheck b a lead = (v.setBay b x).order b (.speed (a.step - 1)) := by
  intro v x
  have low : (if lead < s.settingNat 3 then (s.setBay b r).setReserveLow else s.setBay b r) = v.setBay b r := by
    unfold v
    split <;> rfl
  have check : (s.setBay b r).burningCheck b a lead =
      ((if lead < s.settingNat 3 then (s.setBay b r).setReserveLow else s.setBay b r).setStable b 0).order b
        (.speed (a.step - 1)) :=
    (if_neg (by rw [State.setBay_bay]; exact not_)).trans (if_pos ⟨below, higher⟩)
  rw [check, low, State.setBay_setStable alloc]

/-- Below the low level at the lowest step: RESERVE_LOW alone (R82). -/
theorem State.setBay_burningCheck_lowest (below : lead < s.settingNat 4)
    (not_ : ¬ (lead < s.settingNat 3 ∧ r.suspends = true)) (lowest : a.step = 0) :
    (s.setBay b r).burningCheck b a lead = s.setReserveLow.setBay b { r with burn := some { a with stable := 0 } } := by
  have check : (s.setBay b r).burningCheck b a lead = (s.setBay b r).setReserveLow.setStable b 0 :=
    (if_neg (by rw [State.setBay_bay]; exact not_)).trans ((if_neg (by simp [lowest])).trans (if_pos below))
  rw [check, State.setBay_setReserveLow, State.setBay_setStable alloc]

/-- Between the low and the recovery level the stable count starts again (R83). -/
theorem State.setBay_burningCheck_between (order : s.settingNat 3 < s.settingNat 4) (above : s.settingNat 4 ≤ lead)
    (below : lead < s.settingNat 5) :
    (s.setBay b r).burningCheck b a lead = s.setBay b { r with burn := some { a with stable := 0 } } := by
  have check : (s.setBay b r).burningCheck b a lead = (s.setBay b r).setStable b 0 :=
    (if_neg fun h => absurd (h.1.trans order) (Nat.not_lt.2 above)).trans
      ((if_neg fun h => absurd h.1 (Nat.not_lt.2 above)).trans
        ((if_neg (Nat.not_lt.2 above)).trans (if_neg (Nat.not_le.2 below))))
  rw [check, State.setBay_setStable alloc]

/-- The step-up test (R84): no step up, or one on a free port, or one declined. -/
theorem State.setBay_stepUpTest :
    let up := r.rate (a.step + 1)
    let steps := s.settingNat 6 ≤ a.stable ∧ a.step < r.lastStep ∧ s.governor.queue = [] ∧
      s.governor.sum - a.rate + up ≤ s.settingNat 2
    (¬ steps ∨ ¬ (r.out = none ∧ r.susp = none) → (s.setBay b r).stepUpTest b = s.setBay b r) ∧
      (steps → r.out = none ∧ r.susp = none → (s.setBay b r).stepUpTest b =
        State.setBay { s with governor := { s.governor with sum := s.governor.sum - a.rate + up } } b
          ({ r with burn := some { a with rate := up, stable := 0 } }.withRequest (.speed (a.step + 1)) (s.now + 2000))) := by
  intro up steps
  let w := ((s.setBay b r).modBay b fun x => { x with burn := some { a with rate := up, stable := 0 } }).modGov
    fun g => { g with sum := g.sum - a.rate + up }
  have check : (s.setBay b r).stepUpTest b = if steps then
      if r.portFree then w.issue b (.speed (a.step + 1)) else (s.setBay b r).feedTest b else s.setBay b r := by
    unfold State.stepUpTest
    dsimp only
    rw [State.setBay_bay, alloc]
    rfl
  rw [check]
  refine ⟨fun stays => ?_, fun goes free => ?_⟩
  · split
    · next goes =>
      have busy := stays.resolve_left (not_not_intro goes)
      rw [if_neg (mt r.portFree_iff.1 busy), State.setBay_feedTest_busy busy]
    · rfl
  · rw [if_pos goes, if_pos (r.portFree_iff.2 free)]
    have taken : w = State.setBay { s with governor := { s.governor with sum := s.governor.sum - a.rate + up } } b
        { r with burn := some { a with rate := up, stable := 0 } } := by
      simp only [w, State.setBay_modBay]
      rfl
    rw [taken, State.setBay_issue]
    rfl

end

/-! ## The expiry of the reserve timer (R79, R80, R85) -/

/-- The lead of a feeding bay (R79). -/
theorem State.lead_of_feeding {cursor : Nat} {k : ImageId} {i : Image} (hr : u.bay b = r)
    (feeding : r.state = .burning ∨ r.state = .suspended) (cur : r.cursor = some cursor) (slot : r.imageSlot = some k)
    (hi : u.image k = some i) (alloc : r.burn = some a) : u.lead b =
      some (if i.fill = i.size then 65535
        else min 65535 ((i.fill - cursor + r.buffer.getD 0) * 1000 / r.rate a.step)) := by
  subst hr
  have image : u.imageOf (u.bay b) = some i := by rw [State.imageOf, slot]; exact hi
  unfold State.lead
  dsimp only
  rw [if_pos ((Bay.feeding_iff _).2 feeding), image, alloc, cur]
  rfl

/-- The record of the bay with its reserve timer started again. -/
def Bay.retimed (r : Bay) (at_ : Nat) : Bay := { r with reserveTimer := some at_ }

theorem execReserveTimerExpiry_checks (running : (s.bay b).reserveTimer ≠ none)
    (feeding : (s.bay b).state = .burning ∨ (s.bay b).state = .suspended) : exec (.reserveTimerExpiry b) s =
      .next ((s.setBay b ((s.bay b).retimed (s.now + s.settingNat 7))).reserveCheck b) :=
  congrArg Host.Outcome.next (if_pos ⟨Option.isSome_iff_ne_none.2 running, (Bay.feeding_iff _).2 feeding⟩)

/-- The check of a bay in SUSPENDED: RESUME, on a free port, from the recovery level on (R85). -/
theorem State.setBay_reserveCheck_suspended (suspended : r.state = .suspended) (hlead : (s.setBay b r).lead b = some lead)
    (alloc : r.burn = some a) :
    (s.settingNat 5 ≤ lead → r.out = none ∧ r.susp = none →
      (s.setBay b r).reserveCheck b = s.setBay b (r.withRequest .resume (s.now + 2000))) ∧
    (lead < s.settingNat 5 ∨ ¬ (r.out = none ∧ r.susp = none) → (s.setBay b r).reserveCheck b = s.setBay b r) := by
  have check : (s.setBay b r).reserveCheck b =
      if s.settingNat 5 ≤ lead then (s.setBay b r).order b .resume else s.setBay b r := by
    unfold State.reserveCheck
    rw [hlead, State.setBay_bay, alloc]
    exact if_neg (by simp [suspended])
  rw [check]
  refine ⟨fun above free => ?_, fun stays => ?_⟩
  · rw [if_pos above]
    exact State.setBay_order_free free .resume
  · split
    · next above => exact State.setBay_order_busy (stays.resolve_left (Nat.not_lt.2 above)) .resume
    · rfl

/-- Settles O44: the lead of R79, then the case of the check that it falls in, and the bay's port. -/
theorem reserveCheckTakesItsCase : Obligations.ReserveCheckTakesItsCase := by
  intro s b a cursor k i alloc cur slot hi running order order' lead timer low up stable steps suspends free canSuspend c
  let x := (s.bay b).retimed (s.now + s.settingNat 7)
  have at_ : (s.setBay b x).bay b = x := s.setBay_bay b x
  have can : suspends ↔ x.suspends = true := (Bay.suspends_iff (s.bay b)).symm
  have may : canSuspend ↔ x.canSuspend = true := (Bay.canSuspend_iff (s.bay b)).symm
  refine ⟨fun burning => ?burning, fun suspended => ?suspended⟩
  case burning =>
    have feeding : (s.bay b).state = .burning ∨ (s.bay b).state = .suspended := .inl burning
    have hlead : (s.setBay b x).lead b = some lead := State.lead_of_feeding (r := x) at_ feeding cur slot hi alloc
    have runs : exec c s = .next ((s.setBay b x).burningCheck b a lead) :=
      (execReserveTimerExpiry_checks running feeding).trans
        (congrArg _ (State.reserveCheck_burning at_ burning hlead alloc))
    have suspending := State.setBay_burningCheck_suspends (s := s) (b := b) (r := x) (lead := lead) alloc
    have lower := State.setBay_burningCheck_stepsDown (s := s) (b := b) (r := x) (lead := lead) alloc
    have lowest := State.setBay_burningCheck_lowest (s := s) (b := b) (r := x) (lead := lead) alloc
    have stepUp := State.setBay_stepUpTest (s := s) (b := b) (r := { x with burn := some { a with stable } })
      (a := { a with stable }) rfl
    have recovered (above : s.settingNat 5 ≤ lead) : exec c s =
        .next ((s.setBay b { x with burn := some { a with stable } }).stepUpTest b) := by
      rw [runs, State.burningCheck_recovered (u := s.setBay b x) order order' above]
      exact congrArg (fun v => Host.Outcome.next (State.stepUpTest v b)) (State.setBay_setStable (r := x) alloc _)
    have reported : (if lead < s.settingNat 3 then s.setReserveLow else s) =
        { s with status := if lead < s.settingNat 3 then low else s.status } := by
      split <;> rfl
    have cannot : ¬ (lead < s.settingNat 3 ∧ suspends) → ¬ (lead < s.settingNat 3 ∧ x.suspends = true) :=
      mt (And.imp_right can.2)
    refine ⟨State.lead_of_feeding rfl feeding cur slot hi alloc,
      fun critical possible not_ => runs.trans (congrArg _ ((suspending critical (can.1 possible)).1 (mt may.2 not_))),
      fun critical possible yes => runs.trans (congrArg _ ((suspending critical (can.1 possible)).2 (may.1 yes))),
      fun below not_ higher busy => ?declined, fun below not_ higher alone => ?down,
      fun below not_ least => runs.trans (congrArg _ (lowest below (cannot not_) least)),
      fun above below => runs.trans (congrArg _ (State.setBay_burningCheck_between alloc order above below)),
      fun above stays => ?stays, fun above goes alone => ?up⟩
    case declined =>
      rw [runs, lower below (cannot not_) higher, reported]
      exact congrArg _ (State.setBay_order_busy (r := { x with burn := some { a with stable := 0 } }) busy _)
    case down =>
      rw [runs, lower below (cannot not_) higher, reported]
      exact congrArg _ (State.setBay_order_free (r := { x with burn := some { a with stable := 0 } }) alone _)
    case stays =>
      exact (recovered above).trans (congrArg _ (stepUp.1 stays))
    case up =>
      exact (recovered above).trans (congrArg _ (stepUp.2 goes alone))
  case suspended =>
    have feeding : (s.bay b).state = .burning ∨ (s.bay b).state = .suspended := .inr suspended
    have hlead : (s.setBay b x).lead b = some lead := State.lead_of_feeding (r := x) at_ feeding cur slot hi alloc
    have check := State.setBay_reserveCheck_suspended (s := s) (b := b) (r := x) suspended hlead alloc
    have runs : exec c s = .next ((s.setBay b x).reserveCheck b) := execReserveTimerExpiry_checks running feeding
    exact ⟨State.lead_of_feeding rfl feeding cur slot hi alloc,
      fun above alone => runs.trans (congrArg _ (check.1 above alone)),
      fun stays => runs.trans (congrArg _ (check.2 stays))⟩

end Sys2Proof.Machine
end

/-! # Proofs: BAY QUERY, BAY OFFLINE and BAY ONLINE (R73, R79, R92, R160, R161) -/

section

namespace Sys2Proof.Machine

variable {s : State} {b : BayId} {v : Byte}

/-! ## BAY QUERY (R73, R92) -/

theorem BayId.byte_ne_255 (b : BayId) : BitVec.ofNat 8 b.val ≠ 255 := by
  revert b
  decide

theorem execBayQuery_fitted (fitted : b.val < s.settings.fittedBays) :
    exec (.bayQuery (BitVec.ofNat 8 b.val)) s = .next (s.answer 0x60 .ok (.bay (s.bayReport b))) := by
  simp only [exec, execBayQuery, if_neg (BayId.byte_ne_255 b), finOf_ofNat b (by decide), State.fitted, fitted,
    decide_true, if_true]
  rfl

theorem execBayQuery_notFitted (beyond : s.settings.fittedBays ≤ b.val) :
    exec (.bayQuery (BitVec.ofNat 8 b.val)) s = .next (s.answer 0x60 .notFitted .none) := by
  have not_ : s.fitted b = false := by simpa [State.fitted] using beyond
  simp only [exec, execBayQuery, if_neg (BayId.byte_ne_255 b), finOf_ofNat b (by decide), not_]
  rfl

theorem execBayQuery_badField (bad : 12 ≤ v.toNat) (one : v ≠ 255) :
    exec (.bayQuery v) s = .next (s.answer 0x60 .badField .none) := by
  simp only [exec, execBayQuery, if_neg one, finOf_eq_none bad]
  rfl

theorem placeIn_absent {l : List AdmEntry} (h : ∀ e ∈ l, e.bay ≠ b) (n : Nat) : placeIn b n l = none := by
  induction l generalizing n with
  | nil => rfl
  | cons e l ih =>
    rw [placeIn, if_neg (h e List.mem_cons_self)]
    exact ih (fun x hx => h x (List.mem_cons_of_mem _ hx)) _

/-- A bay's place counts the entries before its first one. -/
theorem placeIn_append {older younger : List AdmEntry} {e : AdmEntry} (before : ∀ x ∈ older, x.bay ≠ b) (at_ : e.bay = b)
    (n : Nat) : placeIn b n (older ++ e :: younger) = some (older.length + n) := by
  induction older generalizing n with
  | nil => simp [placeIn, at_]
  | cons x older ih =>
    rw [List.cons_append, placeIn, if_neg (before x List.mem_cons_self),
      ih fun y hy => before y (List.mem_cons_of_mem _ hy)]
    simp only [List.length_cons]
    congr 1
    omega

theorem State.bayReport_lead (burning : (s.bay b).state ≠ .burning) (suspended : (s.bay b).state ≠ .suspended) :
    (s.bayReport b).lead = none := by
  have idle : ¬ (s.bay b).feeding = true := by simp [Bay.feeding_iff, burning, suspended]
  exact if_neg idle

theorem State.bayReport_notQueued (h : ∀ e ∈ s.governor.queue, e.bay ≠ b) :
    (s.bayReport b).place = none ∧ (s.bayReport b).offered = none := by
  have none_ : (s.governor.queue.find? fun e => e.bay == b) = none :=
    List.find?_eq_none.2 fun e he => by simpa using h e he
  refine ⟨placeIn_absent h 1, ?_⟩
  simp [State.bayReport, none_]

theorem State.bayReport_queued {older younger : List AdmEntry} {e : AdmEntry}
    (queue : s.governor.queue = older ++ e :: younger) (at_ : e.bay = b) (before : ∀ x ∈ older, x.bay ≠ b) :
    (s.bayReport b).place = some (older.length + 1) ∧ (s.bayReport b).offered = e.admitting := by
  have first : (s.governor.queue.find? fun x => x.bay == b) = some e := by
    rw [queue, List.find?_append, List.find?_eq_none.2 fun x hx => by simpa using before x hx]
    simp [at_]
  refine ⟨?_, by simp [State.bayReport, first]⟩
  have place := placeIn_append before at_ 1 (younger := younger)
  rwa [← queue] at place

/-! ## The checks of BAY OFFLINE and BAY ONLINE (R160, R161) -/

theorem State.bayCheck_busy (stage : s.settings.stage ≠ .ready) : s.bayCheck v = .error .busy :=
  if_pos (by simpa [State.ready] using stage)

theorem State.bayCheck_badField (stage : s.settings.stage = .ready) (bad : 12 ≤ v.toNat) :
    s.bayCheck v = .error .badField := by
  rw [State.bayCheck, if_neg (by simp [State.ready, stage]), finOf_eq_none bad]

theorem State.bayCheck_fitted (stage : s.settings.stage = .ready) (fitted : b.val < s.settings.fittedBays) :
    s.bayCheck (BitVec.ofNat 8 b.val) = .ok b := by
  rw [State.bayCheck, if_neg (by simp [State.ready, stage]), finOf_ofNat b (by decide)]
  exact if_pos (by simpa [State.fitted] using fitted)

theorem State.bayCheck_notFitted (stage : s.settings.stage = .ready) (small : v.toNat < 12)
    (beyond : s.settings.fittedBays ≤ v.toNat) : s.bayCheck v = .error .notFitted := by
  rw [State.bayCheck, if_neg (by simp [State.ready, stage]), finOf, dif_pos small]
  exact if_neg (by simpa [State.fitted] using beyond)

theorem execBays_refuse {why : Result} (check : s.bayCheck v = .error why) :
    exec (.bayOffline v) s = .next (s.answer 0x61 why .none) ∧ exec (.bayOnline v) s = .next (s.answer 0x62 why .none) := by
  simp only [exec, execBayOffline, execBayOnline, check]
  exact ⟨rfl, rfl⟩

/-! ## BAY OFFLINE (R160) -/

theorem execBayOffline_goes (check : s.bayCheck v = .ok b) (not_ : (s.bay b).state ≠ .fault) :
    exec (.bayOffline v) s =
      .next ((s.setBay b (s.bay b).wentOffline).answer 0x61 .ok (.bayState (s.bay b).wentOffline.state)) := by
  simp only [exec, execBayOffline, check, if_neg not_]
  rfl

theorem execBayOffline_fault (check : s.bayCheck v = .ok b) (fault : (s.bay b).state = .fault) :
    exec (.bayOffline v) s = .next (s.answer 0x61 .state .none) := by
  simp only [exec, execBayOffline, check, if_pos fault]
  rfl

/-- An EMPTY bay goes OFFLINE at once, an OFFLINE one stays, any other is marked. -/
theorem Bay.wentOffline_eq (r : Bay) : r.wentOffline =
    if r.state = .empty then { r with state := .offline }
    else if r.state = .offline then r else { r with offlineAfter := true } := by
  unfold Bay.wentOffline
  cases r.state <;> rfl

/-! ## BAY ONLINE (R161) -/

theorem execBayOnline_refused (check : s.bayCheck v = .ok b)
    (not_ : ¬ ((s.bay b).state = .offline ∨ (s.bay b).state = .fault)) :
    exec (.bayOnline v) s = .next (s.answer 0x62 .state .none) := by
  simp only [exec, execBayOnline, check, if_neg not_]
  rfl

theorem execBayOnline_brings (check : s.bayCheck v = .ok b) (out : (s.bay b).state = .offline ∨ (s.bay b).state = .fault) :
    exec (.bayOnline v) s = .next ((s.bringOnline b).answer 0x62 .ok .none) := by
  simp only [exec, execBayOnline, check, if_pos out]
  rfl

/-- The bay's record when its survey starts, its counts cleared. -/
def Bay.broughtOnline (now : Nat) (r : Bay) : Bay :=
  ({ r with state := .ident, survey := true, timeouts := 0, handoverFailures := 0, offlineAfter := false
            identDeadline := some (now + 30000) }).withRequest .identify (now + 30000)

theorem State.bringOnline_eq (s : State) (b : BayId) :
    s.bringOnline b = (s.modBay b (Bay.broughtOnline s.now)).reportBayFault := by
  simp only [State.bringOnline, State.startSurvey, State.issueIdentify, State.issue, State.modBay_modBay]
  rfl

/-- BAY_FAULT is reported while a bay is in FAULT (R71). -/
theorem State.reportBayFault_cond (s : State) :
    s.reportBayFault.cond .bayFault = true ↔ ∃ m, (s.bay m).state = .fault := by
  rw [State.reportBayFault, State.report_cond, if_pos rfl, List.any_eq_true]
  constructor
  · rintro ⟨r, hr, fault⟩
    obtain ⟨m, hm, rfl⟩ := Vector.mem_iff_getElem.1 (Vector.mem_toList_iff.1 hr)
    exact ⟨⟨m, hm⟩, eq_of_beq fault⟩
  · rintro ⟨m, fault⟩
    exact ⟨s.bay m, Vector.mem_toList_iff.2 (Vector.getElem_mem _), by simp [fault]⟩

/-- Settles O39, request by request: the checks in their order, then the bay's state. -/
theorem bayRequestsActByState : Obligations.BayRequestsActByState := by
  refine ⟨fun s b fitted => ?query, fun s => rfl, fun s v bad one => execBayQuery_badField bad one,
    fun s b beyond => execBayQuery_notFitted beyond, fun s b stage fitted => ?acts, fun s v => ?refusals⟩
  case query =>
    exact ⟨s.bayReport b, execBayQuery_fitted fitted, rfl, rfl, rfl, rfl, rfl, rfl, rfl, rfl, rfl, rfl, rfl, rfl, rfl, rfl, rfl,
      rfl, rfl, rfl, rfl, State.bayReport_lead, State.bayReport_notQueued,
      fun older e younger queue at_ before => State.bayReport_queued queue at_ before⟩
  case acts =>
    intro off on set
    have check := State.bayCheck_fitted stage fitted
    have goes := execBayOffline_goes check
    rw [Bay.wentOffline_eq] at goes
    refine ⟨fun empty => ?empty, fun offline => ?offline, execBayOffline_fault check,
      fun empty offline fault => ⟨?marked, execBayOnline_refused check (by simp [offline, fault])⟩,
      fun empty => execBayOnline_refused check (by simp [empty]), fun out => ?online⟩
    case empty =>
      rw [if_pos empty] at goes
      exact goes (by simp [empty])
    case offline =>
      rw [if_neg (by simp [offline]), if_pos offline, offline] at goes
      exact goes nofun
    case marked =>
      rw [if_neg empty, if_neg offline] at goes
      exact goes fault
    case online =>
      intro faulted
      have bay : (s.bringOnline b).bay b = (s.bay b).broughtOnline s.now := by
        rw [State.bringOnline_eq, State.reportBayFault_bay, State.modBay_bay]
      have others : ∀ m, m ≠ b → (s.bringOnline b).bay m = s.bay m := fun m hm => by
        rw [State.bringOnline_eq, State.reportBayFault_bay, State.modBay_bay_ne _ _ hm]
      refine ⟨s.bringOnline b, execBayOnline_brings check out, bay, others, ?_, by rw [State.changesOnly_iff]; simp⟩
      have reported := (s.modBay b (Bay.broughtOnline s.now)).reportBayFault_cond
      rw [← State.bringOnline_eq] at reported
      rw [reported]
      constructor
      · rintro ⟨m, fault⟩
        have other : m ≠ b := by
          rintro rfl
          rw [State.modBay_bay] at fault
          exact nomatch fault
        exact ⟨m, other, by rwa [State.modBay_bay_ne _ _ other] at fault⟩
      · rintro ⟨m, other, fault⟩
        exact ⟨m, by rwa [State.modBay_bay_ne _ _ other]⟩
  case refusals =>
    exact ⟨fun stage => execBays_refuse (State.bayCheck_busy stage),
      fun stage bad => execBays_refuse (State.bayCheck_badField stage bad),
      fun stage small beyond => execBays_refuse (State.bayCheck_notFitted stage small beyond)⟩

end Sys2Proof.Machine
end

/-! # Proofs: operations that clear no latched condition and no pending event (R178, R183) -/

section

namespace Sys2Proof.Machine

variable {s t u : State} {b : BayId} {n : Nat}

/-- From one state to the other a latched condition (10 section 10.1) that is true stays true, and a pending event stays pending. -/
structure State.signalsKept (s t : State) : Prop where
  latched : ∀ c : Cond, 10 ≤ c.bit → s.cond c = true → t.cond c = true
  events : s.pendingGrows t

theorem State.signalsKept.refl (s : State) : s.signalsKept s := ⟨fun _ _ => id, fun _ => id⟩

/-! Each operation, after operations that keep the signals. -/

theorem State.signalsKept.same (h : s.signalsKept u) (e : t.status = u.status) : s.signalsKept t :=
  ⟨fun c hc hs => (State.cond_of_live (congrArg _ e) c).trans (h.latched c hc hs), fun d hd => e ▸ h.events d hd⟩

theorem State.signalsKept.raise (h : s.signalsKept u) (e : Event) : s.signalsKept (u.raise e) :=
  ⟨h.latched, fun d hd => u.raise_grows e d (h.events d hd)⟩

theorem State.signalsKept.latch (h : s.signalsKept u) (c : Cond) : s.signalsKept (u.latch c) :=
  ⟨fun d hc hd => by rw [State.latch_cond, h.latched d hc hd, ite_self], h.events⟩

/-- A report of a current condition. -/
theorem State.signalsKept.report (h : s.signalsKept u) {c : Cond} (current : c.bit < 10) (v : Bool) :
    s.signalsKept (u.report c v) := by
  refine ⟨fun d latched hd => ?_, h.events⟩
  have other : d ≠ c := by
    rintro rfl
    exact Nat.not_lt.2 latched current
  rw [State.report_cond, if_neg other, h.latched d latched hd]

/-! ## Staging memory (R37 to R43) -/

theorem State.signalsKept.returnSegments (h : s.signalsKept u) (n : Nat) : s.signalsKept (u.returnSegments n) := by
  unfold State.returnSegments State.stageSpace
  split
  · exact h
  · split
    · exact State.signalsKept.raise (h.same (by rfl)) _
    · exact h.same rfl

theorem State.signalsKept.passEndTest (h : s.signalsKept u) (k : ImageId) : s.signalsKept (u.passEndTest k) := by
  unfold State.passEndTest
  split
  · exact h
  · split
    · exact .raise (.returnSegments (h.same (by rfl)) _) _
    · exact h

theorem State.signalsKept.releaseLoop (k : ImageId) (n : Nat) (h : s.signalsKept u) :
    s.signalsKept (State.releaseLoop k n u) := by
  induction n generalizing u with
  | zero => exact h
  | succ n ih =>
    unfold State.releaseLoop
    split
    · exact h
    · split
      · exact ih (.passEndTest (.returnSegments (h.same (by rfl)) _) _)
      · exact h

theorem State.signalsKept.releaseEvaluation (h : s.signalsKept u) (k : ImageId) :
    s.signalsKept (u.releaseEvaluation k) := by
  unfold State.releaseEvaluation
  split
  · exact h
  · exact .releaseLoop k _ h

theorem State.signalsKept.leaveImage (h : s.signalsKept u) (b : BayId) : s.signalsKept (u.leaveImage b) := by
  unfold State.leaveImage State.leaveConsumers
  split
  · split
    · exact h
    · split
      · exact .releaseEvaluation (.passEndTest (h.same (by rfl)) _) _
      · exact h
  · exact h

/-! ## A bay's work given up (R66, R71) -/

theorem State.signalsKept.abandonWork (h : s.signalsKept u) (b : BayId) : s.signalsKept (u.abandonWork b) := by
  have left := h.same (t := ((u.portReset b).modBay b fun r =>
    { r with retryTimer := none, identDeadline := none, reserveTimer := none }).leaveAdmission b) (by simp [State.portReset])
  exact (left.leaveImage b).same (by simp [State.abandonWork])

theorem State.signalsKept.bayFaultEntry (h : s.signalsKept u) (b : BayId) : s.signalsKept (u.bayFaultEntry b) :=
  .raise (.report ((h.abandonWork b).same (by rfl)) (by decide) _) _

theorem State.signalsKept.countJob (h : s.signalsKept u) (k : JobSlot) (f : Job → Job) :
    s.signalsKept (u.countJob k f) :=
  ⟨fun c hc hs => (State.cond_of_live (u.countJob_live k f) c).trans (h.latched c hc hs),
    fun e he => u.countJob_grows k f e (h.events e he)⟩

theorem State.signalsKept.postUnload (h : s.signalsKept u) (b : BayId) (n : Nat) (dest : Station) :
    s.signalsKept (u.postUnload b n dest) := by
  unfold State.postUnload
  split
  · exact h.same (by simp)
  · next k _ i _ =>
    have counted : s.signalsKept (u.createDispatch k i b) := .countJob (h.same (by rfl)) k _
    exact counted.same (by simp)

theorem State.signalsKept.enterAwaitUnload (h : s.signalsKept u) (b : BayId) (n : Nat) :
    s.signalsKept (u.enterAwaitUnload b n) :=
  .postUnload (h.same (by rfl)) b n _

theorem State.signalsKept.bayReject (h : s.signalsKept u) (b : BayId) (why : RejectReason) :
    s.signalsKept (u.bayReject b why) := by
  unfold State.bayReject
  split
  · exact h
  · exact .enterAwaitUnload (.abandonWork (h.same (by rfl)) b) b _

end Sys2Proof.Machine
end

/-! # Proofs: verify lanes and READ completions (R6, R66, R93 to R104) -/

section

namespace Sys2Proof.Machine

variable {s u : State} {b : BayId} {o : Outstanding} {n : Nat} {l : LaneId} {y : Lane} {i : Image} {d : Disc}

/-! ## The lanes (R93 to R95) -/

theorem VerifyEngine.freeLane_eq (free : s.lane l = none) (lowest : ∀ x, x < l → s.lane x ≠ none) :
    s.verify.freeLane = some l := by
  have isFree : s.verify.lanes[l.val].isNone = true := by rw [show s.verify.lanes[l.val] = none from free]; rfl
  unfold VerifyEngine.freeLane
  rw [List.find?_eq_some_iff_getElem]
  refine ⟨isFree, l.val, by simp, by simp, fun x hx => ?_⟩
  have taken := lowest ⟨x, hx.trans l.isLt⟩ hx
  simpa [State.lane, Option.ne_none_iff_isSome] using taken

theorem VerifyEngine.freeLane_none (busy : ∀ x, s.lane x ≠ none) : s.verify.freeLane = none :=
  List.find?_eq_none.2 fun x _ => by
    have taken := busy x
    simpa [State.lane, Option.ne_none_iff_isSome] using taken

/-- The lane that serves a bay, when no other does. -/
theorem VerifyEngine.laneOf_eq (lane : s.lane l = some y) (serves : y.bay = b)
    (only : ∀ x z, s.lane x = some z → z.bay = b → x = l) : s.verify.laneOf b = some l := by
  unfold VerifyEngine.laneOf
  cases found : List.find? _ _ with
  | none =>
    have missed := List.find?_eq_none.1 found l (List.mem_finRange l)
    rw [show s.verify.lanes[l.val] = some y from lane] at missed
    simp [serves] at missed
  | some x =>
    have hit := List.find?_some found
    split at hit
    · next z hz => rw [only x z hz (eq_of_beq hit)]
    · exact nomatch hit

/-- No bay becomes EMPTY by a take. -/
theorem State.takeHead_emptied (s : State) (l : LaneId) (b c : BayId) (empty : ((s.takeHead l b).bay c).state = .empty) :
    (s.bay c).state = .empty := by
  unfold State.takeHead at empty
  dsimp only at empty
  split at empty
  · exact empty
  · have taken := State.emptied_of_states (State.issue_states _ b _) c empty
    have waited := State.emptied_of_modBay _ (b := b) (fun _ => by simp) c taken
    exact waited

/-- Takes start no evaluation (R19). -/
theorem State.takeLanes_quiet (n : Nat) (s : State) : s.quiet (State.takeLanes n s) := by
  have emptied : ∀ n (s : State) c, ((State.takeLanes n s).bay c).state = .empty → (s.bay c).state = .empty := by
    intro n
    induction n with
    | zero => exact fun _ _ => id
    | succ n ih =>
      intro s c empty
      unfold State.takeLanes at empty
      split at empty
      · exact s.takeHead_emptied _ _ c (ih _ c empty)
      · exact empty
  exact State.undisturbed.quiet {
    wanted := by simp, stage := by simp, jobs := by simp, records := by simp, spindles := by simp, queue := by simp
    printer := by simp, staging := by simp, emptied := emptied n s }

theorem execVerifyLaneTake_eq (s : State) : exec .verifyLaneTake s = .next (State.takeLanes 12 s) :=
  congrArg _ (State.takeLanes_quiet 12 s).watched

/-- No lane is FREE, or no bay waits. -/
theorem State.takeLanes_none (h : s.verify.queue = [] ∨ ∀ l, s.lane l ≠ none) (n : Nat) : State.takeLanes n s = s := by
  cases n with
  | zero => rfl
  | succ n =>
    rw [State.takeLanes]
    rcases h with h | h
    · rw [h]
      cases s.verify.freeLane <;> rfl
    · rw [VerifyEngine.freeLane_none h]

/-- The lane takes the bay at the head, and the rest of the queue follows (R94, R95). -/
theorem State.takeLanes_takes {rest : List BayId} (queue : s.verify.queue = b :: rest) (few : rest.length < 12)
    (free : s.lane l = none) (lowest : ∀ x, x < l → s.lane x ≠ none) :
    State.takeLanes 12 s = State.takeLanes 12 (s.takeHead l b) := by
  have left : (s.takeHead l b).verify.queue.length ≤ 11 := by
    rw [State.takeHead_queue, queue]
    exact Nat.le_of_lt_succ few
  rw [State.takeLanes_enough 11 _ left, State.takeLanes, VerifyEngine.freeLane_eq free lowest, queue]

/-- What a take makes of the lane and the bay (R95). -/
theorem State.takeHead_eq {k : JobSlot} {j : Job} {m : ImageId} {rest : List BayId} (queue : s.verify.queue = b :: rest)
    (holds : (s.bay b).disc = some n) (job : (s.bay b).job = some k) (hj : s.job k = some j)
    (slot : (s.bay b).imageSlot = some m) (hi : s.image m = some i) : s.takeHead l b = { s with
      verify := { s.verify with queue := rest, lanes := s.verify.lanes.set l.val (some
        { bay := b, disc := n, mode := j.verifyMode, stop := j.verifyStop, imageSlot := m,
          chunks := (i.size + 31) / 32, next := 0, mismatches := 0, readOut := true }) }
      bays := s.bays.set b.val (({ s.bay b with state := .verifying }).withRequest (.read 0) (s.now + 6000)) } := by
  have record : s.laneFor b = some
      { bay := b, disc := n, mode := j.verifyMode, stop := j.verifyStop, imageSlot := m,
        chunks := (i.size + 31) / 32, next := 0, mismatches := 0, readOut := true } := by
    have image : s.imageOf (s.bay b) = some i := by rw [State.imageOf, slot]; exact hi
    have job_ : (s.bay b).job.bind s.job = some j := by rw [job]; exact hj
    simp only [State.laneFor, holds, job_, slot, image, chunkCount, ceilDiv, Config.chunkSectors]
    rfl
  simp only [State.takeHead, record, State.issue, State.modBay_modBay, queue, State.modVerify, List.tail_cons]
  rfl

/-! ## READ completions (R96, R97) -/

theorem execReadComplete_runs {q index : Nat} {kind : CompletionKind} {data : List Byte}
    (verifying : (s.bay b).state = .verifying) (out : (s.bay b).out = some o) (req : o.req = .read q)
    (lane : s.lane l = some y) (serves : y.bay = b) (only : ∀ x z, s.lane x = some z → z.bay = b → x = l) :
    exec (.readComplete b o.number kind index data) s = .next (s.watched
      (if kind = .ok then s.readOk b l y index data else s.chunkHandled b l y false)) := by
  have runs : exec (.readComplete b o.number kind index data) s = execReadComplete b o.number kind index data s := rfl
  rw [runs, execReadComplete, verifying, Bay.outMatching_own out, req, VerifyEngine.laneOf_eq lane serves only]
  dsimp only
  rw [lane]

/-- What R98 to R100 ask of a chunk that is read back. -/
def chunkGood (i : Image) (y : Lane) (data : List Byte) : Prop :=
  let length := min 32 (i.size - 32 * y.next)
  data.length = length * 2048 ∧ i.digests.getD y.next none = some (digestOf data) ∧
    (y.mode = .full → data = i.read (32 * y.next) length)

theorem chunkMatches_iff (i : Image) (y : Lane) (data : List Byte) :
    chunkMatches i y.mode y.next data = true ↔ chunkGood i y data := by
  unfold chunkMatches chunkGood
  simp only [Bool.and_eq_true, Bool.or_eq_true, beq_iff_eq, bne_iff_ne, ne_eq, and_assoc, ← imp_iff_not_or]
  rfl

theorem State.readOk_chunk (hi : s.image y.imageSlot = some i) (data : List Byte) :
    s.readOk b l y y.next data = s.chunkHandled b l y (chunkMatches i y.mode y.next data) := by
  rw [State.readOk, if_pos rfl, hi]
  rfl

/-! ## A chunk handled (R101 to R104) -/

/-- A chunk has been counted, on the disc too when it does not match (R101). -/
def State.chunkCounted (s : State) (b : BayId) (y : Lane) (good : Bool) : State :=
  let u := (s.modBay b Bay.endOut).modVerify fun v => v.countChunk good
  if good then u else u.modDisc y.disc Disc.mismatched

theorem State.chunkCounted_bay (s : State) (b : BayId) (y : Lane) (good : Bool) :
    (s.chunkCounted b y good).bay b = (s.bay b).endOut := by
  unfold State.chunkCounted
  dsimp only
  split <;> exact s.modBay_bay b Bay.endOut

theorem State.chunkHandled_eq (s : State) (b : BayId) (l : LaneId) (y : Lane) (good : Bool) :
    s.chunkHandled b l y good =
      let miss := if good then y.mismatches else satInc Config.max16 y.mismatches
      if good = false ∧ y.stop = .first then (s.chunkCounted b y good).verifyFails b .verifyMismatch
      else if y.next + 1 < y.chunks then
        ((s.chunkCounted b y good).setLane l (some { y with next := y.next + 1, mismatches := miss, readOut := true })).issue
          b (.read (y.next + 1))
      else if miss = 0 then (s.chunkCounted b y good).verifySucceeds b y.disc
      else (s.chunkCounted b y good).verifyFails b .verifyMismatch := rfl

/-- A rejected disc's record. -/
theorem State.bayReject_disc (why : RejectReason) (holds : (s.bay b).disc = some n) (hd : s.disc n = some d) :
    (s.bayReject b why).disc n = some ((d.rejected why).postedFrom (s.rejecting b n why) b) := by
  rw [State.bayReject_eq why holds]
  refine State.enterAwaitUnload_disc (s.rejecting_unloadDest b n why) ?_
  rw [s.rejecting_disc b n why, hd]
  rfl

theorem Disc.rejected_postedFrom_mismatches (d : Disc) (why : RejectReason) (s : State) (b : BayId) :
    ((d.rejected why).postedFrom s b).mismatches = d.mismatches := by
  unfold Disc.rejected Disc.postedFrom
  (repeat' split) <;> rfl

/-- A verification that fails leaves its bay to the rejection, and latches and raises VERIFY_FAIL (R104). -/
theorem State.verifyFails_spec (why : RejectReason) (holds : (u.bay b).disc = some n) :
    let t := u.verifyFails b why
    u.unloadsToReject t b n why ∧ t.cond .verifyFail = true ∧ t.status.pending.getLsbD 13 = true ∧
      t.verify.counters = u.verify.counters ∧
      ∀ d, u.disc n = some d → ∃ e, t.disc n = some e ∧ e.mismatches = d.mismatches := by
  intro t
  let w := (((u.latch .verifyFail).raise .verifyFail).leaveVerify b).modBay b Bay.endOut
  have bay : w.bay b = (u.bay b).endOut := State.modBay_bay ..
  have held : (w.bay b).disc = some n := by rw [bay]; exact holds
  have kept : w.signalsKept t := .bayReject (.refl w) b why
  refine ⟨?rejects, ?latched, ?raised, by simp [t], fun d hd => ?record⟩
  case rejects =>
    exact (State.bayReject_unloadsToReject why held).seenFrom rfl rfl rfl rfl rfl rfl rfl rfl (fun d hd => ⟨d, hd, rfl⟩)
      (by rw [bay]; rfl) (by rw [bay]; rfl) (by rw [bay]; rfl) (by rw [bay]; rfl)
  case latched =>
    have latched : w.cond .verifyFail = true := (u.latch_cond .verifyFail .verifyFail).trans (if_pos rfl)
    exact kept.latched .verifyFail (by decide) latched
  case raised =>
    exact kept.events .verifyFail ((State.raise_pending _ .verifyFail .verifyFail).trans (if_pos rfl))
  case record =>
    exact ⟨_, State.bayReject_disc why held hd, Disc.rejected_postedFrom_mismatches d why _ b⟩

/-- What a counted chunk leaves as it was, and what it makes of the disc (R101). -/
theorem State.chunkCounted_spec (s : State) (b : BayId) (y : Lane) (good : Bool) :
    let u := s.chunkCounted b y good
    u.verify = s.verify.countChunk good ∧ u.discs.records.map Disc.number = s.discs.records.map Disc.number ∧
      u.disc y.disc = (s.disc y.disc).map fun d => if good then d else d.mismatched := by
  intro u
  cases good with
  | true => exact ⟨rfl, rfl, by simp only [u, State.chunkCounted, if_true, Option.map_id']; rfl⟩
  | false =>
    exact ⟨rfl, State.modDisc_numbers _ y.disc fun _ => rfl, State.modDisc_disc _ y.disc fun _ => rfl⟩

/-- A mismatch that ends the verification, or a last chunk after one, rejects the disc (R102, R104). -/
theorem State.chunkCounted_fails (why : RejectReason) (good : Bool) (holds : (s.bay b).disc = some y.disc) :
    let t := (s.chunkCounted b y good).verifyFails b why
    s.unloadsToReject t b y.disc why ∧ t.cond .verifyFail = true ∧ t.status.pending.getLsbD 13 = true ∧
      t.verify.counters = (s.verify.countChunk good).counters ∧
      ∀ d, s.disc y.disc = some d →
        ∃ e, t.disc y.disc = some e ∧ e.mismatches = if good then d.mismatches else satInc Config.max16 d.mismatches := by
  have bay := s.chunkCounted_bay b y good
  obtain ⟨verify, numbers, disc⟩ := s.chunkCounted_spec b y good
  have record : ∀ d, s.disc y.disc = some d →
      (s.chunkCounted b y good).disc y.disc = some (if good then d else d.mismatched) := fun d hd => by
    rw [disc, hd]
    rfl
  obtain ⟨rejects, latched, raised, counters, mismatches⟩ :=
    State.verifyFails_spec (u := s.chunkCounted b y good) why (by rw [bay]; exact holds)
  refine ⟨rejects.seenFrom ?_ ?_ ?_ ?_ numbers ?_ ?_ ?_ (fun d hd => ⟨_, record d hd, by split <;> rfl⟩) (by rw [bay]; rfl)
    (by rw [bay]; rfl) (by rw [bay]; rfl) (by rw [bay]; rfl), latched, raised, counters.trans (congrArg _ verify),
    fun d hd => ?_⟩
  case refine_8 =>
    obtain ⟨e, he, same⟩ := mismatches _ (record d hd)
    refine ⟨e, he, same.trans ?_⟩
    split <;> rfl
  all_goals
    unfold State.chunkCounted
    split <;> rfl

/-- The next chunk's READ follows a chunk that does not end the verification (R102). -/
theorem State.chunkHandled_goesOn (good : Bool) (stays : good = true ∨ y.stop ≠ .first) (more : y.next + 1 < y.chunks) :
    s.chunkHandled b l y good = ((s.chunkCounted b y good).setLane l (some { y with
      next := y.next + 1, mismatches := if good then y.mismatches else satInc Config.max16 y.mismatches
      readOut := true })).issue b (.read (y.next + 1)) := by
  rw [State.chunkHandled_eq]
  dsimp only
  rw [if_neg (by rintro ⟨bad, first⟩; exact stays.elim (by simp [bad]) (· first)), if_pos more]

/-- A verification without a mismatch makes its disc verified and GOOD (R103). -/
theorem State.chunkHandled_succeeds (last : y.chunks ≤ y.next + 1) (clean : y.mismatches = 0) :
    s.chunkHandled b l y true = (s.chunkCounted b y true).verifySucceeds b y.disc := by
  rw [State.chunkHandled_eq]
  dsimp only
  rw [if_neg (by simp), if_neg (Nat.not_lt.2 last), if_pos rfl, if_pos clean]

theorem satInc_ne_zero {limit : Nat} (pos : 0 < limit) (n : Nat) : satInc limit n ≠ 0 := by
  unfold satInc
  split <;> omega

/-- A mismatch under stop FIRST, and a last chunk after any mismatch, end it (R102). -/
theorem State.chunkHandled_fails (good : Bool) (missed : good = false ∨ y.mismatches ≠ 0)
    (ends : good = false ∧ y.stop = .first ∨ y.chunks ≤ y.next + 1) :
    s.chunkHandled b l y good = (s.chunkCounted b y good).verifyFails b .verifyMismatch := by
  rw [State.chunkHandled_eq]
  dsimp only
  split
  · rfl
  · next go =>
    have last := ends.resolve_left go
    rw [if_neg (Nat.not_lt.2 last), if_neg]
    cases good with
    | true => exact missed.resolve_left (by simp)
    | false => exact satInc_ne_zero (by decide) y.mismatches

/-- A counted chunk whose next one is read starts no evaluation (R19). -/
theorem State.chunkHandled_quiet (good : Bool) (stays : good = true ∨ y.stop ≠ .first) (more : y.next + 1 < y.chunks) :
    s.quiet (s.chunkHandled b l y good) := by
  rw [State.chunkHandled_goesOn good stays more]
  have numbers := (s.chunkCounted_spec b y good).2.1
  have states : (s.chunkCounted b y good).bayStates = s.bayStates := by
    unfold State.chunkCounted
    have ended := s.modBay_states b (f := Bay.endOut) fun _ => rfl
    split
    · exact ended
    · exact ended
  have same : ∀ good, (s.chunkCounted b y good).trans = s.trans ∧ (s.chunkCounted b y good).jobs = s.jobs ∧
      (s.chunkCounted b y good).printer = s.printer ∧ (s.chunkCounted b y good).staging = s.staging ∧
      (s.chunkCounted b y good).settings = s.settings ∧ (s.chunkCounted b y good).dispatchWanted = s.dispatchWanted := by
    intro good
    cases good <;> exact ⟨rfl, rfl, rfl, rfl, rfl, rfl⟩
  obtain ⟨trans, jobs, printer, staging, settings, wanted⟩ := same good
  exact State.undisturbed.quiet {
    wanted, jobs, printer, staging, records := numbers, stage := congrArg _ settings
    spindles := ⟨congrArg _ trans, congrArg _ trans⟩, queue := congrArg _ trans
    emptied := State.emptied_of_states ((State.issue_states _ b _).trans states) }

/-- The bay's record once the next READ is out. -/
theorem State.chunkHandled_reads (good : Bool) (stays : good = true ∨ y.stop ≠ .first) (more : y.next + 1 < y.chunks) :
    (s.chunkHandled b l y good).bay b =
      ({ s.bay b with out := none }).withRequest (.read (y.next + 1)) (s.now + 6000) := by
  rw [State.chunkHandled_goesOn good stays more, State.issue_bay]
  have bay : ((s.chunkCounted b y good).setLane l (some { y with
      next := y.next + 1, mismatches := if good then y.mismatches else satInc Config.max16 y.mismatches
      readOut := true })).bay b = (s.bay b).endOut := s.chunkCounted_bay b y good
  have now : (s.chunkCounted b y good).now = s.now := by cases good <;> rfl
  rw [bay]
  cases good <;> rfl

/-! ## A verification that succeeds (R103) -/

theorem State.leaveVerify_lane (lane : s.lane l = some y) (serves : y.bay = b) : (s.leaveVerify b).lane l = none := by
  unfold State.leaveVerify State.modVerify State.lane
  simp only [Vector.getElem_map]
  rw [show s.verify.lanes[l.val] = some y from lane]
  exact if_pos serves

theorem State.verifySucceeds_spec (lane : u.lane l = some y) (serves : y.bay = b) (hd : u.disc n = some d)
    (pending : d.disposition = .pending) (burned : d.burned = true) :
    let t := u.verifySucceeds b n
    t.lane l = none ∧ t.verify.counters = u.verify.counters ∧
      (∃ e, t.disc n = some e ∧ e.verified = true ∧ e.disposition = .good) ∧ (t.bay b).state = .awaitUnload ∧
      (t.bay b).out = (u.bay b).out ∧
      ∀ dest : Station, ((∃ j, u.jobOf d = some j ∧ j.printsAfter) ∧ dest = .prn ∨
        (∀ j, u.jobOf d = some j → ¬ j.printsAfter) ∧ dest = .bin .out) → u.unloadPosted t b n dest := by
  intro t
  let v := u.modDisc n fun d => { d with verified := true }
  let w := (v.setGood n).leaveVerify b
  have verified : v.disc n = some { d with verified := true } :=
    (State.modDisc_disc u n (f := fun d => { d with verified := true }) fun _ => rfl).trans (congrArg (Option.map _) hd)
  have good : w.disc n = some { d with verified := true, disposition := .good } :=
    State.setGood_disc (s := v) verified pending (by simp [goodAllowed, burned])
  have numbers : w.discs.records.map Disc.number = u.discs.records.map Disc.number :=
    (State.modDisc_numbers v n fun e => by unfold Disc.madeGood; split <;> rfl).trans (State.modDisc_numbers u n fun _ => rfl)
  have bay : t.bay b = (u.bay b).unloading (w.unloadDest n) := State.enterAwaitUnload_bay ..
  refine ⟨?_, by simp [t], ⟨_, State.enterAwaitUnload_disc_to good, ?_⟩, by rw [bay]; rfl, by rw [bay]; rfl,
    fun dest leads => ?_⟩
  · have freed : w.lane l = none := State.leaveVerify_lane (s := v.setGood n) lane serves
    have same : t.verify = w.verify := by simp [t, w, v, State.verifySucceeds]
    rw [State.lane, same]
    exact freed
  · obtain ⟨disposition, -, stays⟩ := Disc.unloadedTo_keeps { d with verified := true, disposition := .good } w b
      (w.unloadDest n).station
    exact ⟨stays, disposition⟩
  · obtain ⟨prints, plain⟩ := State.unloadDest_of_good good rfl
    have goes : (w.unloadDest n).station = dest := by
      rcases leads with ⟨label, rfl⟩ | ⟨none, rfl⟩
      · rw [prints label]
        rfl
      · rw [plain none]
        rfl
    have posted := w.enterAwaitUnload_unload b n
    rw [goes] at posted
    exact posted.of_same rfl rfl rfl rfl numbers rfl rfl rfl rfl rfl

/-! ## The cases of an OK completion by its chunk index (R97) -/

/-- The completion of the chunk before the one that is read (R97). -/
theorem State.readOk_repeat {index : Nat} (before : index + 1 = y.next) (data : List Byte) :
    s.watched (s.readOk b l y index data) = s.modVerify VerifyEngine.countRepeat := by
  rw [State.readOk, if_neg (by omega), if_pos before]
  exact (State.undisturbed.quiet {
    wanted := rfl, stage := rfl, emptied := fun _ => id, jobs := rfl, records := rfl, spindles := ⟨rfl, rfl⟩
    queue := rfl, printer := rfl, staging := rfl }).watched

theorem State.readOk_sequence {index : Nat} (other : index ≠ y.next) (notBefore : index + 1 ≠ y.next) (data : List Byte) :
    s.readOk b l y index data = s.verifyFails b .verifySequence := by
  rw [State.readOk, if_neg other, if_neg notBefore]

/-- Settles O46: what a lane takes, and what each READ completion leads to. -/
theorem lanesReadChunksInOrder : Obligations.LanesReadChunksInOrder := by
  refine ⟨fun s b rest l n k j m i queue few free lowest holds job hj slot hi => ?takes,
    fun s none => (execVerifyLaneTake_eq s).trans (congrArg _ (State.takeLanes_none none 12)),
    fun s b o q l y data i d verifying out req lane serves only holds hd hi => ?reads⟩
  case takes =>
    intro u
    have head : s.takeHead l b = u := State.takeHead_eq queue holds job hj slot hi
    have follows : exec .verifyLaneTake s = exec .verifyLaneTake u := by
      rw [execVerifyLaneTake_eq, execVerifyLaneTake_eq, State.takeLanes_takes queue few free lowest, head]
    refine ⟨follows, fun ends => follows.trans ?_⟩
    rw [execVerifyLaneTake_eq, State.takeLanes_none]
    refine ends.imp id fun others x => ?_
    change (s.verify.lanes.set l.val _)[x.val] ≠ none
    rw [Vector.getElem_set]
    split
    · exact Option.some_ne_none _
    · next other => exact others x fun e => other (congrArg _ e.symm)
  case reads =>
    intro length good verified mismatched c
    have runs : ∀ kind index, exec (c kind index) s = .next (s.watched
        (if kind = .ok then s.readOk b l y index data else s.chunkHandled b l y false)) :=
      fun kind index => execReadComplete_runs verifying out req lane serves only
    have chunk : ∀ kind good', (kind = .ok → chunkMatches i y.mode y.next data = good') → (kind ≠ .ok → good' = false) →
        exec (c kind y.next) s = .next (s.watched (s.chunkHandled b l y good')) := by
      intro kind good' ok failed
      rw [runs]
      split
      · next isOk => rw [State.readOk_chunk hi, ok isOk]
      · next not_ => rw [failed not_]
    have matches_ : good → exec (c .ok y.next) s = .next (s.watched (s.chunkHandled b l y true)) := fun isGood =>
      chunk .ok true (fun _ => (chunkMatches_iff i y data).2 isGood) (absurd rfl)
    have misses : ∀ kind, kind ≠ .ok ∨ ¬ good →
        exec (c kind y.next) s = .next (s.watched (s.chunkHandled b l y false)) := fun kind bad =>
      chunk kind false (fun isOk => Bool.eq_false_iff.2 fun isGood =>
        bad.elim (· isOk) (· ((chunkMatches_iff i y data).1 isGood))) fun _ => rfl
    refine ⟨fun isGood more => ?next, fun isGood last clean pending burned => ?succeeds, fun isGood last missed => ?late,
      fun pos => ?repeats, fun index other notBefore => ?sequence, fun kind bad ends => ?fails,
      fun kind bad all more => ?continues⟩
    case next =>
      rw [matches_ isGood, (State.chunkHandled_quiet true (.inl rfl) more).watched,
        State.chunkHandled_goesOn true (.inl rfl) more]
      let read : State := (s.modVerify fun v => v.countChunk true).setLane l (some { y with
        next := y.next + 1, mismatches := y.mismatches, readOut := true })
      exact congrArg _ (State.modBay_modBay read b Bay.endOut (Bay.issued (.read (y.next + 1)) (s.now + 6000)))
    case succeeds =>
      have lane_ : (s.chunkCounted b y true).lane l = some y := lane
      have disc : (s.chunkCounted b y true).disc y.disc = some d := hd
      obtain ⟨freed, counters, ⟨e, he, isVerified, disposition⟩, state, out_, posted⟩ :=
        State.verifySucceeds_spec lane_ serves disc pending burned
      rw [← State.chunkHandled_succeeds (s := s) (b := b) (l := l) last clean] at freed counters he state out_ posted
      refine ⟨_, e, matches_ isGood, congrArg Prod.fst counters, freed, he, isVerified, disposition, state,
        out_.trans (congrArg Bay.out (s.chunkCounted_bay b y true)), fun dest leads => ?_⟩
      have bay := s.chunkCounted_bay b y true
      exact ((posted dest leads).of_same (s := s) rfl rfl rfl rfl rfl rfl rfl rfl (by rw [bay]; rfl) (by rw [bay]; rfl)).watched s
    case late =>
      obtain ⟨rejects, latched, raised, counters, -⟩ := s.chunkCounted_fails .verifyMismatch true holds
      rw [← State.chunkHandled_fails (l := l) true (.inr missed) (.inr last)] at rejects latched raised counters
      exact ⟨_, matches_ isGood, rejects.watched s, congrArg Prod.fst counters, latched, raised⟩
    case repeats =>
      rw [runs, if_pos rfl, State.readOk_repeat (Nat.sub_add_cancel pos)]
      rfl
    case sequence =>
      obtain ⟨rejects, latched, raised, -⟩ := State.verifyFails_spec (u := s) .verifySequence holds
      rw [← State.readOk_sequence (l := l) other notBefore data] at rejects latched raised
      refine ⟨_, (runs .ok index).trans (congrArg _ (congrArg _ (if_pos rfl))), rejects.watched s, latched, raised⟩
    case fails =>
      obtain ⟨rejects, latched, raised, counters, record⟩ := s.chunkCounted_fails .verifyMismatch false holds
      have ends_ : false = false ∧ y.stop = .first ∨ y.chunks ≤ y.next + 1 := ends.imp (⟨rfl, ·⟩) id
      rw [← State.chunkHandled_fails (l := l) false (.inl rfl) ends_] at rejects latched raised counters record
      obtain ⟨e, he, count⟩ := record d hd
      exact ⟨_, e, misses kind bad, rejects.watched s, congrArg (·.2.1) counters, he, count, latched, raised⟩
    case continues =>
      have stays : false = true ∨ y.stop ≠ .first := .inr (by simp [all])
      refine ⟨_, misses kind bad, ?_, ?_, State.chunkHandled_reads false stays more⟩
      · change (s.chunkHandled b l y false).verify.mismatched = _
        rw [State.chunkHandled_goesOn false stays more]
        rfl
      · change (s.chunkHandled b l y false).lane l = _
        rw [State.chunkHandled_goesOn false stays more]
        exact State.setLane_lane (s.chunkCounted b y false) l _

end Sys2Proof.Machine
end

/-! # Proofs: a hand-over that fails at a bay (R22, R53, R54, R70, R71, R119 to R121) -/

section

namespace Sys2Proof.Machine

variable {s t u v : State} {b : BayId} {n m : Nat} {r : MoveReq} {older younger : List MoveReq} {d : Disc}

/-! ## Signals that the failure of a hand-over keeps -/

theorem State.signalsKept.freeRecord (h : s.signalsKept u) (n : Nat) : s.signalsKept (u.freeRecord n) := by
  unfold State.freeRecord State.drainTest
  split
  · exact .raise (h.same (by rfl)) _
  · exact h.same rfl

theorem State.signalsKept.deleteRecord (h : s.signalsKept u) (n : Nat) : s.signalsKept (u.deleteRecord n) := by
  unfold State.deleteRecord
  split
  · exact h
  · split
    · exact .freeRecord h n
    · exact .freeRecord (.countJob h _ _) n

theorem State.signalsKept.discWillNotCome (h : s.signalsKept u) (b : BayId) (n : Nat) (accept : Bool) :
    s.signalsKept (u.discWillNotCome b n accept) := by
  unfold State.discWillNotCome State.awaitDiscEnd
  split
  · dsimp only
    split
    · exact .bayFaultEntry (h.same (by rfl)) b
    · exact h.same rfl
  · exact h

theorem State.signalsKept.tellAwaiting (h : s.signalsKept u) (r : MoveReq) (at_ : Station) (n : Nat) (accept : Bool) :
    s.signalsKept (u.tellAwaiting r at_ n accept) := by
  unfold State.tellAwaiting
  split
  · exact .discWillNotCome h _ n accept
  · split
    · exact .discWillNotCome h _ n false
    · exact h
  all_goals exact h

theorem State.signalsKept.divert (h : s.signalsKept u) (r : MoveReq) : s.signalsKept (u.divert r) :=
  State.signalsKept.same (.tellAwaiting (h.same (t := (u.setReject (u.trans.legDisc r) .handling).setToOut
    (u.trans.legDisc r)) rfl) r (u.trans.legDest r) _ true) rfl

/-! ## A bay that awaits a disc, after an acceptance failure (R54) -/

theorem Bay.toIdle_port (r : Bay) : r.toIdle.out = r.out ∧ r.toIdle.susp = r.susp ∧ r.toIdle.timeouts = r.timeouts := by
  unfold Bay.toIdle
  split <;> exact ⟨rfl, rfl, rfl⟩

/-- A port that stands idle stays so, and timeouts are not counted. -/
theorem State.discWillNotCome_port (accept : Bool) (idle : (u.bay b).out = none) :
    let y := (u.discWillNotCome b n accept).bay b
    y.out = none ∧ (y.susp = none ∨ y.susp = (u.bay b).susp) ∧ y.timeouts = (u.bay b).timeouts := by
  have cleared : ∀ r : Bay, (r.cleared.countAcceptance accept).out = r.out ∧
      (r.cleared.countAcceptance accept).susp = r.susp ∧ (r.cleared.countAcceptance accept).timeouts = r.timeouts := by
    intro r
    cases accept <;> exact ⟨rfl, rfl, rfl⟩
  obtain ⟨out, susp, timeouts⟩ := cleared (u.bay b)
  unfold State.discWillNotCome State.awaitDiscEnd
  split
  · dsimp only
    split
    · rw [State.bayFaultEntry_bay, State.modBay_bay]
      exact ⟨rfl, .inl rfl, timeouts⟩
    · rw [State.modBay_bay, State.modBay_bay]
      obtain ⟨out', susp', timeouts'⟩ := ((u.bay b).cleared.countAcceptance accept).toIdle_port
      exact ⟨(out'.trans out).trans idle, .inr (susp'.trans susp), timeouts'.trans timeouts⟩
  · exact ⟨idle, .inr rfl, rfl⟩

/-! ## Records: those that waiting posts change, and one that is deleted (R4, R22) -/

/-- A change of the records that keeps their numbers. -/
theorem State.disc_of_map {f : Disc → Disc} (number : ∀ e, (f e).number = e.number)
    (h : t.discs.records = s.discs.records.map f) (n : Nat) : t.disc n = (s.disc n).map f := by
  have same : ((fun e : Disc => e.number == n) ∘ f) = fun e => e.number == n := by
    funext e
    simp [number]
  rw [State.disc, h, List.find?_map, same]
  rfl

/-- Posts that waited keep a record but for its stage. -/
theorem State.postWaiting_keeps (hd : s.disc n = some d) :
    ∃ e, s.postWaiting.disc n = some e ∧ e.disposition = d.disposition ∧ e.job = d.job := by
  obtain ⟨joined, -, discs⟩ := s.postWaiting_records
  have record := State.disc_of_map (fun e => by split <;> rfl) (congrArg DiscTable.records discs) n
  rw [hd] at record
  refine ⟨_, record, ?_, ?_⟩ <;> dsimp only <;> split <;> rfl

/-- They leave alone the record of a disc that none of them names. -/
theorem State.legDone_disc (none_ : ∀ q ∈ s.trans.waiting, q.disc ≠ n) : s.legDone.disc n = s.disc n := by
  obtain ⟨joined, named, discs⟩ := s.legDone_records
  rw [State.disc_of_map (fun e => by split <;> rfl) (congrArg DiscTable.records discs)]
  cases hd : s.disc n with
  | none => rfl
  | some e =>
    have number : e.number = n := eq_of_beq (List.find?_some (p := fun e : Disc => e.number == n) hd)
    refine congrArg some (if_neg fun joins => ?_)
    obtain ⟨q, hq, disc, -⟩ := named _ joins
    exact none_ q hq (disc.trans number)

theorem State.freeRecord_disc_self (s : State) (n : Nat) : (s.freeRecord n).disc n = none := by
  rw [State.disc, State.freeRecord_discs, List.find?_eq_none]
  intro e he
  simpa using (List.mem_filter.1 he).2

theorem State.freeRecord_disc_ne (s : State) (other : m ≠ n) : (s.freeRecord n).disc m = s.disc m := by
  unfold State.disc
  rw [State.freeRecord_discs, List.find?_filter]
  congr 1
  funext e
  by_cases is : e.number = m <;> simp [is, other]

theorem State.deleteRecord_disc_self (s : State) (n : Nat) : (s.deleteRecord n).disc n = none := by
  unfold State.deleteRecord
  split
  · next none_ => exact none_
  · exact State.freeRecord_disc_self ..

theorem State.deleteRecord_disc_ne (s : State) (other : m ≠ n) : (s.deleteRecord n).disc m = s.disc m := by
  unfold State.deleteRecord
  split
  · rfl
  · rw [State.freeRecord_disc_ne _ other]
    split
    · rfl
    · exact State.disc_of_discs (by simp) m

theorem Job.uncount_counts (j : Job) : j.uncount.settleCancel.started = j.started - 1 ∧
    j.uncount.settleCancel.inFlight = j.inFlight - 1 := by
  unfold Job.uncount Job.recount Job.settleCancel
  (repeat' split) <;> exact ⟨rfl, rfl⟩

/-- The job of a deleted record no longer counts it (R22, R157). -/
theorem State.deleteRecord_job {k : JobSlot} {j : Job} (hd : s.disc n = some d) (of : d.job = some k)
    (hj : s.job k = some j) : (s.deleteRecord n).job k = some j.uncount.settleCancel := by
  unfold State.deleteRecord
  rw [hd]
  dsimp only
  rw [of, State.freeRecord_job]
  exact (State.countJob_job Job.uncount hj k).trans (if_pos rfl)

/-! ## A tray request that fails (R70): which end of the leg it is -/

theorem State.trayFailed_source (h : u.granting older r younger) (arm : u.trans.arm = .granted)
    (source : u.trans.legSource r = .bay b) : u.trayFailed b = u.forcedRelease := by
  unfold State.trayFailed
  rw [h.grant_eq, arm]
  exact if_pos source

theorem State.trayFailed_dest (h : u.granting older r younger) (arm : u.trans.arm = .carrying)
    (dest : u.trans.legDest r = .bay b) : u.trayFailed b = u.destFailure := by
  unfold State.trayFailed
  rw [h.grant_eq, arm]
  exact if_pos dest

/-- A bay with no outstanding request has nothing to give up (R70). -/
theorem State.giveUpAt_idle (idle : (u.bay b).out = none) : u.giveUpAt (.bay b) = u := by
  simp [State.giveUpAt, State.handoverGivenUp, idle]

/-! ## At the source: a forced release (R119, R120) -/

/-- The arm has let go of the request under way, and the forced release is counted (R119). -/
def State.letGo (u : State) : State :=
  ((u.takeCurrent.modTrans fun t => { t with forcedReleases := (t.forcedReleases + 1) % 16 }).latch .handling).armIdle

theorem State.letGo_trans (h : u.granting older r younger) : u.letGo.trans = { u.trans.freed with
    queue := older ++ younger, forcedReleases := (u.trans.forcedReleases + 1) % 16 } := by
  simp [State.letGo, State.modTrans, h.takeCurrent_trans, Transport.freed]

theorem State.letGo_frame (u : State) : u.letGo.jobs = u.jobs ∧ u.letGo.discs = u.discs ∧ u.letGo.bays = u.bays ∧
    u.letGo.settings = u.settings := by simp [State.letGo]

theorem State.letGo_disc (u : State) (n : Nat) : u.letGo.disc n = u.disc n := State.disc_of_discs (by simp [State.letGo]) n

theorem State.letGo_handling (u : State) : u.letGo.cond .handling = true := by
  simp [State.letGo, State.armIdle, State.setArm]

/-- A forced release at a bay whose port stands idle. -/
theorem State.forcedRelease_eq (h : u.granting older r younger) (source : u.trans.legSource r = .bay b)
    (idle : (u.bay b).out = none) : u.forcedRelease =
      if r.retries + 1 < u.settingNat 10 then u.letGo.joinQueue r.again
      else u.letGo.postWaiting.retriesSpent r.again (.bay b) r.disc (u.trans.legBay r) := by
  have first : u.trans.secondOf r = none := Transport.secondOf_of_source (by simp [source])
  have disc : u.trans.legDisc r = r.disc := by rw [Transport.legDisc, first]
  simp only [State.forcedRelease, h.grant_eq, source, State.giveUpAt_idle idle, disc, Transport.released_again first]
  change (if r.again.retries < u.letGo.settingNat Config.sRetries then u.letGo.joinQueue r.again
    else u.letGo.postWaiting.retriesSpent r.again (.bay b) r.disc (u.trans.legBay r)) = _
  have limit : u.letGo.settingNat Config.sRetries = u.settingNat 10 := by
    simp only [State.settingNat, State.setting, u.letGo_frame]
    rfl
  rw [limit]
  rfl

/-- With retries left the request is queued again, and only the arm and the signals have changed (R119). -/
theorem State.trayFailed_again (h : u.granting older r younger) (arm : u.trans.arm = .granted)
    (source : u.trans.legSource r = .bay b) (idle : (u.bay b).out = none) (left : r.retries + 1 < u.settingNat 10) :
    let t := u.trayFailed b
    u.forcedFree t older r.again younger ∧ t.bays = u.bays ∧ u.changesOnly [.trans, .status] t ∧ u.quiet t := by
  have first : u.trans.released r = r.again :=
    Transport.released_again (Transport.secondOf_of_source (by simp [source]))
  have free := State.forcedRelease_again h (by rw [first]; rfl) (by rw [first]; exact left)
  rw [first] at free
  have queue := congrArg Transport.queue free.trans
  rw [State.trayFailed_source h arm source]
  rw [State.forcedRelease_eq h source idle, if_pos left] at free queue ⊢
  refine ⟨free, by simp [State.letGo], ?only, ?quiet⟩
  case only =>
    rw [State.changesOnly_iff]
    simp [State.letGo]
  case quiet =>
    have same : (u.letGo.joinQueue r.again).jobs = u.jobs ∧ (u.letGo.joinQueue r.again).discs = u.discs ∧
        (u.letGo.joinQueue r.again).staging = u.staging ∧ (u.letGo.joinQueue r.again).bays = u.bays ∧
        (u.letGo.joinQueue r.again).printer = u.printer ∧ (u.letGo.joinQueue r.again).settings = u.settings := by
      simp [State.letGo]
    obtain ⟨jobs, discs, staging, bays, printer, settings⟩ := same
    have spindles : ∀ i, (u.letGo.joinQueue r.again).spindle i = u.spindle i := by
      intro i
      simp only [State.spindle, free.trans]
      rfl
    exact {
      stage := fun ready => by rwa [settings] at ready
      bays := fun c empty => by rwa [State.bay_of_bays bays] at empty
      jobs := fun k => .inl (by simp only [State.job, jobs])
      runMode := fun run => by rwa [jobs] at run
      records := fun e he => ⟨e, by rwa [discs], rfl⟩
      spindles := fun i => .inr (spindles i)
      printer := fun ready => by rwa [State.printerIs, printer] at ready
      queue := fun q hq => by
        rw [queue]
        rw [h.queue, List.mem_append, List.mem_cons] at hq
        rcases hq with inOlder | rfl | inYounger
        · exact ⟨q, by simp [inOlder], rfl, rfl⟩
        · exact ⟨q.again, by simp, rfl, rfl⟩
        · exact ⟨q, by simp [inYounger], rfl, rfl⟩
      images := fun k i j hi hj => by
        rw [State.image, staging] at hj
        cases hi.symm.trans hj
        exact ⟨id, id, id⟩ }

/-- The record of a SWAP's second leg is deleted (R22). -/
def State.dropSecond (u : State) (r : MoveReq) : State := (r.second.map SecondLeg.disc).elim u u.deleteRecord

theorem State.dropSecond_none (no : r.second = none) : u.dropSecond r = u := by simp [State.dropSecond, no]

theorem State.dropSecond_some {l : SecondLeg} (second : r.second = some l) : u.dropSecond r = u.deleteRecord l.disc := by
  simp [State.dropSecond, second]

theorem State.dropSecond_frame (u : State) (r : MoveReq) : (u.dropSecond r).bays = u.bays ∧ (u.dropSecond r).trans = u.trans := by
  cases second : r.second with
  | none => rw [State.dropSecond_none second]; exact ⟨rfl, rfl⟩
  | some l => rw [State.dropSecond_some second]; simp

theorem State.signalsKept.dropSecond (h : s.signalsKept u) (r : MoveReq) : s.signalsKept (u.dropSecond r) := by
  cases second : r.second with
  | none => rw [State.dropSecond_none second]; exact h
  | some l => rw [State.dropSecond_some second]; exact .deleteRecord h l.disc

theorem State.retriesSpent_bay (u : State) (r : MoveReq) (n : Nat) (c : Option BayId) :
    u.retriesSpent r (.bay b) n c = ((u.setReject n .handling).dropSecond r).bayFaultEntry b := by
  unfold State.retriesSpent
  cases second : r.second with
  | none => rw [State.dropSecond_none second]
  | some l => rw [State.dropSecond_some second]

/-- BAY_FAULT is true after a bay's entry into FAULT, and the event pending (R71). -/
theorem State.bayFaultEntry_signals (u : State) (b : BayId) :
    (u.bayFaultEntry b).cond .bayFault = true ∧ (u.bayFaultEntry b).status.pending.getLsbD 8 = true := by
  obtain ⟨x, fault, entry⟩ : ∃ x : State, (x.bay b).state = .fault ∧
      u.bayFaultEntry b = x.reportBayFault.raise .bayFault :=
    ⟨_, by rw [State.modBay_bay], rfl⟩
  rw [entry]
  exact ⟨x.reportBayFault_cond.2 ⟨b, fault⟩, (State.raise_pending _ .bayFault .bayFault).trans (if_pos rfl)⟩

/-- With the retries spent: the request gone, its disc REJECT, and a SWAP's second record deleted (R22, R120). -/
def State.spentRecords (u : State) (r : MoveReq) : State :=
  (u.letGo.postWaiting.setReject r.disc .handling).dropSecond r

theorem State.spentRecords_bay (u : State) (r : MoveReq) (b : BayId) : (u.spentRecords r).bay b = u.bay b :=
  State.bay_of_bays (by simp [State.spentRecords, State.dropSecond_frame, State.letGo]) b

theorem State.spentRecords_trans (h : u.granting older r younger) : (u.spentRecords r).trans = { u.trans.freed with
    forcedReleases := (u.trans.forcedReleases + 1) % 16
    queue := (postsAfter (older ++ younger) u.trans.waiting).1
    waiting := (postsAfter (older ++ younger) u.trans.waiting).2 } := by
  have stays : (u.spentRecords r).trans = u.letGo.postWaiting.trans := by
    simp [State.spentRecords, State.dropSecond_frame]
  rw [stays, State.postWaiting_trans, State.letGo_trans h]
  rfl

theorem State.spentRecords_signals (u : State) (r : MoveReq) : u.letGo.signalsKept (u.spentRecords r) :=
  .dropSecond (State.signalsKept.same (.refl _) (by simp)) r

/-- The disc itself, unless its number is the second one's. -/
theorem State.spentRecords_disc (hd : u.disc r.disc = some d) (distinct : ∀ l, r.second = some l → l.disc ≠ r.disc) :
    ∃ e, (u.spentRecords r).disc r.disc = some e ∧ e.disposition = d.disposition.rejectedWith .handling := by
  obtain ⟨e, he, disposition, -⟩ := State.postWaiting_keeps ((u.letGo_disc r.disc).trans hd)
  have rejected : (u.letGo.postWaiting.setReject r.disc .handling).disc r.disc = some (e.rejected .handling) := by
    rw [State.setReject_disc, he]
    rfl
  refine ⟨e.rejected .handling, ?_, by rw [Disc.rejected_disposition, disposition]⟩
  unfold State.spentRecords
  cases second : r.second with
  | none => rw [State.dropSecond_none second, rejected]
  | some l => rw [State.dropSecond_some second, State.deleteRecord_disc_ne _ (distinct l second).symm, rejected]

/-- The disc of a SWAP's second leg has no record, and its job no longer counts it. -/
theorem State.spentRecords_second {l : SecondLeg} (second : r.second = some l) :
    (u.spentRecords r).disc l.disc = none ∧ ∀ e k j, u.disc l.disc = some e → e.job = some k → u.job k = some j →
      ∃ i, (u.spentRecords r).job k = some i ∧ i.started = j.started - 1 ∧ i.inFlight = j.inFlight - 1 := by
  unfold State.spentRecords
  rw [State.dropSecond_some second]
  refine ⟨State.deleteRecord_disc_self _ _, fun e k j he of hj => ?_⟩
  obtain ⟨y, hy, -, job⟩ := State.postWaiting_keeps ((u.letGo_disc l.disc).trans he)
  have record : ∃ z, (u.letGo.postWaiting.setReject r.disc .handling).disc l.disc = some z ∧ z.job = some k := by
    by_cases same : l.disc = r.disc
    · refine ⟨y.rejected .handling, by rw [same, State.setReject_disc, ← same, hy]; rfl, ?_⟩
      rw [← of, ← job]
      unfold Disc.rejected
      split <;> rfl
    · exact ⟨y, (State.modDisc_disc_ne _ (Disc.rejected_number _) same).trans hy, job.trans of⟩
  obtain ⟨z, hz, isOf⟩ := record
  have jobs : (u.letGo.postWaiting.setReject r.disc .handling).jobs = u.jobs := by simp [State.letGo]
  have stands : (u.letGo.postWaiting.setReject r.disc .handling).job k = some j := by
    rw [State.job, jobs]
    exact hj
  obtain ⟨started, inFlight⟩ := j.uncount_counts
  exact ⟨_, State.deleteRecord_job hz isOf stands, started, inFlight⟩

theorem State.trayFailed_spent_eq (h : u.granting older r younger) (arm : u.trans.arm = .granted)
    (source : u.trans.legSource r = .bay b) (idle : (u.bay b).out = none) (spent : u.settingNat 10 ≤ r.retries + 1) :
    u.trayFailed b = (u.spentRecords r).bayFaultEntry b := by
  rw [State.trayFailed_source h arm source, State.forcedRelease_eq h source idle, if_neg (Nat.not_lt.2 spent),
    State.retriesSpent_bay]
  rfl

/-- With the retries spent the bay is in FAULT with the disc in its tray (R71, R120). -/
theorem State.bayFaultEntry_spent (h : u.granting older r younger) :
    u.spentAtBay ((u.spentRecords r).bayFaultEntry b) older r younger b := by
  have bay := (u.spentRecords r).bayFaultEntry_bay b
  rw [State.spentRecords_bay] at bay
  have trans : ((u.spentRecords r).bayFaultEntry b).trans = (u.spentRecords r).trans := by simp
  rw [State.spentRecords_trans h] at trans
  have discs : ∀ n, ((u.spentRecords r).bayFaultEntry b).disc n = (u.spentRecords r).disc n :=
    State.disc_of_discs (by simp)
  have jobs : ∀ k, ((u.spentRecords r).bayFaultEntry b).job k = (u.spentRecords r).job k := fun k => by simp [State.job]
  have kept : u.letGo.signalsKept ((u.spentRecords r).bayFaultEntry b) := .bayFaultEntry (u.spentRecords_signals r) b
  refine ⟨⟨?queue, ?arm, ?count, kept.latched _ (by decide) u.letGo_handling⟩, ?bay, State.bayFaultEntry_signals _ b,
    fun d hd distinct => ?disc, fun l second => ?second⟩
  case queue => rw [Transport.leaves, trans]
  case arm =>
    rw [trans]
    rfl
  case count => rw [trans]
  case bay =>
    rw [bay]
    exact ⟨rfl, rfl, rfl, rfl⟩
  case disc =>
    rw [discs]
    exact State.spentRecords_disc hd distinct
  case second =>
    simp only [discs, jobs]
    exact State.spentRecords_second second

/-! ## At the destination (R121) -/

theorem State.destFailure_eq (h : u.granting older r younger) (dest : u.trans.legDest r = .bay b)
    (idle : (u.bay b).out = none) : u.destFailure =
      if u.sensors.pick then (u.latch .handling).divert r else (u.latch .handling).startAck .retake := by
  simp only [State.destFailure, h.grant_eq, dest, State.giveUpAt_idle idle]
  rfl

/-- A disc still on the arm goes on to REJECT. -/
theorem State.trayFailed_diverts (h : u.granting older r younger) (arm : u.trans.arm = .carrying)
    (dest : u.trans.legDest r = .bay b) (idle : (u.bay b).out = none) (pick : u.sensors.pick = true) :
    let t := u.trayFailed b
    u.goesToReject t older r younger ∧ u.rejectsDisc t (u.trans.legDisc r) .handling ∧
      u.failsAcceptance t b (u.trans.legDisc r) ∧ t.cond .handling = true ∧ (t.bay b).out = none ∧
      ((t.bay b).susp = none ∨ (t.bay b).susp = (u.bay b).susp) ∧ (t.bay b).timeouts = (u.bay b).timeouts := by
  intro t
  let w := u.latch .handling
  have diverts : t = w.divert r := by
    simp only [t, State.trayFailed_dest h arm dest, State.destFailure_eq h dest idle, if_pos pick]
    rfl
  obtain ⟨goes, rejects, fails, -⟩ := State.divert_spec (s := w) (h.of_trans rfl)
  have kept : w.signalsKept (w.divert r) := .divert (.refl w) r
  let y := (w.setReject (u.trans.legDisc r) .handling).setToOut (u.trans.legDisc r)
  have told : (w.divert r).bay b = (y.discWillNotCome b (u.trans.legDisc r) true).bay b := by
    refine (State.bay_of_bays (t := w.divert r) (s := y.tellAwaiting r (u.trans.legDest r) (u.trans.legDisc r) true) rfl b).trans ?_
    rw [dest]
    rfl
  have port := State.discWillNotCome_port (u := y) (b := b) (n := u.trans.legDisc r) true idle
  rw [← told] at port
  rw [diverts]
  exact ⟨goes, rejects, fails b dest, kept.latched .handling (by decide) (by simp [w]), port⟩

/-- With none there the arm goes back for it, and only the arm and the signals have changed. -/
theorem State.trayFailed_retakes (h : u.granting older r younger) (arm : u.trans.arm = .carrying)
    (dest : u.trans.legDest r = .bay b) (idle : (u.bay b).out = none) (pick : u.sensors.pick = false) :
    u.trayFailed b = (u.latch .handling).startAck .retake := by
  rw [State.trayFailed_dest h arm dest, State.destFailure_eq h dest idle, if_neg (by simp [pick])]

theorem State.startAck_undisturbed (u : State) (step : HandStep) : u.undisturbed ((u.latch .handling).startAck step) where
  wanted := rfl
  stage := rfl
  emptied := fun _ => id
  jobs := rfl
  records := rfl
  spindles := ⟨rfl, rfl⟩
  queue := rfl
  printer := rfl
  staging := rfl

/-! ## From the state before the request was over -/

theorem State.quiet.of_modBay {f : Bay → Bay} (h : (s.modBay b f).quiet t) (kept : ∀ r, (f r).state = r.state) : s.quiet t :=
  { stage := h.stage, jobs := h.jobs, runMode := h.runMode, records := h.records, spindles := h.spindles
    printer := h.printer, queue := h.queue, images := h.images
    bays := fun c empty => State.emptied_of_states (s.modBay_states b kept) c (h.bays c empty) }

theorem State.changesOnly_of_modBay {f : Bay → Bay} {l : List Part} (h : (s.modBay b f).changesOnly l t) :
    s.changesOnly (.bays :: l) t := fun p hp => by
  have kept := h p fun inside => hp (List.mem_cons_of_mem _ inside)
  cases p with
  | bays => exact absurd List.mem_cons_self hp
  | _ => exact kept

theorem State.spentAtBay.of_modBay {f : Bay → Bay} (h : (s.modBay b f).spentAtBay t older r younger b)
    (kept : (f (s.bay b)).disc = (s.bay b).disc) : s.spentAtBay t older r younger b := by
  obtain ⟨⟨queue, arm, count, handling⟩, bay, signals, disc, second⟩ := h
  rw [State.modBay_bay, kept] at bay
  exact ⟨⟨queue, arm, count, handling⟩, bay, signals, disc, second⟩

theorem State.spentAtBay.watched (h : s.spentAtBay t older r younger b) (w : State) :
    s.spentAtBay (w.watched t) older r younger b := by
  obtain ⟨⟨queue, arm, count, handling⟩, bay, signals, disc, second⟩ := h
  exact ⟨⟨queue, arm, count, handling⟩, bay, signals, disc, second⟩

theorem State.failsAcceptance.of_modBay {f : Bay → Bay} (h : (s.modBay b f).failsAcceptance t b n)
    (state : (f (s.bay b)).state = (s.bay b).state) (disc : (f (s.bay b)).disc = (s.bay b).disc)
    (failures : (f (s.bay b)).handoverFailures = (s.bay b).handoverFailures)
    (off : (f (s.bay b)).offlineAfter = (s.bay b).offlineAfter) : s.failsAcceptance t b n := by
  unfold State.failsAcceptance at h ⊢
  rw [State.modBay_bay, state, disc, failures, off] at h
  exact h

end Sys2Proof.Machine
end

/-! # Proofs: TRAY completions (R53, R54, R69, R70, R118 to R121) -/

section

namespace Sys2Proof.Machine

variable {s u : State} {b : BayId} {o : Outstanding} {n : Nat} {r : MoveReq} {older younger : List MoveReq} {d : Disc}

/-! ## What each completion runs -/

theorem execTrayOpenComplete_runs (out : (s.bay b).out = some o) (req : o.req = .trayOpen) (kind : CompletionKind) :
    exec (.trayOpenComplete b o.number kind) s = .next (s.watched
      (if kind = .ok then (s.modBay b Bay.endOut).trayOpened b else (s.modBay b Bay.endOut).trayFailed b)) := by
  have runs : exec (.trayOpenComplete b o.number kind) s = execTrayOpenComplete b o.number kind s := rfl
  rw [runs, execTrayOpenComplete, Bay.outMatching_own out, req]

theorem execTrayCloseComplete_runs (out : (s.bay b).out = some o) (req : o.req = .trayClose) (kind : CompletionKind) :
    exec (.trayCloseComplete b o.number kind) s = .next (s.watched
      (if kind = .ok then (s.modBay b Bay.endOut).bayAccepts b else (s.modBay b Bay.endOut).trayFailed b)) := by
  have runs : exec (.trayCloseComplete b o.number kind) s = execTrayCloseComplete b o.number kind s := rfl
  rw [runs, execTrayCloseComplete, Bay.outMatching_own out, req]

/-! ## TRAY OPEN OK (R53, R69) -/

theorem State.trayOpened_eq (h : u.granting older r younger)
    (at_ : u.trans.arm = .granted ∧ u.trans.legSource r = .bay b ∨ u.trans.arm = .carrying ∧ u.trans.legDest r = .bay b) :
    u.trayOpened b = u.setStep .trayReady := by
  unfold State.trayOpened
  rw [h.grant_eq]
  rcases at_ with ⟨arm, source⟩ | ⟨arm, dest⟩
  · rw [arm]
    exact if_pos source
  · rw [arm]
    exact if_pos dest

theorem State.endOut_setStep_quiet (s : State) (b : BayId) (step : HandStep) :
    s.quiet ((s.modBay b Bay.endOut).setStep step) := State.undisturbed.quiet {
  wanted := rfl, stage := rfl, jobs := rfl, records := rfl, spindles := ⟨rfl, rfl⟩, queue := rfl, printer := rfl
  staging := rfl, emptied := State.emptied_of_states (s.modBay_states b fun _ => rfl) }

/-! ## TRAY CLOSE OK: the bay's acceptance (R53, R118) -/

/-- The bay's record once it has accepted a disc and identifies it. -/
def Bay.accepting (now : Nat) (r : Bay) : Bay :=
  ({ r with state := .ident, handoverFailures := 0, survey := false, identDeadline := some (now + 30000) }).withRequest
    .identify (now + 30000)

theorem State.bayAccepts_eq (h : u.granting older r younger) (arm : u.trans.arm = .carrying)
    (dest : u.trans.legDest r = .bay b) :
    u.bayAccepts b = (u.accepted (u.trans.legDisc r) (.bay b) .inBay).modBay b (Bay.accepting u.now) := by
  have accepts : u.bayAccepts b = ((u.accepted (u.trans.legDisc r) (.bay b) .inBay).modBay b fun y =>
      { y with state := .ident, handoverFailures := 0, survey := false }).issueIdentify b := by
    unfold State.bayAccepts
    rw [h.grant_eq, arm]
    exact if_pos dest
  have now : (u.accepted (u.trans.legDisc r) (.bay b) .inBay).now = u.now := by simp [State.accepted]
  rw [accepts, State.issueIdentify, State.issue, State.modBay_modBay, State.modBay_modBay]
  simp only [State.modBay_frame, now]
  rfl

/-- The acceptance of the disc of a last leg: the disc's record, the request gone and the arm free (R4, R118). -/
theorem State.accepted_last (h : u.granting older r younger) (last : u.trans.lastLeg r) (hd : u.disc n = some d)
    (apart : ∀ q ∈ u.trans.waiting, q.disc ≠ n) :
    let t := u.accepted n (.bay b) .inBay
    t.disc n = some { d with location := .bay b, stage := if d.stage = .toOut then .toOut else .inBay } ∧
      u.trans.leaves t.trans (older ++ younger) ∧
      t.trans = { u.trans.freed with queue := t.trans.queue, waiting := t.trans.waiting } ∧
      t.sensors = { u.sensors with pick := false } ∧ t.bays = u.bays := by
  intro t
  let v := (u.setPick false).moveDisc n (.bay b) .inBay
  have moved : v.disc n = some { d with
      location := .bay b, stage := if d.stage = .toOut then .toOut else .inBay } := by
    have record : v.disc n = (u.disc n).map fun e => { e with
        location := .bay b, stage := if e.stage = .toOut then .toOut else .inBay } :=
      State.modDisc_disc (u.setPick false) n fun _ => rfl
    rw [record, hd]
    rfl
  have done : t = v.moveDone := State.legDone_last (s := v) (h.of_trans rfl) last
  obtain ⟨leaves, freed⟩ := State.moveDone_trans (s := v) (h.of_trans rfl)
  rw [← done] at leaves freed
  refine ⟨(State.legDone_disc (s := v) apart).trans moved, leaves, freed, ?_, ?_⟩
  · simp [t, State.accepted, State.setPick]
  · simp [t, State.accepted]

/-! ## Failures of either request (R70) -/

theorem State.endOut_diverts (h : s.granting older r younger) (arm : s.trans.arm = .carrying)
    (dest : s.trans.legDest r = .bay b) (pick : s.sensors.pick = true) :
    let t := s.watched ((s.modBay b Bay.endOut).trayFailed b)
    s.goesToReject t older r younger ∧ (t.bay b).out = none ∧ s.rejectsDisc t (s.trans.legDisc r) .handling ∧
      s.failsAcceptance t b (s.trans.legDisc r) ∧ t.cond .handling = true := by
  have idle : ((s.modBay b Bay.endOut).bay b).out = none := by rw [State.modBay_bay]; rfl
  obtain ⟨goes, rejects, fails, handling, out, -⟩ :=
    State.trayFailed_diverts (u := s.modBay b Bay.endOut) (h.of_trans rfl) arm dest idle pick
  have fails_ : s.failsAcceptance ((s.modBay b Bay.endOut).trayFailed b) b (s.trans.legDisc r) :=
    State.failsAcceptance.of_modBay fails rfl rfl rfl rfl
  exact ⟨goes, out, rejects, fails_, handling⟩

theorem State.endOut_retakes (h : s.granting older r younger) (arm : s.trans.arm = .carrying)
    (dest : s.trans.legDest r = .bay b) (pick : s.sensors.pick = false) :
    let t := s.watched ((s.modBay b Bay.endOut).trayFailed b)
    t.cond .handling = true ∧ t.trans = { s.trans with
        moveTimer := none, handover := some .retake, ackTimer := some (s.now + s.settingNat 8) } ∧
      (t.bay b).out = none ∧ s.changesOnly [.bays, .trans, .status] t := by
  have idle : ((s.modBay b Bay.endOut).bay b).out = none := by rw [State.modBay_bay]; rfl
  have quiet : s.quiet (((s.modBay b Bay.endOut).latch .handling).startAck .retake) :=
    State.quiet.of_modBay (State.startAck_undisturbed (s.modBay b Bay.endOut) .retake).quiet fun _ => rfl
  dsimp only
  rw [State.trayFailed_retakes (u := s.modBay b Bay.endOut) (h.of_trans rfl) arm dest idle pick, quiet.watched]
  refine ⟨by simp [State.startAck], rfl, idle, ?_⟩
  rw [State.changesOnly_iff]
  simp [State.startAck]

/-- Settles O47: each completion at the leg's end where the bay stands. -/
theorem trayCompletionsDriveTheHandOver : Obligations.TrayCompletionsDriveTheHandOver := by
  intro s b o older younger r out h n source dest fails retakes
  have idle : ((s.modBay b Bay.endOut).bay b).out = none := by rw [State.modBay_bay]; rfl
  have granting : (s.modBay b Bay.endOut).granting older r younger := h.of_trans rfl
  refine ⟨fun req => ⟨fun at_ => ?opened, fun kind bad => ⟨fun ⟨arm, from_⟩ left => ?again,
    fun ⟨arm, from_⟩ spent => ?spent, fun ⟨arm, to_⟩ pick => ?openFails, fun ⟨arm, to_⟩ pick => ?openRetakes⟩⟩,
    fun req ⟨arm, to_⟩ => ⟨fun d last hd apart => ?accepts, fun kind bad => ⟨fun pick => ?closeFails,
      fun pick => ?closeRetakes⟩⟩⟩
  case opened =>
    rw [execTrayOpenComplete_runs out req, if_pos rfl, State.trayOpened_eq granting at_,
      (s.endOut_setStep_quiet b .trayReady).watched]
    rfl
  case again =>
    obtain ⟨⟨trans, handling⟩, bays, only, quiet⟩ := State.trayFailed_again granting arm from_ idle left
    have stays := quiet.of_modBay fun _ => rfl
    refine ⟨_, ?_, ⟨trans, handling⟩, (congrArg Bay.out (State.bay_of_bays bays b)).trans idle, State.changesOnly_of_modBay only⟩
    rw [execTrayOpenComplete_runs out req, if_neg bad, stays.watched]
  case spent =>
    have ends := State.trayFailed_spent_eq granting arm from_ idle spent
    refine ⟨_, ?_, ((State.bayFaultEntry_spent granting).of_modBay rfl).watched s⟩
    rw [execTrayOpenComplete_runs out req, if_neg bad, ends]
  case openFails => exact ⟨_, by rw [execTrayOpenComplete_runs out req, if_neg bad], State.endOut_diverts h arm to_ pick⟩
  case openRetakes => exact ⟨_, by rw [execTrayOpenComplete_runs out req, if_neg bad], State.endOut_retakes h arm to_ pick⟩
  case closeFails => exact ⟨_, by rw [execTrayCloseComplete_runs out req, if_neg bad], State.endOut_diverts h arm to_ pick⟩
  case closeRetakes =>
    exact ⟨_, by rw [execTrayCloseComplete_runs out req, if_neg bad], State.endOut_retakes h arm to_ pick⟩
  case accepts =>
    obtain ⟨record, leaves, freed, sensors, bays⟩ := State.accepted_last (b := b) granting last hd apart
    have runs : exec (.trayCloseComplete b o.number .ok) s = .next (s.watched
        (((s.modBay b Bay.endOut).accepted n (.bay b) .inBay).modBay b (Bay.accepting s.now))) := by
      rw [execTrayCloseComplete_runs out req, if_pos rfl, State.bayAccepts_eq granting arm to_]
      rfl
    refine ⟨_, runs, record, ?_, leaves, freed, sensors, ?_⟩
    · refine (State.modBay_bay _ b (Bay.accepting s.now)).trans ?_
      rw [State.bay_of_bays bays, State.modBay_bay]
      rfl
    · rw [State.changesOnly_iff]
      simp [State.accepted]

end Sys2Proof.Machine
end

/-! # Proofs: deadlines that expire (R51, R55, R57, R66, R67, R70, R71) -/

section

namespace Sys2Proof.Machine

variable {s u : State} {b : BayId} {o : Outstanding} {n : Nat} {r : MoveReq} {older younger : List MoveReq} {d : Disc}

/-! ## What each expiry runs (R67) -/

/-- A deadline of the disc's work. -/
def Bay.workExpires (r : Bay) (suspend : Bool) : Prop :=
  (suspend = true ∧ r.susp ≠ none) ∨
    (suspend = false ∧ ∃ o, r.out = some o ∧ o.req ≠ .trayOpen ∧ o.req ≠ .trayClose) ∨
    (suspend = false ∧ r.out = none ∧ r.state = .ident ∧ r.identDeadline ≠ none)

/-- A deadline of an IDENTIFY, which may wait to be retried. -/
def Bay.identExpires (r : Bay) : Prop :=
  (∃ o, r.out = some o ∧ o.req = .identify) ∨ (r.out = none ∧ r.state = .ident ∧ r.identDeadline ≠ none)

theorem execDeadlineExpiry_eq (b : BayId) (suspend : Bool) (s : State) :
    exec (.deadlineExpiry b suspend) s = execDeadlineExpiry b suspend s := rfl

theorem execDeadlineExpiry_ident (expires : (s.bay b).identExpires) :
    exec (.deadlineExpiry b false) s = .next (s.watched (s.identTimedOut b)) := by
  rw [execDeadlineExpiry_eq, execDeadlineExpiry]
  rcases expires with ⟨o, out, req⟩ | ⟨out, state, deadline⟩
  · simp [out, req]
  · simp [out, state, Option.isSome_iff_ne_none, deadline]

theorem State.identTimedOut_work (work : (s.bay b).survey = false) : s.identTimedOut b = s.workTimedOut b := by
  rw [State.identTimedOut, work]
  rfl

theorem execDeadlineExpiry_work {suspend : Bool} (work : (s.bay b).survey = false)
    (expires : (s.bay b).workExpires suspend) :
    exec (.deadlineExpiry b suspend) s = .next (s.watched (s.workTimedOut b)) := by
  rcases expires with ⟨rfl, susp⟩ | ⟨rfl, o, out, notOpen, notClose⟩ | ⟨rfl, waits⟩
  · rw [execDeadlineExpiry_eq, execDeadlineExpiry]
    simp [Option.isSome_iff_ne_none, susp]
  · cases req : o.req with
    | identify => rw [execDeadlineExpiry_ident (.inl ⟨o, out, req⟩), State.identTimedOut_work work]
    | trayOpen => exact absurd req notOpen
    | trayClose => exact absurd req notClose
    | _ =>
      rw [execDeadlineExpiry_eq, execDeadlineExpiry]
      simp [out, req]
  · rw [execDeadlineExpiry_ident (.inr waits), State.identTimedOut_work work]

theorem execDeadlineExpiry_tray (out : (s.bay b).out = some o) (req : o.req = .trayOpen ∨ o.req = .trayClose) :
    exec (.deadlineExpiry b false) s = .next (s.watched ((s.portReset b).trayFailed b)) := by
  rw [execDeadlineExpiry_eq, execDeadlineExpiry]
  rcases req with req | req <;> simp [out, req]

/-! ## The disc's work (R67) -/

/-- The bay's record after a port reset and one more timeout. -/
def Bay.timedOut (r : Bay) : Bay := { r with out := none, susp := none, timeouts := r.timeouts + 1 }

theorem State.workTimedOut_eq (holds : (s.bay b).disc = some n) : s.workTimedOut b =
    if (s.bay b).timeouts < 2 then (s.modBay b Bay.timedOut).bayReject b .driveTimeout
    else ((s.modBay b Bay.timedOut).setReject n .driveTimeout).bayFaultEntry b := by
  have counted : (s.portReset b).modBay b (fun r => { r with timeouts := r.timeouts + 1 }) = s.modBay b Bay.timedOut := by
    rw [State.portReset, State.modBay_modBay]
    rfl
  have bay : (s.modBay b Bay.timedOut).bay b = (s.bay b).timedOut := s.modBay_bay b Bay.timedOut
  have third : 3 ≤ (s.bay b).timedOut.timeouts ↔ ¬ (s.bay b).timeouts < 2 := by
    change 3 ≤ (s.bay b).timeouts + 1 ↔ _
    omega
  have disc : (s.bay b).timedOut.disc = some n := holds
  simp only [State.workTimedOut, counted, bay, third, disc]
  by_cases few : (s.bay b).timeouts < 2 <;> simp [few]

/-- A rejected disc's bay keeps the count of its timeouts. -/
theorem State.bayReject_timeouts (holds : (u.bay b).disc = some n) (why : RejectReason) :
    ((u.bayReject b why).bay b).timeouts = (u.bay b).timeouts := by
  rw [State.bayReject_bay why holds]
  rfl

theorem State.workTimedOut_rejects (holds : (s.bay b).disc = some n) (few : (s.bay b).timeouts < 2) :
    s.unloadsToReject (s.workTimedOut b) b n .driveTimeout ∧
      ((s.workTimedOut b).bay b).timeouts = (s.bay b).timeouts + 1 := by
  have bay : (s.modBay b Bay.timedOut).bay b = (s.bay b).timedOut := s.modBay_bay b Bay.timedOut
  rw [State.workTimedOut_eq holds, if_pos few]
  refine ⟨State.modBay_bayReject holds .driveTimeout ⟨rfl, rfl, rfl, rfl, rfl⟩, ?_⟩
  rw [State.bayReject_timeouts (by rw [bay]; exact holds), bay]
  rfl

/-- The bay's record once it is in FAULT (R71). -/
def Bay.faulted (r : Bay) : Bay := { r with
  state := .fault, out := none, susp := none, retryTimer := none, identDeadline := none, reserveTimer := none
  burn := none, dest := none, survey := false }

theorem State.workTimedOut_faults (holds : (s.bay b).disc = some n) (many : 2 ≤ (s.bay b).timeouts) :
    let t := s.workTimedOut b
    t.bay b = (s.bay b).timedOut.faulted ∧ t.trans = s.trans ∧
      (∀ d, s.disc n = some d → t.disc n = some (d.rejected .driveTimeout)) ∧
      t.cond .bayFault = true ∧ t.status.pending.getLsbD 8 = true := by
  have bay : ((s.modBay b Bay.timedOut).setReject n .driveTimeout).bay b = (s.bay b).timedOut :=
    s.modBay_bay b Bay.timedOut
  have faults := State.workTimedOut_eq holds
  rw [if_neg (Nat.not_lt.2 many)] at faults
  dsimp only
  rw [faults]
  refine ⟨?_, by simp, fun d hd => ?_, State.bayFaultEntry_signals _ b⟩
  · rw [State.bayFaultEntry_bay, bay]
    rfl
  · have record : ((s.modBay b Bay.timedOut).setReject n .driveTimeout).disc n = (s.disc n).map _ :=
      State.setReject_disc (s.modBay b Bay.timedOut) n .driveTimeout
    rw [State.disc_of_discs (s := (s.modBay b Bay.timedOut).setReject n .driveTimeout) (by simp), record, hd]
    rfl

/-! ## A survey (R57) -/

theorem State.identTimedOut_survey (survey : (s.bay b).survey = true) : let t := s.identTimedOut b
    t.bay b = (s.bay b).faulted ∧ t.cond .bayFault = true ∧ t.status.pending.getLsbD 8 = true ∧ t.trans = s.trans ∧
      t.discs = s.discs := by
  have faults : s.identTimedOut b = (s.portReset b).bayFaultEntry b := if_pos survey
  obtain ⟨cond, event⟩ := (s.portReset b).bayFaultEntry_signals b
  dsimp only
  rw [faults]
  refine ⟨?_, cond, event, by simp [State.portReset], by simp [State.portReset]⟩
  rw [State.bayFaultEntry_bay, State.portReset, State.modBay_bay]
  rfl

theorem Disc.rejected_stage (d : Disc) (why : RejectReason) : (d.rejected why).stage = d.stage := by
  unfold Disc.rejected
  split <;> rfl

/-! ## A tray request (R70, R120) -/

theorem State.portReset_spent (h : s.granting older r younger) (arm : s.trans.arm = .granted)
    (source : s.trans.legSource r = .bay b) (spent : s.settingNat 10 ≤ r.retries + 1) :
    let t := (s.portReset b).trayFailed b
    s.spentAtBay t older r younger b ∧ (t.bay b).timeouts = (s.bay b).timeouts := by
  have reset : (s.portReset b).bay b = { s.bay b with out := none, susp := none } := State.modBay_bay ..
  have granting : (s.portReset b).granting older r younger := h.of_trans rfl
  dsimp only
  rw [State.trayFailed_spent_eq granting arm source (by rw [reset]) spent]
  refine ⟨(State.bayFaultEntry_spent granting).of_modBay rfl, ?_⟩
  rw [State.bayFaultEntry_bay, State.spentRecords_bay, reset]

/-- Settles O48: by what the deadline was of, the count of timeouts, and where the leg under way stands. -/
theorem deadlineExpiryRejectsOrFaults : Obligations.DeadlineExpiryRejectsOrFaults := by
  refine ⟨fun s b n suspend holds work expires => ?work, fun s b survey expires => ?survey,
    fun s b o older younger r out req h => ?tray⟩
  case work =>
    have runs := execDeadlineExpiry_work work expires
    refine ⟨fun few => ?_, fun many => ?_⟩
    · obtain ⟨rejects, timeouts⟩ := State.workTimedOut_rejects holds few
      exact ⟨_, runs, rejects.watched s, timeouts⟩
    · obtain ⟨bay, trans, record, cond, event⟩ := State.workTimedOut_faults holds many
      have its : (s.watched (s.workTimedOut b)).bay b = (s.bay b).timedOut.faulted := bay
      refine ⟨_, runs, ?_⟩
      rw [its]
      exact ⟨rfl, holds, rfl, rfl, rfl, rfl, rfl, trans, fun d hd => ⟨_, record d hd, d.rejected_stage _,
        d.rejected_disposition _⟩, cond, event⟩
  case survey =>
    obtain ⟨bay, cond, event, trans, discs⟩ := State.identTimedOut_survey survey
    have its : (s.watched (s.identTimedOut b)).bay b = (s.bay b).faulted := bay
    refine ⟨_, execDeadlineExpiry_ident expires, ?_⟩
    rw [its]
    exact ⟨rfl, rfl, rfl, rfl, cond, event, trans, discs⟩
  case tray =>
    intro n dest
    have runs := execDeadlineExpiry_tray out req
    have reset : (s.portReset b).bay b = { s.bay b with out := none, susp := none } := State.modBay_bay ..
    have idle : ((s.portReset b).bay b).out = none := by rw [reset]
    have granting : (s.portReset b).granting older r younger := h.of_trans rfl
    refine ⟨fun arm source left => ?again, fun arm source spent => ?spent, fun ⟨arm, to_⟩ pick => ?retakes,
      fun ⟨arm, to_⟩ pick => ?diverts⟩
    case again =>
      obtain ⟨⟨trans, handling⟩, bays, only, quiet⟩ := State.trayFailed_again granting arm source idle left
      have stays : s.quiet ((s.portReset b).trayFailed b) := quiet.of_modBay fun _ => rfl
      rw [stays.watched] at runs
      exact ⟨_, runs, ⟨trans, handling⟩, (State.bay_of_bays bays b).trans reset, State.changesOnly_of_modBay only⟩
    case spent =>
      obtain ⟨spends, timeouts⟩ := State.portReset_spent h arm source spent
      exact ⟨_, runs, spends.watched s, timeouts⟩
    case retakes =>
      have fails := State.trayFailed_retakes granting arm to_ idle pick
      have stays : s.quiet (((s.portReset b).latch .handling).startAck .retake) :=
        State.quiet.of_modBay ((s.portReset b).startAck_undisturbed .retake).quiet fun _ => rfl
      rw [fails, stays.watched] at runs
      refine ⟨_, runs, by simp [State.startAck], rfl, reset, ?_⟩
      rw [State.changesOnly_iff]
      simp [State.startAck, State.portReset]
    case diverts =>
      obtain ⟨goes, rejects, fails, handling, outs, susp, timeouts⟩ :=
        State.trayFailed_diverts granting arm to_ idle pick
      rw [reset] at susp timeouts
      have told : s.failsAcceptance ((s.portReset b).trayFailed b) b n := State.failsAcceptance.of_modBay fails rfl rfl rfl rfl
      exact ⟨_, runs, goes, outs, susp.elim id id, rejects, told, timeouts, handling⟩

end Sys2Proof.Machine
end

/-! # Proofs: an admission evaluation (R37, R87 to R90, log 32) -/

section

namespace Sys2Proof.Machine

variable {s t : State} {b c : BayId} {k : ImageId} {i j : Image} {f : DriveFacts} {r : Bay} {e : AdmEntry}
  {step n : Nat} {older younger l : List AdmEntry}

/-! ## The step of an entry (R89) -/

theorem Image.joinable_iff (i : Image) : i.joinable = true ↔
    (i.state = .filling ∨ i.state = .complete) ∧ (i.residency = .resident ∨ i.gate = .opened) := by
  rw [Image.joinable, Bool.and_eq_true, Image.admits_iff]
  simp

theorem State.qualifies_iff (s : State) (i : Image) (rate : Nat) : s.qualifies i rate = true ↔
    s.governor.sum + rate ≤ s.settingNat 2 ∧
      s.settingNat 5 ≤ (if i.fill = i.size then 65535 else min 65535 (i.fill * 1000 / rate)) := by
  rw [State.qualifies, Bool.and_eq_true, decide_eq_true_eq, decide_eq_true_eq]
  rfl

theorem State.admitsAt_iff : s.admitsAt b k i f n ↔ ((s.bay b).imageSlot = some k ∧ s.image k = some i) ∧
    ((s.bay b).facts = some f ∧ n < f.rates.length) ∧ i.joinable = true ∧
    s.qualifies i ((s.bay b).rate n) = true := by
  have rate (facts : (s.bay b).facts = some f) : (s.bay b).rate n = f.rates.getD n 0 := by rw [Bay.rate, facts]
  rw [Image.joinable_iff, State.qualifies_iff]
  constructor
  · rintro ⟨slot, facts, joins, budget, lead⟩
    rw [rate facts.1]
    exact ⟨slot, facts, joins, budget, lead⟩
  · rintro ⟨slot, facts, joins, qualifies⟩
    rw [rate facts.1] at qualifies
    exact ⟨slot, facts, joins, qualifies.1, qualifies.2⟩

theorem State.highestStep_eq_none : s.highestStep i r n = none ↔ ∀ m < n, s.qualifies i (r.rate m) = false := by
  induction n with
  | zero => simp [State.highestStep]
  | succ n ih =>
    rw [Nat.forall_lt_succ_right, ← ih, State.highestStep]
    cases s.qualifies i (r.rate n) <;> simp

/-- The highest step that qualifies, and none above it does. -/
theorem State.highestStep_eq_some (lt : step < n) (qualifies : s.qualifies i (r.rate step) = true)
    (highest : ∀ m, step < m → m < n → s.qualifies i (r.rate m) = false) : s.highestStep i r n = some step := by
  induction n with
  | zero => exact absurd lt step.not_lt_zero
  | succ n ih =>
    rw [State.highestStep]
    rcases Nat.lt_succ_iff_lt_or_eq.1 lt with below | rfl
    · rw [highest n below n.lt_succ_self, if_neg Bool.false_ne_true]
      exact ih below fun m above lt => highest m above (lt.trans n.lt_succ_self)
    · rw [if_pos qualifies]

theorem State.highestStep_congr (same : ∀ rate, t.qualifies j rate = s.qualifies i rate) :
    t.highestStep j r n = s.highestStep i r n := by
  induction n with
  | zero => rfl
  | succ n ih => rw [State.highestStep, State.highestStep, same, ih]

theorem State.imageOf_eq_some : s.imageOf r = some i ↔ ∃ k, r.imageSlot = some k ∧ s.image k = some i :=
  Option.bind_eq_some_iff

theorem Bay.lastStep_succ (facts : r.facts = some f) (rates : f.rates ≠ []) : r.lastStep + 1 = f.rates.length := by
  rw [Bay.lastStep, facts]
  exact Nat.sub_add_cancel (List.length_pos_iff.2 rates)

theorem State.admissionStep_eq_none_iff : s.admissionStep e = none ↔
    (e.admitting = none → ∀ i, s.imageOf (s.bay e.bay) = some i → i.joinable = true →
      ∀ m < (s.bay e.bay).lastStep + 1, s.qualifies i ((s.bay e.bay).rate m) = false) := by
  unfold State.admissionStep
  cases e.admitting with
  | some step => simp
  | none =>
    cases s.imageOf (s.bay e.bay) with
    | none => simp
    | some i => cases joins : i.joinable <;> simp [joins, State.highestStep_eq_none]

/-- An entry that can be admitted at no step is passed over. -/
theorem State.admissionStep_eq_none (rates : ∃ f, (s.bay e.bay).facts = some f ∧ f.rates ≠ [])
    (passed : ∀ k i f step, ¬ s.admitsAt e.bay k i f step) : s.admissionStep e = none := by
  obtain ⟨f, facts, rates⟩ := rates
  refine State.admissionStep_eq_none_iff.2 fun _ i image joins m lt => Bool.eq_false_iff.2 fun qualifies => ?_
  obtain ⟨k, slot, hi⟩ := State.imageOf_eq_some.1 image
  rw [Bay.lastStep_succ facts rates] at lt
  exact passed k i f m (State.admitsAt_iff.2 ⟨⟨slot, hi⟩, ⟨facts, lt⟩, joins, qualifies⟩)

/-- An entry is admitted at the highest step that admits it. -/
theorem State.admissionStep_eq_some (admits : s.admitsAt b k i f step)
    (highest : ∀ higher, step < higher → ¬ s.admitsAt b k i f higher) :
    s.admissionStep { bay := b, admitting := none } = some step := by
  obtain ⟨⟨slot, hi⟩, ⟨facts, lt⟩, joins, qualifies⟩ := State.admitsAt_iff.1 admits
  have image : s.imageOf (s.bay b) = some i := State.imageOf_eq_some.2 ⟨k, slot, hi⟩
  simp only [State.admissionStep, Option.isSome_none, Bool.false_eq_true, if_false, image, joins, if_true,
    Bay.lastStep_succ facts (List.ne_nil_of_length_pos (Nat.zero_lt_of_lt lt))]
  exact State.highestStep_eq_some lt qualifies fun m above lt => Bool.eq_false_iff.2 fun qualifies =>
    highest m above (State.admitsAt_iff.2 ⟨⟨slot, hi⟩, ⟨facts, lt⟩, joins, qualifies⟩)

/-! ## An admission, and a burn that begins (R58, R89, R90) -/

/-- The entry that the admission of a bay makes of one: the bay's own is marked with the step (R89). -/
def AdmEntry.markedAt (b : BayId) (step : Nat) (e : AdmEntry) : AdmEntry :=
  if e.bay = b then { e with admitting := some step } else e

/-- An admission changes the queue, the sum of the rates and the bay's allocation (R75, R89). -/
theorem State.admitAt_eq (s : State) (b : BayId) (step : Nat) : s.admitAt b step = { s with
    governor :=
      { queue := s.governor.queue.map (AdmEntry.markedAt b step), sum := s.governor.sum + (s.bay b).rate step }
    bays := s.bays.set b.val
      { s.bay b with burn := some { step, rate := (s.bay b).rate step, stable := 0 } } } := rfl

theorem State.admitAt_queue (s : State) (b : BayId) (step : Nat) :
    (s.admitAt b step).governor.queue = s.governor.queue.map (AdmEntry.markedAt b step) := rfl

theorem AdmEntry.markedAt_bay (b : BayId) (step : Nat) (e : AdmEntry) : (e.markedAt b step).bay = e.bay := by
  unfold AdmEntry.markedAt
  split <;> rfl

theorem map_markedAt_eq_self {step : Nat} (others : ∀ e ∈ l, e.bay ≠ b) : l.map (AdmEntry.markedAt b step) = l :=
  (List.map_congr_left fun e he => if_neg (others e he)).trans l.map_id

theorem State.admitAt_bay (s : State) (b : BayId) (step : Nat) : (s.admitAt b step).bay b =
    { s.bay b with burn := some { step, rate := (s.bay b).rate step, stable := 0 } } := by
  rw [State.admitAt, State.modGov_bay, State.modBay_bay]

theorem State.admitAt_bay_ne (s : State) (step : Nat) (other : c ≠ b) : (s.admitAt b step).bay c = s.bay c :=
  (State.modGov_bay ..).trans (s.modBay_bay_ne _ other)

/-- An entry of another bay that is passed over is so once a bay is admitted: the sum of the rates only grows. -/
theorem State.admissionStep_admitAt_none (other : e.bay ≠ b) (passed : s.admissionStep e = none) :
    (s.admitAt b step).admissionStep e = none := by
  have less (i : Image) (rate : Nat) (fails : s.qualifies i rate = false) :
      (s.admitAt b step).qualifies i rate = false := by
    rw [← Bool.not_eq_true, State.qualifies_iff] at fails ⊢
    exact fun ⟨budget, lead⟩ => fails ⟨le_trans (Nat.add_le_add_right (Nat.le_add_right ..) rate) budget, lead⟩
  rw [State.admissionStep_eq_none_iff] at passed ⊢
  rw [s.admitAt_bay_ne step other]
  exact fun rests i image joins m lt => less i _ (passed rests i image joins m lt)

/-- A join changes of each slot's record the consumers alone (R37). -/
theorem State.joinConsumers_image (s : State) (k : ImageId) (b : BayId) (x : ImageId) : ∃ g : List BayId → List BayId,
    (s.joinConsumers k b).image x = (s.image x).map fun i => { i with consumers := g i.consumers } := by
  unfold State.joinConsumers
  split
  · exact ⟨id, by simp⟩
  · rename_i i hi
    by_cases same : x = k
    · exact ⟨(· ++ [b]), by rw [same, State.setImage_image, hi]; rfl⟩
    · exact ⟨id, by rw [State.setImage_image_ne s _ same]; simp⟩

/-- The record of a bay whose burn begins, with SPEED to it (R58). -/
def Bay.begun (r : Bay) (step timer deadline : Nat) : Bay :=
  ({ r with state := .burning, cursor := some 0, buffer := some 0, reserveTimer := some timer }).withRequest
    (.speed step) deadline

/-- A burn that begins changes the Governor's queue, the slot's consumers and the bay's record (R58, R90). -/
theorem State.beginBurn_eq (s : State) (b : BayId) (k : ImageId) (step : Nat) : s.beginBurn b k step = { s with
    governor := { queue := s.governor.queue.filter fun e => e.bay != b, sum := s.governor.sum }
    staging := (s.joinConsumers k b).staging
    bays := s.bays.set b.val ((s.bay b).begun step (s.now + s.settingNat 7) (s.now + 2000)) } := by
  unfold State.beginBurn
  dsimp only
  rw [State.modBay, State.setBay_issue]
  unfold State.joinConsumers
  cases hi : s.image k <;> simp only [show ∀ g, (s.modGov g).image k = s.image k from fun _ => rfl, hi] <;> rfl

theorem State.beginBurn_bay_ne (s : State) (k : ImageId) (step : Nat) (other : c ≠ b) :
    (s.beginBurn b k step).bay c = s.bay c := by
  rw [State.beginBurn_eq]
  exact s.setBay_bay_ne _ other

theorem State.beginBurn_image (s : State) (k : ImageId) (b : BayId) (step : Nat) (x : ImageId) :
    (s.beginBurn b k step).image x = (s.joinConsumers k b).image x := by
  rw [State.beginBurn_eq]
  rfl

theorem State.beginBurn_governor (s : State) (b : BayId) (k : ImageId) (step : Nat) :
    (s.beginBurn b k step).governor =
      { queue := s.governor.queue.filter fun e => e.bay != b, sum := s.governor.sum } := by
  rw [State.beginBurn_eq]

theorem State.admitAt_joinConsumers (s : State) (c : BayId) (n : Nat) (k : ImageId) (b : BayId) :
    ((s.admitAt c n).joinConsumers k b).staging = (s.joinConsumers k b).staging := by
  have image : (s.admitAt c n).image k = s.image k := rfl
  unfold State.joinConsumers
  rw [image]
  cases s.image k <;> rfl

/-- A burn that begins leaves the step of every other bay's entry. -/
theorem State.admissionStep_beginBurn (s : State) (k : ImageId) (step : Nat) (other : e.bay ≠ b) :
    (s.beginBurn b k step).admissionStep e = s.admissionStep e := by
  have sum : (s.beginBurn b k step).governor.sum = s.governor.sum := by rw [State.beginBurn_governor]
  have settings (m : SettingId) : (s.beginBurn b k step).settingNat m = s.settingNat m := by
    simp only [State.settingNat, State.setting, State.beginBurn_frame]
  unfold State.admissionStep State.imageOf
  rw [s.beginBurn_bay_ne k step other]
  cases slot : (s.bay e.bay).imageSlot with
  | none => rfl
  | some x =>
    obtain ⟨g, image⟩ := s.joinConsumers_image k b x
    simp only [Option.bind_some, State.beginBurn_image, image]
    cases s.image x with
    | none => rfl
    | some i =>
      have qualifies (rate : Nat) : (s.beginBurn b k step).qualifies { i with consumers := g i.consumers } rate =
          s.qualifies i rate := by
        rw [Bool.eq_iff_iff, State.qualifies_iff, State.qualifies_iff, sum, settings, settings]
      simp only [Option.map_some, State.highestStep_congr qualifies]
      rfl

/-- Another bay's admission and a burn that begins may be taken in either order. -/
theorem State.admitAt_beginBurn_comm (s : State) (k : ImageId) (step n : Nat) (other : c ≠ b) :
    (s.beginBurn b k step).admitAt c n = (s.admitAt c n).beginBurn b k step := by
  have apart : b.val ≠ c.val := fun same => other (Fin.ext same.symm)
  have queue (q : List AdmEntry) :
      (q.filter fun e => e.bay != b).map (AdmEntry.markedAt c n) =
        (q.map (AdmEntry.markedAt c n)).filter fun e => e.bay != b := by
    rw [List.filter_map]
    exact congrArg _ (List.filter_congr fun e _ => congrArg (· != b) (e.markedAt_bay c n).symm)
  have bay : (s.admitAt c n).bay b = s.bay b := s.admitAt_bay_ne n other.symm
  have bays (x y : Bay) : (s.bays.set b.val x).set c.val y = (s.bays.set c.val y).set b.val x :=
    Vector.set_comm _ _ apart
  rw [State.beginBurn_eq (s.admitAt c n), State.admitAt_joinConsumers, bay, State.admitAt_eq (s.beginBurn b k step),
    s.beginBurn_bay_ne k step other, State.beginBurn_eq s]
  dsimp only
  rw [bays, queue]
  rfl

/-! ## The walk (R89) -/

theorem State.admissionWalk_append (older younger : List AdmEntry) (s : State) :
    State.admissionWalk (older ++ younger) s = State.admissionWalk younger (State.admissionWalk older s) := by
  induction older generalizing s with
  | nil => rfl
  | cons e older ih =>
    rw [List.cons_append, State.admissionWalk, State.admissionWalk]
    split <;> exact ih _

theorem State.admissionWalk_passes (passed : ∀ e ∈ l, s.admissionStep e = none) : State.admissionWalk l s = s := by
  induction l with
  | nil => rfl
  | cons e l ih =>
    rw [State.admissionWalk, passed e List.mem_cons_self]
    exact ih fun x hx => passed x (List.mem_cons_of_mem e hx)

/-- A burn that begins may be taken before the walk over other bays' entries, or after it. -/
theorem State.admissionWalk_beginBurn (k : ImageId) (step : Nat) (others : ∀ e ∈ l, e.bay ≠ b) (s : State) :
    State.admissionWalk l (s.beginBurn b k step) = (State.admissionWalk l s).beginBurn b k step := by
  induction l generalizing s with
  | nil => rfl
  | cons e l ih =>
    have other := others e List.mem_cons_self
    have later := ih fun x hx => others x (List.mem_cons_of_mem e hx)
    rw [State.admissionWalk, State.admissionWalk, s.admissionStep_beginBurn k step other]
    cases s.admissionStep e with
    | none => exact later s
    | some n =>
      rw [← later]
      exact congrArg _ (s.admitAt_beginBurn_comm k step n other)

theorem State.admissionWalk_bay (others : ∀ e ∈ l, e.bay ≠ b) (s : State) : (State.admissionWalk l s).bay b = s.bay b := by
  induction l generalizing s with
  | nil => rfl
  | cons e l ih =>
    have later := ih fun x hx => others x (List.mem_cons_of_mem e hx)
    rw [State.admissionWalk]
    cases s.admissionStep e with
    | none => exact later s
    | some n => exact (later _).trans (s.admitAt_bay_ne n (others e List.mem_cons_self).symm)

/-- Entries at the head of the queue whose bays the walk does not meet stay as they are, and those behind keep their places. -/
theorem State.admissionWalk_queue {front back : List AdmEntry} (queue : s.governor.queue = front ++ back)
    (others : ∀ e ∈ l, ∀ x ∈ front, x.bay ≠ e.bay) : ∃ rest,
    (State.admissionWalk l s).governor.queue = front ++ rest ∧ rest.map AdmEntry.bay = back.map AdmEntry.bay := by
  induction l generalizing s back with
  | nil => exact ⟨back, queue, rfl⟩
  | cons e l ih =>
    have later := fun x hx => others x (List.mem_cons_of_mem e hx)
    rw [State.admissionWalk]
    cases s.admissionStep e with
    | none => exact ih queue later
    | some n =>
      have admitted : (s.admitAt e.bay n).governor.queue =
          front ++ back.map (AdmEntry.markedAt e.bay n) := by
        rw [State.admitAt_queue, queue, List.map_append, map_markedAt_eq_self (others e List.mem_cons_self)]
      obtain ⟨rest, walked, bays⟩ := ih admitted later
      refine ⟨rest, walked, bays.trans ?_⟩
      rw [List.map_map]
      exact List.map_congr_left fun x _ => x.markedAt_bay e.bay n

/-! ## The slots' answers (R37, R90) -/

theorem State.answerJoin_rests (rests : e.admitting = none) : s.answerJoin e = s := by
  rw [State.answerJoin, rests]

theorem State.answerJoins_rest (rest : ∀ e ∈ l, e.admitting = none) (s : State) : l.foldl State.answerJoin s = s := by
  induction l with
  | nil => rfl
  | cons e l ih =>
    rw [List.foldl_cons, State.answerJoin_rests (rest e List.mem_cons_self)]
    exact ih fun x hx => rest x (List.mem_cons_of_mem e hx)

theorem State.answerJoin_accepts (slot : (s.bay b).imageSlot = some k) (hi : s.image k = some i)
    (joins : i.joinable = true) :
    s.answerJoin { bay := b, admitting := some step } = s.beginBurn b k step := by
  simp only [State.answerJoin, slot, hi, joins, if_true]

/-! ## The evaluation -/

theorem State.admissionEvaluation_rests (rest : ∀ e ∈ s.governor.queue, e.admitting = none)
    (passed : ∀ e ∈ s.governor.queue, s.admissionStep e = none) : s.admissionEvaluation = s := by
  rw [State.admissionEvaluation, State.admissionWalk_passes passed]
  exact State.answerJoins_rest rest s

/-- The entry of a bay is the first of the queue that the walk admits. -/
structure State.firstAdmitted (s : State) (older younger : List AdmEntry) (b : BayId) (k : ImageId) (step : Nat) : Prop where
  queue : s.governor.queue = older ++ { bay := b, admitting := none } :: younger
  rest : ∀ e ∈ older ++ younger, e.admitting = none
  others : ∀ e ∈ older ++ younger, e.bay ≠ b
  once : ∀ e ∈ younger, ∀ x ∈ older, x.bay ≠ e.bay
  passed : ∀ e ∈ older, s.admissionStep e = none
  admitted : s.admissionStep { bay := b, admitting := none } = some step
  joins : ∃ i, (s.bay b).imageSlot = some k ∧ s.image k = some i ∧ i.joinable = true

/-- The bay that is admitted leaves the queue, and the other bays' entries stay. -/
theorem filter_admitted {entry : AdmEntry} (same : entry.bay = b) (others : ∀ e ∈ older ++ l, e.bay ≠ b) :
    (older ++ entry :: l).filter (fun e => e.bay != b) = older ++ l := by
  have kept := List.filter_eq_self.2 fun e he => bne_iff_ne.2 (others e he)
  rw [List.filter_append] at kept
  rw [List.filter_append, List.filter_cons_of_neg (by simp [same]), kept]

section

variable (h : s.firstAdmitted older younger b k step)

include h

theorem State.firstAdmitted.before : ∀ e ∈ older, e.bay ≠ b := fun e he => h.others e (List.mem_append_left _ he)

theorem State.firstAdmitted.after : ∀ e ∈ younger, e.bay ≠ b := fun e he => h.others e (List.mem_append_right _ he)

theorem State.firstAdmitted.restOlder : ∀ e ∈ older, e.admitting = none := fun e he =>
  h.rest e (List.mem_append_left _ he)

theorem State.firstAdmitted.marked :
    (s.admitAt b step).governor.queue = older ++ { bay := b, admitting := some step } :: younger := by
  rw [State.admitAt_queue, h.queue, List.map_append, List.map_cons, map_markedAt_eq_self h.before,
    map_markedAt_eq_self h.after, AdmEntry.markedAt, if_pos rfl]

/-- What the queue is once the burn has begun. -/
theorem State.firstAdmitted.burns_queue : ((s.admitAt b step).beginBurn b k step).governor.queue = older ++ younger := by
  rw [State.beginBurn_governor, h.marked]
  exact filter_admitted rfl h.others

/-- Older entries are passed over in the new state too. -/
theorem State.firstAdmitted.passes : ∀ e ∈ older, ((s.admitAt b step).beginBurn b k step).admissionStep e = none :=
  fun e he => by
    rw [State.admissionStep_beginBurn _ k step (h.before e he)]
    exact State.admissionStep_admitAt_none (h.before e he) (h.passed e he)

theorem State.firstAdmitted.walk :
    State.admissionWalk s.governor.queue s = State.admissionWalk younger (s.admitAt b step) := by
  rw [h.queue, State.admissionWalk_append, State.admissionWalk_passes h.passed, State.admissionWalk, h.admitted]

/-- The walk from the new state is the rest of the walk, with the burn begun. -/
theorem State.firstAdmitted.walk_burns :
    State.admissionWalk (older ++ younger) ((s.admitAt b step).beginBurn b k step) =
      (State.admissionWalk younger (s.admitAt b step)).beginBurn b k step := by
  rw [State.admissionWalk_append, State.admissionWalk_passes h.passes, State.admissionWalk_beginBurn k step h.after]

/-- The walk behind the bay leaves the entries before it and its own, and the bays of those behind it. -/
theorem State.firstAdmitted.walk_queue : ∃ late, (∀ e ∈ late, e.bay ≠ b) ∧
    (State.admissionWalk younger (s.admitAt b step)).governor.queue =
      older ++ { bay := b, admitting := some step } :: late := by
  have apart : ∀ e ∈ younger, ∀ x ∈ older ++ [{ bay := b, admitting := some step }], x.bay ≠ e.bay := by
    intro e he x hx
    rcases List.mem_append.1 hx with old | self
    · exact h.once e he x old
    · rw [List.mem_singleton.1 self]
      exact (h.after e he).symm
  obtain ⟨late, walked, bays⟩ := State.admissionWalk_queue (h.marked.trans (List.append_cons ..)) apart
  refine ⟨late, fun e he at_ => ?_, walked.trans (List.append_cons ..).symm⟩
  have mem : b ∈ younger.map AdmEntry.bay := bays ▸ List.mem_map.2 ⟨e, he, at_⟩
  obtain ⟨x, hx, self⟩ := List.mem_map.1 mem
  exact h.after x hx self

/-- The slot accepts the join of the bay as the walk left it. -/
theorem State.firstAdmitted.joined :
    (State.admissionWalk younger (s.admitAt b step)).answerJoin { bay := b, admitting := some step } =
      (State.admissionWalk younger (s.admitAt b step)).beginBurn b k step := by
  obtain ⟨i, slot, hi, joins⟩ := h.joins
  have staging : (State.admissionWalk younger (s.admitAt b step)).staging = s.staging := by simp
  refine State.answerJoin_accepts (i := i) ?slot ?image joins
  case slot =>
    rw [State.admissionWalk_bay h.after, State.admitAt_bay]
    exact slot
  case image =>
    rw [State.image, staging]
    exact hi

/-- The first bay that is admitted begins its burn, and the rest of the evaluation is one from the state that this leaves. -/
theorem State.firstAdmitted.evaluation :
    s.admissionEvaluation = ((s.admitAt b step).beginBurn b k step).admissionEvaluation := by
  obtain ⟨late, others, walked⟩ := h.walk_queue
  have left : ((State.admissionWalk younger (s.admitAt b step)).beginBurn b k step).governor.queue = older ++ late := by
    rw [State.beginBurn_governor, walked]
    exact filter_admitted rfl fun e he => (List.mem_append.1 he).elim (h.before e) (others e)
  simp only [State.admissionEvaluation, h.walk, h.burns_queue, h.walk_burns, walked, left, List.foldl_append,
    State.answerJoins_rest h.restOlder, List.foldl_cons, h.joined]

end

/-! ## No trigger (R19) -/

/-- What R19 reads of a slot. -/
def State.openings (s : State) (k : ImageId) : Option (Residency × Gate × ImageState) :=
  (s.image k).map fun i => (i.residency, i.gate, i.state)

/-- An answer changes nothing, withdraws an admission, or begins a burn (R90). -/
theorem State.answerJoin_cases (s : State) (e : AdmEntry) : s.answerJoin e = s ∨
    s.answerJoin e = s.withdrawAdmission e.bay ∨ ∃ k step, s.answerJoin e = s.beginBurn e.bay k step := by
  unfold State.answerJoin
  cases e.admitting with
  | none => exact .inl rfl
  | some step =>
    cases (s.bay e.bay).imageSlot with
    | none => exact .inr (.inl rfl)
    | some k =>
      dsimp only
      cases s.image k with
      | none => exact .inr (.inl rfl)
      | some i =>
        dsimp only
        split
        · exact .inr (.inr ⟨k, step, rfl⟩)
        · exact .inr (.inl rfl)

theorem State.answerJoin_openings (s : State) (e : AdmEntry) (x : ImageId) :
    (s.answerJoin e).openings x = s.openings x := by
  rcases s.answerJoin_cases e with same | withdrawn | ⟨k, step, begun⟩
  · rw [same]
  · simp only [withdrawn, State.openings, State.image, State.withdrawAdmission_frame]
  · obtain ⟨g, image⟩ := s.joinConsumers_image k e.bay x
    simp only [begun, State.openings, State.beginBurn_image, image, Option.map_map]
    rfl

theorem State.admissionEvaluation_openings (s : State) (x : ImageId) :
    s.admissionEvaluation.openings x = s.openings x := by
  have walked : (State.admissionWalk s.governor.queue s).openings x = s.openings x := by
    simp only [State.openings, State.image, State.admissionWalk_frame]
  exact (foldl_frame (fun u => u.openings x) State.answerJoin (fun u e => u.answerJoin_openings e x) _ _).trans walked

theorem State.opensNot_of_openings {x : ImageId} (same : t.openings x = s.openings x) (hi : s.image x = some i)
    (hj : t.image x = some j) : i.opensNot j := by
  simp only [State.openings, hi, hj, Option.map_some, Option.some.injEq, Prod.mk.injEq] at same
  obtain ⟨residency, gate, state⟩ := same
  exact ⟨residency ▸ id, gate ▸ id, state ▸ id⟩

theorem State.withdrawAdmission_states (s : State) (b : BayId) : (s.withdrawAdmission b).bayStates = s.bayStates := by
  rw [State.withdrawAdmission, State.modGov_states, State.releaseAllocation]
  split
  · rfl
  · rw [State.modGov_states]
    exact s.modBay_states b fun _ => by rfl

/-- A bay whose join is answered is not EMPTY unless it was. -/
theorem State.answerJoin_emptied (s : State) (e : AdmEntry) (c : BayId)
    (empty : ((s.answerJoin e).bay c).state = .empty) : (s.bay c).state = .empty := by
  rcases s.answerJoin_cases e with same | withdrawn | ⟨k, step, begun⟩
  · rwa [same] at empty
  · exact State.emptied_of_states (s.withdrawAdmission_states e.bay) c (withdrawn ▸ empty)
  · rw [begun] at empty
    by_cases self : c = e.bay
    · rw [self, State.beginBurn_eq] at empty
      exact nomatch (congrArg Bay.state (s.setBay_bay e.bay _)).symm.trans empty
    · rwa [State.beginBurn_bay_ne s _ _ self] at empty

theorem State.answerJoins_emptied (l : List AdmEntry) (s : State) (c : BayId)
    (empty : ((l.foldl State.answerJoin s).bay c).state = .empty) : (s.bay c).state = .empty := by
  induction l generalizing s with
  | nil => exact empty
  | cons e l ih => exact s.answerJoin_emptied e c (ih _ empty)

theorem State.admissionWalk_states (l : List AdmEntry) (s : State) :
    (State.admissionWalk l s).bayStates = s.bayStates := by
  induction l generalizing s with
  | nil => rfl
  | cons e l ih =>
    rw [State.admissionWalk]
    cases s.admissionStep e with
    | none => exact ih s
    | some n =>
      refine (ih _).trans ((State.modGov_states ..).trans ?_)
      exact s.modBay_states e.bay fun _ => by rfl

/-- An admission evaluation starts no evaluation of the Dispatcher (R19). -/
theorem State.admissionEvaluation_quiet (s : State) : s.quiet s.admissionEvaluation := by
  refine State.quiet_of_images (fun x i j => State.opensNot_of_openings (s.admissionEvaluation_openings x))
    (fun c empty => ?emptied) ?frame
  case emptied => exact State.emptied_of_states (State.admissionWalk_states _ s) c (State.answerJoins_emptied _ _ c empty)
  case frame =>
    rw [State.changesOnly_iff]
    simp

theorem exec_admissionEvaluation (s : State) : exec .admissionEvaluation s = .next s.admissionEvaluation :=
  congrArg _ s.admissionEvaluation_quiet.watched

/-! ## The statement -/

theorem State.admissionRests.step_eq_none (h : s.admissionRests) (mem : e ∈ s.governor.queue)
    (passed : ∀ k i f step, ¬ s.admitsAt e.bay k i f step) : s.admissionStep e = none :=
  State.admissionStep_eq_none (h.rates e mem) passed

/-- The first entry that some step admits is admitted at the highest such step. -/
theorem State.admissionRests.firstAdmitted (rests : s.admissionRests)
    (queue : s.governor.queue = older ++ { bay := b, admitting := none } :: younger) (passed : s.passedOver older)
    (admits : s.admitsAt b k i f step) (highest : ∀ higher, step < higher → ¬ s.admitsAt b k i f higher) :
    s.firstAdmitted older younger b k step := by
  have once := rests.once
  have mem {e : AdmEntry} (he : e ∈ older ++ younger) : e ∈ s.governor.queue := by
    rw [queue]
    exact (List.perm_middle.mem_iff).2 (List.mem_cons_of_mem _ he)
  rw [queue, List.map_append, List.map_cons] at once
  obtain ⟨self, apart⟩ := List.nodup_cons.1 (List.nodup_middle.1 once)
  rw [← List.map_append] at self
  obtain ⟨-, -, apart⟩ := List.nodup_append'.1 apart
  obtain ⟨⟨slot, hi⟩, -, joins, -⟩ := State.admitsAt_iff.1 admits
  exact {
    queue
    rest := fun e he => rests.flags e (mem he)
    others := fun e he at_ => self (List.mem_map.2 ⟨e, he, at_⟩)
    once := fun e he x hx same => apart (List.mem_map.2 ⟨x, hx, same⟩) (List.mem_map_of_mem he)
    passed := fun e he => rests.step_eq_none (mem (List.mem_append_left _ he)) (passed e he)
    admitted := State.admissionStep_eq_some admits highest
    joins := ⟨i, slot, hi, joins⟩ }

/-- The state once the burn has begun, part by part (R58, R75, R89, R90). -/
theorem State.firstAdmitted.burns_eq (h : s.firstAdmitted older younger b k step) (hi : s.image k = some i)
    (facts : (s.bay b).facts = some f) : (s.admitAt b step).beginBurn b k step = { s with
      governor := { queue := older ++ younger, sum := s.governor.sum + f.rates.getD step 0 }
      staging := { s.staging with slots := s.staging.slots.set k.val (some { i with consumers := i.consumers ++ [b] }) }
      bays := s.bays.set b.val (({ s.bay b with
        burn := some { step, rate := f.rates.getD step 0, stable := 0 }, state := .burning, cursor := some 0
        buffer := some 0, reserveTimer := some (s.now + s.settingNat 7) }).withRequest (.speed step) (s.now + 2000)) } := by
  have rate : (s.bay b).rate step = f.rates.getD step 0 := by rw [Bay.rate, facts]
  have staging : (s.joinConsumers k b).staging =
      { s.staging with slots := s.staging.slots.set k.val (some { i with consumers := i.consumers ++ [b] }) } := by
    rw [State.joinConsumers, hi]
    rfl
  have bay : (s.admitAt b step).bay b =
      { s.bay b with burn := some { step, rate := f.rates.getD step 0, stable := 0 } } := by
    rw [State.admitAt_bay, rate]
  have bays (x : Bay) : (s.admitAt b step).bays.set b.val x = s.bays.set b.val x := Vector.set_set ..
  have sum : (s.admitAt b step).governor.sum = s.governor.sum + f.rates.getD step 0 := congrArg _ rate
  have queue : ((s.admitAt b step).governor.queue.filter fun e => e.bay != b) = older ++ younger :=
    (congrArg Governor.queue ((s.admitAt b step).beginBurn_governor b k step)).symm.trans h.burns_queue
  rw [State.beginBurn_eq, State.admitAt_joinConsumers, staging, bay, bays, queue, sum]
  rfl

/-- With every younger entry passed over too, the evaluation ends where the burn has begun. -/
theorem State.firstAdmitted.evaluation_ends (h : s.firstAdmitted older younger b k step)
    (rates : ∀ e ∈ younger, ∃ f, (s.bay e.bay).facts = some f ∧ f.rates ≠ [])
    (passed : ((s.admitAt b step).beginBurn b k step).passedOver younger) :
    s.admissionEvaluation = (s.admitAt b step).beginBurn b k step := by
  have bay : ∀ e ∈ younger, ((s.admitAt b step).beginBurn b k step).bay e.bay = s.bay e.bay := fun e he =>
    (State.beginBurn_bay_ne _ k step (h.after e he)).trans (s.admitAt_bay_ne step (h.after e he))
  rw [h.evaluation]
  refine State.admissionEvaluation_rests (by rw [h.burns_queue]; exact h.rest) fun e he => ?_
  rw [h.burns_queue] at he
  rcases List.mem_append.1 he with before | after
  · exact h.passes e before
  · exact State.admissionStep_eq_none (by rw [bay e after]; exact rates e after) (passed e after)

/-- Settles O49: the walk after the first admission is the walk of an evaluation from the state in which that burn has begun, since a burn that begins and another bay's admission may be taken in either order. -/
theorem admissionBeginsTheBurn : Obligations.AdmissionBeginsTheBurn := by
  refine ⟨fun s older younger b k i f step rests queue passed admits highest => ?_, fun s rests passed => ?_⟩
  · have h := rests.firstAdmitted queue passed admits highest
    intro rate u
    have burns : (s.admitAt b step).beginBurn b k step = u := h.burns_eq admits.slot.2 admits.facts.1
    rw [exec_admissionEvaluation, exec_admissionEvaluation, ← burns]
    refine ⟨congrArg _ h.evaluation, fun later => congrArg _ (h.evaluation_ends (fun e he => ?_) later)⟩
    exact rests.rates e (by rw [queue]; exact List.mem_append_right _ (List.mem_cons_of_mem _ he))
  · rw [exec_admissionEvaluation,
      State.admissionEvaluation_rests rests.flags fun e he => rests.step_eq_none he (passed e he)]

end Sys2Proof.Machine
end

/-! # Proofs: COUNTERS GET and COUNTERS CLEAR (R107, R108) -/

section

namespace Sys2Proof.Machine

/-- Settles O21, row by row: each row is one reply that reads the verification engine as the request found it; the clear writes its three counters and nothing else. -/
theorem countersAreReportedAndCleared : Obligations.CountersAreReportedAndCleared := by
  refine ⟨fun s => ?reported, fun s => ?cleared⟩
  case reported =>
    rw [exec, execCountersGet]
    rfl
  case cleared =>
    rw [exec, execCountersClear, State.modVerify]
    rfl

end Sys2Proof.Machine
end

/-! # Proofs: what the arm's events share (R19, R116 to R132) -/

section

namespace Sys2Proof.Machine

variable {s t u : State} {r : MoveReq} {older younger : List MoveReq}

/-! ## Changes that start no evaluation (R19) -/

/-- No trigger lies between states of the same jobs, images and settings, when no bay becomes EMPTY, the printer does not enter IDLE, the spindles stay, and no record and no request goes. -/
theorem State.quiet.of_armMoved (settings : t.settings = s.settings) (jobs : t.jobs = s.jobs)
    (staging : t.staging = s.staging) (emptied : ∀ b, (t.bay b).state = .empty → (s.bay b).state = .empty)
    (idle : t.printerIs .idle = true → s.printerIs .idle = true)
    (spindles : t.trans.spindleA = s.trans.spindleA ∧ t.trans.spindleB = s.trans.spindleB)
    (records : ∀ d ∈ s.discs.records, ∃ e ∈ t.discs.records, e.number = d.number)
    (queue : ∀ r ∈ s.trans.queue, ∃ q ∈ t.trans.queue, q.requester = r.requester ∧ q.disc = r.disc) : s.quiet t where
  stage := fun ready => settings ▸ ready
  bays := emptied
  jobs := fun k => .inl (by simp only [State.job, jobs])
  runMode := fun run => jobs ▸ run
  records := records
  spindles := fun i => .inr (by cases i <;> simp only [State.spindle, spindles])
  printer := idle
  queue := queue
  images := fun k i j hi hj => by
    have same : t.image k = s.image k := by simp only [State.image, staging]
    obtain rfl := Option.some.inj (hi.symm.trans (same ▸ hj))
    exact ⟨id, id, id⟩

/-- A change of the arm's block that keeps the spindles and takes no request out of the queue, with one of the status (R116). -/
theorem State.quiet.of_trans (only : s.changesOnly [.trans, .status] t)
    (spindles : t.trans.spindleA = s.trans.spindleA ∧ t.trans.spindleB = s.trans.spindleB)
    (queue : ∀ r ∈ s.trans.queue, ∃ q ∈ t.trans.queue, q.requester = r.requester ∧ q.disc = r.disc) : s.quiet t :=
  .of_frame (only .settings (by decide)) (only .bays (by decide)) (only .jobs (by decide)) (only .printer (by decide))
    (only .staging (by decide)) spindles (fun d hd => ⟨d, by rwa [show t.discs = s.discs from only .discs (by decide)], rfl⟩) queue

/-- Requests that stay where they stand, changed but for requester and disc, leave none out. -/
theorem kept_of_map {l : List MoveReq} {f : MoveReq → MoveReq}
    (keeps : ∀ q, (f q).requester = q.requester ∧ (f q).disc = q.disc) :
    ∀ q ∈ l, ∃ p ∈ l.map f, p.requester = q.requester ∧ p.disc = q.disc :=
  fun q hq => ⟨f q, List.mem_map_of_mem hq, keeps q⟩

end Sys2Proof.Machine
end

/-! # Proofs: the grant (R114, R115) -/

section

namespace Sys2Proof.Machine

variable {s : State} {r : MoveReq} {older younger : List MoveReq} {b : BayId}

/-! ## Eligibility (R114) -/

theorem State.sourceReady_iff (s : State) (r : MoveReq) :
    s.sourceReady r = true ↔ ∀ i, r.source = .spindle i → s.spindle i = .ready := by
  unfold State.sourceReady
  cases r.source <;> simp

theorem State.destReady_bay (dest : r.dest = .bay b) :
    s.destReady r = true ↔ (s.bay b).state = .awaitDisc ∧ (s.bay b).disc = some r.disc := by
  simp [State.destReady, dest]

theorem State.destReady_prn (dest : r.dest = .prn) :
    s.destReady r = true ↔ (∃ p, s.printer = some p ∧ p.state = .idle ∧ p.trayDisc = none) ∧ s.sensors.tray = false := by
  unfold State.destReady
  rw [dest]
  cases s.printer <;> simp

theorem State.destReady_bin {k : BinId} (dest : r.dest = .bin k) : s.destReady r = true ↔ s.binFull k = false := by
  simp [State.destReady, dest]

theorem State.destReady_nowhere (dest : (∃ i, r.dest = .spindle i) ∨ r.dest = .arm) : s.destReady r = false := by
  rcases dest with ⟨i, dest⟩ | dest <;> simp [State.destReady, dest]

theorem State.moveEligible_iff (s : State) (r : MoveReq) : s.moveEligible r = true ↔
    r.granted = false ∧ r.interrupted = false ∧ s.destReady r = true ∧ ∀ i, r.source = .spindle i → s.spindle i = .ready := by
  simp [State.moveEligible, State.sourceReady_iff, and_assoc]

/-! ## The choice (R115) -/

/-- The oldest eligible request of the lowest class is the one that the evaluation finds. -/
theorem State.toGrant_eq (queue : s.trans.queue = older ++ r :: younger) (eligible : s.moveEligible r = true)
    (before : ∀ q ∈ older, s.moveEligible q = true → classOf r.source < classOf q.source)
    (after : ∀ q ∈ younger, s.moveEligible q = true → classOf r.source ≤ classOf q.source) : s.toGrant = some r := by
  have lower : ∀ c < classOf r.source,
      s.trans.queue.find? (fun q => s.moveEligible q && classOf q.source == c) = none := by
    intro c below
    rw [List.find?_eq_none, queue]
    intro q hq
    simp only [Bool.and_eq_true, beq_iff_eq, not_and]
    intro can
    rcases List.mem_append.1 hq with inOlder | inRest
    · have := before q inOlder can
      omega
    · rcases List.mem_cons.1 inRest with rfl | inYounger
      · omega
      · have := after q inYounger can
        omega
  have own : s.trans.queue.find? (fun q => s.moveEligible q && classOf q.source == classOf r.source) = some r := by
    have passed : older.find? (fun q => s.moveEligible q && classOf q.source == classOf r.source) = none := by
      rw [List.find?_eq_none]
      intro q hq
      simp only [Bool.and_eq_true, beq_iff_eq, not_and]
      intro can
      have := before q hq can
      omega
    rw [queue, List.find?_append, passed]
    simp [eligible]
  have classes : classOf r.source = 1 ∨ classOf r.source = 2 ∨ classOf r.source = 3 := by
    cases r.source <;> simp [classOf]
  unfold State.toGrant
  rcases classes with c | c | c <;> rw [c] at own lower <;> simp [own, lower]

theorem State.toGrant_eq_none (nothing : ∀ q ∈ s.trans.queue, ¬ s.moveEligible q = true) : s.toGrant = none := by
  have no : ∀ c, s.trans.queue.find? (fun q => s.moveEligible q && classOf q.source == c) = none := fun c =>
    List.find?_eq_none.2 fun q hq => by simp [nothing q hq]
  simp [State.toGrant, no]

/-! ## The grant itself -/

/-- The one request that is granted takes the mark in its place. -/
theorem map_granted (before : r ∉ older) (after : r ∉ younger) :
    ((older ++ r :: younger).map fun q => if q = r then { q with granted := true } else q) =
      older ++ { r with granted := true } :: younger := by
  have other : ∀ l : List MoveReq, r ∉ l → (l.map fun q => if q = r then { q with granted := true } else q) = l :=
    fun l absent => (List.map_congr_left fun q hq => if_neg (ne_of_mem_of_not_mem hq absent)).trans (List.map_id' l)
  rw [List.map_append, List.map_cons, if_pos rfl, other _ before, other _ after]

theorem State.grantTo_quiet (s : State) (r : MoveReq) : s.quiet (s.grantTo r) := by
  refine .of_trans ?_ ⟨rfl, rfl⟩ (kept_of_map fun q => ?_)
  · rw [State.changesOnly_iff]
    simp
  · split <;> exact ⟨rfl, rfl⟩

/-- Settles O51: what the evaluation finds, and what the grant makes of the arm. -/
theorem grantGoesToTheOldestOfTheLowestClass : Obligations.GrantGoesToTheOldestOfTheLowestClass := by
  intro s eligible
  have can : ∀ q, eligible q ↔ s.moveEligible q = true := by
    intro q
    rw [State.moveEligible_iff]
    simp only [eligible]
    cases dest : q.dest with
    | bay b => simp [State.destReady_bay dest]
    | prn => simp [State.destReady_prn dest]
    | bin k => cases k <;> simp [State.destReady_bin dest, State.binFull]
    | spindle i => simp [State.destReady_nowhere (.inl ⟨i, dest⟩)]
    | arm => simp [State.destReady_nowhere (.inr dest)]
  have runs : exec .grantEvaluation s = .next (s.watched s.grantEvaluation) := rfl
  refine ⟨fun older younger r idle closed queue it notBefore notAfter before after => ?grants, fun rests => ?rests⟩
  case grants =>
    have finds : s.toGrant = some r := State.toGrant_eq queue ((can r).1 it)
      (fun q hq e => before q hq ((can q).2 e)) fun q hq e => after q hq ((can q).2 e)
    have evaluates : s.grantEvaluation = s.grantTo r := by
      simp [State.grantEvaluation, State.canGrant, idle, closed, finds]
    rw [runs, evaluates, (s.grantTo_quiet r).watched]
    refine ⟨_, rfl, ?_, ?_, rfl⟩
    · rw [State.changesOnly_iff]
      simp
    · simp only [State.grantTo, State.depart, State.setArm_trans, State.modTrans_trans, queue,
        map_granted notBefore notAfter]
      rfl
  case rests =>
    have same : s.grantEvaluation = s := by
      unfold State.grantEvaluation State.canGrant
      rcases rests with busy | opened | nothing
      · simp [busy]
      · simp [opened]
      · rw [State.toGrant_eq_none fun q hq e => nothing q hq ((can q).2 e), ite_self]
    rw [runs, same, State.watched_self]

end Sys2Proof.Machine
end

/-! # Proofs: the hold of a SWAP (R125, R126) -/

section

namespace Sys2Proof.Machine

variable {s : State} {r : MoveReq} {older younger : List MoveReq} {l : SecondLeg}

theorem State.secondLegReady_iff (h : s.granting older r younger) (held : s.trans.arm = .held) (second : r.second = some l) :
    s.secondLegReady = true ↔ s.spindle l.spindle = .ready := by
  simp [State.secondLegReady, held, h.grant_eq, second]

theorem State.startSecondLeg_trans (s : State) : s.startSecondLeg.trans = { s.trans with
    arm := .granted, leg := .second, holdTimer := none, moveTimer := some (s.now + 12000), ackTimer := none
    handover := none } := rfl

/-- On its second leg a granted request is of the class of the spindle it goes to (R114, R125). -/
theorem Transport.classOfReq_second {t : Transport} (granted : r.granted = true) (leg : t.leg = .second)
    (second : r.second = some l) : t.classOfReq r = 3 := by
  simp [Transport.classOfReq, Transport.legSource, Transport.secondOf, granted, leg, second, classOf]

theorem State.armIdle_pending (u : State) : u.armIdle.status.pending = u.status.pending := rfl

/-- The hold timed out: the SWAP leaves, its second leg is a LOAD at the tail, and the arm is free (R126). -/
theorem State.holdTimedOut_spec (h : s.granting older r younger) (second : r.second = some l)
    (of : r.requester = .bay l.bay) :
    s.trans.leaves s.holdTimedOut.trans (older ++ younger ++ [l.load]) ∧
      s.holdTimedOut.trans = { s.trans.freed with
        queue := s.holdTimedOut.trans.queue, waiting := s.holdTimedOut.trans.waiting } ∧
      s.holdTimedOut.status.pending = s.status.pending := by
  have loads : s.holdTimedOut = (s.secondBecomesLoad (some l)).armIdle := by
    rw [State.holdTimedOut, h.grant_eq, Option.bind_some, second]
  obtain ⟨leaves, stays⟩ := State.secondBecomesLoad_trans h (some l) fun k hk => by rw [of, Option.some.inj hk]
  rw [loads, State.armIdle_trans]
  refine ⟨leaves, ?_, ?_⟩
  · rw [stays]
    rfl
  · have posts : (s.secondBecomesLoad (some l)).status = s.status := by simp
    rw [State.armIdle_pending, posts]

/-- Settles O56: by whether the second leg's spindle is READY. -/
theorem holdEndsInTheSecondLegOrALoad : Obligations.HoldEndsInTheSecondLegOrALoad := by
  intro s older younger r l held h second
  have ready := State.secondLegReady_iff h held second
  have starts : exec .swapSecondLegStart s = .next (if s.secondLegReady then s.startSecondLeg else s) := rfl
  refine ⟨fun spindle => ?starts, fun spindle => ?waits, fun spindle timer of => ?expires⟩
  case starts =>
    rw [starts, if_pos (ready.2 spindle)]
    refine ⟨_, rfl, ?_, s.startSecondLeg_trans, Transport.classOfReq_second h.granted rfl second, rfl⟩
    rw [State.changesOnly_iff]
    simp
  case waits => rw [starts, if_neg fun is => spindle (ready.1 is)]
  case expires =>
    have runs : exec .holdTimerExpiry s = .next (s.watched s.holdTimedOut) := by
      have acts : s.trans.arm = .held ∧ s.trans.holdTimer.isSome = true := ⟨held, Option.isSome_iff_ne_none.2 timer⟩
      have waits : ¬ s.secondLegReady = true := fun is => spindle (ready.1 is)
      have unfolded : exec .holdTimerExpiry s = execHoldTimerExpiry s := rfl
      rw [unfolded, execHoldTimerExpiry, if_pos acts, if_neg waits]
    obtain ⟨leaves, freed, pending⟩ := State.holdTimedOut_spec h second of
    exact ⟨_, runs, (exec_changesOnly runs).weaken (by decide), leaves, freed, pending⟩

end Sys2Proof.Machine
end

/-! # Proofs: strip code changes (R128) -/

section

namespace Sys2Proof.Machine

theorem positionGood_iff (q0 steps code : Nat) : positionGood q0 steps code = true ↔
    (code = q0 + 1 ∨ q0 = code + 1) ∧ steps / 4 ≤ code + 1 ∧ code ≤ steps / 4 + 1 := by
  simp [positionGood, and_assoc]

/-- What a fault leaves does not hang on the mark of a wanted evaluation. -/
theorem State.faulted.watched {s t : State} {why : FaultCause} (h : s.faulted t why) (w : State) :
    s.faulted (w.watched t) why := by
  obtain ⟨arm, released, signals, onArm, kept, givenUp⟩ := h
  exact ⟨arm, released, signals, onArm, kept, givenUp⟩

theorem execStripCodeChange_checked {s : State} {steps code s0 q0 : Nat} (set : s.trans.pos = some (s0, q0))
    (up : s.trans.arm ≠ .homing .descent) :
    let t : State := { s with trans := { s.trans with pos := some (steps, code) } }
    exec (.stripCodeChange steps code) s =
      .next (if positionGood q0 steps code ∨ s.trans.arm = .fault then t else s.watched (t.armFaultEntry .position)) := by
  have unfolded : exec (.stripCodeChange steps code) s = execStripCodeChange steps code s := rfl
  rw [unfolded, execStripCodeChange, set]
  exact if_neg up

/-- Settles O57: by the two tests of R128, and where no check is made. -/
theorem stripCodeChangeIsChecked : Obligations.StripCodeChangeIsChecked := by
  refine ⟨fun s steps code s0 q0 set up => ?checked, fun s steps code unchecked => ?unchecked⟩
  case checked =>
    intro good
    have runs := execStripCodeChange_checked (steps := steps) (code := code) set up
    have test := positionGood_iff q0 steps code
    refine ⟨fun passes => ?_, fun fails noFault none_ => ?_⟩
    · rw [runs, if_pos (.inl (test.2 passes))]
    · intro u
      have faults : exec (.stripCodeChange steps code) s = .next (s.watched (u.armFaultEntry .position)) := by
        rw [runs, if_neg (not_or.2 ⟨fun is => fails (test.1 is), noFault⟩)]
      obtain ⟨only, pos⟩ := u.armFaultEntry_changesOnly .position
      refine ⟨_, faults, (u.armFaultEntry_spec .position none_).watched s, pos, ?_⟩
      rw [State.changesOnly_iff] at only ⊢
      simp at only
      simp [only, u]
  case unchecked =>
    have unfolded : exec (.stripCodeChange steps code) s = execStripCodeChange steps code s := rfl
    rw [unfolded, execStripCodeChange]
    rcases unchecked with unset | descent
    · rw [unset]
    · cases s.trans.pos with
      | none => rfl
      | some p => exact if_pos descent

end Sys2Proof.Machine
end

/-! # Proofs: a hand-over given up, and homing begun (R70, R119, R130, R131, R146) -/

section

namespace Sys2Proof.Machine

variable {s u : State} {r : MoveReq} {at_ : Station} {b : BayId} {o : Outstanding}

/-! ## The station that is told (R70, R146) -/

theorem DriveReq.isTray_iff (req : DriveReq) : req.isTray = true ↔ req = .trayOpen ∨ req = .trayClose := by
  cases req <;> simp [DriveReq.isTray]

/-- A bay with a TRAY request outstanding has its port reset. -/
theorem State.giveUpAt_bay_tray (out : (s.bay b).out = some o) (tray : o.req = .trayOpen ∨ o.req = .trayClose) :
    s.giveUpAt (.bay b) = s.portReset b := by
  simp [State.giveUpAt, State.handoverGivenUp, out, (DriveReq.isTray_iff _).2 tray]

/-- A bay with none stays as it is. -/
theorem State.giveUpAt_bay_other (none_ : ∀ o, (s.bay b).out = some o → ¬ (o.req = .trayOpen ∨ o.req = .trayClose)) :
    s.giveUpAt (.bay b) = s := by
  cases out : (s.bay b).out with
  | none => exact State.giveUpAt_idle out
  | some o =>
    have notTray : ¬ o.req.isTray = true := fun is => none_ o out ((DriveReq.isTray_iff _).1 is)
    simp [State.giveUpAt, State.handoverGivenUp, out, notTray]

theorem State.portReset_bay (s : State) (b : BayId) :
    (s.portReset b).bay b = { s.bay b with out := none, susp := none } := State.modBay_bay ..

theorem State.giveUpAt_prn_printer {p : Printer} (hp : s.printer = some p) :
    (s.giveUpAt .prn).printer = some { p with clampOpen := false } := by
  simp [State.giveUpAt, State.setClamp, hp]

/-- The hand-over in progress is given up at the end of the leg where the arm stands. -/
theorem State.giveUp_eq (current : s.trans.current = some r) (step : s.trans.handover ≠ none)
    (place : (s.trans.arm = .granted ∧ s.trans.legSource r = at_) ∨ (s.trans.arm = .carrying ∧ s.trans.legDest r = at_)) :
    s.giveUp = s.giveUpAt at_ := by
  obtain ⟨reached, hstep⟩ := Option.ne_none_iff_exists'.mp step
  have station : s.trans.handStation = some at_ := by
    unfold Transport.handStation
    rw [hstep, current]
    rcases place with ⟨arm, source⟩ | ⟨arm, dest⟩
    · simp [arm, source]
    · simp [arm, dest]
  rw [State.giveUp, station]

/-- With no hand-over in progress there is nothing to give up. -/
theorem State.giveUp_none (step : s.trans.handover = none) : s.giveUp = s := by
  have station : s.trans.handStation = none := by
    unfold Transport.handStation
    rw [step]
  rw [State.giveUp, station]

/-! ## Homing begun (R130) -/

theorem State.startHoming_closed (closed : s.sensors.doorOpen = false) : s.startHoming = (s.modTrans fun t =>
    { t with moveTimer := some (s.now + 12000), ackTimer := none, holdTimer := none }).setArm (.homing .descent) := by
  rw [State.startHoming, closed]
  rfl

/-- It raises nothing, and reports ARM_FAULT alone. -/
theorem State.startHoming_signals (closed : u.sensors.doorOpen = false) : u.startHoming.sensors = u.sensors ∧
    u.startHoming.cond .doorOpen = u.cond .doorOpen ∧ u.startHoming.status.pending = u.status.pending := by
  rw [State.startHoming_closed closed]
  refine ⟨rfl, ?_, rfl⟩
  rw [State.setArm, State.report_cond, if_neg (by decide)]
  rfl

theorem State.startHoming_opened (opened : s.sensors.doorOpen = true) : s.startHoming =
    (s.modTrans fun t => { t.timersStopped with homingPending := true }).setArm .stopped := by
  rw [State.startHoming, opened]
  rfl

end Sys2Proof.Machine
end

/-! # Proofs: the door (R110, R131, R132) -/

section

namespace Sys2Proof.Machine

variable {s u : State} {r : MoveReq} {older younger : List MoveReq}

/-- The door's change: its level, its condition and its event (R131). -/
theorem State.doorChanged_spec (s : State) (opened : Bool) :
    (s.doorChanged opened).sensors = { s.sensors with doorOpen := opened } ∧
      (s.doorChanged opened).cond .doorOpen = opened ∧ (s.doorChanged opened).status.pending.getLsbD 10 = true := by
  refine ⟨rfl, by simp [State.doorChanged], ?_⟩
  exact (State.raise_pending { s with sensors := { s.sensors with doorOpen := opened } } .door .door).trans (if_pos rfl)

/-! ## The arm stops (R131) -/

theorem State.stopForDoor_rests (arm : u.trans.arm = .unhomed ∨ u.trans.arm = .fault ∨ u.trans.arm = .stopped) :
    u.stopForDoor = u := by
  unfold State.stopForDoor
  rcases arm with arm | arm | arm <;> rw [arm]

/-- An arm that a request is under way on: the request is the interrupted one, and what the arm was doing is kept. -/
theorem State.stopForDoor_interrupts (arm : u.trans.arm = .granted ∨ u.trans.arm = .carrying ∨ u.trans.arm = .held) :
    u.stopForDoor = ((u.giveUp.modCurrent fun r => { r with granted := false, interrupted := true }).modTrans fun t =>
      { t.timersStopped with resume := some (resumeFrom u.trans.arm) }).setArm .stopped := by
  unfold State.stopForDoor
  rcases arm with arm | arm | arm <;> simp only [arm]

theorem State.stopForDoor_homing {m : HomingStage} (arm : u.trans.arm = .homing m) :
    u.stopForDoor = (u.modTrans fun t => { t.timersStopped with
      homingPending := true, handover := if t.interruptedReq.isSome then t.handover else none }).setArm .stopped := by
  unfold State.stopForDoor
  rw [arm]

theorem State.stopForDoor_idle (arm : u.trans.arm = .idle) :
    u.stopForDoor = (u.modTrans Transport.timersStopped).setArm .stopped := by
  unfold State.stopForDoor
  rw [arm]

/-- Every other arm is STOPPED with no timer running. -/
theorem State.stopForDoor_stops (unhomed : u.trans.arm ≠ .unhomed) (fault : u.trans.arm ≠ .fault)
    (stopped : u.trans.arm ≠ .stopped) : u.stopForDoor.trans.arm = .stopped ∧ u.stopForDoor.trans.moveTimer = none ∧
      u.stopForDoor.trans.ackTimer = none ∧ u.stopForDoor.trans.holdTimer = none := by
  cases arm : u.trans.arm with
  | unhomed => exact absurd arm unhomed
  | fault => exact absurd arm fault
  | stopped => exact absurd arm stopped
  | idle => rw [State.stopForDoor_idle arm]; exact ⟨rfl, rfl, rfl, rfl⟩
  | homing m => rw [State.stopForDoor_homing arm]; exact ⟨rfl, rfl, rfl, rfl⟩
  | granted => rw [State.stopForDoor_interrupts (.inl arm)]; exact ⟨rfl, rfl, rfl, rfl⟩
  | carrying => rw [State.stopForDoor_interrupts (.inr (.inl arm))]; exact ⟨rfl, rfl, rfl, rfl⟩
  | held => rw [State.stopForDoor_interrupts (.inr (.inr arm))]; exact ⟨rfl, rfl, rfl, rfl⟩

/-- The stop raises nothing and reports ARM_FAULT alone. -/
theorem State.stopForDoor_signals (u : State) : u.stopForDoor.status.pending = u.status.pending ∧
    u.stopForDoor.cond .doorOpen = u.cond .doorOpen := by
  have kept : ∀ v : State, v.status = u.status → (v.setArm .stopped).status.pending = u.status.pending ∧
      (v.setArm .stopped).cond .doorOpen = u.cond .doorOpen := fun v same => by
    refine ⟨by rw [State.setArm_pending, same], ?_⟩
    rw [State.setArm, State.report_cond, if_neg (by decide)]
    exact State.cond_of_live (congrArg _ same) _
  unfold State.stopForDoor
  split
  · exact ⟨rfl, rfl⟩
  · exact ⟨rfl, rfl⟩
  · exact ⟨rfl, rfl⟩
  · exact kept _ rfl
  · exact kept _ rfl
  all_goals exact kept _ (by simp)

/-- What the opening leaves at the station of a hand-over in progress (R70, R146). -/
theorem State.stopForDoor_givesUp {at_ : Station} (h : u.granting older r younger) (step : u.trans.handover ≠ none)
    (place : (u.trans.arm = .granted ∧ u.trans.legSource r = at_) ∨ (u.trans.arm = .carrying ∧ u.trans.legDest r = at_)) :
    u.stopForDoor.bays = (u.giveUpAt at_).bays ∧ u.stopForDoor.printer = (u.giveUpAt at_).printer := by
  have arm : u.trans.arm = .granted ∨ u.trans.arm = .carrying ∨ u.trans.arm = .held :=
    place.elim (fun p => .inl p.1) fun p => .inr (.inl p.1)
  rw [State.stopForDoor_interrupts arm, State.giveUp_eq h.current_eq step place]
  simp

/-! ## Spindles that leave JAMMED (R110) -/

theorem spindleFrom_eq (empty : Bool) : spindleFrom empty = if empty then .empty else .ready := rfl

/-- The arm's block with a spindle in a state. -/
def Transport.withSpindle (t : Transport) (st : SpindleState) : SpindleId → Transport
  | .a => { t with spindleA := st }
  | .b => { t with spindleB := st }

theorem State.setSpindle_trans (s : State) (i : SpindleId) (st : SpindleState) :
    (s.setSpindle i st).trans = s.trans.withSpindle st i := by
  unfold State.setSpindle
  split
  · next same => cases i <;> simp [← same, State.spindle, Transport.withSpindle]
  · cases i <;> rfl

theorem State.unjam_trans_a (s : State) : (s.unjam .a).trans = { s.trans with
    spindleA := if s.trans.spindleA = .jammed then (if s.sensors.emptyA then .empty else .ready) else s.trans.spindleA } := by
  unfold State.unjam
  by_cases jammed : s.trans.spindleA = .jammed
  · simp [State.spindle, jammed, State.setSpindle_trans, Transport.withSpindle, State.emptySensor, spindleFrom_eq]
  · simp [State.spindle, jammed]

theorem State.unjam_trans_b (s : State) : (s.unjam .b).trans = { s.trans with
    spindleB := if s.trans.spindleB = .jammed then (if s.sensors.emptyB then .empty else .ready) else s.trans.spindleB } := by
  unfold State.unjam
  by_cases jammed : s.trans.spindleB = .jammed
  · simp [State.spindle, jammed, State.setSpindle_trans, Transport.withSpindle, State.emptySensor, spindleFrom_eq]
  · simp [State.spindle, jammed]

/-- Its other events and the door's condition stay. -/
theorem State.unjam_signals (s : State) (i : SpindleId) :
    s.pendingGrows (s.unjam i) ∧ (s.unjam i).cond .doorOpen = s.cond .doorOpen := by
  unfold State.unjam State.setSpindle
  split
  · split
    · exact ⟨fun _ => id, rfl⟩
    · refine ⟨fun e he => State.raise_grows _ .spindle e he, ?_⟩
      rw [State.report_cond, if_neg (by decide)]
      rfl
  · exact ⟨fun _ => id, rfl⟩

/-- The closing before the arm acts on it: the door's signals and the spindles. -/
def State.doorClosed (s : State) : State := ((s.doorChanged false).unjam .a).unjam .b

theorem State.doorClosed_trans (s : State) : s.doorClosed.trans = { s.trans with
    spindleA := if s.trans.spindleA = .jammed then (if s.sensors.emptyA then .empty else .ready) else s.trans.spindleA
    spindleB := if s.trans.spindleB = .jammed then (if s.sensors.emptyB then .empty else .ready) else s.trans.spindleB } := by
  rw [State.doorClosed, State.unjam_trans_b, State.unjam_trans_a]
  simp [State.doorChanged]

theorem State.doorClosed_signals (s : State) : s.doorClosed.sensors = { s.sensors with doorOpen := false } ∧
    s.doorClosed.cond .doorOpen = false ∧ s.doorClosed.status.pending.getLsbD 10 = true := by
  obtain ⟨sensors, cond, event⟩ := s.doorChanged_spec false
  obtain ⟨growsA, condA⟩ := (s.doorChanged false).unjam_signals .a
  obtain ⟨growsB, condB⟩ := ((s.doorChanged false).unjam .a).unjam_signals .b
  refine ⟨?_, (condB.trans condA).trans cond, growsB .door (growsA .door event)⟩
  rw [State.doorClosed, ← sensors]
  simp

/-- With the closing a STOPPED arm begins homing (R132). -/
theorem execDoorClose_closes (opened : s.sensors.doorOpen = true) : exec .doorClose s = .next (s.watched
    (if s.trans.arm = .stopped then s.doorClosed.startHoming else s.doorClosed)) := by
  have unfolded : exec .doorClose s = execDoorClose s := rfl
  have arm : s.doorClosed.trans.arm = s.trans.arm := by rw [s.doorClosed_trans]
  rw [unfolded, execDoorClose, if_pos opened, ← arm]
  rfl

end Sys2Proof.Machine
end

/-! # Proofs: door, spindle and bin sensors (R110, R131, R132, R178) -/

section

namespace Sys2Proof.Machine

variable {s u : State}

/-! ## Spindles (R110) -/

/-- SPINDLE_EMPTY follows the spindles (R110, R178). -/
abbrev State.spindlesReported (s : State) : Prop :=
  s.cond .spindleEmpty = (s.trans.spindleA != .ready || s.trans.spindleB != .ready)

/-- A spindle that takes a state raises SPINDLE when the state is another, and SPINDLE_EMPTY still follows. -/
theorem State.setSpindle_signals (reported : u.spindlesReported) (i : SpindleId) (st : SpindleState) :
    (u.setSpindle i st).spindlesReported ∧ (u.setSpindle i st).status.pending =
      if u.spindle i = st then u.status.pending else u.status.pending ||| (1#16 <<< 11) := by
  unfold State.setSpindle
  split
  · exact ⟨reported, rfl⟩
  · refine ⟨?_, rfl⟩
    rw [State.spindlesReported, State.report_cond, if_pos rfl]
    cases i <;> rfl

theorem execSpindleSensorChange_eq (i : SpindleId) (empty : Bool) (s : State) : exec (.spindleSensorChange i empty) s =
    .next (s.watched (if s.spindle i = .jammed then s.setEmptySensor i empty
      else (s.setEmptySensor i empty).setSpindle i (spindleFrom empty))) := by
  have same : (s.setEmptySensor i empty).spindle i = s.spindle i := by cases i <;> rfl
  have unfolded : exec (.spindleSensorChange i empty) s = execSpindleSensorChange i empty s := rfl
  rw [unfolded, execSpindleSensorChange, same]

/-- A JAMMED spindle stays so whatever its sensor shows. -/
theorem execSpindleSensorChange_jammed {i : SpindleId} (jammed : s.spindle i = .jammed) (empty : Bool) :
    exec (.spindleSensorChange i empty) s = .next (s.setEmptySensor i empty) := by
  have bays : (s.setEmptySensor i empty).bays = s.bays := by simp
  have quiet : s.quiet (s.setEmptySensor i empty) := State.undisturbed.quiet {
    wanted := by simp, stage := by simp, jobs := by simp, records := by simp, spindles := by simp, queue := by simp
    printer := by simp, staging := by simp, emptied := fun b => by rw [State.bay_of_bays bays]; exact id }
  rw [execSpindleSensorChange_eq, if_pos jammed, quiet.watched]

theorem execSpindleSensorChange_follows {i : SpindleId} (free : s.spindle i ≠ .jammed) (reported : s.spindlesReported)
    (empty : Bool) : ∃ t, exec (.spindleSensorChange i empty) s = .next t ∧
      t.sensors = (s.setEmptySensor i empty).sensors ∧
      t.trans = s.trans.withSpindle (spindleFrom empty) i ∧ t.spindlesReported ∧
      t.status.pending = (if s.spindle i = spindleFrom empty then s.status.pending
        else s.status.pending ||| (1#16 <<< 11)) ∧
      s.changesOnly [.sensors, .trans, .status, .dispatch] t := by
  have runs := execSpindleSensorChange_eq i empty s
  rw [if_neg free] at runs
  have same : (s.setEmptySensor i empty).spindle i = s.spindle i := by cases i <;> rfl
  have status : (s.setEmptySensor i empty).status = s.status := by simp
  have trans : (s.setEmptySensor i empty).trans = s.trans := by simp
  have reported' : (s.setEmptySensor i empty).spindlesReported := by
    rw [State.spindlesReported, State.cond_of_live (congrArg _ status), trans]
    exact reported
  obtain ⟨cond, event⟩ := State.setSpindle_signals reported' i (spindleFrom empty)
  rw [same, status] at event
  refine ⟨_, runs, by simp, ?_, cond, event, ?_⟩
  · simp only [State.watched_frame, State.setSpindle_trans, trans]
  · exact State.changesOnly.weaken (l := [.trans, .status, .sensors, .dispatch]) (exec_changesOnly runs) (by decide)

/-! ## Bins (R110) -/

theorem exec_binFullSensorChange_out (full : Bool) (s : State) :
    let u : State := { s with sensors := { s.sensors with outFull := full } }
    exec (.binFullSensorChange .out full) s = .next (if full = true ∧ s.sensors.outFull = false then
      (u.report .outputFull full).raise .spindle else u.report .outputFull full) := rfl

theorem exec_binFullSensorChange_reject (full : Bool) (s : State) :
    let u : State := { s with sensors := { s.sensors with rejectFull := full } }
    exec (.binFullSensorChange .reject full) s = .next (if full = true ∧ s.sensors.rejectFull = false then
      (u.report .rejectFull full).raise .spindle else u.report .rejectFull full) := rfl

/-- A bin's report, and SPINDLE with it when the bin becomes FULL. -/
theorem State.reportBin_spec (u : State) (c : Cond) (full : Bool) (becomes : Prop) [Decidable becomes] :
    let t := if becomes then (u.report c full).raise .spindle else u.report c full
    t.sensors = u.sensors ∧ t.cond c = full ∧ u.changesOnly [.status] t ∧
      t.status.pending = if becomes then u.status.pending ||| (1#16 <<< 11) else u.status.pending := by
  dsimp only
  split
  · refine ⟨rfl, by simp, ?_, rfl⟩
    rw [State.changesOnly_iff]
    simp
  · refine ⟨rfl, by simp, ?_, rfl⟩
    rw [State.changesOnly_iff]
    simp

theorem State.changesOnly.of_sensors {r : Readings} {t : State} {l : List Part}
    (h : State.changesOnly l { s with sensors := r } t) : s.changesOnly (.sensors :: l) t := fun p hp => by
  have kept := h p fun inside => hp (List.mem_cons_of_mem _ inside)
  cases p with
  | sensors => exact absurd List.mem_cons_self hp
  | _ => exact kept

/-! ## The statement -/

theorem State.doorOpens {s : State} (closed : s.sensors.doorOpen = false) :
    ∃ t, exec .doorOpen s = .next t ∧ t.sensors = { s.sensors with doorOpen := true } ∧
      t.cond .doorOpen = true ∧ t.status.pending.getLsbD 10 = true ∧
      t.trans = (s.doorChanged true).stopForDoor.trans ∧ t.bays = (s.doorChanged true).stopForDoor.bays ∧
      t.printer = (s.doorChanged true).stopForDoor.printer := by
  have runs : exec .doorOpen s = .next (s.watched (s.doorChanged true).stopForDoor) := by
    have unfolded : exec .doorOpen s = execDoorOpen s := rfl
    rw [unfolded, execDoorOpen, closed]
    rfl
  obtain ⟨sensors, cond, event⟩ := s.doorChanged_spec true
  obtain ⟨pending, kept⟩ := (s.doorChanged true).stopForDoor_signals
  refine ⟨_, runs, ?_, kept.trans cond, ?_, rfl, rfl, rfl⟩
  · simp only [State.watched_frame, State.stopForDoor_frame, sensors]
  · simp only [State.watched_frame, pending, event]

theorem State.spindlesReported.iff_of_a {t : State} {trans : Transport} {empty : Bool} (h : t.spindlesReported)
    (is : t.trans = trans.withSpindle (spindleFrom empty) .a) :
    t.cond .spindleEmpty = true ↔ empty = true ∨ trans.spindleB ≠ .ready := by
  rw [h, is]
  cases empty <;> simp [Transport.withSpindle, spindleFrom_eq]

theorem State.spindlesReported.iff_of_b {t : State} {trans : Transport} {empty : Bool} (h : t.spindlesReported)
    (is : t.trans = trans.withSpindle (spindleFrom empty) .b) :
    t.cond .spindleEmpty = true ↔ empty = true ∨ trans.spindleA ≠ .ready := by
  rw [h, is]
  cases empty <;> simp [Transport.withSpindle, spindleFrom_eq]

/-- Settles O58, sensor by sensor; the opening by what the arm was doing. -/
theorem doorSpindlesAndBinsFollowTheirSensors : Obligations.DoorSpindlesAndBinsFollowTheirSensors := by
  refine ⟨fun s closed => ?opens, fun s opened => ?closes, fun s => ⟨fun opened => ?stillOpen, fun closed => ?stillClosed⟩,
    fun s empty conditions => ?spindles, fun s full => ?bins⟩
  case opens =>
    obtain ⟨t, runs, sensors, cond, event, trans, bays, printer⟩ := State.doorOpens closed
    let u := s.doorChanged true
    refine ⟨t, runs, sensors, cond, event, fun arm => ?rests, fun unhomed fault stopped => ?stops, fun arm => ?interrupts,
      fun older r younger h step at_ place => ?givesUp, fun m arm => ?pending⟩
    case rests =>
      rw [trans, State.stopForDoor_rests (u := u) arm]
      rfl
    case stops =>
      rw [trans]
      exact State.stopForDoor_stops (u := u) unhomed fault stopped
    case interrupts =>
      rw [trans, State.stopForDoor_interrupts (u := u) arm]
      simp [State.modCurrent, Transport.timersStopped, u]
    case givesUp =>
      obtain ⟨bays', printer'⟩ := State.stopForDoor_givesUp (u := u) (h.of_trans rfl) step place
      refine ⟨fun b o is out tray => ?_, fun p is hp => ?_⟩
      · subst is
        rw [State.bay_of_bays (bays.trans bays'), State.giveUpAt_bay_tray (s := u) out tray]
        exact u.portReset_bay b
      · subst is
        rw [printer, printer', State.giveUpAt_prn_printer (s := u) hp]
    case pending =>
      rw [trans, State.stopForDoor_homing (u := u) arm]
      rfl
  case closes =>
    have runs := execDoorClose_closes opened
    obtain ⟨sensors, cond, event⟩ := s.doorClosed_signals
    have trans := s.doorClosed_trans
    have closed : s.doorClosed.sensors.doorOpen = false := by rw [sensors]
    by_cases stopped : s.trans.arm = .stopped
    · have now : s.doorClosed.now = s.now := by simp [State.doorClosed]
      have homing : s.doorClosed.startHoming.trans = { s.doorClosed.trans with
          arm := .homing .descent, moveTimer := some (s.now + 12000), ackTimer := none, holdTimer := none } := by
        rw [State.startHoming_closed closed, now]
        rfl
      obtain ⟨sensors', cond', event'⟩ := State.startHoming_signals closed
      rw [if_pos stopped] at runs
      refine ⟨_, runs, sensors'.trans sensors, cond'.trans cond, (congrArg (·.getLsbD 10) event').trans event, ?_⟩
      rw [show (s.watched s.doorClosed.startHoming).trans = s.doorClosed.startHoming.trans from rfl, homing, trans]
      exact ⟨rfl, rfl, fun _ => ⟨rfl, rfl⟩, fun not_ => absurd stopped not_⟩
    · rw [if_neg stopped] at runs
      refine ⟨_, runs, sensors, cond, event, ?_⟩
      rw [show (s.watched s.doorClosed).trans = s.doorClosed.trans from rfl, trans]
      exact ⟨rfl, rfl, fun is => absurd is stopped, fun _ => rfl⟩
  case stillOpen =>
    have unfolded : exec .doorOpen s = execDoorOpen s := rfl
    rw [unfolded, execDoorOpen, if_pos opened]
  case stillClosed =>
    have unfolded : exec .doorClose s = execDoorClose s := rfl
    rw [unfolded, execDoorClose, if_neg (by simp [closed])]
  case spindles =>
    refine ⟨fun jammed => execSpindleSensorChange_jammed (i := .a) jammed empty, fun free => ?a,
      fun jammed => execSpindleSensorChange_jammed (i := .b) jammed empty, fun free => ?b⟩
    case a =>
      obtain ⟨t, runs, sensors, trans, reported, event, only⟩ :=
        execSpindleSensorChange_follows (i := .a) free conditions.spindleEmpty empty
      exact ⟨t, runs, sensors, trans, reported.iff_of_a trans, event, only⟩
    case b =>
      obtain ⟨t, runs, sensors, trans, reported, event, only⟩ :=
        execSpindleSensorChange_follows (i := .b) free conditions.spindleEmpty empty
      exact ⟨t, runs, sensors, trans, reported.iff_of_b trans, event, only⟩
  case bins =>
    refine ⟨⟨_, exec_binFullSensorChange_out full s, ?_⟩, ⟨_, exec_binFullSensorChange_reject full s, ?_⟩⟩
    · obtain ⟨sensors, cond, only, event⟩ := State.reportBin_spec
        { s with sensors := { s.sensors with outFull := full } } .outputFull full
        (full = true ∧ s.sensors.outFull = false)
      exact ⟨sensors, cond, only.of_sensors, event⟩
    · obtain ⟨sensors, cond, only, event⟩ := State.reportBin_spec
        { s with sensors := { s.sensors with rejectFull := full } } .rejectFull full
        (full = true ∧ s.sensors.rejectFull = false)
      exact ⟨sensors, cond, only.of_sensors, event⟩

end Sys2Proof.Machine
end

/-! # Proofs: homing (R122, R130, R132) -/

section

namespace Sys2Proof.Machine

variable {s t u v : State} {n : Nat} {d : Disc} {before after : List Disc} {why : FaultCause}

/-! ## ARM HOME (R130, R192) -/

theorem State.homable_iff (s : State) : s.homable = true ↔ s.settings.stage = .homing ∨ s.settings.stage = .ready := by
  simp [State.homable]

theorem execArmHome_busy (early : s.settings.stage = .starting ∨ s.settings.stage = .inventory) :
    exec .armHome s = .next (s.answer 0x70 .busy .none) := by
  have notYet : s.homable = false := by
    rcases early with stage | stage <;> simp [State.homable, stage]
  have unfolded : exec .armHome s = execArmHome s := rfl
  rw [unfolded, execArmHome, if_pos notYet]
  rfl

theorem execArmHome_homable (stage : s.settings.stage = .homing ∨ s.settings.stage = .ready) : exec .armHome s =
    if s.trans.arm = .unhomed ∨ s.trans.arm = .fault then .next (s.startHoming.answer 0x70 .ok .none)
    else .next (s.answer 0x70 .state .none) := by
  have can := s.homable_iff.2 stage
  have unfolded : exec .armHome s = execArmHome s := rfl
  rw [unfolded, execArmHome, if_neg (by simp [can])]
  rfl

/-- Homing begun, or pending with the door open (R130). -/
theorem State.startHoming_spec (s : State) : s.changesOnly [.trans, .status] s.startHoming ∧
    s.startHoming.cond .armFault = false ∧
    (s.sensors.doorOpen = false → s.startHoming.trans = { s.trans with
      arm := .homing .descent, moveTimer := some (s.now + 12000), ackTimer := none, holdTimer := none }) ∧
    (s.sensors.doorOpen = true → s.startHoming.trans = { s.trans with
      arm := .stopped, moveTimer := none, ackTimer := none, holdTimer := none, homingPending := true }) := by
  have only : s.changesOnly [.trans, .status] s.startHoming := by
    rw [State.changesOnly_iff]
    simp
  cases door : s.sensors.doorOpen with
  | false =>
    refine ⟨only, ?_, fun _ => by rw [State.startHoming_closed door]; rfl, fun is => nomatch is⟩
    rw [State.startHoming_closed door, State.setArm_cond]
    rfl
  | true =>
    refine ⟨only, ?_, (fun is => nomatch is), fun _ => by rw [State.startHoming_opened door]; rfl⟩
    rw [State.startHoming_opened door, State.setArm_cond]
    rfl

/-! ## The end of homing, from the state before its last event (R130) -/

/-- The timers that ran before are of no account: homing's end stops or starts each. -/
theorem State.homingEnds.of_before (h : u.homingEnds t)
    (trans : u.trans = { s.trans with moveTimer := u.trans.moveTimer, ackTimer := u.trans.ackTimer })
    (now : u.now = s.now) (hold : u.settingNat 9 = s.settingNat 9) : s.homingEnds t := by
  obtain ⟨idle, again, signals⟩ := h
  refine ⟨fun none_ => ?_, fun older r younger queue interrupted others => ?_, signals⟩
  · rw [trans] at idle
    exact idle none_
  · rw [trans, now, hold] at again
    exact again older r younger queue interrupted others

theorem State.homingEnds.watched (h : s.homingEnds t) (w : State) : s.homingEnds (w.watched t) := by
  obtain ⟨idle, again, signals⟩ := h
  exact ⟨idle, again, signals⟩

theorem State.retires.watched {out : Disposition} (h : s.retires t before d after out) (w : State) :
    s.retires (w.watched t) before d after out := by
  obtain ⟨entry, others, table, jobs, counts, runMode, drained, done⟩ := h
  exact ⟨entry, others, table, jobs, counts, runMode, drained, done⟩

theorem State.homingEnd_grows (s : State) : s.pendingGrows s.homingEnd := fun e he => by
  rw [s.homingEnd_signals.1]
  exact s.raise_grows .arm e he

/-- What a retirement has left stays when homing ends. -/
theorem State.retires.endsHoming {out : Disposition} (h : s.retires v before d after out)
    (records : v.discs.records = before ++ after) : s.retires v.homingEnd before d after out :=
  h.andThen records ⟨[], by simp, by simp⟩ (by simp) v.homingEnd_grows

/-! ## Clearing (R130) -/

/-- The bottom reference: the journey is over and the trackers are 0. -/
def State.atBottom (s : State) : State := s.modTrans fun t => { t with moveTimer := none, pos := some (0, 0) }

theorem execBottomReferenceReached_clears (descent : s.trans.arm = .homing .descent) :
    exec .bottomReferenceReached s = .next (s.watched s.atBottom.homingClear) := by
  have unfolded : exec .bottomReferenceReached s = execBottomReferenceReached s := rfl
  rw [unfolded, execBottomReferenceReached, if_pos descent]
  rfl

theorem Transport.holdsInterrupted_iff (t : Transport) : t.holdsInterrupted = true ↔
    (∃ r ∈ t.queue, r.interrupted = true) ∧ t.resume = some .carrying := by
  simp [Transport.holdsInterrupted, Transport.interruptedReq]

theorem State.homingClear_ends (h : u.sensors.pick = false ∨ u.trans.holdsInterrupted = true) :
    u.homingClear = u.homingEnd := by
  rw [State.homingClear, if_neg]
  rintro ⟨pick, holds⟩
  rcases h with h | h
  · simp [h] at pick
  · simp [h] at holds

/-- A disc that a record places on the arm. -/
theorem State.homingClear_record (pick : u.sensors.pick = true) (holds : u.trans.holdsInterrupted = false)
    (on : u.discOnArm = some n) : u.homingClear = u.clearArm n := by
  rw [State.homingClear, if_pos ⟨pick, holds⟩, on]

/-- A disc that none does, with a record free for its orphan. -/
theorem State.homingClear_orphan (pick : u.sensors.pick = true) (holds : u.trans.holdsInterrupted = false)
    (off : u.discOnArm = none) (served : u.discs.orphanWait = []) (room : u.discs.records.length < 16) :
    u.homingClear = State.clearArm { u with discs := u.discs.create (.orphan u.discs.newNumber .arm) } u.discs.newNumber := by
  have free : ¬ (u.discs.free = 0 ∨ u.discs.orphanWait ≠ []) := by
    rw [DiscTable.free_eq_zero]
    simp [served, room]
  have asked : u.askOrphan .arm = ({ u with discs := u.discs.create (.orphan u.discs.newNumber .arm) },
      some u.discs.newNumber) := if_neg free
  rw [State.homingClear, if_pos ⟨pick, holds⟩, off]
  simp [served, asked]

/-- And with none free: the creation waits, and the arm with it. -/
theorem State.homingClear_waits (pick : u.sensors.pick = true) (holds : u.trans.holdsInterrupted = false)
    (off : u.discOnArm = none) (late : u.discs.orphanWait ≠ [] ∨ 16 ≤ u.discs.records.length) :
    u.homingClear = State.setArm { u with discs := { u.discs with
      orphanWait := if .arm ∈ u.discs.orphanWait then u.discs.orphanWait else u.discs.orphanWait ++ [.arm] } }
        (.homing .awaitRecord) := by
  have asked : u.askOrphan .arm =
      ({ u with discs := { u.discs with orphanWait := u.discs.orphanWait ++ [.arm] } }, none) :=
    if_pos (by rw [DiscTable.free_eq_zero]; exact late.symm)
  rw [State.homingClear, if_pos ⟨pick, holds⟩, off]
  by_cases waits : .arm ∈ u.discs.orphanWait
  · simp [waits]
  · simp [waits, asked]

theorem State.discOnArm_eq (h : s.discs.records = before ++ d :: after) (on : d.location = .arm)
    (off : ∀ e ∈ before, e.location ≠ .arm) : s.discOnArm = some d.number := by
  have first : s.discs.records.find? (fun e => e.location == .arm) = some d := by
    rw [h, List.find?_append, List.find?_eq_none.2 fun e he => by simpa using off e he]
    simp [on]
  rw [State.discOnArm, first]
  rfl

theorem State.discOnArm_eq_none (off : ∀ e ∈ s.discs.records, e.location ≠ .arm) : s.discOnArm = none := by
  have no : s.discs.records.find? (fun e => e.location == .arm) = none :=
    List.find?_eq_none.2 fun e he => by simpa using off e he
  rw [State.discOnArm, no]
  rfl

/-- The one record of a number, REJECT with a reason and TO_OUT (R4, R6). -/
theorem State.setReject_setToOut_records (why : RejectReason) (h : s.discs.records = before ++ d :: after)
    (others : ∀ e ∈ before ++ after, e.number ≠ d.number) :
    ((s.setReject d.number why).setToOut d.number).discs = { s.discs with records := before ++
      { d with disposition := d.disposition.rejectedWith why, stage := .toOut } :: after } := by
  have number := Disc.rejected_number why d
  have rejected : (s.setReject d.number why).discs = { s.discs with records := before ++ d.rejected why :: after } :=
    State.modDisc_records (Disc.rejected why) h others
  have out := State.modDisc_records (s := s.setReject d.number why) (fun e => { e with stage := .toOut })
    (congrArg DiscTable.records rejected) (by rwa [number])
  rw [number, rejected] at out
  refine out.trans ?_
  unfold Disc.rejected Disposition.rejectedWith
  split <;> rfl

theorem State.clearArm_trans (u : State) (n : Nat) : (u.clearArm n).trans = { u.trans with
    arm := .homing .carry, moveTimer := some (u.now + 12000), ackTimer := none, handover := none } := by
  have kept : ((u.setReject n .handling).setToOut n).trans = u.trans := by simp
  have now : ((u.setReject n .handling).setToOut n).now = u.now := by simp
  rw [← kept, ← now]
  rfl

theorem State.clearArm_discs (u : State) (n : Nat) :
    (u.clearArm n).discs = ((u.setReject n .handling).setToOut n).discs := by
  simp [State.clearArm]

/-- No trigger lies between states that differ in the arm and in what records tell of their discs. -/
theorem State.quiet.of_records (only : s.changesOnly [.trans, .discs, .status] t)
    (spindles : t.trans.spindleA = s.trans.spindleA ∧ t.trans.spindleB = s.trans.spindleB)
    (queue : t.trans.queue = s.trans.queue)
    (records : ∀ d ∈ s.discs.records, ∃ e ∈ t.discs.records, e.number = d.number) : s.quiet t :=
  .of_frame (only .settings (by decide)) (only .bays (by decide)) (only .jobs (by decide)) (only .printer (by decide))
    (only .staging (by decide)) spindles records fun r hr => ⟨r, queue ▸ hr, rfl, rfl⟩

/-! ## The carriage's drop (R122, R130) -/

/-- The acknowledgement timer has expired. -/
def State.ackOver (s : State) : State := s.modTrans fun t => { t with ackTimer := none }

theorem execAckTimerExpiry_homing (running : s.trans.ackTimer ≠ none) (carries : s.trans.arm = .homing .carry)
    (held : Bool) : exec (.ackTimerExpiry held) s = .next (s.watched (s.ackOver.setPick held).homingDropFailure) := by
  have unfolded : exec (.ackTimerExpiry held) s = execAckTimerExpiry held s := rfl
  have runs : s.trans.ackTimer.isNone = false := by simpa [Option.isSome_iff_ne_none] using running
  rw [unfolded, execAckTimerExpiry, runs]
  simp only [Bool.false_eq_true, if_false, State.modTrans_trans, carries]
  rfl

theorem execDropConfirmed_homing (running : s.trans.ackTimer ≠ none) (carries : s.trans.arm = .homing .carry)
    (arrived : s.trans.handover = some .arrived) :
    exec .dropConfirmed s = .next (s.watched s.homingDropped) := by
  have unfolded : exec .dropConfirmed s = execDropConfirmed s := rfl
  rw [unfolded, execDropConfirmed, if_pos ⟨arrived, Option.isSome_iff_ne_none.2 running⟩, carries]

theorem State.homingDropped_eq (on : (s.setPick false).discOnArm = some n) :
    s.homingDropped = ((s.setPick false).retire n .reject).homingEnd := by
  simp only [State.homingDropped, on]

theorem State.homingDropFailure_eq (on : u.discOnArm = some n) : u.homingDropFailure =
    if u.sensors.pick then ((u.latch .handling).lostDisc n).armFaultEntry .handling
    else ((u.latch .handling).lostDisc n).homingEnd := by
  have same : (u.latch .handling).discOnArm = some n := on
  have pick : ((u.latch .handling).lostDisc n).sensors = u.sensors := by simp
  simp only [State.homingDropFailure, same, pick]

/-- A fault clears no latched condition. -/
theorem State.inFault_kept (u : State) (why : FaultCause) : u.signalsKept (u.inFault why) :=
  have caused : u.signalsKept (u.modTrans fun t => { t with faultCause := some why, arm := .fault }) :=
    State.signalsKept.same (.refl u) rfl
  (caused.report (c := .armFault) (by decide) true).raise .arm

/-- A fault of an arm that holds no grant (R129). -/
theorem State.armFaultEntry_idle (none_ : ∀ r ∈ u.trans.queue, r.granted = false) : let t := u.armFaultEntry why
    t.discs = u.discs ∧ t.jobs = u.jobs ∧ t.sensors = u.sensors ∧ u.signalsKept t ∧
      t.trans.arm = .fault ∧ t.trans.faultCause = some why ∧ t.trans.queue = u.trans.queue ∧
      t.trans.moveTimer = none ∧ t.trans.ackTimer = none ∧ t.trans.holdTimer = none ∧
      t.cond .armFault = true ∧ t.status.pending.getLsbD 9 = true := by
  have grant : u.trans.grant = none := List.find?_eq_none.2 fun r hr => by simp [none_ r hr]
  obtain ⟨f, hf, enters⟩ := State.armFaultEntry_none why grant
  obtain ⟨cond, event⟩ := State.inFault_signals (u.giveUp.modTrans f) why
  obtain ⟨queue, move, ack, hold⟩ := hf u.giveUp.trans
  have stays : u.giveUp.trans = u.trans := by simp
  have kept : u.signalsKept ((u.giveUp.modTrans f).inFault why) := by
    have same : (u.giveUp.modTrans f).status = u.status := by simp
    have faults := (u.giveUp.modTrans f).inFault_kept why
    exact ⟨fun c latched hc => faults.latched c latched ((State.cond_of_live (congrArg _ same) c).trans hc),
      fun e he => faults.events e (by rwa [same])⟩
  dsimp only
  rw [enters]
  exact ⟨by simp [State.inFault], by simp [State.inFault], by simp [State.inFault], kept, rfl, rfl,
    queue.trans (congrArg _ stays), move, ack, hold, cond, event⟩

end Sys2Proof.Machine
end

/-! # Proofs: ARM HOME, the bottom reference and the carriage to REJECT (R122, R130, R132) -/

section

namespace Sys2Proof.Machine

variable {s t : State} {d : Disc} {before after : List Disc}

/-! ## At the bottom reference (R130) -/

theorem State.atBottom_ends (h : s.sensors.pick = false ∨
    ((∃ r ∈ s.trans.queue, r.interrupted = true) ∧ s.trans.resume = some .carrying))
    (descent : s.trans.arm = .homing .descent) : ∃ t, exec .bottomReferenceReached s = .next t ∧
      State.homingEnds { s with trans := { s.trans with pos := some (0, 0) } } t ∧ s.changesOnly [.trans, .status] t := by
  have clears : s.atBottom.homingClear = s.atBottom.homingEnd :=
    State.homingClear_ends (h.imp id (Transport.holdsInterrupted_iff s.atBottom.trans).2)
  have quiet : s.quiet s.atBottom.homingEnd := by
    obtain ⟨a, b, queue⟩ := s.atBottom.homingEnd_queue
    refine .of_trans ?_ ⟨a, b⟩ queue
    rw [State.changesOnly_iff]
    simp [State.atBottom]
  have ends : State.homingEnds { s with trans := { s.trans with pos := some (0, 0) } } s.atBottom.homingEnd :=
    s.atBottom.homingEnd_spec.of_before rfl rfl rfl
  refine ⟨_, execBottomReferenceReached_clears descent, ?_, ?_⟩
  · rw [clears]
    exact ends.watched s
  · rw [clears, quiet.watched, State.changesOnly_iff]
    simp [State.atBottom]

/-- Clearing that carries a disc: the arm's block, and no trigger when every record stays. -/
theorem State.atBottom_carries {u : State} {n : Nat} (clears : s.atBottom.homingClear = u.clearArm n)
    (descent : s.trans.arm = .homing .descent) (trans : u.trans = s.atBottom.trans) (now : u.now = s.now)
    (only : s.changesOnly [.trans, .discs, .status] u)
    (records : ∀ d ∈ s.discs.records, ∃ e ∈ (u.clearArm n).discs.records, e.number = d.number) :
    exec .bottomReferenceReached s = .next (u.clearArm n) ∧
      (u.clearArm n).trans = { s.trans with
        pos := some (0, 0), arm := .homing .carry, moveTimer := some (s.now + 12000), ackTimer := none
        handover := none } ∧ s.changesOnly [.trans, .discs, .status] (u.clearArm n) := by
  have block := u.clearArm_trans n
  rw [trans, now] at block
  have all : s.changesOnly [.trans, .discs, .status] (u.clearArm n) := by
    rw [State.changesOnly_iff] at only ⊢
    simp at only
    simp [only]
  have quiet : s.quiet (u.clearArm n) := .of_records all (by rw [block]; exact ⟨rfl, rfl⟩) (by rw [block]; rfl) records
  rw [execBottomReferenceReached_clears descent, clears, quiet.watched]
  exact ⟨rfl, block, all⟩

theorem State.atBottom_record (descent : s.trans.arm = .homing .descent) (pick : s.sensors.pick = true)
    (holds : s.trans.holdsInterrupted = false) (h : s.discs.records = before ++ d :: after) (on : d.location = .arm)
    (off : ∀ e ∈ before, e.location ≠ .arm) (others : ∀ e ∈ before ++ after, e.number ≠ d.number) :
    ∃ t, exec .bottomReferenceReached s = .next t ∧ t.trans = { s.trans with
        pos := some (0, 0), arm := .homing .carry, moveTimer := some (s.now + 12000), ackTimer := none
        handover := none } ∧
      t.discs = { s.discs with records := before ++
        { d with disposition := d.disposition.rejectedWith .handling, stage := .toOut } :: after } ∧
      s.changesOnly [.trans, .discs, .status] t := by
  have discs : (s.atBottom.clearArm d.number).discs = { s.discs with records := before ++
      { d with disposition := d.disposition.rejectedWith .handling, stage := .toOut } :: after } :=
    (s.atBottom.clearArm_discs d.number).trans (State.setReject_setToOut_records (s := s.atBottom) .handling h others)
  have clears : s.atBottom.homingClear = s.atBottom.clearArm d.number :=
    State.homingClear_record (u := s.atBottom) pick holds (State.discOnArm_eq (s := s.atBottom) h on off)
  obtain ⟨runs, trans, only⟩ := State.atBottom_carries clears descent rfl rfl
    (by rw [State.changesOnly_iff]; simp [State.atBottom]) fun e he => by
      rw [discs]
      rw [h] at he
      rcases List.mem_append.1 he with he | he
      · exact ⟨e, by simp [he], rfl⟩
      · rcases List.mem_cons.1 he with rfl | he
        · exact ⟨_, List.mem_append_right _ List.mem_cons_self, rfl⟩
        · exact ⟨e, by simp [he], rfl⟩
  exact ⟨_, runs, trans, discs, only⟩

theorem State.atBottom_orphan (descent : s.trans.arm = .homing .descent) (pick : s.sensors.pick = true)
    (holds : s.trans.holdsInterrupted = false) (off : ∀ d ∈ s.discs.records, d.location ≠ .arm)
    (served : s.discs.orphanWait = []) (room : s.discs.records.length < 16)
    (free : s.discs.taken s.discs.counter = false) :
    ∃ t, exec .bottomReferenceReached s = .next t ∧ t.trans = { s.trans with
        pos := some (0, 0), arm := .homing .carry, moveTimer := some (s.now + 12000), ackTimer := none
        handover := none } ∧
      t.discs.records = s.discs.records ++ [Disc.orphan s.discs.counter .arm] ∧
      s.changesOnly [.trans, .discs, .status] t := by
  let u : State := { s.atBottom with discs := s.discs.create (.orphan s.discs.counter .arm) }
  have number : s.atBottom.discs.newNumber = s.discs.counter := DiscTable.newNumber_of_free free
  have recorded : u.orphanRecorded s.discs.counter := State.orphanRecorded_create (s := s.atBottom) .arm free
  have clears : s.atBottom.homingClear = u.clearArm s.discs.counter := by
    rw [State.homingClear_orphan (u := s.atBottom) pick holds (State.discOnArm_eq_none (s := s.atBottom) off) served room,
      number]
    rfl
  have records : (u.clearArm s.discs.counter).discs.records =
      s.discs.records ++ [Disc.orphan s.discs.counter .arm] := by
    rw [State.clearArm_eq recorded]
    rfl
  obtain ⟨runs, trans, only⟩ := State.atBottom_carries clears descent rfl rfl
    (by rw [State.changesOnly_iff]; simp [u, State.atBottom]) fun e he => by
      rw [records]
      exact ⟨e, List.mem_append_left _ he, rfl⟩
  exact ⟨_, runs, trans, records, only⟩

theorem State.atBottom_waits (descent : s.trans.arm = .homing .descent) (pick : s.sensors.pick = true)
    (holds : s.trans.holdsInterrupted = false) (off : ∀ d ∈ s.discs.records, d.location ≠ .arm)
    (late : s.discs.orphanWait ≠ [] ∨ 16 ≤ s.discs.records.length) :
    ∃ t, exec .bottomReferenceReached s = .next t ∧
      t.trans = { s.trans with pos := some (0, 0), arm := .homing .awaitRecord, moveTimer := none } ∧
      t.discs = { s.discs with
        orphanWait := if .arm ∈ s.discs.orphanWait then s.discs.orphanWait else s.discs.orphanWait ++ [.arm] } ∧
      s.changesOnly [.trans, .discs, .status] t := by
  have clears := State.homingClear_waits (u := s.atBottom) pick holds (State.discOnArm_eq_none (s := s.atBottom) off) late
  have only : s.changesOnly [.trans, .discs, .status] s.atBottom.homingClear := by
    rw [clears, State.changesOnly_iff]
    simp [State.atBottom]
  have quiet : s.quiet s.atBottom.homingClear := .of_records only (by rw [clears]; exact ⟨rfl, rfl⟩) (by rw [clears]; rfl)
    fun e he => ⟨e, by rw [clears]; exact he, rfl⟩
  have runs := execBottomReferenceReached_clears descent
  rw [quiet.watched] at runs
  exact ⟨_, runs, by rw [clears]; rfl, by rw [clears]; rfl, only⟩

/-! ## The carriage's drop (R122, R130) -/

/-- A drop retires REJECT as it is, any other disposition with HANDLING (R7). -/
theorem Disc.retiredAs_reject (d : Disc) :
    d.retiredAs .reject = if d.disposition.isReject then d.disposition else .reject .handling := by
  cases rejected : d.disposition.isReject <;> simp [Disc.retiredAs, Disc.breach, rejected]

/-- Confirmed: the disc is retired and homing ends. -/
theorem State.carriage_dropped (carries : s.trans.arm = .homing .carry) (running : s.trans.ackTimer ≠ none)
    (arrived : s.trans.handover = some .arrived) (h : s.discs.records = before ++ d :: after) (on : d.location = .arm)
    (off : ∀ e ∈ before, e.location ≠ .arm) (others : ∀ e ∈ before ++ after, e.number ≠ d.number) :
    ∃ t, exec .dropConfirmed s = .next t ∧
      s.retires t before d after (if d.disposition.isReject then d.disposition else .reject .handling) ∧
      s.homingEnds t ∧ t.sensors = { s.sensors with pick := false } ∧
      s.changesOnly [.discs, .jobs, .status, .sensors, .trans, .dispatch] t := by
  let u := s.setPick false
  have runs := execDropConfirmed_homing running carries arrived
  rw [State.homingDropped_eq (State.discOnArm_eq (s := u) h on off)] at runs
  obtain ⟨retires, records, -⟩ := State.retire_spec (s := u) .reject h others
  rw [Disc.retiredAs_reject] at retires
  have trans : (u.retire d.number .reject).trans = s.trans := by simp [u]
  have now : (u.retire d.number .reject).now = s.now := by simp [u]
  have hold : (u.retire d.number .reject).settingNat 9 = s.settingNat 9 := by simp [u, State.settingNat, State.setting]
  refine ⟨_, runs, ?_, ?_, ?_, State.changesOnly.weaken (exec_changesOnly runs) (by decide)⟩
  · have ends : s.retires (u.retire d.number .reject).homingEnd before d after _ :=
      (retires.endsHoming records).of_before rfl rfl rfl
    exact ends.watched s
  · exact (State.homingEnds.of_before (u := u.retire d.number .reject) (State.homingEnd_spec _) (by rw [trans]) now
      hold).watched s
  · simp

/-- The carriage's disc is lost: retired with HANDLING, nothing else of the arm. -/
theorem State.carriage_lost (h : s.discs.records = before ++ d :: after)
    (others : ∀ e ∈ before ++ after, e.number ≠ d.number) (held : Bool) :
    let v := (((s.ackOver.setPick held).latch .handling).lostDisc d.number)
    s.retires v before d after (d.disposition.rejectedWith .handling) ∧ v.discs.records = before ++ after ∧
      v.cond .handling = true ∧ v.trans = { s.trans with ackTimer := none } ∧
      v.sensors = { s.sensors with pick := held } ∧ v.now = s.now ∧ v.settings = s.settings ∧
      s.changesOnly [.discs, .jobs, .status, .sensors, .trans] v := by
  let u := (s.ackOver.setPick held).latch .handling
  obtain ⟨retires, records, handling⟩ := State.lostDisc_spec (s := u) h others
  refine ⟨retires.of_before rfl rfl rfl, records, handling, ?_, ?_, ?_, ?_, ?_⟩
  · simp [State.ackOver]
  · simp [State.ackOver]
  · simp [State.ackOver]
  · simp [State.ackOver]
  · rw [State.changesOnly_iff]
    simp [State.ackOver]

/-- Settles O50: ARM HOME by stage and state, the bottom reference by what the sensor and the records tell, the carriage's drop by whether it is confirmed. -/
theorem homingDescendsClearsAndEnds : Obligations.HomingDescendsClearsAndEnds := by
  refine ⟨fun s => ⟨execArmHome_busy, fun stage unhomed fault => ?state, fun stage down => ?begins⟩,
    fun s descent => ⟨fun ends => State.atBottom_ends ends descent, fun pick alone => ?clears⟩,
    fun s before after d carries running records on off others => ⟨fun arrived => ?dropped, ?lost, fun none_ => ?stuck⟩⟩
  case state => rw [execArmHome_homable stage, if_neg (not_or.2 ⟨unhomed, fault⟩)]
  case begins =>
    obtain ⟨only, cond, closed, opened⟩ := s.startHoming_spec
    exact ⟨_, by rw [execArmHome_homable stage, if_pos down], only, cond, closed, opened⟩
  case clears =>
    have holds : s.trans.holdsInterrupted = false := by
      rw [← Bool.not_eq_true, Transport.holdsInterrupted_iff]
      rintro ⟨⟨r, hr, interrupted⟩, carrying⟩
      rcases alone with alone | alone
      · simp [alone r hr] at interrupted
      · exact alone carrying
    refine ⟨fun before d after records on off others => ?_, fun off => ⟨fun served room free => ?_, fun late => ?_⟩⟩
    · exact State.atBottom_record descent pick holds records on off others
    · exact State.atBottom_orphan descent pick holds off served room free
    · exact State.atBottom_waits descent pick holds off late
  case dropped => exact State.carriage_dropped carries running arrived records on off others
  case lost =>
    obtain ⟨retires, left, handling, trans, sensors, now, settings, only⟩ := State.carriage_lost records others false
    have runs := execAckTimerExpiry_homing running carries false
    rw [State.homingDropFailure_eq (State.discOnArm_eq (s := s.ackOver.setPick false) records on off), if_neg (by simp)] at runs
    have ends : s.homingEnds _ := State.homingEnds.of_before (State.homingEnd_spec _) (by rw [trans]) now
      (by simp only [State.settingNat, State.setting, settings])
    refine ⟨_, runs, (retires.endsHoming left).watched s, ends.watched s, ?_, ?_, ?_⟩
    · simp only [State.watched_frame, State.homingEnd_frame, sensors]
    · exact (State.homingEnd_signals _).2.trans handling
    · rw [State.changesOnly_iff] at only ⊢
      simp at only
      simp [only]
  case stuck =>
    obtain ⟨retires, left, handling, trans, sensors, -⟩ := State.carriage_lost records others true
    have runs := execAckTimerExpiry_homing running carries true
    rw [State.homingDropFailure_eq (State.discOnArm_eq (s := s.ackOver.setPick true) records on off), if_pos (by simp)] at runs
    obtain ⟨discs, jobs, sensors', kept, arm, cause, queue, move, ack, hold, cond, event⟩ :=
      State.armFaultEntry_idle (why := .handling) (u := ((s.ackOver.setPick true).latch .handling).lostDisc d.number)
        (by rw [trans]; exact none_)
    rw [trans] at queue
    have stands := retires.andThen left ⟨[], by simp, by simp [discs]⟩ jobs kept.events
    exact ⟨_, runs, stands.watched s, arm, cause, queue, move, ack, hold, sensors'.trans sensors,
      kept.latched .handling (by decide) handling, cond, event⟩

end Sys2Proof.Machine
end

/-! # Proofs: acceptances at a destination (R4, R7, R118, R142, R147) -/

section

namespace Sys2Proof.Machine

variable {s t u v : State} {r : MoveReq} {older younger : List MoveReq} {n : Nat} {d : Disc} {p : Printer}

/-! ## The end of a leg, from the state before the acceptance (R118) -/

/-- The end of a leg reads nothing but the arm's block, the clock and the hold setting. -/
theorem State.legEnds.of_before (h : u.legEnds t older r younger) (trans : u.trans = s.trans) (now : u.now = s.now)
    (hold : u.settingNat 9 = s.settingNat 9) : s.legEnds t older r younger := by
  obtain ⟨last, held⟩ := h
  rw [trans] at last
  rw [trans, now, hold] at held
  exact ⟨last, held⟩

theorem State.legEnds.of_trans (h : s.legEnds u older r younger) (trans : t.trans = u.trans) :
    s.legEnds t older r younger := by
  obtain ⟨last, held⟩ := h
  rw [← trans] at last held
  exact ⟨last, held⟩

theorem State.settingNat_of_settings (same : t.settings = s.settings) (i : SettingId) :
    t.settingNat i = s.settingNat i := by
  simp only [State.settingNat, State.setting, same]

/-! ## The disc at its destination (R4, R118) -/

/-- A record moved to a station, at a stage unless it is TO_OUT already (R4). -/
def Disc.movedTo (d : Disc) (at_ : Station) (st : DiscStage) : Disc :=
  { d with location := at_, stage := if d.stage = .toOut then .toOut else st }

theorem State.moveDisc_disc (hd : s.disc n = some d) (at_ : Station) (st : DiscStage) :
    (s.moveDisc n at_ st).disc n = some (d.movedTo at_ st) := by
  have moved : (s.moveDisc n at_ st).disc n = (s.disc n).map fun e => e.movedTo at_ st :=
    State.modDisc_disc s n fun _ => rfl
  rw [moved, hd]
  rfl

theorem State.accepted_disc (hd : s.disc n = some d) (apart : ∀ q ∈ s.trans.waiting, q.disc ≠ n) (at_ : Station)
    (st : DiscStage) : (s.accepted n at_ st).disc n = some (d.movedTo at_ st) :=
  (State.legDone_disc (s := (s.setPick false).moveDisc n at_ st) apart).trans
    (State.moveDisc_disc (s := s.setPick false) hd at_ st)

theorem State.accepted_ends (h : s.granting older r younger) (n : Nat) (at_ : Station) (st : DiscStage) :
    s.legEnds (s.accepted n at_ st) older r younger :=
  (State.legDone_ends (s := (s.setPick false).moveDisc n at_ st) (h.of_trans rfl)).of_before rfl rfl rfl

theorem State.accepted_sensors (s : State) (n : Nat) (at_ : Station) (st : DiscStage) :
    (s.accepted n at_ st).sensors = { s.sensors with pick := false } := by
  simp [State.accepted, State.setPick]

/-! ## A disc that the printer cannot print (R142, R147) -/

/-- The record of a spoiled disc, and the printer in FAULT that asks for its PRINT_OUT. -/
def State.spoiledOut (s : State) (p : Printer) (n : Nat) : State :=
  (s.setReject n .printFault).postTrayMove { p with state := .fault, print := none } .printOut n (.bin .reject)

theorem State.printSpoiled_eq (s : State) (p : Printer) (n : Nat) : s.printSpoiled p n =
    if (s.spoiledOut p n).discPrintsFirst n then (s.spoiledOut p n).tellTarget n else s.spoiledOut p n := rfl

/-- A spoiled record: REJECT with PRINT_FAULT, TO_OUT once its PRINT_OUT has joined the queue (R4, R6). -/
def Disc.spoiledFrom (d : Disc) (s : State) : Disc :=
  if s.hasMove .printer = false then { d.rejected .printFault with stage := .toOut } else d.rejected .printFault

theorem Disc.spoiledFrom_spec (d : Disc) (s : State) :
    (d.spoiledFrom s).location = d.location ∧ (d.spoiledFrom s).target = d.target ∧ (d.spoiledFrom s).job = d.job ∧
      (d.spoiledFrom s).disposition = d.disposition.rejectedWith .printFault := by
  have rejected : (d.rejected .printFault).location = d.location ∧ (d.rejected .printFault).target = d.target ∧
      (d.rejected .printFault).job = d.job := by
    unfold Disc.rejected
    split <;> exact ⟨rfl, rfl, rfl⟩
  have disposition := Disc.rejected_disposition .printFault d
  unfold Disc.spoiledFrom
  split <;> exact ⟨rejected.1, rejected.2.1, rejected.2.2, disposition⟩

theorem Disc.spoiledFrom_stage (d : Disc) (clear : ∀ q ∈ s.trans.queue, q.requester ≠ .printer) :
    (d.spoiledFrom s).stage = .toOut := by
  rw [Disc.spoiledFrom, if_pos (State.hasMove_false.2 clear)]

theorem State.spoiledOut_disc (hd : s.disc n = some d) : (s.spoiledOut p n).disc n = some (d.spoiledFrom s) := by
  have rejected : (s.setReject n .printFault).disc n = some (d.rejected .printFault) := by
    rw [State.setReject_disc, hd]
    rfl
  refine (State.postMove_disc _ (.posted .printOut .printer .prn (.bin .reject) n none)).trans ?_
  exact (congrArg (Option.map _) rejected).trans (by simp [Disc.spoiledFrom, State.hasMove, MoveReq.posted, Station.isBin])

theorem State.spoiledOut_trans (s : State) (p : Printer) (n : Nat) :
    s.trans.asked (s.spoiledOut p n).trans (.posted .printOut .printer .prn (.bin .reject) n none) ∧
      (s.spoiledOut p n).trans = { s.trans with
        queue := (s.spoiledOut p n).trans.queue, waiting := (s.spoiledOut p n).trans.waiting } := by
  refine ⟨State.postMove_asked ((s.setReject n .printFault).setPrinter
    { p with state := .fault, print := none, trayMove := true }) _, ?_⟩
  rw [State.spoiledOut, State.postTrayMove, State.postMove_trans, State.joinQueue]
  split <;> rfl

theorem State.spoiledOut_printer (s : State) (p : Printer) (n : Nat) :
    (s.spoiledOut p n).printer = some { p with state := .fault, print := none, trayMove := true } := by
  simp [State.spoiledOut, State.postTrayMove, State.setPrinter]

/-- The bay that awaits a spoiled print-first disc is told; nothing else of what the spoiling left changes. -/
theorem State.printSpoiled_spec (p : Printer) (hd : s.disc n = some d) :
    let t := s.printSpoiled p n
    t.disc n = some (d.spoiledFrom s) ∧ t.trans = (s.spoiledOut p n).trans ∧ t.sensors = s.sensors ∧
      t.printer = some { p with state := .fault, print := none, trayMove := true } ∧
      ∀ j b, s.jobOf d = some j → j.label.isSome = true → j.printOrder = some .printFirst → d.target = some b →
        s.stopsAwaiting t b n := by
  obtain ⟨-, target, job, -⟩ := d.spoiledFrom_spec s
  have disc : (s.spoiledOut p n).disc n = some (d.spoiledFrom s) := State.spoiledOut_disc hd
  have spoils := s.printSpoiled_eq p n
  have same : (s.printSpoiled p n).discs = (s.spoiledOut p n).discs ∧
      (s.printSpoiled p n).trans = (s.spoiledOut p n).trans ∧
      (s.printSpoiled p n).sensors = (s.spoiledOut p n).sensors ∧
      (s.printSpoiled p n).printer = (s.spoiledOut p n).printer := by
    rw [spoils]
    split <;> simp
  obtain ⟨discs, trans, sensors, printer⟩ := same
  refine ⟨(State.disc_of_discs discs n).trans disc, trans, sensors.trans (by simp [State.spoiledOut]),
    printer.trans (s.spoiledOut_printer p n), fun j b hj label order is => ?_⟩
  have jobOf : (s.spoiledOut p n).jobOf (d.spoiledFrom s) = some j := by
    have jobs : (s.spoiledOut p n).job = s.job := funext fun k => by simp [State.job, State.spoiledOut]
    rw [State.jobOf, job, jobs]
    exact hj
  have first : (s.spoiledOut p n).discPrintsFirst n = true := by
    simp only [State.discPrintsFirst, disc, Option.bind_some, jobOf]
    exact (Job.printsFirst_iff j).2 ⟨label, order⟩
  rw [spoils, if_pos first]
  exact State.tellTarget_stops (by simp [State.spoiledOut]) disc (target.trans is)

/-! ## The printer's acceptance (R142) -/

theorem State.reportPrinter_fault (u : State) (fault : u.printerIs .fault = true) :
    (u.reportPrinter.raise .printer).cond .printerFault = true ∧
      (u.reportPrinter.raise .printer).status.pending.getLsbD 12 = true := by
  refine ⟨?_, (State.raise_pending _ .printer .printer).trans (if_pos rfl)⟩
  simp [State.reportPrinter, fault]

/-- It accepts a disc with a label to print. -/
theorem State.printerAccept_prints {l : LabelId} (hp : v.printer = some p) (idle : p.state = .idle)
    (label : v.labelOf n = some l) : v.printerAccept n = v.bandStart { p with trayDisc := some n }
      { label := l, band := 0, line := 0, period := none, onTime := none } true := by
  simp only [State.printerAccept, hp, idle, label]

/-- In FAULT it spoils the disc. -/
theorem State.printerAccept_fault (hp : v.printer = some p) (fault : p.state = .fault) :
    v.printerAccept n = v.printSpoiled { p with trayDisc := some n } n := by
  simp only [State.printerAccept, hp, fault]

/-- With no label to print it spoils the disc and enters FAULT. -/
theorem State.printerAccept_unlabelled (hp : v.printer = some p) (idle : p.state = .idle) (label : v.labelOf n = none) :
    v.printerAccept n = ((v.printSpoiled { p with trayDisc := some n } n).reportPrinter).raise .printer := by
  simp only [State.printerAccept, hp, idle, label]

theorem State.labelOf_eq (hd : s.disc n = some d) : s.labelOf n = (s.jobOf d).bind Job.label := by
  rw [State.labelOf, hd]
  rfl

theorem headTemp_eq {readings : Readings} (reads : headTemp readings ≠ none) :
    headTemp readings = some readings.headReading := by
  unfold headTemp at reads ⊢
  split at reads
  · rename_i inRange
    rw [if_pos inRange]
  · exact absurd rfl reads

/-- What the disc and the printer are once a print has begun, or waits for the head to cool. -/
theorem State.bandStart_spec {b : State} {x : Print} {m : Label} (reads : headTemp b.sensors ≠ none)
    (label : b.label x.label = some m) : ∃ q, (b.bandStart p x true).printer = some q ∧ q.trayDisc = p.trayDisc ∧
      (65 ≤ b.sensors.headReading → q.state = .cooling) ∧
      (b.sensors.headReading < 65 → q.state = .printing ∧ ∃ y, q.print = some y ∧ y.label = x.label ∧
        y.band = x.band ∧ y.line = 0 ∧ y.period = some (128 * b.settingNat 12)) ∧
      b.changesOnly [.printer] (b.bandStart p x true) := by
  have reading := headTemp_eq reads
  have only : ∀ q, b.changesOnly [.printer] (b.setPrinter q) := fun q => by
    rw [State.changesOnly_iff]
    simp [State.setPrinter]
  by_cases hot : 65 ≤ b.sensors.headReading
  · rw [State.bandStart_hot reading hot]
    exact ⟨_, rfl, rfl, fun _ => rfl, fun cool => absurd hot (not_le.2 cool), only _⟩
  · have cool := not_le.1 hot
    rw [State.bandStart_cool reading cool label]
    exact ⟨_, rfl, rfl, fun is => absurd is hot, fun _ => ⟨rfl, _, rfl, rfl, rfl, rfl, rfl⟩, only _⟩

end Sys2Proof.Machine
end

/-! # Proofs: DISC_SET, PRN_TRAY_CONFIRMED and DROP_CONFIRMED (R7, R53, R118, R142) -/

section

namespace Sys2Proof.Machine

variable {s t u v : State} {r : MoveReq} {older younger : List MoveReq} {n : Nat} {d : Disc} {p : Printer}

/-! ## DISC_SET (R53, R118) -/

theorem execDiscSet_bay {b : BayId} (h : s.granting older r younger) (arm : s.trans.arm = .carrying)
    (dest : s.trans.legDest r = .bay b) (step : s.trans.handover = some .trayReady) :
    exec .discSet s = .next (s.discSet.issue b .trayClose) := by
  have unfolded : exec .discSet s = execDiscSet s := rfl
  rw [unfolded, execDiscSet, arm, h.grant_eq]
  simp only [dest, step]

theorem execDiscSet_prn (h : s.granting older r younger) (arm : s.trans.arm = .carrying)
    (dest : s.trans.legDest r = .prn) (step : s.trans.handover = some .arrived) :
    exec .discSet s = .next s.discSet := by
  have unfolded : exec .discSet s = execDiscSet s := rfl
  rw [unfolded, execDiscSet, arm, h.grant_eq]
  simp only [dest, step]

/-! ## PRN_TRAY_CONFIRMED (R118, R142) -/

/-- The tray sensor shows the disc, and the disc is accepted at PRN. -/
def State.setAtPrn (s : State) (n : Nat) : State :=
  State.accepted { s with sensors := { s.sensors with tray := true } } n .prn .inPrinter

theorem execPrnTrayConfirmed_accepts (h : s.granting older r younger) (arm : s.trans.arm = .carrying)
    (dest : s.trans.legDest r = .prn) (step : s.trans.handover = some .arrived ∨ s.trans.handover = some .discMoved)
    (running : s.trans.ackTimer ≠ none) : exec .prnTrayConfirmed s =
      .next (s.watched ((s.setAtPrn (s.trans.legDisc r)).printerAccept (s.trans.legDisc r))) := by
  have awaits : s.trans.awaitsTray = true ∧ s.trans.legDest r = .prn := by
    refine ⟨?_, dest⟩
    simpa [Transport.awaitsTray, arm, Option.isSome_iff_ne_none.2 running] using step
  have unfolded : exec .prnTrayConfirmed s = execPrnTrayConfirmed s := rfl
  rw [unfolded, execPrnTrayConfirmed, h.grant_eq]
  exact if_pos awaits

/-- What the acceptance at PRN leaves for the printer to go by. -/
theorem State.setAtPrn_spec (h : s.granting older r younger) (hd : s.disc n = some d)
    (apart : ∀ q ∈ s.trans.waiting, q.disc ≠ n) : let v := s.setAtPrn n
    v.disc n = some (d.movedTo .prn .inPrinter) ∧ s.legEnds v older r younger ∧
      v.sensors = { s.sensors with pick := false, tray := true } ∧
      s.changesOnly [.discs, .status, .sensors, .trans] v ∧ v.jobOf (d.movedTo .prn .inPrinter) = s.jobOf d := by
  let w : State := { s with sensors := { s.sensors with tray := true } }
  have only : s.changesOnly [.discs, .status, .sensors, .trans] (s.setAtPrn n) := by
    rw [State.changesOnly_iff]
    simp [State.setAtPrn, State.accepted]
  have jobs : (s.setAtPrn n).jobs = s.jobs := only .jobs (by decide)
  refine ⟨State.accepted_disc (s := w) hd apart .prn .inPrinter,
    (State.accepted_ends (s := w) (h.of_trans rfl) n .prn .inPrinter).of_before rfl rfl rfl,
    w.accepted_sensors n .prn .inPrinter, only, ?_⟩
  have slots : (s.setAtPrn n).job = s.job := funext fun k => by simp only [State.job, jobs]
  simp only [State.jobOf, slots]
  rfl

/-- A labelled disc's print begins, or waits for the head to cool. -/
theorem State.setAtPrn_prints {k : JobSlot} {j : Job} {l : LabelId} {m : Label} (h : s.granting older r younger)
    (hd : s.disc n = some d) (apart : ∀ q ∈ s.trans.waiting, q.disc ≠ n) (hp : s.printer = some p)
    (idle : p.state = .idle) (job : d.job = some k) (hj : s.job k = some j) (label : j.label = some l)
    (stored : s.label l = some m) (reads : headTemp s.sensors ≠ none) :
    let t := (s.setAtPrn n).printerAccept n
    ∃ q, t.disc n = some (d.movedTo .prn .inPrinter) ∧ t.sensors = { s.sensors with pick := false, tray := true } ∧
      s.legEnds t older r younger ∧ t.printer = some q ∧ q.trayDisc = some n ∧
      (65 ≤ s.sensors.headReading → q.state = .cooling) ∧
      (s.sensors.headReading < 65 → q.state = .printing ∧ ∃ x, q.print = some x ∧ x.label = l ∧ x.band = 0 ∧
        x.line = 0 ∧ x.period = some (128 * s.settingNat 12)) := by
  obtain ⟨disc, ends, sensors, only, jobOf⟩ := State.setAtPrn_spec h hd apart
  have printer : (s.setAtPrn n).printer = some p := (only .printer (by decide)).trans hp
  have named : (s.setAtPrn n).labelOf n = some l := by
    rw [State.labelOf_eq disc, jobOf, State.jobOf, job, Option.bind_some, hj, Option.bind_some, label]
  have labels : (s.setAtPrn n).labels = s.labels := only .labels (by decide)
  have settings : (s.setAtPrn n).settings = s.settings := only .settings (by decide)
  have begins := State.printerAccept_prints printer idle named
  obtain ⟨q, hq, tray, hot, cool, kept⟩ := State.bandStart_spec (b := s.setAtPrn n) (p := { p with trayDisc := some n })
    (x := { label := l, band := 0, line := 0, period := none, onTime := none }) (m := m)
    (by rw [sensors]; exact reads) (by simpa only [State.label, labels] using stored)
  rw [sensors, State.settingNat_of_settings settings] at cool
  rw [sensors] at hot
  dsimp only
  rw [begins]
  exact ⟨q, (State.disc_of_discs (kept .discs (by decide)) n).trans disc,
    (show _ = (s.setAtPrn n).sensors from kept .sensors (by decide)).trans sensors,
    ends.of_trans (kept .trans (by decide)), hq, tray, hot, cool⟩

/-- A disc that cannot be printed: what the spoiling leaves, and the printer's signals where it was IDLE. -/
theorem State.printerAccept_spoils (hp : v.printer = some p)
    (cannot : p.state = .fault ∨ (p.state = .idle ∧ v.labelOf n = none)) :
    let t := v.printerAccept n
    let x := v.printSpoiled { p with trayDisc := some n } n
    (t.discs = x.discs ∧ t.trans = x.trans ∧ t.sensors = x.sensors ∧ t.printer = x.printer ∧ t.bays = x.bays) ∧
      (p.state = .idle → x.printerIs .fault = true → t.cond .printerFault = true ∧ t.status.pending.getLsbD 12 = true) := by
  dsimp only
  rcases cannot with fault | ⟨idle, label⟩
  · rw [State.printerAccept_fault hp fault]
    exact ⟨⟨rfl, rfl, rfl, rfl, rfl⟩, fun idle => absurd (fault.symm.trans idle) (by simp)⟩
  · rw [State.printerAccept_unlabelled hp idle label]
    exact ⟨by simp, fun _ => State.reportPrinter_fault _⟩

theorem State.setAtPrn_spoils (h : s.granting older r younger) (hd : s.disc n = some d)
    (apart : ∀ q ∈ s.trans.waiting, q.disc ≠ n) (hp : s.printer = some p)
    (cannot : p.state = .fault ∨ (p.state = .idle ∧ ∀ j, s.jobOf d = some j → j.label = none)) :
    let v := s.setAtPrn n
    let t := v.printerAccept n
    t.disc n = some ((d.movedTo .prn .inPrinter).spoiledFrom v) ∧
      t.trans = (v.spoiledOut { p with trayDisc := some n } n).trans ∧
      t.sensors = { s.sensors with pick := false, tray := true } ∧
      t.printer = some { p with trayDisc := some n, state := .fault, print := none, trayMove := true } ∧
      (p.state = .idle → t.cond .printerFault = true ∧ t.status.pending.getLsbD 12 = true) ∧
      ∀ j b, s.jobOf d = some j → j.label.isSome = true → j.printOrder = some .printFirst → d.target = some b →
        s.stopsAwaiting t b n := by
  obtain ⟨disc, -, sensors, only, jobOf⟩ := State.setAtPrn_spec h hd apart
  have printer : (s.setAtPrn n).printer = some p := (only .printer (by decide)).trans hp
  have noLabel : p.state = .fault ∨ (p.state = .idle ∧ (s.setAtPrn n).labelOf n = none) := by
    refine cannot.imp id fun ⟨idle, none_⟩ => ⟨idle, ?_⟩
    rw [State.labelOf_eq disc, jobOf]
    exact Option.bind_eq_none_iff.2 none_
  obtain ⟨⟨discs, trans, sensors', printer', bays⟩, signals⟩ := State.printerAccept_spoils printer noLabel
  obtain ⟨spoiled, trans', kept, fault, told⟩ :=
    State.printSpoiled_spec (s := s.setAtPrn n) { p with trayDisc := some n } disc
  refine ⟨(State.disc_of_discs discs n).trans spoiled, trans.trans trans', (sensors'.trans kept).trans sensors,
    printer'.trans fault, fun idle => signals idle ((State.printerIs_iff _ .fault).2 ⟨_, fault, rfl⟩),
    fun j b hj label order is => ?_⟩
  have stops := (told j b (jobOf.trans hj) label order is).of_bays bays
  unfold State.stopsAwaiting at stops ⊢
  rwa [State.bay_of_bays (only .bays (by decide))] at stops

/-! ## DROP_CONFIRMED (R7, R118) -/

theorem execDropConfirmed_drops {k : BinId} (h : s.granting older r younger) (arm : s.trans.arm = .carrying)
    (dest : s.trans.legDest r = .bin k) (arrived : s.trans.handover = some .arrived) (running : s.trans.ackTimer ≠ none) :
    exec .dropConfirmed s = .next (s.watched ((s.setPick false).retire (s.trans.legDisc r) k).legDone) := by
  have unfolded : exec .dropConfirmed s = execDropConfirmed s := rfl
  rw [unfolded, execDropConfirmed, if_pos ⟨arrived, Option.isSome_iff_ne_none.2 running⟩, arm, h.grant_eq]
  simp only [dest]
  rfl

/-- A breach of the bin's rule: OUT takes GOOD alone, REJECT what is rejected alone (R7). -/
theorem Disc.breach_iff (d : Disc) (k : BinId) : d.breach k = true ↔
    (k = .out ∧ d.disposition ≠ .good) ∨ (k = .reject ∧ d.disposition.isReject = false) := by
  cases k <;> simp [Disc.breach]

theorem State.legDone_grows (s : State) : s.pendingGrows s.legDone := fun e he => by
  rwa [s.legDone_signals.1]

/-- What a retirement has left stays when the leg ends. -/
theorem State.retires.endsLeg {before after : List Disc} {out : Disposition} (h : s.retires v before d after out)
    (records : v.discs.records = before ++ after) (waiting : v.trans.waiting = s.trans.waiting) :
    s.retires v.legDone before d after out := by
  obtain ⟨joined, named, discs⟩ := v.legDone_records
  exact h.andThen records ⟨joined, waiting ▸ named, discs⟩ (by simp) v.legDone_grows

/-! ## The statement -/

/-- A post asked for after a held leg is one asked for before it: the queue and the waiting posts are the same. -/
theorem Transport.asked.of_before {x y z : Transport} {q : MoveReq} (h : y.asked z q) (queue : y.queue = x.queue)
    (waiting : y.waiting = x.waiting) : x.asked z q := by
  obtain ⟨joins, waits⟩ := h
  rw [queue, waiting] at joins waits
  exact ⟨joins, waits⟩

/-- Settles O54, by the destination: DISC_SET, the tray at PRN by what the printer can do with the disc, the drop by the bin's rule. -/
theorem destinationsAcceptTheDisc : Obligations.DestinationsAcceptTheDisc := by
  intro s older younger r d h n arm hd
  refine ⟨fun b dest step => ?setAtBay, fun dest step => ?setAtPrn, fun p dest step running hp apart => ?tray,
    fun bin before after dest arrived running records others => ?drop⟩
  case setAtBay =>
    rw [execDiscSet_bay h arm dest step]
    rfl
  case setAtPrn =>
    rw [execDiscSet_prn h arm dest step]
    rfl
  case tray =>
    have runs := execPrnTrayConfirmed_accepts h arm dest step running
    refine ⟨fun k j l m idle job hj label stored reads => ?prints, fun cannot => ?spoils⟩
    case prints =>
      obtain ⟨q, disc, sensors, ends, printer, tray, hot, cool⟩ :=
        State.setAtPrn_prints h hd apart hp idle job hj label stored reads
      exact ⟨_, q, runs, disc, sensors, ends.of_trans rfl, printer, tray, hot, cool⟩
    case spoils =>
      obtain ⟨-, ⟨last, held⟩, -⟩ := State.setAtPrn_spec h hd apart
      obtain ⟨disc, trans, sensors, printer, signals, told⟩ := State.setAtPrn_spoils h hd apart hp cannot
      obtain ⟨asked, kept⟩ := (s.setAtPrn n).spoiledOut_trans { p with trayDisc := some n } n
      obtain ⟨location, -, -, disposition⟩ := (d.movedTo .prn .inPrinter).spoiledFrom_spec (s.setAtPrn n)
      rw [← trans] at asked kept
      by_cases ends : s.trans.lastLeg r
      · obtain ⟨leaves, freed⟩ := last ends
        refine ⟨_, _, (s.setAtPrn n).trans, runs, disc, location, disposition, printer, sensors, fun _ => ⟨?_, leaves⟩,
          fun not_ => absurd ends not_, asked, fun clear => Disc.spoiledFrom_stage _ clear, signals, told⟩
        exact (congrArg Transport.arm kept).trans (congrArg Transport.arm freed)
      · have holds := held ends
        have queue : (s.setAtPrn n).trans.queue = s.trans.queue := by rw [holds]
        have waiting : (s.setAtPrn n).trans.waiting = s.trans.waiting := by rw [holds]
        refine ⟨_, _, s.trans, runs, disc, location, disposition, printer, sensors, fun is => absurd is ends, fun _ => ?_,
          asked.of_before queue waiting, fun clear => Disc.spoiledFrom_stage _ (by rwa [queue]), signals, told⟩
        rw [holds] at kept
        have block : (s.watched ((s.setAtPrn n).printerAccept n)).trans = _ := kept
        rw [block]
        exact ⟨rfl, rfl, rfl, rfl, rfl⟩
  case drop =>
    intro breach
    have number : d.number = n := eq_of_beq (List.find?_some (p := fun e : Disc => e.number == n) hd)
    have runs := execDropConfirmed_drops h arm dest arrived running
    have retired : d.retiredAs bin = if breach then .reject .handling else d.disposition := by
      simp only [Disc.retiredAs, Disc.breach_iff, breach]
    obtain ⟨retires, left, handling⟩ := State.retire_spec (s := s.setPick false) bin records (by rwa [number])
    rw [number, retired] at retires
    rw [number] at left handling
    have ends : s.legEnds ((s.setPick false).retire n bin).legDone older r younger :=
      (State.legDone_ends (h.of_trans (by simp))).of_before (by simp) (by simp)
        (State.settingNat_of_settings (by simp) 9)
    have stands : s.retires ((s.setPick false).retire n bin).legDone before d after _ :=
      (retires.endsLeg left (by simp)).of_before rfl rfl rfl
    refine ⟨_, runs, stands.watched s, fun is => ?_, ?_, ends.of_trans rfl,
      State.changesOnly.weaken (exec_changesOnly runs) (by decide)⟩
    · exact (State.legDone_signals _).2.trans (handling ((d.breach_iff bin).2 is))
    · simp

end Sys2Proof.Machine
end

/-! # Proofs: a disc taken up, and turned to REJECT (R117, R124, R127, R154) -/

section

namespace Sys2Proof.Machine

variable {s t u w : State} {r : MoveReq} {older younger : List MoveReq} {n : Nat} {d e : Disc} {b : BayId}

/-! ## Frames one after another -/

theorem State.changesOnly.andThen {l : List Part} (first : s.changesOnly l u) (next : u.changesOnly l t) :
    s.changesOnly l t := fun p hp => by
  have before := first p hp
  have after := next p hp
  cases p <;> exact after.trans before

/-- The mark of a wanted evaluation is all that comes with the end of an event. -/
theorem State.changesOnly.marked {l : List Part} (h : s.changesOnly l t) (dispatch : .dispatch ∈ l) (v : State) :
    s.changesOnly l (v.watched t) :=
  h.andThen fun p hp => by
    cases p with
    | dispatch => exact absurd dispatch hp
    | _ => rfl

/-! ## The bay that awaited the disc is told (R54, R127) -/

/-- A state with the same bays has the same bay awaiting. -/
theorem State.stopsAwaiting.of_before (h : u.stopsAwaiting t b n) (bays : u.bays = s.bays) : s.stopsAwaiting t b n := by
  unfold State.stopsAwaiting at h ⊢
  rwa [State.bay_of_bays bays] at h

theorem State.tellAwaiting_bay (at_ : Station) (is : at_ = .bay b) (accept : Bool) :
    u.tellAwaiting r at_ n accept = u.discWillNotCome b n accept := by
  subst is
  rfl

theorem State.tellAwaiting_prn (kind : r.kind = .printIn) (of : r.requester = .bay b) (accept : Bool) :
    u.tellAwaiting r .prn n accept = u.discWillNotCome b n false := by
  simp only [State.tellAwaiting, kind, of]

/-- No bay awaits a disc on its way from a bay to PRN. -/
theorem State.tellAwaiting_prn_other (kind : r.kind ≠ .printIn) (accept : Bool) : u.tellAwaiting r .prn n accept = u := by
  unfold State.tellAwaiting
  dsimp only
  split
  · rename_i is _
    exact absurd is kind
  · rfl

theorem State.tellAwaiting_tells (u : State) (r : MoveReq) (n : Nat) :
    u.tellsAwaiting (u.tellAwaiting r (u.trans.legDest r) n false) r n := by
  refine ⟨fun b dest => ?_, fun b dest kind of => ?_⟩
  · rw [State.tellAwaiting_bay _ dest]
    exact u.discWillNotCome_stops b n
  · rw [dest, State.tellAwaiting_prn kind of]
    exact u.discWillNotCome_stops b n

theorem State.tellsAwaiting.of_bays (h : s.tellsAwaiting u r n) (bays : t.bays = u.bays) : s.tellsAwaiting t r n :=
  ⟨fun b dest => (h.1 b dest).of_bays bays, fun b dest kind of => (h.2 b dest kind of).of_bays bays⟩

theorem State.tellsAwaiting.of_before (h : u.tellsAwaiting t r n) (bays : u.bays = s.bays)
    (dest : u.trans.legDest r = s.trans.legDest r) : s.tellsAwaiting t r n := by
  unfold State.tellsAwaiting at h
  rw [dest] at h
  exact ⟨fun b leads => (h.1 b leads).of_before bays, fun b leads kind of => (h.2 b leads kind of).of_before bays⟩

/-! ## The change of destination of a disc just taken (R127) -/

theorem State.setToOut_disc (s : State) (n : Nat) :
    (s.setToOut n).disc n = (s.disc n).map fun d => { d with stage := .toOut } :=
  State.modDisc_disc s n fun _ => rfl

/-- With no hand-over in progress the arm goes on to REJECT at once. -/
theorem State.changeDest_departed (h : u.granting older r younger) (own : u.trans.legDisc r = n)
    (step : u.trans.handover = none) :
    u.changeDest n = ((u.setToOut n).tellAwaiting r (u.trans.legDest r) n false).toReject := by
  rw [State.changeDest, h.current_eq]
  simp only [own, if_true, State.giveUp_none step, h.granted, step, Option.isSome_none, Bool.false_and,
    Bool.false_eq_true, if_false, State.toReject, State.tellAwaiting_frame, State.setToOut_frame]

theorem State.toReject_goes (h : u.granting older r younger) : u.goesToReject u.toReject older r younger := by
  rw [State.goesToReject, State.toReject, State.depart, State.modTrans_trans, h.modCurrent_trans]
  simp [Config.moveTime]

theorem State.goesToReject.of_before (h : u.goesToReject t older r younger) (trans : u.trans = s.trans)
    (now : u.now = s.now) : s.goesToReject t older r younger := by
  unfold State.goesToReject at h ⊢
  rwa [trans, now] at h

/-- What it leaves: the record TO_OUT, the request on its way to REJECT, and the bay that awaited the disc told. -/
theorem State.changeDest_spec (h : u.granting older r younger) (own : u.trans.legDisc r = n)
    (step : u.trans.handover = none) (hd : u.disc n = some d) : let t := u.changeDest n
    t.disc n = some { d with stage := .toOut } ∧ u.goesToReject t older r younger ∧ u.tellsAwaiting t r n ∧
      u.changesOnly [.discs, .bays, .trans] t ∧ (u.trans.legDest r = .prn → r.kind ≠ .printIn → t.bays = u.bays) := by
  dsimp only
  rw [State.changeDest_departed h own step]
  let v := u.setToOut n
  refine ⟨?_, ?_, ?_, ?_, fun dest kind => ?_⟩
  · have out : v.disc n = some { d with stage := .toOut } := by
      rw [State.setToOut_disc, hd]
      rfl
    exact (State.disc_of_discs (by simp [State.toReject, v]) _).trans out
  · exact (State.toReject_goes (h.of_trans (by simp))).of_before (by simp) (by simp)
  · exact ((v.tellAwaiting_tells r n).of_before (s := u) rfl rfl).of_bays (by simp [v, State.toReject])
  · rw [State.changesOnly_iff]
    simp [State.toReject, State.tellAwaiting_stays]
  · rw [dest, State.tellAwaiting_prn_other kind]
    simp [State.toReject]

/-! ## A disc of a CANCELLING job (R154) -/

theorem Disc.cancelsAt_iff (d : Disc) (at_ : Station) :
    d.cancelsAt at_ = true ↔ (∃ b, at_ = .bay b) ∨ (at_ = .prn ∧ d.disposition ≠ .good) := by
  cases at_ <;> simp [Disc.cancelsAt]

/-- The disc is turned to REJECT as soon as it is taken. -/
def State.turnsBack (w : State) (e : Disc) (dest : Station) : Prop :=
  (∃ j, w.jobOf e = some j ∧ j.state = .cancelling) ∧ ((∃ b, dest = .bay b) ∨ (dest = .prn ∧ e.disposition ≠ .good))

theorem State.turnsBack_iff (w : State) (e : Disc) (dest : Station) : w.turnsBack e dest ↔
    ((w.jobOf e).any fun j => j.state == .cancelling) = true ∧ e.cancelsAt dest = true := by
  rw [State.turnsBack, Disc.cancelsAt_iff]
  cases w.jobOf e <;> simp

theorem State.cancelCarried_goesOn (h : w.granting older r younger) (he : w.disc n = some e)
    (goesOn : ¬ w.turnsBack e (w.trans.legDest r)) : w.cancelCarried n = w := by
  rw [State.turnsBack_iff] at goesOn
  rw [State.cancelCarried, he, h.current_eq]
  exact if_neg goesOn

/-- CANCELLED when it was PENDING, and otherwise as it was (R154). -/
def Disc.cancelled (d : Disc) : Disc := if d.disposition = .pending then d.rejected .cancelled else d

theorem Disc.cancelled_eq (d : Disc) : d.cancelled =
    { d with disposition := if d.disposition = .pending then .reject .cancelled else d.disposition } := by
  unfold Disc.cancelled
  split
  · next pending => simp [Disc.rejected, pending, Disposition.isReject]
  · rfl

theorem State.cancelCarried_turns (h : w.granting older r younger) (he : w.disc n = some e)
    (turns : w.turnsBack e (w.trans.legDest r)) :
    w.cancelCarried n = (if e.disposition = .pending then w.setReject n .cancelled else w).changeDest n := by
  rw [State.turnsBack_iff] at turns
  rw [State.cancelCarried, he, h.current_eq]
  exact if_pos turns

/-- The mark of the cancel on the disc taken changes its record alone. -/
theorem State.cancelMark_spec (he : w.disc n = some e) :
    let v := if e.disposition = .pending then w.setReject n .cancelled else w
    v.disc n = some e.cancelled ∧ w.changesOnly [.discs] v := by
  by_cases pending : e.disposition = .pending
  · rw [if_pos pending]
    refine ⟨?_, ?_⟩
    · rw [State.setReject_disc, he]
      simp [Disc.cancelled, pending]
    · rw [State.changesOnly_iff]
      simp
  · rw [if_neg pending]
    exact ⟨by simpa [Disc.cancelled, pending] using he, fun p _ => by cases p <;> rfl⟩

/-- The disc of a CANCELLING job goes to REJECT from the station that it was just taken from. -/
theorem State.cancelCarried_spec (h : w.granting older r younger) (own : w.trans.legDisc r = n)
    (step : w.trans.handover = none) (he : w.disc n = some e) (turns : w.turnsBack e (w.trans.legDest r)) :
    let t := w.cancelCarried n
    t.disc n = some { e with
        stage := .toOut, disposition := if e.disposition = .pending then .reject .cancelled else e.disposition } ∧
      w.goesToReject t older r younger ∧ w.tellsAwaiting t r n ∧ w.changesOnly [.discs, .bays, .trans] t ∧
      (w.trans.legDest r = .prn → r.kind ≠ .printIn → t.bays = w.bays) := by
  dsimp only
  rw [State.cancelCarried_turns h he turns]
  obtain ⟨disc, only⟩ := State.cancelMark_spec he
  have trans := only .trans (by decide)
  have now := only .now (by decide)
  have bays := only .bays (by decide)
  dsimp only [State.agreeOn] at trans now bays
  rw [Disc.cancelled_eq] at disc
  obtain ⟨record, goes, tells, frame, stays⟩ :=
    State.changeDest_spec (h.of_trans (by rw [trans])) (by rw [trans, own]) (by rw [trans, step]) disc
  rw [trans] at stays
  exact ⟨record, goes.of_before trans now, tells.of_before bays (by rw [trans]),
    (only.weaken (by decide)).andThen frame, fun dest kind => (stays dest kind).trans bays⟩

end Sys2Proof.Machine
end

/-! # Proofs: PICK_CONFIRMED (R117, R121, R124, R154) -/

section

namespace Sys2Proof.Machine

variable {s t u v w : State} {r : MoveReq} {older younger : List MoveReq} {n : Nat} {d e : Disc} {b : BayId}

/-! ## The pick, by its source (R117) -/

/-- The disc is held and its record on the arm. -/
def State.picked (s : State) (r : MoveReq) : State :=
  (s.setPick true).moveDisc (s.trans.legDisc r) .arm (if (s.trans.legDest r).isBin then .toOut else .onArm)

/-- The arm sets out with the disc. -/
def State.onWay (u : State) : State := (u.setArm .carrying).depart

theorem State.pickDone_bay (source : s.trans.legSource r = .bay b) (two : Bool) :
    s.pickDone r two = (((s.picked r).discLeaves b r.second).onWay).cancelCarried (s.trans.legDisc r) := by
  rw [State.pickDone, source]
  rfl

/-- The printer's tray has been emptied: its sensor, and the printer (R146). -/
def State.trayEmptied (u : State) : State := State.trayTaken { u with sensors := { u.sensors with tray := false } }

theorem State.pickDone_prn (source : s.trans.legSource r = .prn) (two : Bool) :
    s.pickDone r two = (((s.picked r).trayEmptied).onWay).cancelCarried (s.trans.legDisc r) := by
  rw [State.pickDone, source]
  rfl

theorem State.pickDone_spindle {i : SpindleId} (source : s.trans.legSource r = .spindle i) (two : Bool) : s.pickDone r two =
    (((if two then (s.picked r).doublePick r (s.trans.legDisc r) else s.picked r).onWay).cancelCarried
      (s.trans.legDisc r)) := by
  rw [State.pickDone, source]
  rfl

theorem execPickConfirmed_picks (h : s.granting older r younger) (awaits : s.trans.awaitsPick r = true) (two : Bool) :
    exec (.pickConfirmed two) s = .next (s.watched (s.pickDone r two)) := by
  have unfolded : exec (.pickConfirmed two) s = execPickConfirmed two s := rfl
  rw [unfolded, execPickConfirmed, h.grant_eq]
  simp only [awaits, if_true]

theorem execPickConfirmed_retakes (h : s.granting older r younger) (arm : s.trans.arm = .carrying)
    (step : s.trans.handover = some .retake) (running : s.trans.ackTimer ≠ none) (two : Bool) :
    exec (.pickConfirmed two) s = .next (s.watched (s.retaken r)) := by
  have unfolded : exec (.pickConfirmed two) s = execPickConfirmed two s := rfl
  have notGranted : ¬ s.trans.awaitsPick r = true := by simp [Transport.awaitsPick, arm]
  have retakes : s.trans.arm = .carrying ∧ s.trans.handover = some .retake ∧ s.trans.ackTimer.isSome = true :=
    ⟨arm, step, Option.isSome_iff_ne_none.2 running⟩
  rw [unfolded, execPickConfirmed, h.grant_eq]
  simp only [if_neg notGranted, if_pos retakes]

/-! ## The disc on the arm -/

/-- The record of a disc taken up, by where its leg leads (R4). -/
def Disc.taken (d : Disc) (dest : Station) : Disc :=
  { d with location := .arm, stage := if dest.isBin = true ∨ d.stage = .toOut then .toOut else .onArm }

theorem State.picked_disc (hd : s.disc (s.trans.legDisc r) = some d) :
    (s.picked r).disc (s.trans.legDisc r) = some (d.taken (s.trans.legDest r)) := by
  refine (State.moveDisc_disc (s := s.setPick true) hd _ _).trans (congrArg some ?_)
  unfold Disc.movedTo Disc.taken
  by_cases out : d.stage = .toOut <;> simp [out]

/-- The disc of the leg is on the arm, and the arm on its way to the leg's destination. -/
structure State.takenUp (s w : State) (r : MoveReq) (d : Disc) : Prop where
  disc : w.disc (s.trans.legDisc r) = some (d.taken (s.trans.legDest r))
  trans : w.trans = { s.trans with
    arm := .carrying, moveTimer := some (s.now + 12000), ackTimer := none, handover := none }
  jobs : w.jobs = s.jobs
  now : w.now = s.now

theorem State.onWay_takenUp (hd : s.disc (s.trans.legDisc r) = some d) (discs : u.discs = (s.picked r).discs)
    (trans : u.trans = s.trans) (jobs : u.jobs = s.jobs) (now : u.now = s.now) : s.takenUp u.onWay r d where
  disc := (State.disc_of_discs (by simp [State.onWay, discs]) _).trans (State.picked_disc hd)
  trans := by
    rw [← trans, ← now]
    rfl
  jobs := (by simp [State.onWay] : u.onWay.jobs = u.jobs).trans jobs
  now := (by simp [State.onWay] : u.onWay.now = u.now).trans now

theorem State.takenUp.turnsBack_iff (h : s.takenUp w r d) :
    w.turnsBack (d.taken (s.trans.legDest r)) (w.trans.legDest r) ↔ s.turnsBack d (s.trans.legDest r) := by
  have slots : w.job = s.job := funext fun k => by simp only [State.job, h.jobs]
  have leads : w.trans.legDest r = s.trans.legDest r := by
    rw [h.trans]
    rfl
  have jobOf : w.jobOf (d.taken (s.trans.legDest r)) = s.jobOf d := by
    simp only [State.jobOf, slots]
    rfl
  rw [State.turnsBack, State.turnsBack, leads, jobOf]
  exact Iff.rfl

theorem State.takenUp.granting (h : s.takenUp w r d) (g : s.granting older r younger) : w.granting older r younger :=
  g.of_trans (by rw [h.trans])

theorem State.takenUp.goesOn (h : s.takenUp w r d) (g : s.granting older r younger)
    (goesOn : ¬ s.turnsBack d (s.trans.legDest r)) : w.cancelCarried (s.trans.legDisc r) = w :=
  State.cancelCarried_goesOn (h.granting g) h.disc fun turns => goesOn (h.turnsBack_iff.1 turns)

/-- The record of a disc turned to REJECT, and the arm on its way there under the same grant (R121, R124, R154). -/
structure State.turned (s t : State) (older : List MoveReq) (r : MoveReq) (younger : List MoveReq) (d : Disc)
    (disposition : Disposition) : Prop where
  disc : t.disc (s.trans.legDisc r) = some { d with location := .arm, stage := .toOut, disposition }
  arm : t.trans.arm = .carrying
  goes : s.goesToReject { t with trans.arm := s.trans.arm } older r younger

theorem State.takenUp.turns (h : s.takenUp w r d) (g : s.granting older r younger)
    (turns : s.turnsBack d (s.trans.legDest r)) : let t := w.cancelCarried (s.trans.legDisc r)
    s.turned t older r younger d (if d.disposition = .pending then .reject .cancelled else d.disposition) ∧
      (w.bays = s.bays → s.tellsAwaiting t r (s.trans.legDisc r)) ∧ w.changesOnly [.discs, .bays, .trans] t ∧
      (s.trans.legDest r = .prn → r.kind ≠ .printIn → t.bays = w.bays) := by
  have own : w.trans.legDisc r = s.trans.legDisc r := by
    rw [h.trans]
    rfl
  have leads : w.trans.legDest r = s.trans.legDest r := by
    rw [h.trans]
    rfl
  have step : w.trans.handover = none := by rw [h.trans]
  obtain ⟨disc, goes, tells, only, stays⟩ :=
    State.cancelCarried_spec (h.granting g) own step h.disc (h.turnsBack_iff.2 turns)
  rw [leads] at stays
  refine ⟨⟨disc, ?_, ?_⟩, fun bays => tells.of_before bays leads, only, stays⟩
  · rw [goes, h.trans]
  · unfold State.goesToReject at goes ⊢
    simp only [goes, h.trans, h.now]

/-! ## What the pick leaves at the source -/

theorem Bay.cleared_toIdle (x : Bay) : x.cleared.toIdle =
    { x.cleared with state := if x.offlineAfter then .offline else .empty, offlineAfter := false } := by
  unfold Bay.toIdle
  cases after : x.offlineAfter <;> simp [Bay.cleared, after]

theorem State.discLeaves_others (u : State) (b : BayId) (second : Option SecondLeg) (m : BayId) (other : m ≠ b) :
    (u.discLeaves b second).bay m = u.bay m := by
  cases second <;> exact State.modBay_bay_ne _ _ other

/-- The bay that the disc left (R69). -/
theorem State.discLeaves_spec (u : State) (b : BayId) (second : Option SecondLeg) : let t := u.discLeaves b second
    (second = none → (t.bay b).state = (if (u.bay b).offlineAfter then .offline else .empty) ∧ (t.bay b).disc = none ∧
      (t.bay b).job = none ∧ (t.bay b).imageSlot = none) ∧
    (∀ l, second = some l → (t.bay b).state = .awaitDisc ∧ (t.bay b).disc = some l.disc) ∧
    (t.bay b).facts = none ∧ (t.bay b).cursor = none ∧ (t.bay b).buffer = none ∧ (t.bay b).dest = none ∧
    (∀ m, m ≠ b → t.bay m = u.bay m) := by
  cases second with
  | none =>
    have left : (u.discLeaves b none).bay b = { (u.bay b).cleared with
        state := if (u.bay b).offlineAfter then .offline else .empty, offlineAfter := false } :=
      (State.modBay_bay u b fun r => r.cleared.toIdle).trans (u.bay b).cleared_toIdle
    dsimp only
    rw [left]
    exact ⟨fun _ => ⟨rfl, rfl, rfl, rfl⟩, (fun _ is => nomatch is), rfl, rfl, rfl, rfl, u.discLeaves_others b none⟩
  | some l =>
    have left : (u.discLeaves b (some l)).bay b = { (u.bay b).cleared with
        state := .awaitDisc, disc := some l.disc, job := (u.disc l.disc).bind Disc.job
        imageSlot := (((u.disc l.disc).bind Disc.job).bind u.job).map Job.imageSlot } := State.modBay_bay ..
    dsimp only
    rw [left]
    exact ⟨(fun is => nomatch is), fun m is => ⟨rfl, by rw [Option.some.inj is]⟩, rfl, rfl, rfl, rfl,
      u.discLeaves_others b (some l)⟩

theorem State.trayEmptied_printer {p : Printer} (hp : u.printer = some p) : u.trayEmptied.printer = some { p with
    trayDisc := none, trayMove := false, clampOpen := false
    state := if p.state = .awaitRemove then .idle else p.state } := by
  simp [State.trayEmptied, State.trayTaken, hp, State.setPrinter]

theorem State.trayEmptied_sensors (u : State) : u.trayEmptied.sensors = { u.sensors with tray := false } := by
  simp [State.trayEmptied]

/-! ## Two discs at a spindle (R124) -/

theorem Transport.legDest_redirect (t : Transport) (at_ : Station) (r : MoveReq) :
    t.legDest (MoveReq.redirect t.leg at_ r) = at_ := by
  unfold Transport.legDest Transport.secondOf MoveReq.redirect
  cases t.leg with
  | first => rfl
  | second => cases r.second <;> simp

theorem MoveReq.redirect_granted (leg : Leg) (at_ : Station) (r : MoveReq) :
    (MoveReq.redirect leg at_ r).granted = r.granted := by
  unfold MoveReq.redirect
  split <;> rfl

/-- A request keeps its grant when its leg is sent elsewhere. -/
theorem State.granting.redirected (h : s.granting older r younger) {leg : Leg} {at_ : Station}
    (queue : u.trans.queue = older ++ MoveReq.redirect leg at_ r :: younger) :
    u.granting older (MoveReq.redirect leg at_ r) younger where
  queue := queue
  granted := (r.redirect_granted leg at_).trans h.granted
  others := by simpa using h.others

theorem State.setReject_setToOut_disc (why : RejectReason) (hd : u.disc n = some e) :
    ((u.setReject n why).setToOut n).disc n =
      some { e with disposition := e.disposition.rejectedWith why, stage := .toOut } := by
  rw [State.setToOut_disc, State.setReject_disc, hd]
  simp only [Option.map_some, Option.some.injEq]
  unfold Disc.rejected Disposition.rejectedWith
  split <;> rfl

theorem State.doublePick_spec (h : u.granting older r younger) (he : u.disc n = some e) : let v := u.doublePick r n
    v.disc n = some { e with disposition := e.disposition.rejectedWith .doublePick, stage := .toOut } ∧
      v.trans = { u.trans with queue := older ++ MoveReq.redirect u.trans.leg (.bin .reject) r :: younger } ∧
      v.cond .handling = true ∧ (∀ b, u.trans.legBay r = some b → u.stopsAwaiting v b n) ∧
      u.changesOnly [.discs, .bays, .trans, .status] v := by
  let x := ((u.setReject n .doublePick).setToOut n).latch .handling
  have disc : x.disc n = _ := State.setReject_setToOut_disc .doublePick he
  have handling : x.cond .handling = true := by
    rw [State.latch_cond, if_pos rfl]
  have redirects : ∀ y : State, y.trans = u.trans →
      (y.modCurrent (MoveReq.redirect y.trans.leg (.bin .reject))).trans =
        { u.trans with queue := older ++ MoveReq.redirect u.trans.leg (.bin .reject) r :: younger } := fun y same => by
    rw [State.granting.modCurrent_trans (s := y) (h.of_trans (by rw [same])), same]
  have picks : u.doublePick r n = match u.trans.legBay r with
      | some b => (x.discWillNotCome b n false).modCurrent
          (MoveReq.redirect (x.discWillNotCome b n false).trans.leg (.bin .reject))
      | none => x.modCurrent (MoveReq.redirect x.trans.leg (.bin .reject)) := by
    unfold State.doublePick
    dsimp only
    cases u.trans.legBay r <;> rfl
  dsimp only
  rw [picks]
  cases u.trans.legBay r with
  | none =>
    refine ⟨disc, redirects x rfl, handling, (fun _ is => nomatch is), ?_⟩
    rw [State.changesOnly_iff]
    simp [x]
  | some b =>
    refine ⟨?_, redirects _ (by simp [x]), ?_, fun c is => ?_, ?_⟩
    · exact (State.disc_of_discs (by simp) n).trans disc
    · exact ((State.signalsKept.refl x).discWillNotCome b n false).latched .handling (by decide) handling
    · obtain rfl := Option.some.inj is
      exact (State.stopsAwaiting.of_before (s := u) (x.discWillNotCome_stops b n) rfl).of_bays (by simp)
    · rw [State.changesOnly_iff]
      simp [x, State.discWillNotCome_stays]

end Sys2Proof.Machine
end

/-! # Proofs: PICK_CONFIRMED, source by source (R117, R121, R124, R154) -/

section

namespace Sys2Proof.Machine

variable {s t u v w : State} {r : MoveReq} {older younger : List MoveReq} {d : Disc} {b : BayId} {i : SpindleId}

/-! ## Where the hand-over stands -/

theorem Transport.awaitsPick_bay {t : Transport} (arm : t.arm = .granted) (source : t.legSource r = .bay b)
    (step : t.handover = some .trayReady) : t.awaitsPick r = true := by
  simp [Transport.awaitsPick, arm, source, step]

theorem Transport.awaitsPick_prn {t : Transport} (arm : t.arm = .granted) (source : t.legSource r = .prn)
    (step : t.handover = some .trayReady) : t.awaitsPick r = true := by
  simp [Transport.awaitsPick, arm, source, step]

theorem Transport.awaitsPick_spindle {t : Transport} (arm : t.arm = .granted) (source : t.legSource r = .spindle i)
    (step : t.handover = some .arrived) : t.awaitsPick r = true := by
  simp [Transport.awaitsPick, arm, source, step]

/-! ## The disc taken, by its source -/

/-- The pick at a bay before the cancel looks at its disc: only the arm, the record, the pick sensor and the bay changed. -/
theorem State.takenFromBay (hd : s.disc (s.trans.legDisc r) = some d) (b : BayId) :
    let w := ((s.picked r).discLeaves b r.second).onWay
    s.takenUp w r d ∧ w.bays = ((s.picked r).discLeaves b r.second).bays ∧
      w.sensors = { s.sensors with pick := true } ∧ s.changesOnly [.sensors, .discs, .bays, .trans, .status] w := by
  refine ⟨State.onWay_takenUp hd (by simp) (by simp [State.picked]) (by simp [State.picked]) (by simp [State.picked]),
    by simp [State.onWay], by simp [State.onWay, State.picked], ?_⟩
  rw [State.changesOnly_iff]
  simp [State.onWay, State.picked]

theorem State.takenFromPrn {p : Printer} (hd : s.disc (s.trans.legDisc r) = some d) (hp : s.printer = some p) :
    let w := ((s.picked r).trayEmptied).onWay
    s.takenUp w r d ∧ w.bays = s.bays ∧ w.sensors = { s.sensors with pick := true, tray := false } ∧
      w.printer = some { p with
        trayDisc := none, trayMove := false, clampOpen := false
        state := if p.state = .awaitRemove then .idle else p.state } ∧
      s.changesOnly [.sensors, .discs, .printer, .trans, .status] w := by
  refine ⟨State.onWay_takenUp hd (by simp [State.trayEmptied]) (by simp [State.trayEmptied, State.picked])
    (by simp [State.trayEmptied, State.picked]) (by simp [State.trayEmptied, State.picked]),
    by simp [State.onWay, State.trayEmptied, State.picked],
    by simp [State.onWay, State.trayEmptied_sensors, State.picked], ?_, ?_⟩
  · have stays : ((s.picked r).trayEmptied).onWay.printer = (s.picked r).trayEmptied.printer := by simp [State.onWay]
    exact stays.trans (State.trayEmptied_printer (u := s.picked r) hp)
  · rw [State.changesOnly_iff]
    simp [State.onWay, State.trayEmptied, State.picked]

theorem State.takenFromSpindle (hd : s.disc (s.trans.legDisc r) = some d) :
    let w := (s.picked r).onWay
    s.takenUp w r d ∧ w.bays = s.bays ∧ w.sensors = { s.sensors with pick := true } ∧
      s.changesOnly [.sensors, .discs, .trans, .status] w ∧ s.quiet w := by
  have taken : s.takenUp (s.picked r).onWay r d := State.onWay_takenUp hd rfl rfl rfl rfl
  have only : s.changesOnly [.sensors, .discs, .trans, .status] (s.picked r).onWay := by
    rw [State.changesOnly_iff]
    simp [State.onWay, State.picked]
  have numbers : (s.picked r).onWay.discs.records.map Disc.number = s.discs.records.map Disc.number :=
    State.modDisc_numbers (s.setPick true) _ fun _ => rfl
  refine ⟨taken, only .bays (by decide), by simp [State.onWay, State.picked], only, State.undisturbed.quiet {
    wanted := only .dispatch (by decide), stage := congrArg _ (only .settings (by decide))
    jobs := only .jobs (by decide), records := numbers, spindles := by rw [taken.trans]; exact ⟨rfl, rfl⟩
    queue := by rw [taken.trans], printer := only .printer (by decide), staging := only .staging (by decide)
    emptied := fun b => by rw [State.bay_of_bays (only .bays (by decide))]; exact id }⟩

/-- Two discs: the record REJECT, its leg to REJECT, and no cancel that could turn it further. -/
theorem State.doublePicked (h : s.granting older r younger) (hd : s.disc (s.trans.legDisc r) = some d) :
    let t := (((s.picked r).doublePick r (s.trans.legDisc r)).onWay).cancelCarried (s.trans.legDisc r)
    s.turned t older r younger d (d.disposition.rejectedWith .doublePick) ∧ t.cond .handling = true ∧
      (∀ b, s.trans.legBay r = some b → s.stopsAwaiting t b (s.trans.legDisc r)) ∧
      t.sensors = { s.sensors with pick := true } ∧ s.changesOnly [.sensors, .discs, .bays, .trans, .status] t := by
  obtain ⟨disc, trans, handling, tells, only⟩ :=
    State.doublePick_spec (u := s.picked r) (h.of_trans rfl) (State.picked_disc hd)
  let v := (s.picked r).doublePick r (s.trans.legDisc r)
  have trans : v.trans = { s.trans with
      queue := older ++ MoveReq.redirect s.trans.leg (.bin .reject) r :: younger } := trans
  have onWay : v.onWay.trans = { v.trans with
      arm := .carrying, moveTimer := some (v.now + 12000), ackTimer := none, handover := none } := rfl
  have leads : v.onWay.trans.legDest (MoveReq.redirect s.trans.leg (.bin .reject) r) = .bin .reject := by
    rw [onWay, trans]
    exact Transport.legDest_redirect s.trans (.bin .reject) r
  have carries : v.onWay.granting older (MoveReq.redirect s.trans.leg (.bin .reject) r) younger :=
    h.redirected (by rw [onWay, trans])
  have disc : v.onWay.disc (s.trans.legDisc r) = _ := (State.disc_of_discs (by simp [State.onWay, v]) _).trans disc
  have stays : v.onWay.cancelCarried (s.trans.legDisc r) = v.onWay := by
    refine State.cancelCarried_goesOn carries disc fun turns => ?_
    rw [leads] at turns
    obtain ⟨-, ⟨b, is⟩ | ⟨is, -⟩⟩ := turns <;> exact nomatch is
  have now : v.now = s.now := only .now (by decide)
  have bays : v.onWay.bays = v.bays := by simp [State.onWay]
  dsimp only
  rw [stays]
  refine ⟨⟨disc, rfl, ?_⟩, ?_, fun b of => ((tells b of).of_before rfl).of_bays bays, ?_, ?_⟩
  · unfold State.goesToReject
    dsimp only
    rw [onWay, trans, now]
  · have kept : v.onWay.cond .handling = v.cond .handling := by
      have away : v.onWay.cond .handling = (v.setArm .carrying).cond .handling := rfl
      rw [away, State.setArm, State.report_cond, if_neg (by decide)]
      rfl
    exact kept.trans handling
  · have kept : v.onWay.sensors = v.sensors := by simp [State.onWay]
    exact kept.trans (only .sensors (by decide))
  · refine State.changesOnly.andThen (u := s.picked r) ?_ (State.changesOnly.andThen (u := v) (only.weaken (by decide)) ?_)
    all_goals
      rw [State.changesOnly_iff]
      simp [State.picked, State.onWay]

/-! ## A disc retaken (R121, R127) -/

theorem State.retaken_bin {k : BinId} (dest : s.trans.legDest r = .bin k) : s.retaken r = (s.setPick true).depart := by
  have same : (s.setPick true).trans.legDest r = .bin k := dest
  simp only [State.retaken, same]
  rfl

theorem State.retaken_station (dest : s.trans.legDest r = .prn ∨ ∃ b, s.trans.legDest r = .bay b) :
    s.retaken r = (s.setPick true).divert r := by
  have off : ((s.setPick true).trans.legDest r).isBin = false := by
    have same : (s.setPick true).trans.legDest r = s.trans.legDest r := rfl
    rw [same]
    obtain dest | ⟨b, dest⟩ := dest <;> rw [dest] <;> rfl
  simp only [State.retaken, off]
  rfl

/-- Settles O53, by the source of the leg, and for a retake by its destination. -/
theorem pickConfirmedCarriesTheDisc : Obligations.PickConfirmedCarriesTheDisc := by
  intro s older younger r d h n hd cancelled goesOn turns onArm turned cancelReason told bayLeft trayLeft
  refine ⟨fun b two source step => ?fromBay, fun p two source step hp => ?fromPrn, fun i source step => ?fromSpindle,
    fun arm step running two => ?retake⟩
  case fromBay =>
    obtain ⟨taken, bays, sensors, only⟩ := State.takenFromBay hd b
    have left : ∀ t : State, t.bays = ((s.picked r).discLeaves b r.second).bays → bayLeft t b := fun t same => by
      have leaves := (s.picked r).discLeaves_spec b r.second
      dsimp only at leaves
      simp only [← State.bay_of_bays same] at leaves
      exact leaves
    have runs := fun arm => execPickConfirmed_picks h (Transport.awaitsPick_bay arm source step) two
    rw [State.pickDone_bay source] at runs
    refine ⟨fun ⟨arm, goes⟩ => ⟨_, runs arm, ?_⟩, fun ⟨arm, turns⟩ dest kind => ⟨_, runs arm, ?_⟩⟩
    · rw [taken.goesOn h goes]
      exact ⟨⟨taken.disc, taken.trans⟩, left _ bays, sensors, (only.weaken (by decide)).marked (by decide) s⟩
    · obtain ⟨turned, -, frame, stays⟩ := taken.turns h turns
      exact ⟨⟨turned.disc, turned.arm, turned.goes⟩, left _ ((stays dest kind).trans bays),
        (show _ = _ from frame .sensors (by decide)).trans sensors,
        ((only.weaken (by decide)).andThen (frame.weaken (by decide))).marked (by decide) s⟩
  case fromPrn =>
    obtain ⟨taken, bays, sensors, printer, only⟩ := State.takenFromPrn hd hp
    have runs := fun arm => execPickConfirmed_picks h (Transport.awaitsPick_prn arm source step) two
    rw [State.pickDone_prn source] at runs
    refine ⟨fun ⟨arm, goes⟩ => ⟨_, runs arm, ?_⟩, fun ⟨arm, turns⟩ => ⟨_, runs arm, ?_⟩⟩
    · rw [taken.goesOn h goes]
      exact ⟨⟨taken.disc, taken.trans⟩, printer, sensors, (only.weaken (by decide)).marked (by decide) s⟩
    · obtain ⟨turned, tells, frame, -⟩ := taken.turns h turns
      exact ⟨⟨turned.disc, turned.arm, turned.goes⟩, tells bays,
        (show _ = _ from frame .printer (by decide)).trans printer,
        (show _ = _ from frame .sensors (by decide)).trans sensors,
        ((only.weaken (by decide)).andThen (frame.weaken (by decide))).marked (by decide) s⟩
  case fromSpindle =>
    obtain ⟨taken, bays, sensors, only, quiet⟩ := State.takenFromSpindle hd
    have runs := fun arm two => execPickConfirmed_picks h (Transport.awaitsPick_spindle arm source step) two
    simp only [State.pickDone_spindle source] at runs
    refine ⟨fun ⟨arm, goes⟩ => ⟨_, runs arm false, ?_⟩, fun ⟨arm, turns⟩ => ⟨_, runs arm false, ?_⟩,
      fun arm => ⟨_, runs arm true, ?_⟩⟩
    · simp only [Bool.false_eq_true, if_false]
      rw [taken.goesOn h goes, quiet.watched]
      exact ⟨⟨taken.disc, taken.trans⟩, sensors, only⟩
    · simp only [Bool.false_eq_true, if_false]
      obtain ⟨turned, tells, frame, -⟩ := taken.turns h turns
      exact ⟨⟨turned.disc, turned.arm, turned.goes⟩, tells bays,
        (show _ = _ from frame .sensors (by decide)).trans sensors,
        ((only.weaken (by decide)).andThen (frame.weaken (by decide))).marked (by decide) s⟩
    · obtain ⟨turned, handling, tells, sensors, frame⟩ := State.doublePicked h hd
      exact ⟨⟨turned.disc, turned.arm, turned.goes⟩, handling, tells, sensors,
        (frame.weaken (by decide)).marked (by decide) s⟩
  case retake =>
    have runs := execPickConfirmed_retakes h arm step running two
    refine ⟨fun k dest => ?_, fun dest => ?_⟩
    · have quiet : s.quiet ((s.setPick true).depart) := State.undisturbed.quiet {
        wanted := rfl, stage := rfl, jobs := rfl, records := rfl, spindles := ⟨rfl, rfl⟩, queue := rfl, printer := rfl
        staging := rfl, emptied := fun _ => id }
      rw [runs, State.retaken_bin dest, quiet.watched]
      rfl
    · rw [State.retaken_station dest] at runs
      obtain ⟨goes, rejects, fails, stops⟩ := State.divert_spec (s := s.setPick true) (h.of_trans rfl)
      refine ⟨_, runs, ?_, goes, rejects, fails, stops⟩
      simp

end Sys2Proof.Machine
end

/-! # Proofs: a forced release at any source (R22, R119, R120, R146) -/

section

namespace Sys2Proof.Machine

variable {s t u v : State} {r q : MoveReq} {older younger : List MoveReq} {n : Nat} {d : Disc} {b : BayId}
  {i : SpindleId} {at_ : Station}

/-! ## The station gives the hand-over up (R70, R146) -/

/-- Only a bay's port or the printer's clamp changes. -/
theorem State.giveUpAt_kept (u : State) (at_ : Station) : u.changesOnly [.bays, .printer] (u.giveUpAt at_) := by
  rw [State.changesOnly_iff]
  cases at_ with
  | bay b =>
    simp only [State.giveUpAt, State.handoverGivenUp]
    split
    · split
      · simp [State.portReset]
      · simp
    · simp
  | prn => simp [State.giveUpAt]
  | _ => simp [State.giveUpAt]

theorem State.giveUpAt_bay_keeps (u : State) (b : BayId) : u.changesOnly [.bays] (u.giveUpAt (.bay b)) := by
  rw [State.changesOnly_iff]
  simp only [State.giveUpAt, State.handoverGivenUp]
  split
  · split
    · simp [State.portReset]
    · simp
  · simp

theorem State.giveUpAt_prn_keeps (u : State) : u.changesOnly [.printer] (u.giveUpAt .prn) := by
  rw [State.changesOnly_iff]
  simp [State.giveUpAt]

/-- A bay's port is reset by one request outstanding alone; its state and its disc stay. -/
theorem State.giveUpAt_bay (u : State) (at_ : Station) (m : BayId) : (u.giveUpAt at_).bay m = u.bay m ∨
    at_ = .bay m ∧ (u.giveUpAt at_).bay m = { u.bay m with out := none, susp := none } := by
  cases at_ with
  | bay b =>
    cases out : (u.bay b).out with
    | none => exact .inl (by rw [State.giveUpAt_idle out])
    | some o =>
      by_cases tray : o.req = .trayOpen ∨ o.req = .trayClose
      · rw [State.giveUpAt_bay_tray out tray]
        by_cases own : m = b
        · subst own
          exact .inr ⟨rfl, u.portReset_bay m⟩
        · exact .inl (State.modBay_bay_ne u _ own)
      · exact .inl (by rw [State.giveUpAt_bay_other fun x hx => Option.some.inj (out.symm.trans hx) ▸ tray])
  | prn => exact .inl (State.bay_of_bays (by simp [State.giveUpAt]) m)
  | _ => exact .inl rfl

theorem State.giveUpAt_states (u : State) (at_ : Station) (m : BayId) :
    ((u.giveUpAt at_).bay m).state = (u.bay m).state := by
  rcases u.giveUpAt_bay at_ m with same | ⟨-, reset⟩
  · rw [same]
  · rw [reset]

theorem State.giveUpAt_idlePrinter (u : State) (at_ : Station) (idle : (u.giveUpAt at_).printerIs .idle = true) :
    u.printerIs .idle = true := by
  cases at_ with
  | bay b => rwa [State.printerIs, show (u.giveUpAt (.bay b)).printer = u.printer from
      u.giveUpAt_bay_keeps b .printer (by decide)] at idle
  | prn =>
    cases hp : u.printer with
    | none => simp [State.giveUpAt, State.setClamp, hp, State.printerIs] at idle
    | some p =>
      obtain ⟨x, hx, state⟩ := (State.printerIs_iff _ .idle).1 idle
      rw [State.giveUpAt_prn_printer hp] at hx
      obtain rfl := Option.some.inj hx
      exact (State.printerIs_iff _ .idle).2 ⟨p, hp, state⟩
  | _ => exact idle

/-! ## The request taken from the queue (R119) -/

theorem State.forcedRelease_at (h : u.granting older r younger) : u.forcedRelease =
    let v := u.giveUpAt (u.trans.legSource r)
    if (u.trans.released r).retries < u.settingNat 10 then v.letGo.joinQueue (u.trans.released r)
    else v.letGo.postWaiting.retriesSpent (u.trans.released r) (u.trans.legSource r) (u.trans.legDisc r)
      (u.trans.legBay r) := by
  have limit : (u.giveUpAt (u.trans.legSource r)).letGo.settingNat 10 = u.settingNat 10 :=
    State.settingNat_of_settings ((State.letGo_frame _).2.2.2.trans (u.giveUpAt_kept _ .settings (by decide))) 10
  simp only [State.forcedRelease, h.grant_eq]
  rw [← limit]
  rfl

/-- A forced release reads what the arm was about to do, and no timer of it. -/
theorem State.forcedFree.of_before (h : u.forcedFree t older q younger) (trans : u.trans.freed = s.trans.freed)
    (count : u.trans.forcedReleases = s.trans.forcedReleases) : s.forcedFree t older q younger := by
  obtain ⟨block, handling⟩ := h
  rw [trans, count] at block
  exact ⟨block, handling⟩

theorem State.forcedFree.watched (h : s.forcedFree t older q younger) (w : State) :
    s.forcedFree (w.watched t) older q younger := by
  obtain ⟨block, handling⟩ := h
  exact ⟨block, handling⟩

/-- With retries left the request is at the tail, and but for the station only the arm and the signals have changed. -/
theorem State.forcedRelease_free (h : u.granting older r younger) (first : u.trans.secondOf r = none)
    (left : r.retries + 1 < u.settingNat 10) : let t := u.forcedRelease
    u.forcedFree t older r.again younger ∧ (u.giveUpAt (u.trans.legSource r)).changesOnly [.trans, .status] t ∧
      u.quiet t := by
  have again := Transport.released_again (t := u.trans) first
  have free := State.forcedRelease_again h (by rw [again]; rfl) (by rw [again]; exact left)
  have runs := State.forcedRelease_at h
  rw [again] at free runs
  have fewer : r.again.retries < u.settingNat 10 := left
  rw [if_pos fewer] at runs
  have only : (u.giveUpAt (u.trans.legSource r)).changesOnly [.trans, .status] u.forcedRelease := by
    rw [runs, State.changesOnly_iff]
    simp [State.letGo]
  have both : ∀ p : Part, p ∉ [Part.bays, .printer, .trans, .status] → u.agreeOn u.forcedRelease p :=
    State.changesOnly.andThen ((u.giveUpAt_kept (u.trans.legSource r)).weaken (by decide)) (only.weaken (by decide))
  have queue := congrArg Transport.queue free.trans
  refine ⟨free, only, State.quiet.of_armMoved (both .settings (by decide)) (both .jobs (by decide))
    (both .staging (by decide)) (fun m empty => ?_) (fun idle => ?_) ?_ (fun e he => ⟨e, ?_, rfl⟩) fun x hx => ?_⟩
  · rwa [State.bay_of_bays (only .bays (by decide)), State.giveUpAt_states] at empty
  · refine u.giveUpAt_idlePrinter (u.trans.legSource r) ?_
    rwa [State.printerIs, show u.forcedRelease.printer = _ from only .printer (by decide)] at idle
  · rw [free.trans]
    exact ⟨rfl, rfl⟩
  · rwa [show u.forcedRelease.discs = u.discs from both .discs (by decide)]
  · rw [queue]
    rw [h.queue, List.mem_append, List.mem_cons] at hx
    rcases hx with inOlder | rfl | inYounger
    · exact ⟨x, by simp [inOlder], rfl, rfl⟩
    · exact ⟨x.again, by simp, rfl, rfl⟩
    · exact ⟨x, by simp [inYounger], rfl, rfl⟩

/-! ## The retries spent (R120) -/

/-- The request gone and the posts that waited made, before the station is told that the retries are spent. -/
def State.gaveUpAll (u : State) (at_ : Station) : State := (u.giveUpAt at_).letGo.postWaiting

theorem State.gaveUpAll_trans (h : u.granting older r younger) (at_ : Station) :
    (u.gaveUpAll at_).trans = { u.trans.freed with
      forcedReleases := (u.trans.forcedReleases + 1) % 16
      queue := (postsAfter (older ++ younger) u.trans.waiting).1
      waiting := (postsAfter (older ++ younger) u.trans.waiting).2 } := by
  have same : (u.giveUpAt at_).trans = u.trans := u.giveUpAt_kept at_ .trans (by decide)
  rw [State.gaveUpAll, State.postWaiting_trans, State.letGo_trans (h.of_trans (by rw [same])), same]
  rfl

theorem State.gaveUpAll_handling (u : State) (at_ : Station) : (u.gaveUpAll at_).cond .handling = true := by
  have same : (u.gaveUpAll at_).status = (u.giveUpAt at_).letGo.status := by simp [State.gaveUpAll]
  exact (State.cond_of_live (congrArg _ same) _).trans (State.letGo_handling _)

theorem State.gaveUpAll_keeps (u : State) (at_ : Station) :
    u.changesOnly [.bays, .printer, .discs, .trans, .status] (u.gaveUpAll at_) := by
  refine State.changesOnly.andThen ((u.giveUpAt_kept at_).weaken (by decide)) ?_
  rw [State.changesOnly_iff]
  simp [State.gaveUpAll, State.letGo]

/-- Posts that waited leave a record as it is, or make it TO_OUT (R4, log 9). -/
theorem State.postWaiting_disc (hd : s.disc n = some d) :
    ∃ e, s.postWaiting.disc n = some e ∧ (e = d ∨ e = { d with stage := .toOut }) := by
  obtain ⟨joined, -, discs⟩ := s.postWaiting_records
  have record := State.disc_of_map (fun e => by split <;> rfl) (congrArg DiscTable.records discs) n
  rw [hd] at record
  refine ⟨_, record, ?_⟩
  dsimp only
  split
  · exact .inr rfl
  · exact .inl rfl

theorem State.gaveUpAll_disc (hd : u.disc n = some d) (at_ : Station) :
    ∃ e, (u.gaveUpAll at_).disc n = some e ∧ (e = d ∨ e = { d with stage := .toOut }) := by
  have same : (u.giveUpAt at_).letGo.disc n = u.disc n :=
    (State.letGo_disc _ n).trans (State.disc_of_discs (u.giveUpAt_kept at_ .discs (by decide)) n)
  exact State.postWaiting_disc (same.trans hd)

theorem State.gaveUpAll_bays (u : State) (at_ : Station) : (u.gaveUpAll at_).bays = (u.giveUpAt at_).bays := by
  simp [State.gaveUpAll, State.letGo]

theorem State.gaveUpAll_job (u : State) (at_ : Station) (k : JobSlot) : (u.gaveUpAll at_).job k = u.job k := by
  simp only [State.job, show (u.gaveUpAll at_).jobs = u.jobs from u.gaveUpAll_keeps at_ .jobs (by decide)]

theorem State.forcedRelease_spent (h : u.granting older r younger)
    (spent : u.settingNat 10 ≤ (u.trans.released r).retries) : u.forcedRelease =
    (u.gaveUpAll (u.trans.legSource r)).retriesSpent (u.trans.released r) (u.trans.legSource r) (u.trans.legDisc r)
      (u.trans.legBay r) := by
  rw [State.forcedRelease_at h]
  exact if_neg (Nat.not_lt.2 spent)

/-- What every release with the retries spent leaves of the arm. -/
theorem State.gaveUpAll_spent (h : u.granting older r younger)
    (queue : t.trans.queue = (u.gaveUpAll at_).trans.queue) (waiting : t.trans.waiting = (u.gaveUpAll at_).trans.waiting)
    (arm : t.trans.arm = (u.gaveUpAll at_).trans.arm)
    (count : t.trans.forcedReleases = (u.gaveUpAll at_).trans.forcedReleases) (handling : t.cond .handling = true) :
    u.spentRelease t older younger := by
  have trans := State.gaveUpAll_trans h at_
  refine ⟨?_, ?_, ?_, handling⟩
  · rw [Transport.leaves, queue, waiting, trans]
  · rw [arm, trans]
    rfl
  · rw [count, trans]

end Sys2Proof.Machine
end

/-! # Proofs: the retries spent at a spindle or at PRN, and a spindle found empty (R22, R110, R120, R123, R146) -/

section

namespace Sys2Proof.Machine

variable {s t u v x y : State} {r q : MoveReq} {older younger : List MoveReq} {n : Nat} {d e : Disc} {b : BayId}
  {i : SpindleId} {k : JobSlot} {j : Job}

/-! ## A record deleted (R22, R157) -/

/-- The job of a deleted record, by its state before (R10, R157). -/
theorem Job.uncount_settleCancel (j : Job) : j.uncount.settleCancel = { j with
    started := j.started - 1, inFlight := j.inFlight - 1
    state := if j.state = .active ∨ j.state = .filled then
        (if j.good + (j.inFlight - 1) = j.copies then .filled else .active)
      else if j.state = .cancelling ∧ j.inFlight - 1 = 0 then .cancelled else j.state } := by
  unfold Job.uncount Job.recount Job.settleCancel Job.cancelDone Job.byCounters
  by_cases open_ : j.state = .active ∨ j.state = .filled
  · have kept : ∀ filled : Prop, [Decidable filled] →
        (if filled then JobState.filled else JobState.active) ≠ .cancelling := fun filled _ => by split <;> simp
    simp only [if_pos open_, decide_eq_true_eq]
    rw [if_neg fun is => kept _ is.1]
  · simp only [if_neg open_, decide_eq_true_eq]
    split <;> rfl

theorem State.countJob_raisesNo (s : State) (k : JobSlot) (f : Job → Job) {e : Event} (done : e ≠ .jobDone)
    (held : e ≠ .jobHeld) : (s.countJob k f).status.pending.getLsbD e.bit = s.status.pending.getLsbD e.bit := by
  have sets : ∀ j, (s.setJob k j).status = s.status := fun _ => rfl
  unfold State.countJob
  split
  · rfl
  · dsimp only
    split <;> split <;> simp only [State.raise_pending, if_neg done, if_neg held, sets]

theorem State.freeRecord_raisesNo (s : State) (n : Nat) {e : Event} (drained : e ≠ .drained) :
    (s.freeRecord n).status.pending.getLsbD e.bit = s.status.pending.getLsbD e.bit := by
  unfold State.freeRecord State.drainTest
  split
  · rw [State.raise_pending, if_neg drained]
  · rfl

theorem State.deleteRecord_counts (hd : y.disc n = some d) (of : d.job = some k) :
    y.deleteRecord n = (y.countJob k Job.uncount).freeRecord n := by
  rw [State.deleteRecord, hd]
  simp only [of]

/-- A failed pick: the record gone, its job's count, and the bay that awaited the disc. -/
theorem State.pickFailed_spec (hd : y.disc n = some d) (of : d.job = some k) (hj : y.job k = some j) (b : BayId) :
    let t := y.pickFailed (some b) n
    t.disc n = none ∧ t.job k = some j.uncount.settleCancel ∧ y.stopsAwaiting t b n ∧ t.trans = y.trans ∧
      (∀ c, t.cond c = y.cond c) ∧ y.pendingGrows t ∧
      t.status.pending.getLsbD 11 = y.status.pending.getLsbD 11 ∧
      (j.state = .cancelling → j.inFlight - 1 = 0 → t.status.pending.getLsbD 1 = true) := by
  let x := y.deleteRecord n
  have told : y.pickFailed (some b) n = x.discWillNotCome b n false := rfl
  have status : (x.discWillNotCome b n false).status = x.status := (x.discWillNotCome_stays b n).2.2.2
  have deletes : x = (y.countJob k Job.uncount).freeRecord n := State.deleteRecord_counts hd of
  have grows : y.pendingGrows x := (State.signalsKept.deleteRecord (.refl y) n).events
  dsimp only
  rw [told]
  refine ⟨?_, ?_, ?_, ?_, fun c => ?_, fun e he => ?_, ?_, fun cancelling last => ?_⟩
  · exact (State.disc_of_discs (by simp [x]) n).trans (State.deleteRecord_disc_self y n)
  · have jobs : (x.discWillNotCome b n false).jobs = x.jobs := by simp
    rw [State.job, jobs]
    exact State.deleteRecord_job hd of hj
  · exact (x.discWillNotCome_stops b n).of_before (by simp [x])
  · simp [x]
  · have live : x.status.live = y.status.live := by rw [deletes, State.freeRecord_live, State.countJob_live]
    exact State.cond_of_live (by rw [status, live]) c
  · rw [status]
    exact grows e he
  · rw [status, deletes]
    exact (State.freeRecord_raisesNo _ n (e := .spindle) (by decide)).trans
      (State.countJob_raisesNo y k _ (e := .spindle) (by decide) (by decide))
  · have ends : j.uncount.settleCancel.state = .cancelled := by
      rw [Job.uncount_settleCancel]
      simp [cancelling, last]
    have raised := (State.countJob_raises Job.uncount hj).1 (by rw [ends, cancelling]; decide) (.inr ends)
    rw [status, deletes]
    exact (State.freeRecord_raisesNo _ n (e := .jobDone) (by decide)).trans raised

/-! ## A spindle's state (R110) -/

theorem Transport.withSpindle_keeps (t : Transport) (st : SpindleState) (i : SpindleId) :
    (t.withSpindle st i).queue = t.queue ∧ (t.withSpindle st i).waiting = t.waiting ∧
      (t.withSpindle st i).arm = t.arm ∧ (t.withSpindle st i).forcedReleases = t.forcedReleases := by
  cases i <;> exact ⟨rfl, rfl, rfl, rfl⟩

theorem State.spindle_withSpindle {a : Transport} {st : SpindleState} (is : t.trans = a.withSpindle st i) :
    t.spindle i = st := by
  cases i <;> simp [State.spindle, is, Transport.withSpindle]

/-- A spindle that becomes EMPTY or JAMMED reports it and raises SPINDLE. -/
theorem State.setSpindle_raises {st : SpindleState} (changes : u.spindle i ≠ st) (out : st ≠ .ready) :
    (u.setSpindle i st).cond .spindleEmpty = true ∧ (u.setSpindle i st).status.pending.getLsbD 11 = true := by
  unfold State.setSpindle
  rw [if_neg changes]
  refine ⟨?_, (State.raise_pending _ .spindle .spindle).trans (if_pos rfl)⟩
  rw [State.report_cond, if_pos rfl]
  cases i <;> simp [out]

theorem State.setSpindle_same {st : SpindleState} (same : u.spindle i = st) : u.setSpindle i st = u := if_pos same

theorem State.signalsKept.setSpindle (h : s.signalsKept u) (i : SpindleId) (st : SpindleState) :
    s.signalsKept (u.setSpindle i st) := by
  unfold State.setSpindle
  split
  · exact h
  · exact .report (.raise (h.same (by cases i <;> rfl)) .spindle) (by decide) _

/-! ## The retries spent at a spindle (R120) -/

/-- The spindle is JAMMED, the record deleted and uncounted, and the bay that awaited the disc told. -/
theorem State.forcedRelease_spindle (h : u.granting older r younger) (source : u.trans.legSource r = .spindle i)
    (spent : u.settingNat 10 ≤ (u.trans.released r).retries) (free : u.spindle i ≠ .jammed)
    (bay : u.trans.legBay r = some b) (hd : u.disc (u.trans.legDisc r) = some d) (of : d.job = some k)
    (hj : u.job k = some j) : let t := u.forcedRelease
    u.spentRelease t older younger ∧ t.spindle i = .jammed ∧ t.cond .spindleEmpty = true ∧
      t.status.pending.getLsbD 11 = true ∧ t.disc (u.trans.legDisc r) = none ∧
      u.stopsAwaiting t b (u.trans.legDisc r) ∧
      (∃ x, t.job k = some x ∧ x.started = j.started - 1 ∧ x.inFlight = j.inFlight - 1) := by
  let v := u.gaveUpAll (.spindle i)
  let y := v.setSpindle i .jammed
  have runs : u.forcedRelease = y.pickFailed (some b) (u.trans.legDisc r) := by
    rw [State.forcedRelease_spent h spent, source, bay]
    rfl
  obtain ⟨e, he, is⟩ := State.gaveUpAll_disc hd (.spindle i)
  have job : e.job = some k := by rcases is with rfl | rfl <;> exact of
  have trans := State.gaveUpAll_trans h (.spindle i)
  have changes : v.spindle i ≠ .jammed := by
    have same : v.spindle i = u.spindle i := by
      simp only [State.spindle, v, trans]
      rfl
    rwa [same]
  obtain ⟨cond, event⟩ := State.setSpindle_raises changes (by decide)
  obtain ⟨gone, counted, stops, block, conds, grows, -, -⟩ := State.pickFailed_spec (y := y) (b := b)
    ((State.disc_of_discs (by simp [y, v]) _).trans he) job
    (((by simp [State.job, y] : y.job k = v.job k).trans (u.gaveUpAll_job _ k)).trans hj)
  have kept : v.signalsKept y := .setSpindle (.refl v) i .jammed
  rw [State.setSpindle_trans] at block
  obtain ⟨queue, waiting, arm, count⟩ := v.trans.withSpindle_keeps .jammed i
  have bays : y.bays = u.bays := (by simp [y] : y.bays = v.bays).trans (u.gaveUpAll_bays (.spindle i))
  dsimp only
  rw [runs]
  obtain ⟨started, inFlight⟩ := j.uncount_counts
  refine ⟨State.gaveUpAll_spent (at_ := .spindle i) h (by rw [block, queue]) (by rw [block, waiting]) (by rw [block, arm])
    (by rw [block, count]) ?_, ?_, (conds _).trans cond, grows .spindle event, gone, stops.of_before bays,
    ⟨_, counted, started, inFlight⟩⟩
  · exact (conds _).trans (kept.latched .handling (by decide) (u.gaveUpAll_handling _))
  · exact State.spindle_withSpindle block

end Sys2Proof.Machine
end

/-! # Proofs: a spindle found empty, and PRN with the retries spent (R22, R120, R123, R146) -/

section

namespace Sys2Proof.Machine

variable {s t u v x y : State} {r q : MoveReq} {older younger : List MoveReq} {n : Nat} {d e : Disc} {b : BayId}
  {i : SpindleId} {k : JobSlot} {j : Job} {p : Printer}

/-! ## A spindle found empty (R123) -/

theorem State.moveDone_disc (hd : s.disc n = some d) :
    ∃ e, s.moveDone.disc n = some e ∧ (e = d ∨ e = { d with stage := .toOut }) :=
  State.postWaiting_disc (s := s.takeCurrent) hd

/-- A completed move raises nothing, and reports ARM_FAULT alone. -/
theorem State.moveDone_signals (s : State) : s.moveDone.status.pending = s.status.pending ∧
    ∀ c, c ≠ .armFault → s.moveDone.cond c = s.cond c := by
  have same : s.dropCurrent.status = s.status := by simp [State.dropCurrent]
  refine ⟨(State.armIdle_pending _).trans (by rw [same]), fun c other => ?_⟩
  rw [State.moveDone, State.armIdle, State.setArm, State.report_cond, if_neg other]
  exact State.cond_of_live (congrArg _ same) c

theorem State.setSpindle_keeps (u : State) (i : SpindleId) (st : SpindleState) :
    u.changesOnly [.trans, .status] (u.setSpindle i st) := by
  rw [State.changesOnly_iff]
  simp

/-- The spindle is EMPTY, the record deleted and uncounted, the request gone, and the bay that awaited the disc told. -/
theorem State.foundEmpty_spec (h : u.granting older r younger) (bay : u.trans.legBay r = some b)
    (hd : u.disc (u.trans.legDisc r) = some d) (of : d.job = some k) (hj : u.job k = some j) :
    let t := u.foundEmpty r i
    t.disc (u.trans.legDisc r) = none ∧ t.spindle i = .empty ∧
      (u.spindle i ≠ .empty → t.cond .spindleEmpty = true ∧ t.status.pending.getLsbD 11 = true) ∧
      (u.spindle i = .empty → t.status.pending.getLsbD 11 = u.status.pending.getLsbD 11) ∧
      t.job k = some j.uncount.settleCancel ∧
      (j.state = .cancelling → j.inFlight - 1 = 0 → t.status.pending.getLsbD 1 = true) ∧
      u.stopsAwaiting t b (u.trans.legDisc r) ∧ u.trans.leaves t.trans (older ++ younger) ∧ t.trans.arm = .idle ∧
      t.trans.forcedReleases = u.trans.forcedReleases := by
  let x := u.setSpindle i .empty
  have runs : u.foundEmpty r i = x.moveDone.pickFailed (some b) (u.trans.legDisc r) := by
    rw [State.foundEmpty, bay]
    rfl
  have only := u.setSpindle_keeps i .empty
  have trans : x.trans = u.trans.withSpindle .empty i := u.setSpindle_trans i .empty
  obtain ⟨queue, waiting, -, count⟩ := u.trans.withSpindle_keeps .empty i
  obtain ⟨leaves, freed⟩ := State.moveDone_trans (s := x) (h.of_trans (by rw [trans, queue]))
  obtain ⟨e, he, is⟩ := State.moveDone_disc ((State.disc_of_discs (only .discs (by decide)) _).trans hd)
  have job : e.job = some k := by rcases is with rfl | rfl <;> exact of
  have jobs : x.moveDone.jobs = u.jobs := by simp [x, State.moveDone, State.dropCurrent]
  have bays : x.moveDone.bays = u.bays := by simp [x, State.moveDone, State.dropCurrent]
  obtain ⟨pending, conds⟩ := x.moveDone_signals
  obtain ⟨gone, counted, stops, block, conds', grows, event, done⟩ := State.pickFailed_spec (y := x.moveDone) (b := b)
    he job (by rw [State.job, jobs]; exact hj)
  dsimp only
  rw [runs]
  refine ⟨gone, ?_, fun changes => ?_, fun same => ?_, counted, done, stops.of_before bays, ?_, ?_, ?_⟩
  · refine State.spindle_withSpindle (a := x.moveDone.trans) ?_
    rw [block, freed, trans]
    cases i <;> rfl
  · obtain ⟨cond, raised⟩ := State.setSpindle_raises changes (by decide)
    refine ⟨(conds' _).trans ((conds _ (by decide)).trans cond), event.trans ?_⟩
    rw [pending]
    exact raised
  · rw [event, pending]
    simp only [x, State.setSpindle_same same]
  · unfold Transport.leaves at leaves ⊢
    rw [block, leaves, trans, waiting]
  · rw [block, freed]
    rfl
  · have kept := congrArg Transport.forcedReleases freed
    rw [block, kept]
    exact (congrArg Transport.forcedReleases trans).trans count

/-! ## The retries spent at PRN (R120, R146) -/

/-- The printer in FAULT, its move over and its clamp closed. -/
def State.trayFaulted (u : State) (p : Printer) : State :=
  ((u.setPrinter { p with trayMove := false, state := .fault, print := none, clampOpen := false }).reportPrinter).raise .printer

theorem State.trayMoveSpent_eq (hp : u.printer = some p) (n : Nat) : u.trayMoveSpent n =
    if (u.trayFaulted p).discPrintsFirst n then (u.trayFaulted p).tellTarget n else u.trayFaulted p := by
  rw [State.trayMoveSpent, hp]
  rfl

theorem State.signalsKept.tellTarget (h : s.signalsKept u) (n : Nat) : s.signalsKept (u.tellTarget n) := by
  unfold State.tellTarget
  split
  · exact .discWillNotCome h _ n false
  · exact h

theorem State.signalsKept.reportPrinter (h : s.signalsKept u) : s.signalsKept u.reportPrinter :=
  ((h.report (by decide) _).report (by decide) _).report (by decide) _

theorem State.tellTarget_status (u : State) (n : Nat) : (u.tellTarget n).status = u.status := by
  unfold State.tellTarget
  split
  · exact (u.discWillNotCome_stays _ n).2.2.2
  · rfl

theorem State.trayFaulted_keeps (u : State) (p : Printer) : u.changesOnly [.printer, .status] (u.trayFaulted p) := by
  rw [State.changesOnly_iff]
  simp [State.trayFaulted, State.setPrinter]

theorem State.trayFaulted_signals (u : State) (p : Printer) :
    (u.trayFaulted p).cond .printerFault = true ∧ (u.trayFaulted p).status.pending.getLsbD 12 = true :=
  State.reportPrinter_fault _ ((State.printerIs_iff _ .fault).2 ⟨_, rfl, rfl⟩)

theorem State.trayFaulted_kept (u : State) (p : Printer) : u.signalsKept (u.trayFaulted p) := by
  unfold State.trayFaulted
  exact .raise (.reportPrinter (.same (.refl u) (by rfl))) .printer

/-- The printer in FAULT, its signals, and the bay that awaits the print-first disc told. -/
theorem State.trayMoveSpent_spec (hp : u.printer = some p) (n : Nat) : let t := u.trayMoveSpent n
    t.printer = some { p with trayMove := false, state := .fault, print := none, clampOpen := false } ∧
      t.cond .printerFault = true ∧ t.status.pending.getLsbD 12 = true ∧ u.signalsKept t ∧ t.discs = u.discs ∧
      t.trans = u.trans ∧
      ∀ d j b, u.disc n = some d → u.jobOf d = some j → j.label.isSome = true → j.printOrder = some .printFirst → d.target = some b →
        u.stopsAwaiting t b n := by
  let v := u.trayFaulted p
  have only := u.trayFaulted_keeps p
  have printer : v.printer = some { p with trayMove := false, state := .fault, print := none, clampOpen := false } := by
    simp [v, State.trayFaulted, State.setPrinter]
  obtain ⟨cond, event⟩ := u.trayFaulted_signals p
  have kept : u.signalsKept v := u.trayFaulted_kept p
  have same : ∀ w, w = v ∨ w = v.tellTarget n → w.printer = v.printer ∧ w.status = v.status ∧ w.discs = v.discs ∧
      w.trans = v.trans := fun w is => by
    rcases is with rfl | rfl
    · exact ⟨rfl, rfl, rfl, rfl⟩
    · exact ⟨by simp, v.tellTarget_status n, by simp, by simp⟩
  have runs := State.trayMoveSpent_eq hp n
  obtain ⟨printer', status, discs, trans⟩ := same (u.trayMoveSpent n) (by rw [runs]; split <;> simp [v])
  refine ⟨printer'.trans printer, ?_, ?_, kept.same status, discs.trans (only .discs (by decide)),
    trans.trans (only .trans (by decide)), fun d j b hd hj label order target => ?_⟩
  · exact (State.cond_of_live (congrArg _ status) _).trans cond
  · rw [status]
    exact event
  · have disc : v.disc n = some d := (State.disc_of_discs (only .discs (by decide)) n).trans hd
    have jobs : v.jobs = u.jobs := only .jobs (by decide)
    have jobOf : v.jobOf d = some j := by
      have slots : v.job = u.job := funext fun k => by simp only [State.job, jobs]
      rw [State.jobOf, slots]
      exact hj
    have first : v.discPrintsFirst n = true := by
      simp only [State.discPrintsFirst, disc, Option.bind_some, jobOf]
      exact (Job.printsFirst_iff j).2 ⟨label, order⟩
    rw [runs, if_pos first]
    exact State.tellTarget_stops (only .bays (by decide)) disc target

theorem Disc.rejected_keeps (why : RejectReason) (d : Disc) :
    (d.rejected why).job = d.job ∧ (d.rejected why).target = d.target := by
  unfold Disc.rejected
  split <;> exact ⟨rfl, rfl⟩

/-- The release with the retries spent at PRN. -/
theorem State.forcedRelease_prn (h : u.granting older r younger) (source : u.trans.legSource r = .prn)
    (spent : u.settingNat 10 ≤ r.retries + 1) (hp : u.printer = some p) :
    u.spentAtPrn u.forcedRelease older r younger p := by
  have first : u.trans.secondOf r = none := Transport.secondOf_of_source (by simp [source])
  have disc : u.trans.legDisc r = r.disc := by rw [Transport.legDisc, first]
  let x := (u.gaveUpAll .prn).setReject r.disc .handling
  have runs : u.forcedRelease = x.trayMoveSpent r.disc := by
    rw [State.forcedRelease_spent h (by rw [Transport.released_again first]; exact spent), source, disc]
    rfl
  have clamp : x.printer = some { p with clampOpen := false } := by
    have gave : x.printer = (u.giveUpAt .prn).printer := by simp [x, State.gaveUpAll, State.letGo]
    exact gave.trans (State.giveUpAt_prn_printer hp)
  obtain ⟨printer, cond, event, kept, discs, trans, told⟩ := State.trayMoveSpent_spec clamp r.disc
  have trans : (x.trayMoveSpent r.disc).trans = (u.gaveUpAll .prn).trans := trans
  have handling : x.cond .handling = true := u.gaveUpAll_handling .prn
  rw [runs]
  refine ⟨State.gaveUpAll_spent (at_ := .prn) h (by rw [trans]) (by rw [trans]) (by rw [trans]) (by rw [trans])
    (kept.latched .handling (by decide) handling), printer, ⟨cond, event⟩, fun d hd => ?_⟩
  obtain ⟨e, he, is⟩ := State.gaveUpAll_disc hd .prn
  have stays : e.disposition = d.disposition ∧ e.job = d.job ∧ e.target = d.target := by
    rcases is with rfl | rfl <;> exact ⟨rfl, rfl, rfl⟩
  obtain ⟨disposition, job, target⟩ := stays
  obtain ⟨job', target'⟩ := Disc.rejected_keeps .handling e
  have rejected : x.disc r.disc = some (e.rejected .handling) := by
    rw [State.setReject_disc, he]
    rfl
  refine ⟨⟨_, (State.disc_of_discs discs _).trans rejected, by rw [Disc.rejected_disposition, disposition]⟩,
    fun j b hj label order awaits => ?_⟩
  have jobOf : x.jobOf (e.rejected .handling) = some j := by
    have slots : x.job = u.job := funext fun k => u.gaveUpAll_job .prn k
    rw [State.jobOf, job', job, slots]
    exact hj
  have bays : x.bays = u.bays := (u.gaveUpAll_bays .prn).trans (u.giveUpAt_prn_keeps .bays (by decide))
  exact (told _ j b rejected jobOf label order (by rw [target', target]; exact awaits)).of_before bays

/-! ## From the state before the release, and with the event's end -/

theorem State.spentRelease.of_before (h : u.spentRelease t older younger) (waiting : u.trans.waiting = s.trans.waiting)
    (count : u.trans.forcedReleases = s.trans.forcedReleases) : s.spentRelease t older younger := by
  obtain ⟨queue, arm, counted, handling⟩ := h
  rw [count] at counted
  unfold Transport.leaves at queue
  rw [waiting] at queue
  exact ⟨queue, arm, counted, handling⟩

theorem State.spentAtPrn.of_before (h : u.spentAtPrn t older r younger p) (waiting : u.trans.waiting = s.trans.waiting)
    (count : u.trans.forcedReleases = s.trans.forcedReleases) (discs : u.discs = s.discs) (jobs : u.jobs = s.jobs)
    (bays : u.bays = s.bays) : s.spentAtPrn t older r younger p := by
  obtain ⟨release, printer, signals, disc⟩ := h
  refine ⟨release.of_before waiting count, printer, signals, fun d hd => ?_⟩
  obtain ⟨rejected, told⟩ := disc d ((State.disc_of_discs discs _).trans hd)
  refine ⟨rejected, fun j b hj label order target => (told j b ?_ label order target).of_before bays⟩
  have slots : u.job = s.job := funext fun k => by simp only [State.job, jobs]
  rw [State.jobOf, slots]
  exact hj

theorem State.spentAtPrn.watched (h : s.spentAtPrn t older r younger p) (w : State) :
    s.spentAtPrn (w.watched t) older r younger p := by
  obtain ⟨⟨queue, arm, count, handling⟩, printer, signals, disc⟩ := h
  exact ⟨⟨queue, arm, count, handling⟩, printer, signals, disc⟩

end Sys2Proof.Machine
end

/-! # Proofs: ARRIVAL and the move timer (R116, R123, R129, R132, R146) -/

section

namespace Sys2Proof.Machine

variable {s t u : State} {r : MoveReq} {older younger : List MoveReq} {b : BayId} {i : SpindleId} {p : Printer}
  {step : HandStep}

/-! ## What an arrival runs (R116) -/

theorem execArrival_still (still : s.trans.moveTimer = none) (seen : Bool) : exec (.arrival seen) s = .next s := by
  have unfolded : exec (.arrival seen) s = execArrival seen s := rfl
  rw [unfolded, execArrival, still]
  exact congrArg _ s.watched_self

theorem execArrival_source (h : s.granting older r younger) (moves : s.trans.moveTimer ≠ none)
    (arm : s.trans.arm = .granted) (seen : Bool) :
    exec (.arrival seen) s = .next (s.watched (s.atSource r seen)) := by
  have unfolded : exec (.arrival seen) s = execArrival seen s := rfl
  have runs : s.trans.moveTimer.isNone = false := by simpa [Option.isSome_iff_ne_none] using moves
  rw [unfolded, execArrival, runs, arm, h.grant_eq]
  rfl

theorem execArrival_dest (h : s.granting older r younger) (moves : s.trans.moveTimer ≠ none)
    (arm : s.trans.arm = .carrying) (seen : Bool) :
    exec (.arrival seen) s = .next (s.watched (s.atDest r)) := by
  have unfolded : exec (.arrival seen) s = execArrival seen s := rfl
  have runs : s.trans.moveTimer.isNone = false := by simpa [Option.isSome_iff_ne_none] using moves
  rw [unfolded, execArrival, runs, arm, h.grant_eq]
  rfl

theorem execArrival_homing (moves : s.trans.moveTimer ≠ none) (arm : s.trans.arm = .homing .carry) (seen : Bool) :
    exec (.arrival seen) s = .next (s.watched (s.startAck .arrived)) := by
  have unfolded : exec (.arrival seen) s = execArrival seen s := rfl
  have runs : s.trans.moveTimer.isNone = false := by simpa [Option.isSome_iff_ne_none] using moves
  rw [unfolded, execArrival, runs, arm]
  rfl

/-! ## A hand-over begun is no trigger (R19) -/

theorem State.startAck_quiet (s : State) (step : HandStep) : s.quiet (s.startAck step) := State.undisturbed.quiet {
  wanted := rfl, stage := rfl, jobs := rfl, records := rfl, spindles := ⟨rfl, rfl⟩, queue := rfl, printer := rfl
  staging := rfl, emptied := fun _ => id }

theorem State.startAck_issue_quiet (s : State) (step : HandStep) (b : BayId) (req : DriveReq) :
    s.quiet ((s.startAck step).issue b req) := State.undisturbed.quiet {
  wanted := rfl, stage := rfl, jobs := rfl, records := rfl, spindles := ⟨rfl, rfl⟩, queue := rfl, printer := rfl
  staging := rfl
  emptied := State.emptied_of_states ((s.startAck step).modBay_states b fun _ => rfl) }

/-! ## At the source (R116, R123, R146) -/

theorem State.atSource_bay (source : s.trans.legSource r = .bay b) (seen : Bool) :
    s.atSource r seen = (s.startAck .arrived).issue b .trayOpen := by
  rw [State.atSource, source]

/-- A spindle that still holds discs. -/
theorem State.atSource_full (source : s.trans.legSource r = .spindle i) :
    s.atSource r true = (s.setEmptySensor i false).startAck .arrived := by
  rw [State.atSource, source]
  rfl

theorem State.atSource_empty (source : s.trans.legSource r = .spindle i) :
    s.atSource r false = (s.setEmptySensor i true).foundEmpty r i := by
  rw [State.atSource, source]
  rfl

theorem State.setEmptySensor_startAck_quiet (s : State) (i : SpindleId) (empty : Bool) (step : HandStep) :
    s.quiet ((s.setEmptySensor i empty).startAck step) := by
  cases i <;> exact State.undisturbed.quiet {
    wanted := rfl, stage := rfl, jobs := rfl, records := rfl, spindles := ⟨rfl, rfl⟩, queue := rfl, printer := rfl
    staging := rfl, emptied := fun _ => id }

/-- The tray sensor as the arrival at PRN finds it. -/
def State.traySeen (s : State) (seen : Bool) : State := { s with sensors := { s.sensors with tray := seen } }

theorem State.atSource_prn (source : s.trans.legSource r = .prn) (seen : Bool) : s.atSource r seen =
    if (s.traySeen seen).trayReleasable then ((s.traySeen seen).startAck .trayReady).setClamp true
    else (s.traySeen seen).forcedRelease := by
  rw [State.atSource, source]
  rfl

theorem State.trayReleasable_iff (hp : s.printer = some p) (seen : Bool) : (s.traySeen seen).trayReleasable = true ↔
    (p.state = .awaitRemove ∨ p.state = .fault) ∧ p.trayDisc ≠ none ∧ seen = true := by
  have same : (s.traySeen seen).printer = some p := hp
  have sensor : (s.traySeen seen).sensors.tray = seen := rfl
  simp [State.trayReleasable, same, sensor, and_assoc, Option.isSome_iff_ne_none]

/-- The printer opens its clamp: no trigger of R19. -/
theorem State.traySeen_quiet (hp : s.printer = some p) (seen : Bool) :
    s.quiet (((s.traySeen seen).startAck .trayReady).setClamp true) := by
  have clamp : (((s.traySeen seen).startAck .trayReady).setClamp true).printer = some { p with clampOpen := true } := by
    have same : ((s.traySeen seen).startAck .trayReady).printer = some p := hp
    rw [State.setClamp, same]
    rfl
  have bays : (((s.traySeen seen).startAck .trayReady).setClamp true).bays = s.bays := by
    simp [State.startAck, State.traySeen]
  have trans : (((s.traySeen seen).startAck .trayReady).setClamp true).trans =
      ((s.traySeen seen).startAck .trayReady).trans := by simp
  refine .of_armMoved (by simp [State.startAck, State.traySeen]) (by simp [State.startAck, State.traySeen])
    (by simp [State.startAck, State.traySeen]) (fun m => by rw [State.bay_of_bays bays]; exact id) (fun idle => ?_)
    (by rw [trans]; exact ⟨rfl, rfl⟩) (fun d hd => ⟨d, by simpa [State.startAck, State.traySeen] using hd, rfl⟩)
    fun q hq => ⟨q, by rw [trans]; exact hq, rfl, rfl⟩
  obtain ⟨x, hx, state⟩ := (State.printerIs_iff _ .idle).1 idle
  obtain rfl := Option.some.inj (clamp.symm.trans hx)
  exact (State.printerIs_iff _ .idle).2 ⟨p, hp, state⟩

/-- A release is forced with retries left: the arm, the tray sensor, the clamp and the signals. -/
theorem State.traySeen_free (h : s.granting older r younger) (source : s.trans.legSource r = .prn)
    (hp : s.printer = some p) (left : r.retries + 1 < s.settingNat 10) (seen : Bool) :
    let t := (s.traySeen seen).forcedRelease
    s.forcedFree t older r.again younger ∧ t.sensors = { s.sensors with tray := seen } ∧
      t.printer = some { p with clampOpen := false } ∧ s.changesOnly [.trans, .sensors, .printer, .status] t ∧
      s.quiet t := by
  have first : s.trans.secondOf r = none := Transport.secondOf_of_source (by simp [source])
  have at_ : (s.traySeen seen).trans.legSource r = .prn := source
  obtain ⟨free, only, quiet⟩ := State.forcedRelease_free (u := s.traySeen seen) (h.of_trans rfl) first left
  rw [at_] at only
  have both : (s.traySeen seen).changesOnly [.trans, .printer, .status] (s.traySeen seen).forcedRelease :=
    State.changesOnly.andThen ((s.traySeen seen).giveUpAt_prn_keeps.weaken (by decide)) (only.weaken (by decide))
  refine ⟨free.of_before rfl rfl, both .sensors (by decide), ?_, ?_, ?_⟩
  · exact (show _ = _ from only .printer (by decide)).trans (State.giveUpAt_prn_printer (s := s.traySeen seen) hp)
  · exact (State.changesOnly.of_sensors (s := s) (r := { s.sensors with tray := seen }) both).weaken (by decide)
  · exact ⟨quiet.stage, quiet.bays, quiet.jobs, quiet.runMode, quiet.records, quiet.spindles, quiet.printer,
      quiet.queue, quiet.images⟩

/-! ## At the destination (R116, R118, R132) -/

/-- A new hand-over at a bay. -/
theorem State.atDest_bay (dest : s.trans.legDest r = .bay b)
    (step : s.trans.handover = none ∨ s.trans.handover = some .arrived) :
    s.atDest r = (s.startAck .arrived).issue b .trayOpen := by
  have begins : s.trans.handover.getD .arrived = .arrived := by rcases step with step | step <;> rw [step] <;> rfl
  simp only [State.atDest, dest, begins]

/-- An interrupted one, whose disc is set on the tray. -/
theorem State.atDest_set (dest : s.trans.legDest r = .bay b) (step : s.trans.handover = some .discMoved) :
    s.atDest r = (s.startAck .discMoved).issue b .trayClose := by
  simp only [State.atDest, dest, step, Option.getD_some]

/-- Any other destination, or step, takes up the hand-over where it stands. -/
theorem State.atDest_goesOn (dest : ∀ b, s.trans.legDest r = .bay b →
      s.trans.handover.getD .arrived ≠ .arrived ∧ s.trans.handover.getD .arrived ≠ .discMoved) :
    s.atDest r = s.startAck (s.trans.handover.getD .arrived) := by
  unfold State.atDest
  cases leads : s.trans.legDest r with
  | bay b =>
    obtain ⟨notArrived, notMoved⟩ := dest b leads
    cases step : s.trans.handover.getD .arrived with
    | arrived => exact absurd step notArrived
    | discMoved => exact absurd step notMoved
    | _ => rfl
  | _ => rfl

/-- The acknowledgement timer of a hand-over taken up again: the step stays. -/
theorem State.startAck_resumed (step_ : s.trans.handover = some step) : s.startAck step = { s with
    trans := { s.trans with moveTimer := none, ackTimer := some (s.now + s.settingNat 8) } } := by
  unfold State.startAck State.modTrans
  simp only [← step_]
  rfl

end Sys2Proof.Machine
end

/-! # Proofs: arrivals and the move timer's expiry, case by case (R116, R123, R129, R132, R146) -/

section

namespace Sys2Proof.Machine

/-- Settles O52: at the source by what stands there, at the destination by the step, and the move timer by whether it runs. -/
theorem arrivalStartsTheHandOver : Obligations.ArrivalStartsTheHandOver := by
  refine ⟨fun s older younger r moves h => ?_, fun s seen moves arm => ?homing,
    fun s seen still => execArrival_still still seen, fun s moves none_ => ?expires, fun s still => ?still⟩
  case homing =>
    rw [execArrival_homing moves arm, (s.startAck_quiet .arrived).watched]
    rfl
  case expires =>
    have unfolded : exec .moveTimerExpiry s = execMoveTimerExpiry s := rfl
    obtain ⟨only, -⟩ := s.armFaultEntry_changesOnly .moveTimeout
    refine ⟨_, ?_, (s.armFaultEntry_spec .moveTimeout none_).watched s, (only.weaken (by decide)).marked (by decide) s⟩
    rw [unfolded, execMoveTimerExpiry, if_pos (Option.isSome_iff_ne_none.2 moves)]
  case still =>
    have unfolded : exec .moveTimerExpiry s = execMoveTimerExpiry s := rfl
    rw [unfolded, execMoveTimerExpiry, still]
    exact congrArg _ s.watched_self
  intro ack n
  refine ⟨fun b seen at_ => ?bay, fun i arm source => ?full, fun i b d k j arm source bay hd of hj => ?empty,
    fun p seen arm source hp => ?prn, fun seen arm => ⟨fun dest step => ?begins, fun step reached other => ?resumes⟩⟩
  case bay =>
    obtain ⟨arm, source⟩ | ⟨arm, dest, step⟩ := at_
    · rw [execArrival_source h moves arm, State.atSource_bay source, (s.startAck_issue_quiet _ b _).watched]
      rfl
    · rw [execArrival_dest h moves arm, State.atDest_bay dest step, (s.startAck_issue_quiet _ b _).watched]
      rfl
  case full =>
    rw [execArrival_source h moves arm, State.atSource_full source, (s.setEmptySensor_startAck_quiet i _ _).watched]
    cases i <;> rfl
  case empty =>
    let u := s.setEmptySensor i true
    have only : s.changesOnly [.sensors] u := by
      rw [State.changesOnly_iff]
      simp [u]
    have trans : u.trans = s.trans := only .trans (by decide)
    have status : u.status = s.status := only .status (by decide)
    have same : u.spindle i = s.spindle i := by cases i <;> rfl
    have runs := execArrival_source h moves arm false
    rw [State.atSource_empty source] at runs
    obtain ⟨gone, spindle, changes, stays, counted, done, stops, leaves, idle, count⟩ :=
      State.foundEmpty_spec (u := u) (i := i) (h.of_trans (by rw [trans])) (by rw [trans]; exact bay)
        (by rw [trans]; exact (State.disc_of_discs (only .discs (by decide)) n).trans hd) of
        (by rw [State.job, show u.jobs = s.jobs from only .jobs (by decide)]; exact hj)
    rw [trans] at gone stops leaves count
    rw [same] at changes stays
    rw [status] at stays
    rw [Job.uncount_settleCancel] at counted
    exact ⟨_, runs, gone, spindle, changes, stays, counted, done, stops.of_before (only .bays (by decide)), leaves, idle,
      count⟩
  case prn =>
    intro gives
    have runs := execArrival_source h moves arm seen
    rw [State.atSource_prn source] at runs
    have test : (s.traySeen seen).trayReleasable = true ↔ gives := State.trayReleasable_iff hp seen
    refine ⟨fun can => ?_, fun cannot left => ?_, fun cannot spent => ?_⟩
    · rw [runs, if_pos (test.2 can), (State.traySeen_quiet hp seen).watched, State.setClamp,
        show ((s.traySeen seen).startAck .trayReady).printer = some p from hp]
      rfl
    · obtain ⟨free, sensors, printer, only, quiet⟩ := State.traySeen_free h source hp left seen
      rw [if_neg fun can => cannot (test.1 can), quiet.watched] at runs
      exact ⟨_, runs, free, sensors, printer, only⟩
    · rw [if_neg fun can => cannot (test.1 can)] at runs
      have spends : s.spentAtPrn (s.traySeen seen).forcedRelease older r younger p :=
        (State.forcedRelease_prn (u := s.traySeen seen) (h.of_trans rfl) source spent hp).of_before rfl rfl rfl rfl rfl
      exact ⟨_, runs, spends.watched s, by simp [State.traySeen]⟩
  case begins =>
    have first : s.trans.handover.getD .arrived = .arrived := by rcases step with step | step <;> rw [step] <;> rfl
    have elsewhere : ∀ b, s.trans.legDest r ≠ .bay b := fun b is => by
      rw [is] at dest
      obtain is | ⟨k, is⟩ := dest <;> exact nomatch is
    rw [execArrival_dest h moves arm, State.atDest_goesOn fun b is => absurd is (elsewhere b), first,
      (s.startAck_quiet .arrived).watched]
    rfl
  case resumes =>
    have stands : s.trans.handover.getD .arrived = step := by rw [reached]; rfl
    refine ⟨fun b dest is => ?_, fun dest => ?_⟩
    · subst is
      rw [execArrival_dest h moves arm, State.atDest_set dest reached, (s.startAck_issue_quiet _ b _).watched,
        State.startAck_resumed reached]
      rfl
    · have goesOn : s.atDest r = s.startAck step := by
        rw [← stands]
        refine State.atDest_goesOn fun b is => ?_
        rw [stands]
        rw [is] at dest
        obtain is | ⟨c, -, notMoved⟩ | ⟨k, is⟩ := dest
        · exact nomatch is
        · exact ⟨other, notMoved⟩
        · exact nomatch is
      rw [execArrival_dest h moves arm, goesOn, (s.startAck_quiet step).watched, State.startAck_resumed reached]

end Sys2Proof.Machine
end

/-! # Proofs: an acknowledgement that does not come at the source (R22, R71, R119, R120, R146) -/

section

namespace Sys2Proof.Machine

variable {s t u : State} {r q : MoveReq} {older younger : List MoveReq} {b : BayId} {i : SpindleId} {p : Printer}
  {l : SecondLeg}

/-! ## What the expiry runs -/

theorem execAckTimerExpiry_still (still : s.trans.ackTimer = none) (held : Bool) :
    exec (.ackTimerExpiry held) s = .next s := by
  have unfolded : exec (.ackTimerExpiry held) s = execAckTimerExpiry held s := rfl
  rw [unfolded, execAckTimerExpiry, still]
  exact congrArg _ s.watched_self

theorem execAckTimerExpiry_source (h : s.granting older r younger) (running : s.trans.ackTimer ≠ none)
    (arm : s.trans.arm = .granted) (held : Bool) :
    exec (.ackTimerExpiry held) s = .next (s.watched s.ackOver.forcedRelease) := by
  have unfolded : exec (.ackTimerExpiry held) s = execAckTimerExpiry held s := rfl
  have runs : s.trans.ackTimer.isNone = false := by simpa [Option.isSome_iff_ne_none] using running
  have timer : (s.modTrans fun t => { t with ackTimer := none }) = s.ackOver := rfl
  have stands : s.ackOver.trans.arm = .granted := arm
  have grant : s.ackOver.trans.grant = some r := h.grant_eq
  rw [unfolded, execAckTimerExpiry, runs]
  simp only [Bool.false_eq_true, if_false, timer, stands, grant]

theorem execAckTimerExpiry_dest (h : s.granting older r younger) (running : s.trans.ackTimer ≠ none)
    (arm : s.trans.arm = .carrying) (held : Bool) :
    exec (.ackTimerExpiry held) s = .next (s.watched ((s.ackOver.setPick held).carryFailed r)) := by
  have unfolded : exec (.ackTimerExpiry held) s = execAckTimerExpiry held s := rfl
  have runs : s.trans.ackTimer.isNone = false := by simpa [Option.isSome_iff_ne_none] using running
  have timer : (s.modTrans fun t => { t with ackTimer := none }) = s.ackOver := rfl
  have stands : s.ackOver.trans.arm = .carrying := arm
  have grant : s.ackOver.trans.grant = some r := h.grant_eq
  rw [unfolded, execAckTimerExpiry, runs]
  simp only [Bool.false_eq_true, if_false, timer, stands, grant]

/-! ## Released with retries left (R119) -/

theorem Transport.legSource_first {a : Transport} (first : a.secondOf r = none) : a.legSource r = r.source := by
  rw [Transport.legSource, first]

/-- The release after the expiry, from the state before it. -/
theorem State.ackOver_free (h : s.granting older r younger) (first : s.trans.secondOf r = none)
    (left : r.retries + 1 < s.settingNat 10) : let t := s.ackOver.forcedRelease
    s.forcedFree t older r.again younger ∧ (s.ackOver.giveUpAt r.source).changesOnly [.trans, .status] t ∧ s.quiet t := by
  have source : s.ackOver.trans.legSource r = r.source := Transport.legSource_first (a := s.ackOver.trans) first
  obtain ⟨free, only, quiet⟩ := State.forcedRelease_free (u := s.ackOver) (h.of_trans rfl) first left
  rw [source] at only
  exact ⟨free.of_before rfl rfl, only, ⟨quiet.stage, quiet.bays, quiet.jobs, quiet.runMode, quiet.records, quiet.spindles,
    quiet.printer, quiet.queue, quiet.images⟩⟩

/-- A change after the expiry is one from the state before it, with the arm's block. -/
theorem State.changesOnly.of_ackOver {l : List Part} (h : s.ackOver.changesOnly l t) (trans : .trans ∈ l) :
    s.changesOnly l t := fun p hp => by
  have kept := h p hp
  cases p with
  | trans => exact absurd trans hp
  | _ => exact kept

/-- The bay at the source, and every other, after its hand-over is given up. -/
theorem State.giveUpAt_bay_spec (b : BayId) (bays : t.bays = (s.ackOver.giveUpAt (.bay b)).bays) :
    (∀ o, (s.bay b).out = some o → o.req = .trayOpen ∨ o.req = .trayClose →
      t.bay b = { s.bay b with out := none, susp := none }) ∧
    ((∀ o, (s.bay b).out = some o → ¬ (o.req = .trayOpen ∨ o.req = .trayClose)) → t.bay b = s.bay b) ∧
    (∀ m, m ≠ b → t.bay m = s.bay m) := by
  refine ⟨fun o out tray => ?_, fun none_ => ?_, fun m other => ?_⟩
  · rw [State.bay_of_bays bays, State.giveUpAt_bay_tray (s := s.ackOver) out tray]
    exact s.ackOver.portReset_bay b
  · rw [State.bay_of_bays bays, State.giveUpAt_bay_other (s := s.ackOver) none_]
    rfl
  · rw [State.bay_of_bays bays]
    rcases s.ackOver.giveUpAt_bay (.bay b) m with same | ⟨is, -⟩
    · exact same
    · exact absurd (Station.bay.inj is).symm other

/-! ## The retries spent (R120) -/

theorem Transport.released_retries (a : Transport) (r : MoveReq) : (a.released r).retries =
    match a.secondOf r with
    | none => r.retries + 1
    | some _ => 1 := by
  rw [Transport.released]
  cases a.secondOf r <;> rfl

/-- At a bay. -/
theorem State.forcedRelease_bay (h : u.granting older r younger) (source : u.trans.legSource r = .bay b)
    (spent : u.settingNat 10 ≤ r.retries + 1) :
    u.forcedRelease = ((u.giveUpAt (.bay b)).spentRecords r).bayFaultEntry b := by
  have first : u.trans.secondOf r = none := Transport.secondOf_of_source (by simp [source])
  have disc : u.trans.legDisc r = r.disc := by rw [Transport.legDisc, first]
  rw [State.forcedRelease_spent h (by rw [Transport.released_again first]; exact spent), source, disc,
    Transport.released_again first, State.retriesSpent_bay]
  rfl

theorem State.spentAtBay.of_before (h : u.spentAtBay t older r younger b) (waiting : u.trans.waiting = s.trans.waiting)
    (count : u.trans.forcedReleases = s.trans.forcedReleases) (discs : u.discs = s.discs) (jobs : u.jobs = s.jobs)
    (holds : (u.bay b).disc = (s.bay b).disc) : s.spentAtBay t older r younger b := by
  obtain ⟨release, bay, signals, disc, second⟩ := h
  rw [holds] at bay
  refine ⟨release.of_before waiting count, bay, signals, fun d hd distinct => ?_, fun m is => ?_⟩
  · exact disc d ((State.disc_of_discs discs _).trans hd) distinct
  · obtain ⟨gone, counts⟩ := second m is
    refine ⟨gone, fun x k j hx of hj => counts x k j ((State.disc_of_discs discs _).trans hx) of ?_⟩
    rw [State.job, jobs]
    exact hj

theorem State.ackOver_spentAtBay (h : s.granting older r younger) (source : s.trans.legSource r = .bay b)
    (spent : s.settingNat 10 ≤ r.retries + 1) : s.spentAtBay s.ackOver.forcedRelease older r younger b := by
  have only := s.ackOver.giveUpAt_kept (.bay b)
  have trans : (s.ackOver.giveUpAt (.bay b)).trans = s.ackOver.trans := only .trans (by decide)
  have holds : ((s.ackOver.giveUpAt (.bay b)).bay b).disc = (s.bay b).disc := by
    rcases s.ackOver.giveUpAt_bay (.bay b) b with same | ⟨-, reset⟩
    · rw [same]
      rfl
    · rw [reset]
      rfl
  rw [State.forcedRelease_bay (u := s.ackOver) (h.of_trans rfl) source spent]
  exact (State.bayFaultEntry_spent (h.of_trans (by rw [trans]; rfl))).of_before (by rw [trans]; rfl) (by rw [trans]; rfl)
    (only .discs (by decide)) (only .jobs (by decide)) holds

theorem State.spentRelease.watched (h : s.spentRelease t older younger) (w : State) :
    s.spentRelease (w.watched t) older younger := by
  obtain ⟨queue, arm, count, handling⟩ := h
  exact ⟨queue, arm, count, handling⟩

/-! ## A SWAP's second leg (R119) -/

/-- Released, it is queued as a LOAD with one retry. -/
theorem State.ackOver_load (h : s.granting older r younger) (leg : s.trans.leg = .second) (second : r.second = some l)
    (of : r.requester = .bay l.bay) (left : 1 < s.settingNat 10) : let t := s.ackOver.forcedRelease
    s.forcedFree t older { l.load with retries := 1 } younger ∧ s.changesOnly [.trans, .status] t := by
  have its : s.ackOver.trans.secondOf r = some l := by
    have same : s.ackOver.trans.leg = .second := leg
    rw [Transport.secondOf, same]
    exact second
  have released : s.ackOver.trans.released r = { l.load with retries := 1 } := by rw [Transport.released, its]
  have source : s.ackOver.trans.legSource r = .spindle l.spindle := by rw [Transport.legSource, its]
  have granting : s.ackOver.granting older r younger := h.of_trans rfl
  have free := State.forcedRelease_again granting (by rw [released, of]; rfl) (by rw [released]; exact left)
  have runs := State.forcedRelease_at granting
  rw [released] at free runs
  rw [source] at runs
  have fewer : ({ l.load with retries := 1 } : MoveReq).retries < s.ackOver.settingNat 10 := left
  rw [if_pos fewer] at runs
  refine ⟨free.of_before rfl rfl, State.changesOnly.of_ackOver ?_ (by decide)⟩
  rw [runs, State.changesOnly_iff]
  simp [State.letGo, State.giveUpAt]

end Sys2Proof.Machine
end

/-! # Proofs: an acknowledgement that does not come at the destination (R54, R121, R122) -/

section

namespace Sys2Proof.Machine

variable {s t u v x : State} {r q : MoveReq} {older younger : List MoveReq} {n : Nat} {d : Disc} {b : BayId}
  {at_ : Station} {p : Printer} {l : SecondLeg} {before after : List Disc}

/-! ## From the state before the expiry -/

theorem State.goesToReject.of_ackOver (h : u.goesToReject t older r younger) (trans : u.trans = s.ackOver.trans)
    (now : u.now = s.now) : s.goesToReject t older r younger := by
  unfold State.goesToReject at h ⊢
  rw [h, trans, now]
  rfl

theorem State.legEnds.of_ackOver (h : u.legEnds t older r younger) (trans : u.trans = s.ackOver.trans)
    (now : u.now = s.now) (settings : u.settings = s.settings) : s.legEnds t older r younger := by
  obtain ⟨last, held⟩ := h
  rw [trans] at last
  rw [trans, now, State.settingNat_of_settings settings] at held
  exact ⟨last, held⟩

theorem State.rejectsDisc.of_before {why : RejectReason} (h : u.rejectsDisc t n why) (discs : u.discs = s.discs) :
    s.rejectsDisc t n why := fun d hd => h d ((State.disc_of_discs discs n).trans hd)

/-- A bay whose port may have been reset awaits the disc as before. -/
theorem State.stopsAwaiting.of_port (h : u.stopsAwaiting t b n)
    (port : u.bay b = s.bay b ∨ u.bay b = { s.bay b with out := none, susp := none }) : s.stopsAwaiting t b n := by
  unfold State.stopsAwaiting at h ⊢
  rcases port with port | port <;> rw [port] at h <;> exact h

theorem State.failsAcceptance.of_port (h : u.failsAcceptance t b n)
    (port : u.bay b = s.bay b ∨ u.bay b = { s.bay b with out := none, susp := none })
    (settings : u.settings = s.settings) : s.failsAcceptance t b n := by
  unfold State.failsAcceptance at h ⊢
  rw [State.settingNat_of_settings settings] at h
  rcases port with port | port <;> rw [port] at h <;> exact h

theorem State.failsAcceptance.of_bays (h : s.failsAcceptance u b n) (bays : t.bays = u.bays) :
    s.failsAcceptance t b n := by
  unfold State.failsAcceptance at h ⊢
  rwa [State.bay_of_bays bays]

/-! ## The hand-over given up (R121 steps 1 and 2) -/

/-- The expiry at a destination, up to where the pick sensor decides. -/
def State.ackLost (s : State) (held : Bool) (at_ : Station) : State :=
  ((s.ackOver.setPick held).giveUpAt at_).latch .handling

theorem State.ackLost_keeps (s : State) (held : Bool) (at_ : Station) :
    (s.ackOver.setPick held).changesOnly [.bays, .printer, .status] (s.ackLost held at_) := by
  refine State.changesOnly.andThen (((s.ackOver.setPick held).giveUpAt_kept at_).weaken (by decide)) ?_
  rw [State.changesOnly_iff]
  simp [State.ackLost]

theorem State.ackLost_handling (s : State) (held : Bool) (at_ : Station) : (s.ackLost held at_).cond .handling = true := by
  rw [State.ackLost, State.latch_cond, if_pos rfl]

theorem State.ackLost_port (s : State) (held : Bool) (at_ : Station) (m : BayId) :
    (s.ackLost held at_).bay m = s.bay m ∨ (s.ackLost held at_).bay m = { s.bay m with out := none, susp := none } :=
  ((s.ackOver.setPick held).giveUpAt_bay at_ m).imp id And.right

theorem State.ackLost_reset {o : Outstanding} (held : Bool) (out : (s.bay b).out = some o)
    (tray : o.req = .trayOpen ∨ o.req = .trayClose) : ((s.ackLost held (.bay b)).bay b).out = none := by
  have reset : (s.ackLost held (.bay b)).bay b = ((s.ackOver.setPick held).portReset b).bay b := by
    rw [State.ackLost, State.giveUpAt_bay_tray (s := s.ackOver.setPick held) out tray]
    rfl
  rw [reset, State.portReset_bay]

theorem State.ackLost_printer (hp : s.printer = some p) (held : Bool) :
    (s.ackLost held .prn).printer = some { p with clampOpen := false } :=
  State.giveUpAt_prn_printer (s := s.ackOver.setPick held) hp

/-! ## What the expiry comes to (R121, R122) -/

theorem State.carryFailed_retake (step : u.trans.handover = some .retake) (pick : u.sensors.pick = false) :
    u.carryFailed r = u.retakeFailed r := by
  rw [State.carryFailed, if_pos step, if_neg (by simp [pick])]

theorem State.carryFailed_bin {k : BinId} (step : u.trans.handover ≠ some .retake) (dest : u.trans.legDest r = .bin k) :
    u.carryFailed r = u.dropFailure r k := by
  rw [State.carryFailed, if_neg step, dest]

theorem State.carryFailed_station (step : u.trans.handover ≠ some .retake)
    (dest : u.trans.legDest r = .prn ∨ ∃ b, u.trans.legDest r = .bay b) : u.carryFailed r = u.destFailure := by
  rw [State.carryFailed, if_neg step]
  obtain dest | ⟨b, dest⟩ := dest <;> rw [dest]

theorem State.destFailure_at (h : s.granting older r younger) (held : Bool) :
    (s.ackOver.setPick held).destFailure =
      if held then (s.ackLost held (s.trans.legDest r)).divert r else (s.ackLost held (s.trans.legDest r)).startAck .retake := by
  have grant : (s.ackOver.setPick held).trans.grant = some r := h.grant_eq
  have pick : (s.ackLost held (s.trans.legDest r)).sensors.pick = held :=
    congrArg Readings.pick (show _ = _ from s.ackLost_keeps held (s.trans.legDest r) .sensors (by decide))
  rw [State.destFailure, grant]
  change (if (s.ackLost held (s.trans.legDest r)).sensors.pick = true then _ else _) = _
  rw [pick]
  rfl

/-! ## A disc still held at a bay or PRN: on to REJECT (R121 steps 3 to 5) -/

/-- A bay's idle port stays idle when its disc goes on to REJECT. -/
theorem State.divert_port (dest : u.trans.legDest r = .bay b) (idle : (u.bay b).out = none) :
    ((u.divert r).bay b).out = none := by
  let y := (u.setReject (u.trans.legDisc r) .handling).setToOut (u.trans.legDisc r)
  have told : (u.divert r).bay b = (y.discWillNotCome b (u.trans.legDisc r) true).bay b := by
    refine (State.bay_of_bays (t := u.divert r)
      (s := y.tellAwaiting r (u.trans.legDest r) (u.trans.legDisc r) true) rfl b).trans ?_
    rw [dest]
    rfl
  rw [told]
  exact (State.discWillNotCome_port (u := y) (b := b) (n := u.trans.legDisc r) true idle).1

theorem State.ackLost_diverts (h : s.granting older r younger) :
    let t := (s.ackLost true (s.trans.legDest r)).divert r
    s.goesToReject t older r younger ∧ s.rejectsDisc t (s.trans.legDisc r) .handling ∧
      t.sensors = { s.sensors with pick := true } ∧ t.cond .handling = true ∧
      (∀ b, s.trans.legDest r = .bay b → s.failsAcceptance t b (s.trans.legDisc r)) ∧
      (∀ b o, s.trans.legDest r = .bay b → (s.bay b).out = some o → o.req = .trayOpen ∨ o.req = .trayClose →
        (t.bay b).out = none) ∧
      (∀ p, s.trans.legDest r = .prn → s.printer = some p → t.printer = some { p with clampOpen := false }) ∧
      (∀ b, s.trans.legDest r = .prn → r.kind = .printIn → r.requester = .bay b →
        s.stopsAwaiting t b (s.trans.legDisc r)) := by
  let x := s.ackLost true (s.trans.legDest r)
  have only := s.ackLost_keeps true (s.trans.legDest r)
  have trans : x.trans = s.ackOver.trans := only .trans (by decide)
  have leads : x.trans.legDest r = s.trans.legDest r := by
    rw [trans]
    rfl
  have own : x.trans.legDisc r = s.trans.legDisc r := by
    rw [trans]
    rfl
  have port := s.ackLost_port true (s.trans.legDest r)
  obtain ⟨goes, rejects, fails, stops⟩ := State.divert_spec (s := x) (h.of_trans (by rw [trans]; rfl))
  rw [own] at rejects fails stops
  rw [leads] at fails stops
  refine ⟨goes.of_ackOver trans (only .now (by decide)), rejects.of_before (only .discs (by decide)), ?_, ?_,
    fun b dest => (fails b dest).of_port (port b) (only .settings (by decide)), fun b o dest out tray => ?_,
    fun p dest hp => ?_, fun b dest kind of => (stops b dest kind of).of_port (port b)⟩
  · have kept : (x.divert r).sensors = x.sensors := by simp
    exact kept.trans (only .sensors (by decide))
  · exact ((State.signalsKept.refl x).divert r).latched .handling (by decide) (s.ackLost_handling true _)
  · refine State.divert_port (leads.trans dest) ?_
    simp only [dest]
    exact State.ackLost_reset true out tray
  · have kept : (x.divert r).printer = x.printer := by simp
    rw [kept]
    simp only [x, dest]
    exact State.ackLost_printer hp true

/-- One not held is retaken. -/
theorem State.ackLost_retakes (r : MoveReq) : let t := (s.ackLost false (s.trans.legDest r)).startAck .retake
    t.discs = s.discs ∧ t.cond .handling = true ∧ t.trans = { s.trans with
        moveTimer := none, handover := some .retake, ackTimer := some (s.now + s.settingNat 8) } ∧
      t.sensors = { s.sensors with pick := false } ∧
      (∀ b o, s.trans.legDest r = .bay b → (s.bay b).out = some o → o.req = .trayOpen ∨ o.req = .trayClose →
        (t.bay b).out = none) ∧
      (∀ p, s.trans.legDest r = .prn → s.printer = some p → t.printer = some { p with clampOpen := false }) := by
  let x := s.ackLost false (s.trans.legDest r)
  have only := s.ackLost_keeps false (s.trans.legDest r)
  have trans : x.trans = s.ackOver.trans := only .trans (by decide)
  have now : x.now = s.now := only .now (by decide)
  have settings : x.settings = s.settings := only .settings (by decide)
  have begins : (x.startAck .retake).trans = { x.trans with
      moveTimer := none, handover := some .retake, ackTimer := some (x.now + x.settingNat 8) } := rfl
  refine ⟨only .discs (by decide), s.ackLost_handling false _, ?_, only .sensors (by decide), fun b o dest out tray => ?_,
    fun p dest hp => ?_⟩
  · rw [begins, trans, now, State.settingNat_of_settings settings]
    rfl
  · have same : (x.startAck .retake).bay b = x.bay b := rfl
    rw [same]
    simp only [x, dest]
    exact State.ackLost_reset false out tray
  · have same : (x.startAck .retake).printer = x.printer := rfl
    rw [same]
    simp only [x, dest]
    exact State.ackLost_printer hp false

/-! ## A disc still held over OUT (R122) -/

theorem State.dropFailure_out (pick : u.sensors.pick = true) : u.dropFailure r .out =
    ((((u.latch .handling).setReject (u.trans.legDisc r) .handling).setToOut (u.trans.legDisc r))).toReject := by
  have same : (u.latch .handling).sensors.pick = true := pick
  simp only [State.dropFailure, same, if_true]

theorem State.ackOver_out (h : s.granting older r younger) :
    let t := (s.ackOver.setPick true).dropFailure r .out
    s.goesToReject t older r younger ∧ s.rejectsDisc t (s.trans.legDisc r) .handling ∧
      t.sensors = { s.sensors with pick := true } ∧ t.cond .handling = true := by
  let x := (s.ackOver.setPick true).latch .handling
  have runs : (s.ackOver.setPick true).dropFailure r .out =
      ((x.setReject (s.trans.legDisc r) .handling).setToOut (s.trans.legDisc r)).toReject := State.dropFailure_out rfl
  dsimp only
  rw [runs]
  refine ⟨?_, ?_, by simp [State.toReject, x, State.ackOver], ?_⟩
  · let y := (x.setReject (s.trans.legDisc r) .handling).setToOut (s.trans.legDisc r)
    exact (State.toReject_goes (u := y) (h.of_trans rfl)).of_ackOver rfl rfl
  · exact (State.setReject_setToOut_rejects x _ .handling).of_discs (by simp [State.toReject])
  · have same : ((x.setReject (s.trans.legDisc r) .handling).setToOut (s.trans.legDisc r)).toReject.status = x.status := rfl
    exact (State.cond_of_live (congrArg _ same) _).trans (by rw [State.latch_cond, if_pos rfl])

end Sys2Proof.Machine
end

/-! # Proofs: a disc lost, or stuck over REJECT (R7, R121, R122, R129) -/

section

namespace Sys2Proof.Machine

variable {s t u v x : State} {r q : MoveReq} {older younger : List MoveReq} {n : Nat} {d : Disc} {b : BayId}
  {l : SecondLeg} {before after : List Disc}

/-! ## Lost (R121) -/

/-- The disc is retired and its leg is over. -/
theorem State.lostLeg (h : s.granting older r younger) (trans : x.trans = s.ackOver.trans) (discs : x.discs = s.discs)
    (jobs : x.jobs = s.jobs) (now : x.now = s.now) (settings : x.settings = s.settings)
    (records : s.discs.records = before ++ d :: after) (others : ∀ e ∈ before ++ after, e.number ≠ d.number) :
    let t := (x.lostDisc d.number).legDone
    s.retires t before d after (d.disposition.rejectedWith .handling) ∧ s.legEnds t older r younger ∧
      t.sensors = x.sensors ∧ t.cond .handling = true ∧ t.bays = x.bays := by
  let v := x.lostDisc d.number
  obtain ⟨retires, left, handling⟩ := State.lostDisc_spec (s := x) (by rw [discs]; exact records) others
  have same : v.trans = x.trans := by simp [v]
  have waiting : x.trans.waiting = s.trans.waiting := by
    rw [trans]
    rfl
  refine ⟨(retires.endsLeg left (by rw [same])).of_before discs jobs waiting, ?_, by simp, ?_, by simp⟩
  · have granting : v.granting older r younger := h.of_trans (by rw [same, trans]; rfl)
    exact (State.legDone_ends granting).of_ackOver (same.trans trans) ((by simp [v] : v.now = x.now).trans now)
      ((by simp [v] : v.settings = x.settings).trans settings)
  · exact v.legDone_signals.2.trans handling

/-- Lost in a retake: the station is told first. -/
theorem State.ackOver_retakeFails (h : s.granting older r younger) (own : d.number = s.trans.legDisc r)
    (records : s.discs.records = before ++ d :: after) (others : ∀ e ∈ before ++ after, e.number ≠ s.trans.legDisc r) :
    let t := (s.ackOver.setPick false).retakeFailed r
    s.retires t before d after (d.disposition.rejectedWith .handling) ∧ s.legEnds t older r younger ∧
      t.sensors = { s.sensors with pick := false } ∧ t.cond .handling = true ∧
      (∀ b, s.trans.legDest r = .bay b → s.failsAcceptance t b (s.trans.legDisc r)) ∧
      (∀ b, s.trans.legDest r = .prn → r.kind = .printIn → r.requester = .bay b →
        s.stopsAwaiting t b (s.trans.legDisc r)) := by
  let u := s.ackOver.setPick false
  let x := u.tellAwaiting r (s.trans.legDest r) (s.trans.legDisc r) true
  have runs : u.retakeFailed r = (x.lostDisc d.number).legDone := by
    rw [own]
    rfl
  obtain ⟨retires, ends, sensors, handling, bays⟩ := State.lostLeg (x := x) h (by simp [x, u]) (by simp [x, u, State.ackOver])
    (by simp [x, u, State.ackOver]) (by simp [x, u, State.ackOver]) (by simp [x, u, State.ackOver]) records
    (by rw [own]; exact others)
  rw [← runs] at retires ends sensors handling bays
  refine ⟨retires, ends, sensors.trans (by simp [x, u, State.ackOver]), handling, fun b dest => ?_, fun b dest kind of => ?_⟩
  · refine State.failsAcceptance.of_bays ?_ bays
    simp only [x, State.tellAwaiting_bay _ dest]
    exact u.discWillNotCome_fails b _
  · refine State.stopsAwaiting.of_bays ?_ bays
    simp only [x, dest, State.tellAwaiting_prn kind of]
    exact u.discWillNotCome_stops b _

/-- Lost over a bin. -/
theorem State.ackOver_dropLost {k : BinId} (h : s.granting older r younger) (own : d.number = s.trans.legDisc r)
    (records : s.discs.records = before ++ d :: after) (others : ∀ e ∈ before ++ after, e.number ≠ s.trans.legDisc r) :
    let t := (s.ackOver.setPick false).dropFailure r k
    s.retires t before d after (d.disposition.rejectedWith .handling) ∧ s.legEnds t older r younger ∧
      t.sensors = { s.sensors with pick := false } ∧ t.cond .handling = true := by
  let x := (s.ackOver.setPick false).latch .handling
  have runs : (s.ackOver.setPick false).dropFailure r k = (x.lostDisc d.number).legDone := by
    rw [own]
    rfl
  obtain ⟨retires, ends, sensors, handling, -⟩ :=
    State.lostLeg (x := x) h rfl rfl rfl rfl rfl records (by rw [own]; exact others)
  dsimp only
  rw [runs]
  exact ⟨retires, ends, sensors, handling⟩

/-! ## Stuck over REJECT (R122) -/

/-- The posts that follow a SWAP's second leg: its LOAD leads to no bin, and the rest waited before. -/
theorem State.secondBecomesLoad_records (s : State) (second : Option SecondLeg) :
    ∃ joined : List Nat, (∀ n ∈ joined, ∃ q ∈ s.trans.waiting, q.disc = n ∧ q.dest.isBin = true) ∧
      (s.secondBecomesLoad second).discs = { s.discs with
        records := s.discs.records.map fun e => if e.number ∈ joined then { e with stage := .toOut } else e } := by
  cases second with
  | none => exact s.takeCurrent.postWaiting_records
  | some l =>
    obtain ⟨joined, named, discs⟩ := (s.takeCurrent.postMove l.load).postWaiting_records
    have posts : (s.takeCurrent.postMove l.load).discs = s.discs := by
      have notBin : ¬ (l.load.dest.isBin = true ∧ s.takeCurrent.hasMove l.load.requester = false) :=
        fun is => nomatch is.1
      rw [State.postMove, if_neg notBin]
      simp
    refine ⟨joined, fun m hm => ?_, by rw [← posts]; exact discs⟩
    obtain ⟨q, hq, disc, bin⟩ := named m hm
    refine ⟨q, ?_, disc, bin⟩
    rw [State.postMove_trans, State.joinQueue, State.modTrans_trans] at hq
    have waits : s.takeCurrent.trans.waiting = s.trans.waiting := rfl
    split at hq
    · rcases List.mem_append.1 hq with inWaiting | isLoad
      · exact waits ▸ inWaiting
      · rw [List.mem_singleton.1 isLoad] at bin
        exact nomatch bin
    · exact waits ▸ hq

/-- A fault of an arm that holds no grant leaves the posts that wait. -/
theorem State.armFaultEntry_waiting (why : FaultCause) (none_ : ∀ r ∈ u.trans.queue, r.granted = false) :
    (u.armFaultEntry why).trans.waiting = u.trans.waiting := by
  have same : u.giveUp.trans = u.trans := by simp
  have grant : u.giveUp.trans.grant = none := List.find?_eq_none.2 fun r hr => by
    rw [same] at hr
    simp [none_ r hr]
  rw [← same]
  unfold State.armFaultEntry
  simp only [grant, State.raise_frame, State.setArm_trans, State.modTrans_trans]
  split <;> rfl

theorem State.dropFailure_stuck (pick : u.sensors.pick = true) : u.dropFailure r .reject =
    (u.latch .handling).dropStuck (u.trans.restOf r) (u.trans.legDisc r) := by
  have same : (u.latch .handling).sensors.pick = true := pick
  simp only [State.dropFailure, same, if_true]
  rfl

/-- The disc is retired as lost, its request leaves the queue, and the arm stops in FAULT. -/
theorem State.ackOver_stuck (h : s.granting older r younger) (own : d.number = s.trans.legDisc r)
    (records : s.discs.records = before ++ d :: after) (others : ∀ e ∈ before ++ after, e.number ≠ s.trans.legDisc r)
    (free : ∀ q ∈ s.trans.waiting, q.granted = false) :
    let t := (s.ackOver.setPick true).dropFailure r .reject
    s.retires t before d after (d.disposition.rejectedWith .handling) ∧
      ((∀ l, s.trans.restOf r = some l → r.requester = .bay l.bay) →
        s.trans.leaves t.trans (older ++ younger ++ ((s.trans.restOf r).map SecondLeg.load).toList)) ∧
      t.trans.arm = .fault ∧ t.trans.faultCause = some .handling ∧ t.trans.moveTimer = none ∧
      t.trans.ackTimer = none ∧ t.trans.holdTimer = none ∧ t.sensors = { s.sensors with pick := true } ∧
      t.cond .handling = true ∧ t.cond .armFault = true ∧ t.status.pending.getLsbD 9 = true := by
  let x := (s.ackOver.setPick true).latch .handling
  let v := x.lostDisc d.number
  let w := v.secondBecomesLoad (s.trans.restOf r)
  let z := w.modTrans fun a => { a with handover := none, leg := .first }
  have runs : (s.ackOver.setPick true).dropFailure r .reject = z.armFaultEntry .handling := by
    rw [State.dropFailure_stuck rfl, State.dropStuck]
    simp only [z, w, v, own]
    rfl
  obtain ⟨retires, left, handling⟩ := State.lostDisc_spec (s := x) records (by rw [own]; exact others)
  have trans : v.trans = s.ackOver.trans := (by simp [v] : v.trans = x.trans)
  have granting : v.granting older r younger := h.of_trans (by rw [trans]; rfl)
  obtain ⟨joined, named, discs⟩ := v.secondBecomesLoad_records (s.trans.restOf r)
  have none_ : ∀ q ∈ z.trans.queue, q.granted = false :=
    State.secondBecomesLoad_released (s := v) (s.trans.restOf r) (by rw [trans]; exact free)
  obtain ⟨discs', jobs, sensors, kept, arm, cause, queue, move, ack, hold, cond, event⟩ :=
    State.armFaultEntry_idle (why := .handling) none_
  have waiting := State.armFaultEntry_waiting .handling none_
  have status : z.status = v.status := by simp [z, w]
  have grows : v.pendingGrows (z.armFaultEntry .handling) := fun e he => kept.events e (by rw [status]; exact he)
  have stands : x.retires (z.armFaultEntry .handling) before d after (d.disposition.rejectedWith .handling) :=
    retires.andThen left ⟨joined, by rw [trans] at named; exact named, discs'.trans discs⟩
      (jobs.trans (by simp [z, w, v])) grows
  dsimp only
  rw [runs]
  refine ⟨stands.of_before rfl rfl rfl, fun of => ?_, arm, cause, move, ack, hold, sensors.trans (by simp [z, w, v, x, State.ackOver]),
    kept.latched .handling (by decide) ((State.cond_of_live (congrArg _ status) _).trans handling), cond, event⟩
  obtain ⟨leaves, -⟩ := State.secondBecomesLoad_trans granting (s.trans.restOf r) of
  unfold Transport.leaves at leaves ⊢
  rw [trans] at leaves
  rw [queue, waiting]
  exact leaves

end Sys2Proof.Machine
end

/-! # Proofs: the acknowledgement timer's expiry, case by case (R119 to R122) -/

section

namespace Sys2Proof.Machine

/-- Settles O55: at the source by what stands there and the retries left, at the destination by what the pick sensor reads. -/
theorem acknowledgementTimeoutFailsTheHandOver : Obligations.AcknowledgementTimeoutFailsTheHandOver := by
  refine ⟨fun s older younger r d held h running => ?_, fun s held still => execAckTimerExpiry_still still held⟩
  intro n hd tray tries
  have own : d.number = n := eq_of_beq (List.find?_some (p := fun e : Disc => e.number == n) hd)
  refine ⟨fun arm first left => ?again, fun i b k j arm spent source free bay of hj => ?spindle,
    fun p arm spent source hp => ?prn, fun b arm spent source => ?bay, fun l arm leg second of left => ?load,
    fun arm notRetake => ⟨fun dest => ?held, fun dest => ?retake, fun before after dest records others posts => ?stuck⟩,
    fun before after arm at_ records others => ?lost⟩
  case again =>
    obtain ⟨released, only, quiet⟩ := State.ackOver_free h first left
    have runs := execAckTimerExpiry_source h running arm held
    rw [quiet.watched] at runs
    refine ⟨fun i source => ?_, fun b source => ?_, fun p source hp => ?_⟩
    · rw [source] at only
      exact ⟨_, runs, released, State.changesOnly.of_ackOver only (by decide)⟩
    · rw [source] at only
      obtain ⟨reset, stays, others⟩ := State.giveUpAt_bay_spec (s := s) b (only .bays (by decide))
      exact ⟨_, runs, released, reset, stays, others, State.changesOnly.of_ackOver
        (State.changesOnly.andThen ((s.ackOver.giveUpAt_bay_keeps b).weaken (by decide)) (only.weaken (by decide)))
        (by decide)⟩
    · rw [source] at only
      exact ⟨_, runs, released, (show _ = _ from only .printer (by decide)).trans (State.giveUpAt_prn_printer hp),
        State.changesOnly.of_ackOver
          (State.changesOnly.andThen (s.ackOver.giveUpAt_prn_keeps.weaken (by decide)) (only.weaken (by decide)))
          (by decide)⟩
  case spindle =>
    have all : s.ackOver.settingNat 10 ≤ (s.ackOver.trans.released r).retries := by
      rw [Transport.released_retries]
      exact spent
    obtain ⟨⟨queue, idle, count, handling⟩, jammed, cond, event, gone, stops, counts⟩ :=
      State.forcedRelease_spindle (u := s.ackOver) (b := b) (h.of_trans rfl) source all (by cases i <;> exact free) bay hd of hj
    exact ⟨_, execAckTimerExpiry_source h running arm held, ⟨queue, idle, count, handling⟩, jammed, cond, event, gone,
      stops, counts⟩
  case prn =>
    have spends : s.spentAtPrn s.ackOver.forcedRelease older r younger p :=
      (State.forcedRelease_prn (u := s.ackOver) (h.of_trans rfl) source spent hp).of_before rfl rfl rfl rfl rfl
    exact ⟨_, execAckTimerExpiry_source h running arm held, spends.watched s⟩
  case bay =>
    exact ⟨_, execAckTimerExpiry_source h running arm held, (State.ackOver_spentAtBay h source spent).watched s⟩
  case load =>
    obtain ⟨released, only⟩ := State.ackOver_load h leg second of left
    exact ⟨_, execAckTimerExpiry_source h running arm held, (only.weaken (by decide)).marked (by decide) s,
      released.watched s⟩
  case held =>
    have runs := execAckTimerExpiry_dest h running arm true
    by_cases out : s.trans.legDest r = .bin .out
    · obtain ⟨goes, rejects, sensors, handling⟩ := State.ackOver_out h
      rw [State.carryFailed_bin (u := s.ackOver.setPick true) notRetake out] at runs
      refine ⟨_, runs, goes, rejects, sensors, handling, fun b is => ?_, fun b o is => ?_, fun p is => ?_, fun b is => ?_⟩
      all_goals exact nomatch out.symm.trans is
    · have station := dest.imp_right fun rest => rest.resolve_right out
      rw [State.carryFailed_station (u := s.ackOver.setPick true) notRetake station, State.destFailure_at h] at runs
      exact ⟨_, runs, State.ackLost_diverts h⟩
  case retake =>
    have runs := execAckTimerExpiry_dest h running arm false
    rw [State.carryFailed_station (u := s.ackOver.setPick false) notRetake dest, State.destFailure_at h] at runs
    exact ⟨_, runs, State.ackLost_retakes r⟩
  case stuck =>
    have runs := execAckTimerExpiry_dest h running arm true
    rw [State.carryFailed_bin (u := s.ackOver.setPick true) notRetake dest] at runs
    obtain ⟨retires, leaves, fault⟩ := State.ackOver_stuck h own records others fun q hq => (posts q hq).1
    refine ⟨_, runs, retires.watched s, fun last => ?_, fun l leg second of => ?_, fault⟩
    · have rest : s.trans.restOf r = none := by
        unfold Transport.restOf
        rcases last with leg | none_
        · rw [leg]
        · rw [none_]
          cases s.trans.leg <;> rfl
      rw [rest] at leaves
      simpa using leaves fun _ is => nomatch is
    · have rest : s.trans.restOf r = some l := by rw [Transport.restOf, leg, second]
      rw [rest] at leaves
      exact leaves fun m is => Option.some.inj is ▸ of
  case lost =>
    have runs := execAckTimerExpiry_dest h running arm false
    by_cases step : s.trans.handover = some .retake
    · rw [State.carryFailed_retake (u := s.ackOver.setPick false) step rfl] at runs
      obtain ⟨retires, ends, sensors, handling, fails, stops⟩ := State.ackOver_retakeFails h own records others
      exact ⟨_, runs, retires.watched s, ends.of_trans rfl, sensors, handling, fails, stops⟩
    · obtain ⟨k, dest⟩ := at_.resolve_left step
      rw [State.carryFailed_bin (u := s.ackOver.setPick false) step dest] at runs
      obtain ⟨retires, ends, sensors, handling⟩ := State.ackOver_dropLost (k := k) h own records others
      exact ⟨_, runs, retires.watched s, ends.of_trans rfl, sensors, handling,
        (fun b is => nomatch dest.symm.trans is), fun b is => nomatch dest.symm.trans is⟩

end Sys2Proof.Machine
end

/-! # Proofs: label records, LABEL OPEN, LABEL DROP and LABEL QUERY (R135 to R137, R140, R141) -/

section

namespace Sys2Proof.Machine

variable {s : State} {label : Byte} {k : LabelId} {l : Label} {p : Printer} {why : Result}

/-! ## The checks that every label request makes (07 section 7.2) -/

theorem finOf_eq_some {n : Nat} {v : Byte} {i : Fin n} (h : v.toNat = i.val) : finOf n v = some i := by
  rw [finOf, dif_pos (h ▸ i.isLt)]
  exact congrArg some (Fin.ext h)

theorem State.labelCheck_busy (label : Byte) (early : s.settings.stage ≠ .ready) :
    s.labelCheck label = .error .busy :=
  if_pos (State.ready_of_stage_ne early)

theorem State.labelCheck_notFitted (label : Byte) (ready : s.settings.stage = .ready) (bare : s.printer = none) :
    s.labelCheck label = .error .notFitted := by
  rw [State.labelCheck, if_neg (by simp [State.ready_of_stage ready]), if_pos (by simp [bare])]

/-- At READY with a printer the id decides. -/
theorem State.labelCheck_fitted (label : Byte) (ready : s.settings.stage = .ready) (fitted : s.printer ≠ none) :
    s.labelCheck label = (finOf 8 label).elim (.error .badField) .ok := by
  rw [State.labelCheck, if_neg (by simp [State.ready_of_stage ready]), if_neg (by simpa using fitted)]
  cases finOf 8 label <;> rfl

theorem State.labelCheck_badField (ready : s.settings.stage = .ready) (fitted : s.printer ≠ none)
    (none_ : 8 ≤ label.toNat) : s.labelCheck label = .error .badField := by
  rw [State.labelCheck_fitted label ready fitted, finOf_eq_none none_]
  rfl

theorem State.labelCheck_ok (ready : s.settings.stage = .ready) (fitted : s.printer ≠ none)
    (id : finOf 8 label = some k) : s.labelCheck label = .ok k := by
  rw [State.labelCheck_fitted label ready fitted, id]
  rfl

/-! ## LABEL OPEN (R137) -/

theorem clamp_toNat {lo hi : Nat} (ordered : lo ≤ hi) (v : Nat) : (clamp lo hi v).toNat = max lo (min hi v) := by
  rw [clamp_eq (by omega)]
  omega

/-- The record with its three values clamped (R137). -/
theorem newLabel_eq (darkness : Int) (width lines : Nat) : newLabel darkness width lines =
    { width := max 8 (min 1440 width), lines := max 1 (min 1440 lines), darkness := max (-8) (min 8 darkness)
      state := .loading, nextBand := 0
      blocks := List.replicate (labelBlocksOf (max 8 (min 1440 width)) (max 1 (min 1440 lines))) [] } := by
  have width' : (clamp 8 1440 width).toNat = max 8 (min 1440 width) := clamp_toNat (by decide) width
  have lines' : (clamp 1 1440 lines).toNat = max 1 (min 1440 lines) := clamp_toNat (by decide) lines
  rw [newLabel, width', lines', clamp_eq (by decide)]

theorem execLabelOpen_refuses (darkness : Byte) (width lines : BitVec 16) (h : s.labelCheck label = .error why) :
    exec (.labelOpen label darkness width lines) s = .next (s.answer 0x40 why .none) := by
  simp only [exec, execLabelOpen, h]
  rfl

section

variable (darkness : Byte) (width lines : BitVec 16)

theorem execLabelOpen_present (h : s.labelCheck label = .ok k) (present : s.label k ≠ none) :
    exec (.labelOpen label darkness width lines) s = .next (s.answer 0x40 .state .none) := by
  simp only [exec, execLabelOpen, h, Option.isSome_iff_ne_none.2 present]
  rfl

/-- A free id, with the new record `l`: it is refused or takes its blocks. -/
theorem execLabelOpen_absent (h : s.labelCheck label = .ok k) (absent : s.label k = none)
    (new : newLabel darkness.toInt width.toNat lines.toNat = l) :
    exec (.labelOpen label darkness width lines) s = .next (if s.labels.freeBlocks < l.blocks.length
      then s.answer 0x40 .labelSpace (.labelSpace l.blocks.length s.labels.freeBlocks)
      else (s.openLabel k l).answer 0x40
        (if l.width = width.toNat ∧ l.lines = lines.toNat ∧ l.darkness = darkness.toInt then .ok else .clamped)
        (.labelOpened l.width l.lines l.darkness (lineBytes l.width) (bandCount l.lines) l.blocks.length
          (s.labels.freeBlocks - l.blocks.length))) := by
  simp only [exec, execLabelOpen, h, absent, new, Option.isSome_none, Bool.false_eq_true, if_false]
  split <;> rfl

end

/-! ## LABEL DROP (R140) -/

theorem State.labelDropCheck_error (h : s.labelCheck label = .error why) : s.labelDropCheck label = .error why := by
  simp only [State.labelDropCheck, h]

theorem State.labelDropCheck_slot (h : s.labelCheck label = .ok k) :
    s.labelDropCheck label = (s.label k).elim (.error .noSuch) fun l =>
      if s.anyLiveJob fun j => j.label == some k then .error .inUse else .ok (k, l) := by
  simp only [State.labelDropCheck, h]
  cases s.label k <;> rfl

theorem execLabelDrop_refuses (h : s.labelDropCheck label = .error why) :
    exec (.labelDrop label) s = .next (s.answer 0x42 why .none) := by
  simp only [exec, execLabelDrop, h]
  rfl

theorem execLabelDrop_drops (h : s.labelDropCheck label = .ok (k, l)) :
    exec (.labelDrop label) s = .next ((s.dropLabel k l).answer 0x42 .ok .none) := by
  simp only [exec, execLabelDrop, h]
  rfl

/-! ## LABEL QUERY (R141) -/

theorem execLabelQuery_bare (label : Byte) (bare : s.printer = none) :
    exec (.labelQuery label) s = .next (s.answer 0x43 .notFitted .none) := by
  simp only [exec, execLabelQuery, bare]
  rfl

theorem execLabelQuery_all (fitted : s.printer = some p) : exec (.labelQuery 255) s =
    .next (s.answer 0x43 .ok (.labels ((List.finRange 8).map fun k => (k, (s.label k).map (labelReport k)))
      (s.printerReport p))) := by
  simp only [exec, execLabelQuery, fitted, if_true]
  rfl

/-- One label: the id decides. -/
theorem execLabelQuery_one (fitted : s.printer = some p) (one : label ≠ 255) :
    exec (.labelQuery label) s = .next ((finOf 8 label).elim (s.answer 0x43 .badField .none) fun k =>
      s.answer 0x43 .ok (.labels [(k, (s.label k).map (labelReport k))] (s.printerReport p))) := by
  simp only [exec, execLabelQuery, fitted, if_neg one]
  cases finOf 8 label <;> rfl

theorem labelByte_ne_all (k : LabelId) : BitVec.ofNat 8 k.val ≠ 255 := by
  have small := k.isLt
  bv_omega

/-! ## The statement -/

/-- Settles O31: the layout's rows; the shared checks; then OPEN, DROP and QUERY of one id. -/
theorem labelsAreLaidOutOpenedDroppedAndQueried : Obligations.LabelsAreLaidOutOpenedDroppedAndQueried := by
  refine ⟨by decide +kernel, fun s label darkness width lines => ?checks, fun s k p fitted =>
    ⟨fun darkness width lines ready => ?opens, fun ready => ?drops, ?queries⟩⟩
  case checks =>
    intro opens refused
    have refuses {e : Result} (h : s.labelCheck label = .error e) : refused e :=
      ⟨execLabelOpen_refuses darkness width lines h, execLabelDrop_refuses (State.labelDropCheck_error h)⟩
    refine ⟨fun early => refuses (State.labelCheck_busy label early),
      fun ready bare => refuses (State.labelCheck_notFitted label ready bare),
      fun ready fitted none_ => refuses (State.labelCheck_badField ready fitted none_),
      execLabelQuery_bare label, fun fitted none_ one => ?_⟩
    obtain ⟨p, hp⟩ := Option.ne_none_iff_exists'.1 fitted
    rw [execLabelQuery_one hp one, finOf_eq_none none_]
    rfl
  case opens =>
    have check : s.labelCheck (BitVec.ofNat 8 k.val) = .ok k :=
      State.labelCheck_ok ready (by simp [fitted]) (finOf_ofNat k (by decide))
    intro c w l d need
    have new := newLabel_eq darkness.toInt width.toNat lines.toNat
    refine ⟨fun present => execLabelOpen_present darkness width lines check present, fun absent few => ?space,
      fun absent enough => ?takes⟩
    all_goals rw [execLabelOpen_absent darkness width lines check absent new, List.length_replicate]
    case space => rw [if_pos few]
    case takes =>
      rw [if_neg (Nat.not_lt.2 enough), State.openLabel, List.length_replicate]
      rfl
  case drops =>
    have check := State.labelDropCheck_slot
      (State.labelCheck_ok ready (by simp [fitted]) (finOf_ofNat k (by decide)))
    intro c named
    have named_iff : s.anyLiveJob (fun j => j.label == some k) = true ↔ named := by
      rw [State.anyLiveJob_iff]
      simp only [beq_iff_eq, named]
    refine ⟨fun absent => ?noSuch, fun present live => ?inUse, fun l present idle => ?returned⟩
    case noSuch => exact execLabelDrop_refuses (check.trans (by rw [absent]; rfl))
    case inUse =>
      obtain ⟨l, hl⟩ := Option.ne_none_iff_exists'.1 present
      exact execLabelDrop_refuses (check.trans (by rw [hl]; exact if_pos (named_iff.2 live)))
    case returned =>
      exact execLabelDrop_drops (check.trans (by rw [present]; exact if_neg (mt named_iff.1 idle)))
  case queries =>
    intro printer one
    refine ⟨?_, execLabelQuery_all fitted⟩
    rw [execLabelQuery_one fitted (labelByte_ne_all k), finOf_ofNat k (by decide)]
    rfl

end Sys2Proof.Machine
end

/-! # Proofs: LABEL DATA (R135, R138, R139) -/

section

namespace Sys2Proof.Machine

variable {s : State} {label band : Byte} {k : LabelId} {l : Label} {why : Result}

/-! ## A band cut into its blocks (R136, R139) -/

theorem storedBand_length (e : Nat) (data : List Byte) : (storedBand e data).length = e := by
  rw [storedBand, List.length_append, List.length_take, List.length_replicate]
  omega

theorem toBlocks_length (n : Nat) (d : List Byte) : (toBlocks n d).length = n := by
  induction n generalizing d with
  | zero => rfl
  | succ n ih => rw [toBlocks, List.length_cons, ih]

/-- The blocks hold the bytes in their order. -/
theorem toBlocks_flatten (n : Nat) (d : List Byte) : (toBlocks n d).flatten = d.take (n * 512) := by
  induction n generalizing d with
  | zero => simp [toBlocks]
  | succ n ih =>
    rw [toBlocks, List.flatten_cons, ih, Nat.succ_mul, Nat.add_comm, List.take_add]
    rfl

/-- A band's blocks have room for its bytes (R136). -/
theorem bandBytes_le_blocks (width lines i : Nat) : bandBytes width lines i ≤ bandBlocks width lines i * 512 := by
  have rounded : bandBlocks width lines i = (bandBytes width lines i + 512 - 1) / 512 := rfl
  omega

/-- The bands stand one after another in the block list (R135). -/
theorem blocksBefore_mono (width lines : Nat) : Monotone (blocksBefore width lines) :=
  monotone_nat_of_le_succ fun _ => Nat.le_add_right ..

/-! ## A band stored in the block list (R135, R139) -/

section

variable {blocks new : List (List Byte)} {at_ i n : Nat}

theorem placeBlocks_getElem? (x : Nat) : (placeBlocks blocks at_ new)[x]? =
    blocks[x]?.map fun old => if at_ ≤ x then new[x - at_]?.getD old else old :=
  List.getElem?_mapIdx

/-- The new blocks stand from their place on. -/
theorem placeBlocks_at (room : at_ + new.length ≤ blocks.length) :
    ((placeBlocks blocks at_ new).drop at_).take new.length = new := by
  refine List.ext_getElem? fun x => ?_
  rw [List.getElem?_take, List.getElem?_drop, placeBlocks_getElem?]
  split
  · next inside =>
    rw [List.getElem?_eq_getElem (by omega : at_ + x < blocks.length), Option.map_some, if_pos (by omega),
      Nat.add_sub_cancel_left, List.getElem?_eq_getElem inside, Option.getD_some]
  · next outside => rw [List.getElem?_eq_none (by omega)]

/-- Blocks before or behind those stored are as they were. -/
theorem placeBlocks_apart (apart : i + n ≤ at_ ∨ at_ + new.length ≤ i) :
    ((placeBlocks blocks at_ new).drop i).take n = (blocks.drop i).take n := by
  refine List.ext_getElem? fun x => ?_
  rw [List.getElem?_take, List.getElem?_take, List.getElem?_drop, List.getElem?_drop, placeBlocks_getElem?]
  split
  · next inside =>
    have kept (old : List Byte) : (if at_ ≤ i + x then new[i + x - at_]?.getD old else old) = old := by
      split
      · rw [List.getElem?_eq_none (by omega)]
        rfl
      · rfl
    simp only [kept, Option.map_id']
  · rfl

end

/-! ## The label's record after the next band (R139) -/

/-- The band that has been stored. -/
theorem Label.withBand_band (l : Label) (data : List Byte)
    (room : blocksBefore l.width l.lines (l.nextBand + 1) ≤ l.blocks.length) :
    (l.withBand data).band l.nextBand = storedBand (bandBytes l.width l.lines l.nextBand) data := by
  let stored := storedBand (bandBytes l.width l.lines l.nextBand) data
  let count := bandBlocks l.width l.lines l.nextBand
  have at_ := placeBlocks_at (blocks := l.blocks) (at_ := blocksBefore l.width l.lines l.nextBand)
    (new := toBlocks count stored) (by rw [toBlocks_length]; exact room)
  rw [toBlocks_length] at at_
  have length : stored.length = bandBytes l.width l.lines l.nextBand := storedBand_length _ _
  have fits : stored.length ≤ count * 512 := length ▸ bandBytes_le_blocks _ _ _
  calc (l.withBand data).band l.nextBand
      = (toBlocks count stored).flatten.take (bandBytes l.width l.lines l.nextBand) :=
        congrArg (fun b => (List.flatten b).take (bandBytes l.width l.lines l.nextBand)) at_
    _ = stored := by rw [toBlocks_flatten, List.take_of_length_le fits, ← length, List.take_length]

/-- Any other band is as it was. -/
theorem Label.withBand_band_ne (l : Label) (data : List Byte) {j : Nat} (other : j ≠ l.nextBand) :
    (l.withBand data).band j = l.band j := by
  refine congrArg (fun b => (List.flatten b).take (bandBytes l.width l.lines j)) (placeBlocks_apart ?_)
  rw [toBlocks_length]
  exact (Nat.lt_or_gt_of_ne other).imp
    (fun before => blocksBefore_mono l.width l.lines (show j + 1 ≤ l.nextBand from before))
    fun behind => blocksBefore_mono l.width l.lines (show l.nextBand + 1 ≤ j from behind)

/-- E, line by line (R136). -/
theorem bandBytes_eq {width lines i : Nat} : bandBytes width lines i =
    (width + 7) / 8 * (if lines < 64 * (i + 1) then lines - 64 * i else 64) := by
  have lines' : bandLinesOf lines i = if lines < 64 * (i + 1) then lines - 64 * i else 64 := by
    have least : bandLinesOf lines i = min 64 (lines - 64 * i) := rfl
    split <;> omega
  rw [bandBytes, lines']
  rfl

/-! ## The checks, in their order (R138) -/

theorem State.labelDataCheck_error (band : Byte) (h : s.labelCheck label = .error why) :
    s.labelDataCheck label band = .error why := by
  simp only [State.labelDataCheck, h]

theorem State.labelDataCheck_slot (band : Byte) (h : s.labelCheck label = .ok k) :
    s.labelDataCheck label band = (s.label k).elim (.error .noSuch) fun l =>
      if l.state ≠ .loading then .error .state
      else if band.toNat ≠ l.nextBand then .error .outOfOrder else .ok (k, l) := by
  simp only [State.labelDataCheck, h]
  cases s.label k <;> rfl

theorem execLabelData_refuses (data : List Byte) (h : s.labelDataCheck label band = .error why) :
    exec (.labelData label band data) s = .next (s.answer 0x41 why .none) := by
  simp only [exec, execLabelData, h]
  rfl

theorem execLabelData_stores (data : List Byte) (h : s.labelDataCheck label band = .ok (k, l)) :
    exec (.labelData label band data) s = .next ((s.setLabel k (some (l.withBand data))).answer 0x41
      (bandResult (bandBytes l.width l.lines l.nextBand) data.length)
      (.band (bandBytes l.width l.lines l.nextBand) data.length (l.nextBand + 1) (l.withBand data).state)) := by
  simp only [exec, execLabelData, h]
  rfl

/-! ## The statement -/

/-- Settles O32: the checks in their order, then the band that is stored and those that are not touched. -/
theorem labelDataStoresItsBand : Obligations.LabelDataStoresItsBand := by
  refine ⟨fun s label band data => ?checks, fun s k l data ready fitted present loading blocks more small => ?next⟩
  case checks =>
    intro c
    have refuses {e : Result} (h : s.labelCheck label = .error e) : exec c s = .next (s.answer 0x41 e .none) :=
      execLabelData_refuses data (State.labelDataCheck_error band h)
    refine ⟨fun early => refuses (State.labelCheck_busy label early),
      fun ready bare => refuses (State.labelCheck_notFitted label ready bare),
      fun ready fitted none_ => refuses (State.labelCheck_badField ready fitted none_),
      fun k ready fitted id => ?_⟩
    have check := State.labelDataCheck_slot band (State.labelCheck_ok ready fitted (finOf_eq_some id))
    refine ⟨fun absent => execLabelData_refuses data (check.trans (by rw [absent]; rfl)), fun l present full => ?_⟩
    exact execLabelData_refuses data (check.trans (by rw [present]; exact if_pos (by simp [full])))
  case next =>
    intro E
    have check (band : Byte) := State.labelDataCheck_slot band
      (State.labelCheck_ok ready (Option.isSome_iff_ne_none.1 fitted) (finOf_ofNat k (by decide)))
    simp only [present, Option.elim_some, loading, ne_eq, not_true_eq_false, if_false] at check
    have bytes : bandBytes l.width l.lines l.nextBand = E := bandBytes_eq
    have number : (BitVec.ofNat 8 l.nextBand).toNat = l.nextBand := Nat.mod_eq_of_lt small
    have room : blocksBefore l.width l.lines (l.nextBand + 1) ≤ l.blocks.length :=
      blocks ▸ blocksBefore_mono l.width l.lines (show l.nextBand + 1 ≤ (l.lines + 63) / 64 from more)
    have stores := execLabelData_stores data ((check _).trans (if_neg (not_not.2 number)))
    rw [bytes] at stores
    refine ⟨⟨l.withBand data, stores, bytes ▸ l.withBand_band data room, fun j => l.withBand_band_ne data, rfl, rfl,
      rfl, rfl, rfl, l.withBand_blocks data⟩, fun band other => ?_⟩
    exact execLabelData_refuses data ((check band).trans (if_pos other))

end Sys2Proof.Machine
end

/-! # Proofs: the printer's sensors, its faults, COOLING, and PRINTER RESUME (R144, R147, R148) -/

section

namespace Sys2Proof.Machine

variable {s t u : State} {p : Printer} {r : Readings} {c : Instr} {n : Nat} {d : Disc} {v : Int}

/-! ## The sensors (R144, R147) -/

theorem headTemp_of_range (low : -10 ≤ r.headReading) (high : r.headReading ≤ 100) :
    headTemp r = some r.headReading :=
  if_pos ⟨low, high⟩

theorem headTemp_of_bad (bad : r.headReading < -10 ∨ 100 < r.headReading) : headTemp r = none :=
  if_neg fun inRange => bad.elim (not_lt.2 inRange.1) (not_lt.2 inRange.2)

theorem headIsHot_iff (r : Readings) :
    headIsHot r = true ↔ -10 ≤ r.headReading ∧ r.headReading ≤ 100 ∧ 65 ≤ r.headReading := by
  by_cases inRange : -10 ≤ r.headReading ∧ r.headReading ≤ 100
  · rw [headIsHot, headTemp_of_range inRange.1 inRange.2]
    exact decide_eq_true_iff.trans ⟨fun hot => ⟨inRange.1, inRange.2, hot⟩, fun hot => hot.2.2⟩
  · rw [headIsHot, headTemp_of_bad (by omega)]
    simp only [Bool.false_eq_true, false_iff]
    exact fun hot => inRange ⟨hot.1, hot.2.1⟩

theorem printerBad_false_iff (r : Readings) : printerBad r = false ↔ r.ribbonOut = false ∧ headTemp r ≠ none := by
  rw [printerBad, Bool.or_eq_false_iff, Option.isNone_eq_false_iff, Option.isSome_iff_ne_none]

/-! ## The printer's conditions (R144, R147) -/

theorem State.reportPrinter_keeps (u : State) : u.changesOnly [.status] u.reportPrinter := by
  rw [State.changesOnly_iff]
  simp

theorem State.reportPrinter_printerFault (u : State) : u.reportPrinter.cond .printerFault = u.printerIs .fault := by
  simp [State.reportPrinter]

theorem State.reportPrinter_ribbonLow (u : State) :
    u.reportPrinter.cond .ribbonLow = (u.printer.isSome && u.sensors.ribbonLow) := by
  simp [State.reportPrinter]

/-- HEAD_HOT of a fitted printer (R144). -/
theorem State.reportPrinter_headHot (fitted : u.printer = some p) : u.reportPrinter.cond .headHot = true ↔
    -10 ≤ u.sensors.headReading ∧ u.sensors.headReading ≤ 100 ∧ 65 ≤ u.sensors.headReading := by
  have reported : u.reportPrinter.cond .headHot = (u.printer.isSome && headIsHot u.sensors) := by
    simp [State.reportPrinter]
  rw [reported, fitted, Option.isSome_some, Bool.true_and, headIsHot_iff]

/-- No trigger lies in a change of sensors, status and printer by which the printer does not become IDLE (R19). -/
theorem State.quiet.of_printer (only : s.changesOnly [.sensors, .printer, .status] t)
    (idle : t.printerIs .idle = true → s.printerIs .idle = true) : s.quiet t := by
  have trans : t.trans = s.trans := only .trans (by decide)
  have discs : t.discs = s.discs := only .discs (by decide)
  exact .of_armMoved (only .settings (by decide)) (only .jobs (by decide)) (only .staging (by decide))
    (fun b => by rw [State.bay_of_bays (only .bays (by decide))]; exact id) idle (by rw [trans]; exact ⟨rfl, rfl⟩)
    (fun d hd => ⟨d, discs ▸ hd, rfl⟩) (fun q hq => ⟨q, trans ▸ hq, rfl, rfl⟩)

/-- The printer itself stands. -/
theorem State.quiet.of_sensors (only : s.changesOnly [.sensors, .status] t) : s.quiet t :=
  .of_printer (only.weaken (by decide)) fun idle => by
    rwa [State.printerIs, show t.printer = s.printer from only .printer (by decide)] at idle

theorem State.quiet.of_busyPrinter (only : s.changesOnly [.sensors, .printer, .status] t)
    (is : t.printer = some p) (busy : p.state ≠ .idle) : s.quiet t :=
  .of_printer only fun idle => by
    obtain ⟨q, hq, state⟩ := (State.printerIs_iff _ .idle).1 idle
    exact absurd (Option.some.inj (is.symm.trans hq) ▸ state) busy

/-- New readings of the sensors. -/
def State.withReadings (s : State) (r : Readings) : State := { s with sensors := r }

theorem State.withReadings_keeps (s : State) (r : Readings) : s.changesOnly [.sensors, .status] (s.withReadings r) :=
  .of_sensors (r := r) fun q _ => by cases q <;> rfl

/-- New readings, and the printer's conditions reported by them. -/
theorem State.readingsReported_keeps (s : State) (r : Readings) :
    s.changesOnly [.sensors, .status] (s.withReadings r).reportPrinter :=
  .of_sensors (s.withReadings r).reportPrinter_keeps

theorem State.setPrinter_keeps (u : State) (p : Printer) :
    u.changesOnly [.sensors, .printer, .status] (u.setPrinter p) := by
  rw [State.changesOnly_iff]
  simp [State.setPrinter]

/-! ## A sensor event (R144, R147) -/

theorem exec_headTemperatureReading (v : Int) (s : State) : exec (.headTemperatureReading v) s =
    .next (s.watched (s.withReadings { s.sensors with headReading := v }).readingTaken) := rfl

theorem exec_ribbonSensorChange (out : Bool) (fitted : s.printer = some p) :
    let u := s.withReadings { s.sensors with ribbonOut := out }
    exec (.ribbonSensorChange out) s = .next (s.watched (if printerBad u.sensors then u.printerFaultEntry p else u)) := by
  intro u
  simp only [exec, execRibbonSensorChange]
  split
  · next bare => exact nomatch fitted.symm.trans bare
  · next q hq =>
    obtain rfl := Option.some.inj (fitted.symm.trans hq)
    rfl

/-- Without a printer the sensor changes alone. -/
theorem exec_ribbonSensorChange_bare (out : Bool) (bare : s.printer = none) :
    exec (.ribbonSensorChange out) s = .next (s.withReadings { s.sensors with ribbonOut := out }) := by
  simp only [exec, execRibbonSensorChange]
  split
  · rfl
  · next q hq => exact nomatch bare.symm.trans hq

/-- The ribbon is back, with the head's sensor good: no state changes (R147). -/
theorem exec_ribbonBack (head : headTemp s.sensors ≠ none) :
    exec (.ribbonSensorChange false) s = .next (s.withReadings { s.sensors with ribbonOut := false }) := by
  cases fitted : s.printer with
  | none => exact exec_ribbonSensorChange_bare false fitted
  | some p =>
    have good : printerBad (s.withReadings { s.sensors with ribbonOut := false }).sensors = false :=
      (printerBad_false_iff _).2 ⟨rfl, head⟩
    refine (exec_ribbonSensorChange false fitted).trans ?_
    rw [if_neg (Bool.eq_false_iff.1 good), (State.quiet.of_sensors (s.withReadings_keeps _)).watched]

theorem State.readingTaken_bad (fitted : u.printer = some p) (bad : printerBad u.sensors = true) :
    u.readingTaken = u.reportPrinter.printerFaultEntry p := by
  have same : u.reportPrinter.printer = some p := by simp [fitted]
  have sensors : u.reportPrinter.sensors = u.sensors := by simp
  simp only [State.readingTaken, same, sensors, bad, if_true]

/-- A good reading above 60, or outside COOLING. -/
theorem State.readingTaken_stands (fitted : u.printer = some p) (good : printerBad u.sensors = false)
    (stands : p.state ≠ .cooling ∨ 60 < u.sensors.headReading) : u.readingTaken = u.reportPrinter := by
  have same : u.reportPrinter.printer = some p := by simp [fitted]
  have sensors : u.reportPrinter.sensors = u.sensors := by simp
  have reading := headTemp_eq ((printerBad_false_iff _).1 good).2
  simp only [State.readingTaken, same, sensors, good, Bool.false_eq_true, if_false]
  split
  · next cooling print temp =>
    obtain rfl := Option.some.inj (reading.symm.trans temp)
    exact if_neg (not_le.2 (stands.resolve_left (not_not.2 cooling)))
  · rfl

/-- A good reading of 60 or below in COOLING: the band starts, with no head check (R144). -/
theorem State.readingTaken_cools {x : Print} (fitted : u.printer = some p) (good : printerBad u.sensors = false)
    (cooling : p.state = .cooling) (print : p.print = some x) (cool : u.sensors.headReading ≤ 60) :
    u.readingTaken = u.reportPrinter.bandStart p x false := by
  have same : u.reportPrinter.printer = some p := by simp [fitted]
  have sensors : u.reportPrinter.sensors = u.sensors := by simp
  have reading := headTemp_eq ((printerBad_false_iff _).1 good).2
  simp only [State.readingTaken, same, sensors, good, Bool.false_eq_true, if_false, cooling, print, reading]
  exact if_pos cool

/-- A band start without head check (R143, R150). -/
theorem State.bandStart_unchecked {x : Print} {l : Label} (reading : headTemp u.sensors = some v)
    (label : u.label x.label = some l) : u.bandStart p x false = u.setPrinter { p with
      state := .printing
      print := some { x with
        line := 0
        period := some (128 * u.settingNat 12)
        onTime := some (onTime (u.settingNat 12) (u.setting 13) l.darkness v) } } := by
  simp only [State.bandStart, State.headStops, Bool.false_and, Bool.false_eq_true, if_false, label, reading]
  rfl

/-- A reading in the head's range, outside COOLING or above 60: the conditions are reported. -/
theorem exec_headReading_stands (fitted : s.printer = some p) (ribbon : s.sensors.ribbonOut = false) (low : -10 ≤ v)
    (high : v ≤ 100) (stands : p.state ≠ .cooling ∨ 60 < v) : exec (.headTemperatureReading v) s =
      .next (s.withReadings { s.sensors with headReading := v }).reportPrinter := by
  let u := s.withReadings { s.sensors with headReading := v }
  have good : printerBad u.sensors = false :=
    (printerBad_false_iff _).2 ⟨ribbon, by rw [headTemp_of_range (r := u.sensors) low high]; simp⟩
  rw [exec_headTemperatureReading, State.readingTaken_stands (u := u) fitted good stands,
    (State.quiet.of_sensors (s.readingsReported_keeps _)).watched]

/-- A reading that ends COOLING: the band starts at the reading's temperature (R144). -/
theorem exec_headReading_cools {x : Print} {l : Label} (fitted : s.printer = some p)
    (ribbon : s.sensors.ribbonOut = false) (low : -10 ≤ v) (cool : v ≤ 60) (cooling : p.state = .cooling)
    (print : p.print = some x) (label : s.label x.label = some l) :
    let t := (s.withReadings { s.sensors with headReading := v }).reportPrinter.setPrinter { p with
      state := .printing
      print := some { x with
        line := 0
        period := some (128 * s.settingNat 12)
        onTime := some (onTime (s.settingNat 12) (s.setting 13) l.darkness v) } }
    exec (.headTemperatureReading v) s = .next t ∧ s.changesOnly [.sensors, .printer, .status] t := by
  let u := s.withReadings { s.sensors with headReading := v }
  have high : v ≤ 100 := by omega
  have reading : headTemp u.sensors = some v := headTemp_of_range (r := u.sensors) low high
  have good : printerBad u.sensors = false := (printerBad_false_iff _).2 ⟨ribbon, by rw [reading]; simp⟩
  have runs := exec_headTemperatureReading v s
  rw [State.readingTaken_cools (u := u) fitted good cooling print cool,
    State.bandStart_unchecked (u := u.reportPrinter) (l := l) reading label] at runs
  have only (q : Printer) : s.changesOnly [.sensors, .printer, .status] (u.reportPrinter.setPrinter q) :=
    ((s.readingsReported_keeps _).weaken (by decide)).andThen (u.reportPrinter.setPrinter_keeps q)
  rw [(State.quiet.of_busyPrinter (only _) rfl (by simp)).watched] at runs
  exact ⟨runs, only _⟩

/-! ## A sensor that reads bad (R147) -/

/-- A command by which the ribbon's or the head's sensor reads bad, and the readings after it. -/
def State.readsBad (s : State) (c : Instr) (r : Readings) : Prop :=
  (c = .ribbonSensorChange true ∧ r = { s.sensors with ribbonOut := true }) ∨
    ∃ v, (v < -10 ∨ 100 < v) ∧ c = .headTemperatureReading v ∧ r = { s.sensors with headReading := v }

/-- The head's reading is bad, unless it is the ribbon that reads out. -/
theorem State.readsBad.head (bad : s.readsBad c r) (head : c ≠ .ribbonSensorChange true) :
    (r.headReading < -10 ∨ 100 < r.headReading) ∧ printerBad r = true ∧
      exec c s = .next (s.watched (s.withReadings r).readingTaken) := by
  obtain ⟨is, -⟩ | ⟨v, beyond, rfl, rfl⟩ := bad
  · exact absurd is head
  · refine ⟨beyond, ?_, exec_headTemperatureReading v s⟩
    rw [printerBad, headTemp_of_bad beyond, Option.isNone_none, Bool.or_true]

theorem exec_ribbonOut (fitted : s.printer = some p) : exec (.ribbonSensorChange true) s =
    .next (s.watched ((s.withReadings { s.sensors with ribbonOut := true }).printerFaultEntry p)) :=
  exec_ribbonSensorChange true fitted

/-- The printer takes the fault once the readings are new, and reported when it is the head's. -/
theorem State.readsBad.runs (bad : s.readsBad c r) (fitted : s.printer = some p) :
    ∃ u, exec c s = .next (s.watched (u.printerFaultEntry p)) ∧ u.sensors = r ∧
      s.changesOnly [.sensors, .status] u := by
  by_cases ribbon : c = .ribbonSensorChange true
  · obtain ⟨-, rfl⟩ | ⟨v, -, is, -⟩ := bad
    · subst ribbon
      exact ⟨_, exec_ribbonOut fitted, rfl, s.withReadings_keeps _⟩
    · exact nomatch ribbon.symm.trans is
  · obtain ⟨-, isBad, runs⟩ := bad.head ribbon
    rw [State.readingTaken_bad (u := s.withReadings r) fitted isBad] at runs
    exact ⟨_, runs, by simp [State.withReadings], s.readingsReported_keeps r⟩

/-- In FAULT nothing more is taken (R147). -/
theorem State.printerFaultEntry_fault (u : State) (fault : p.state = .fault) : u.printerFaultEntry p = u := by
  simp only [State.printerFaultEntry, fault]

/-- The ribbon runs out in FAULT: the sensor alone. -/
theorem State.readsBad.ribbonInFault (bad : s.readsBad c r) (fitted : s.printer = some p) (fault : p.state = .fault)
    (ribbon : c = .ribbonSensorChange true) : exec c s = .next (s.withReadings r) := by
  obtain ⟨-, rfl⟩ | ⟨v, -, is, -⟩ := bad
  · rw [ribbon, exec_ribbonOut fitted, State.printerFaultEntry_fault _ fault,
      (State.quiet.of_sensors (s.withReadings_keeps _)).watched]
  · exact nomatch ribbon.symm.trans is

/-- A bad reading of the head in FAULT: the conditions are reported again. -/
theorem State.readsBad.headInFault (bad : s.readsBad c r) (fitted : s.printer = some p) (fault : p.state = .fault)
    (head : c ≠ .ribbonSensorChange true) : exec c s = .next (s.withReadings r).reportPrinter ∧
      (s.withReadings r).reportPrinter.cond .printerFault = true ∧
      (s.withReadings r).reportPrinter.cond .headHot = false := by
  obtain ⟨beyond, isBad, runs⟩ := bad.head head
  rw [State.readingTaken_bad (u := s.withReadings r) fitted isBad, State.printerFaultEntry_fault _ fault,
    (State.quiet.of_sensors (s.readingsReported_keeps r)).watched] at runs
  refine ⟨runs, ?_, ?_⟩
  · rw [(s.withReadings r).reportPrinter_printerFault]
    exact (State.printerIs_iff _ .fault).2 ⟨p, fitted, fault⟩
  · rw [← Bool.not_eq_true, State.reportPrinter_headHot (u := s.withReadings r) fitted]
    exact fun hot => beyond.elim (not_lt.2 hot.1) (not_lt.2 hot.2.1)

/-- What a fault raises: PRINTER_FAULT and PRINTER, and HEAD_HOT by the reading. -/
theorem State.faultRaised_signals (is : u.printer = some p) (fault : p.state = .fault) :
    let t := u.reportPrinter.raise .printer
    t.cond .printerFault = true ∧ t.status.pending.getLsbD 12 = true ∧ (t.cond .headHot = true ↔
      -10 ≤ u.sensors.headReading ∧ u.sensors.headReading ≤ 100 ∧ 65 ≤ u.sensors.headReading) := by
  obtain ⟨cond, event⟩ := State.reportPrinter_fault u ((State.printerIs_iff _ .fault).2 ⟨p, is, fault⟩)
  exact ⟨cond, event, State.reportPrinter_headHot is⟩

theorem State.printerFaultEntry_atRest (u : State) (rests : p.state = .idle ∨ p.state = .awaitRemove) :
    u.printerFaultEntry p = (u.setPrinter { p with state := .fault }).reportPrinter.raise .printer := by
  rcases rests with state | state <;> simp only [State.printerFaultEntry, state]

theorem State.printerFaultEntry_print (u : State) (prints : p.state = .printing ∨ p.state = .cooling)
    (tray : p.trayDisc = some n) : u.printerFaultEntry p = (u.printSpoiled p n).reportPrinter.raise .printer := by
  rcases prints with state | state <;> simp only [State.printerFaultEntry, state, tray]

/-- A printer's new record, its report and its event. -/
theorem State.printerRaised_keeps (u : State) (p : Printer) :
    u.changesOnly [.printer, .status] ((u.setPrinter p).reportPrinter.raise .printer) := by
  rw [State.changesOnly_iff]
  simp [State.setPrinter]

/-- Without a print the printer's own record is all that goes into FAULT; a finished print's disc and move stand. -/
theorem State.readsBad.atRest (bad : s.readsBad c r) (fitted : s.printer = some p)
    (rests : p.state = .idle ∨ p.state = .awaitRemove) : ∃ t, exec c s = .next t ∧ t.sensors = r ∧
      t.printer = some { p with state := .fault } ∧ t.cond .printerFault = true ∧ (t.cond .headHot = true ↔
        -10 ≤ r.headReading ∧ r.headReading ≤ 100 ∧ 65 ≤ r.headReading) ∧
      t.status.pending.getLsbD 12 = true ∧ s.changesOnly [.sensors, .printer, .status] t := by
  obtain ⟨u, runs, rfl, only⟩ := bad.runs fitted
  rw [State.printerFaultEntry_atRest u rests] at runs
  have only : s.changesOnly [.sensors, .printer, .status]
      ((u.setPrinter { p with state := .fault }).reportPrinter.raise .printer) :=
    (only.weaken (by decide)).andThen ((u.printerRaised_keeps _).weaken (by decide))
  have printer : ((u.setPrinter { p with state := .fault }).reportPrinter.raise .printer).printer =
      some { p with state := .fault } := by simp [State.setPrinter]
  obtain ⟨cond, event, hot⟩ := State.faultRaised_signals (u := u.setPrinter { p with state := .fault }) rfl rfl
  rw [(State.quiet.of_busyPrinter only printer (by simp)).watched] at runs
  exact ⟨_, runs, by simp, printer, cond, hot, event, only⟩

theorem Disc.spoiledFrom_printed (d : Disc) (s : State) : (d.spoiledFrom s).printed = d.printed := by
  have rejected : (d.rejected .printFault).printed = d.printed := by
    unfold Disc.rejected
    split <;> rfl
  unfold Disc.spoiledFrom
  split <;> exact rejected

/-- An aborted print: the disc on the tray is spoiled, its bay told, and the printer in FAULT (R142, R147). -/
theorem State.printerFaultEntry_aborts (prints : p.state = .printing ∨ p.state = .cooling) (tray : p.trayDisc = some n)
    (hd : u.disc n = some d) : ∃ t, u.printerFaultEntry p = t ∧ t.disc n = some (d.spoiledFrom u) ∧
      t.sensors = u.sensors ∧ t.printer = some { p with state := .fault, print := none, trayMove := true } ∧
      u.trans.asked t.trans (.posted .printOut .printer .prn (.bin .reject) n none) ∧
      (∀ j b, u.jobOf d = some j → j.label.isSome = true → j.printOrder = some .printFirst → d.target = some b →
        u.stopsAwaiting t b n) ∧
      t.cond .printerFault = true ∧ t.status.pending.getLsbD 12 = true ∧ (t.cond .headHot = true ↔
        -10 ≤ u.sensors.headReading ∧ u.sensors.headReading ≤ 100 ∧ 65 ≤ u.sensors.headReading) := by
  obtain ⟨disc, trans, sensors, printer, told⟩ := State.printSpoiled_spec p hd
  obtain ⟨cond, event, hot⟩ := State.faultRaised_signals printer rfl
  rw [sensors] at hot
  have asked : u.trans.asked (u.printSpoiled p n).trans (.posted .printOut .printer .prn (.bin .reject) n none) :=
    trans ▸ (u.spoiledOut_trans p n).1
  exact ⟨_, u.printerFaultEntry_print prints tray, (State.disc_of_discs (by simp) n).trans disc, by simp,
    by simpa using printer, by simpa using asked,
    fun j b hj label order target => (told j b hj label order target).of_bays (by simp), cond, event, hot⟩

theorem State.readsBad.aborts (bad : s.readsBad c r) (fitted : s.printer = some p)
    (prints : p.state = .printing ∨ p.state = .cooling) (tray : p.trayDisc = some n) (hd : s.disc n = some d) :
    ∃ t e, exec c s = .next t ∧ t.sensors = r ∧ (t.cond .headHot = true ↔
        -10 ≤ r.headReading ∧ r.headReading ≤ 100 ∧ 65 ≤ r.headReading) ∧
      t.printer = some { p with state := .fault, print := none, trayMove := true } ∧ t.disc n = some e ∧
      e.disposition = d.disposition.rejectedWith .printFault ∧
      ((∀ q ∈ s.trans.queue, q.requester ≠ .printer) → e.stage = .toOut) ∧ e.printed = d.printed ∧
      s.trans.asked t.trans (.posted .printOut .printer .prn (.bin .reject) n none) ∧
      (∀ j b, s.jobOf d = some j → j.label.isSome = true → j.printOrder = some .printFirst → d.target = some b →
        s.stopsAwaiting t b n) ∧
      t.cond .printerFault = true ∧ t.status.pending.getLsbD 12 = true := by
  obtain ⟨u, runs, rfl, only⟩ := bad.runs fitted
  have trans : u.trans = s.trans := only .trans (by decide)
  have jobs : u.jobs = s.jobs := only .jobs (by decide)
  have slots : u.job = s.job := funext fun k => by simp only [State.job, jobs]
  have jobOf : u.jobOf d = s.jobOf d := by rw [State.jobOf, State.jobOf, slots]
  obtain ⟨t, ends, disc, sensors, printer, asked, told, cond, event, hot⟩ :=
    State.printerFaultEntry_aborts prints tray ((State.disc_of_discs (only .discs (by decide)) n).trans hd)
  obtain ⟨-, -, -, disposition⟩ := d.spoiledFrom_spec u
  rw [ends] at runs
  rw [trans] at asked
  exact ⟨_, d.spoiledFrom u, runs, sensors, hot, printer, disc, disposition,
    fun clear => d.spoiledFrom_stage (by rwa [trans]), d.spoiledFrom_printed u, asked,
    fun j b hj label order target =>
      (told j b (jobOf.trans hj) label order target).of_before (only .bays (by decide)), cond, event⟩

/-! ## PRINTER RESUME (R148) -/

theorem execPrinterResume_busy (early : s.settings.stage ≠ .ready) :
    exec .printerResume s = .next (s.answer 0x71 .busy .none) :=
  if_pos (State.ready_of_stage_ne early)

theorem execPrinterResume_bare (ready : s.settings.stage = .ready) (bare : s.printer = none) :
    exec .printerResume s = .next (s.answer 0x71 .notFitted .none) := by
  simp only [exec, execPrinterResume, State.ready_of_stage ready, Bool.true_eq_false, if_false, bare]
  rfl

/-- A fitted printer: STATE outside FAULT and while a sensor reads bad. -/
theorem execPrinterResume_fitted (ready : s.settings.stage = .ready) (fitted : s.printer = some p) :
    exec .printerResume s = .next (if p.state ≠ .fault then s.answer 0x71 .state .none
      else if printerBad s.sensors then
        s.answer 0x71 .state (.printerBad s.sensors.ribbonOut (headTemp s.sensors).isNone)
      else (s.watched (s.resumePrinter p)).answer 0x71 .ok
        (.printerState (if p.trayDisc.isNone then .idle else .awaitRemove))) := by
  simp only [exec, execPrinterResume, State.ready_of_stage ready, Bool.true_eq_false, if_false, fitted]
  split
  · rfl
  · split <;> rfl

/-- The printer leaves FAULT when both sensors read good. -/
theorem execPrinterResume_leaves (ready : s.settings.stage = .ready) (fitted : s.printer = some p)
    (fault : p.state = .fault) (ribbon : s.sensors.ribbonOut = false) (head : headTemp s.sensors ≠ none)
    {becomes : PrinterState} (tray : (if p.trayDisc.isNone then .idle else .awaitRemove) = becomes) :
    exec .printerResume s =
      .next ((s.watched (s.resumePrinter p)).answer 0x71 .ok (.printerState becomes)) := by
  subst tray
  rw [execPrinterResume_fitted ready fitted, if_neg (not_not.2 fault),
    if_neg (by rw [(printerBad_false_iff _).2 ⟨ribbon, head⟩]; simp)]

theorem State.resumePrinter_empty (s : State) (tray : p.trayDisc = none) : s.resumePrinter p =
    (s.setPrinter { p with state := .idle }).reportPrinter.raise .printer := by
  simp only [State.resumePrinter, tray]

theorem State.resumePrinter_moving (s : State) (tray : p.trayDisc = some n) (move : p.trayMove = true) :
    s.resumePrinter p = (s.setPrinter { p with state := .awaitRemove }).reportPrinter.raise .printer := by
  simp only [State.resumePrinter, tray, move, if_true]

theorem State.postTrayMove_asked {kind : MoveKind} {dest : Station} : s.trans.asked
    (s.postTrayMove p kind n dest).trans (.posted kind .printer .prn dest n none) :=
  State.postMove_asked (s.setPrinter { p with trayMove := true }) _

/-- A disc that no move takes away is sent to REJECT: a PRINT_OUT, or a CLEAR when its record names no job. -/
theorem State.resumePrinter_sends (tray : p.trayDisc = some n) (move : p.trayMove = false) (hd : s.disc n = some d) :
    s.resumePrinter p = (s.postTrayMove { p with state := .awaitRemove }
      (if d.job = none then .clear else .printOut) n (.bin .reject)).reportPrinter.raise .printer := by
  simp only [State.resumePrinter, tray, move, Bool.false_eq_true, if_false, hd, Option.bind_some]
  cases d.job <;> rfl

/-- With an empty tray the printer is IDLE, and PRINTER_FAULT ends. -/
theorem State.resumePrinter_idles (s : State) (tray : p.trayDisc = none) : let t := s.watched (s.resumePrinter p)
    t.printer = some { p with state := .idle } ∧ t.cond .printerFault = false ∧ t.status.pending.getLsbD 12 = true ∧
      s.changesOnly [.printer, .status, .dispatch] t := by
  rw [State.resumePrinter_empty s tray]
  have only : s.changesOnly [.printer, .status, .dispatch]
      ((s.setPrinter { p with state := .idle }).reportPrinter.raise .printer) :=
    (s.printerRaised_keeps _).weaken (by decide)
  exact ⟨rfl, (s.setPrinter { p with state := .idle }).reportPrinter_printerFault,
    (State.raise_pending _ .printer .printer).trans (if_pos rfl), only.marked (by decide) s⟩

/-- A move that takes the disc away stands, and the printer waits for it. -/
theorem State.resumePrinter_waits (s : State) (tray : p.trayDisc = some n) (move : p.trayMove = true) :
    let t := s.watched (s.resumePrinter p)
    t.printer = some { p with state := .awaitRemove } ∧ s.changesOnly [.printer, .status] t := by
  rw [State.resumePrinter_moving s tray move]
  have only := s.printerRaised_keeps { p with state := .awaitRemove }
  have printer : ((s.setPrinter { p with state := .awaitRemove }).reportPrinter.raise .printer).printer =
      some { p with state := .awaitRemove } := by simp [State.setPrinter]
  rw [(State.quiet.of_busyPrinter (only.weaken (by decide)) printer (by simp)).watched]
  exact ⟨printer, only⟩

/-- The move asked for a disc that none took away. -/
theorem State.resumePrinter_asks (tray : p.trayDisc = some n) (move : p.trayMove = false) (hd : s.disc n = some d) :
    let t := s.watched (s.resumePrinter p)
    t.printer = some { p with state := .awaitRemove, trayMove := true } ∧ s.trans.asked t.trans
      (.posted (if d.job = none then .clear else .printOut) .printer .prn (.bin .reject) n none) := by
  rw [State.resumePrinter_sends tray move hd]
  refine ⟨by simp [State.postTrayMove, State.setPrinter], ?_⟩
  simpa only [State.watched_frame, State.raise_frame, State.reportPrinter_frame] using
    State.postTrayMove_asked (s := s) (p := { p with state := .awaitRemove }) (n := n)

/-! ## The statement -/

/-- Settles O60: the bad readings by the printer's state; the ribbon and the good readings; PRINTER RESUME check by check, then by the tray. -/
theorem printerFaultsCoolsAndResumes : Obligations.PrinterFaultsCoolsAndResumes := by
  refine ⟨fun s p c r fitted bad => ?bad, fun s => exec_ribbonBack, fun s low => ?ribbonLow,
    fun s p v fitted ribbon => ?readings, fun s => ⟨execPrinterResume_busy, execPrinterResume_bare, ?resume⟩⟩
  case bad =>
    have bad : s.readsBad c r := bad
    refine ⟨bad.ribbonInFault fitted, fun fault head => ?_, bad.atRest fitted, fun n d => bad.aborts fitted⟩
    obtain ⟨runs, cond, cool⟩ := bad.headInFault fitted fault head
    exact ⟨_, runs, by simp [State.withReadings], cond, cool, rfl, s.readingsReported_keeps r⟩
  case ribbonLow =>
    exact ⟨_, rfl, by simp, State.reportPrinter_ribbonLow _, rfl,
      s.readingsReported_keeps { s.sensors with ribbonLow := low }⟩
  case readings =>
    let u := s.withReadings { s.sensors with headReading := v }
    have printer : u.reportPrinter.printer = some p := fitted
    have sensors : u.reportPrinter.sensors = { s.sensors with headReading := v } := by simp [u, State.withReadings]
    have hot : u.reportPrinter.cond .headHot = true ↔ -10 ≤ v ∧ v ≤ 100 ∧ 65 ≤ v :=
      State.reportPrinter_headHot (u := u) fitted
    refine ⟨fun low high still => ?good, fun x l low cool cooling print label => ?cools, fun warm high cooling => ?waits⟩
    case good =>
      exact ⟨_, exec_headReading_stands fitted ribbon low high (.inl still), sensors, printer, by rw [hot]; omega,
        s.readingsReported_keeps _⟩
    case cools =>
      obtain ⟨runs, only⟩ := exec_headReading_cools fitted ribbon low cool cooling print label
      have cold : u.reportPrinter.cond .headHot = false := by
        rw [Bool.eq_false_iff, ne_eq, hot]
        omega
      exact ⟨_, runs, rfl, cold, only⟩
    case waits =>
      exact ⟨_, exec_headReading_stands fitted ribbon (by omega) high (.inr warm), printer, by rw [hot]; omega⟩
  case resume =>
    refine ⟨fun p ready fitted other => ?outside, fun p ready fitted fault bad => ?bad,
      fun p ready fitted fault ribbon head => ?leaves⟩
    case outside => rw [execPrinterResume_fitted ready fitted, if_pos other]
    case bad =>
      have isBad : printerBad s.sensors = true := by
        rw [printerBad, Bool.or_eq_true, Option.isNone_iff_eq_none]
        exact bad
      rw [execPrinterResume_fitted ready fitted, if_neg (not_not.2 fault), if_pos isBad]
    case leaves =>
      have runs {becomes : PrinterState} (tray : (if p.trayDisc.isNone then .idle else .awaitRemove) = becomes) :=
        execPrinterResume_leaves ready fitted fault ribbon head tray
      exact ⟨fun tray => ⟨_, runs (by rw [tray]; rfl), s.resumePrinter_idles tray⟩,
        fun n tray move => ⟨_, runs (by rw [tray]; rfl), s.resumePrinter_waits tray move⟩,
        fun n d tray move hd => ⟨_, runs (by rw [tray]; rfl), State.resumePrinter_asks tray move hd⟩⟩

end Sys2Proof.Machine
end

/-! # Proofs: TOWER PAUSE, TOWER RESUME and TOWER DRAIN (R158, R159) -/

section

namespace Sys2Proof.Machine

variable {s : State}

/-- A change to RUN starts an evaluation, while the free records serve every orphan creation that waits (R19). -/
theorem State.watched_setRunMode_run (ready : s.settings.stage = .ready) : s.watched (s.setRunMode .run) =
    { s.setRunMode .run with
      dispatchWanted := s.dispatchWanted || decide (s.jobs.runMode ≠ .run ∧ s.orphansServed) } := by
  have shut : (List.finRange 8).any (s.jobOpened (s.setRunMode .run)) = false :=
    List.any_eq_false.2 fun k _ => by simp [State.jobOpened_of_job (s := s) (t := s.setRunMode .run) (k := k) rfl]
  have trigger : s.dispatchTrigger (s.setRunMode .run) = decide (s.jobs.runMode ≠ .run ∧ s.orphansServed) := by
    rw [State.dispatchTrigger_of_jobs (s := s) (t := s.setRunMode .run) rfl rfl rfl rfl rfl rfl ready, shut]
    cases s.jobs.runMode <;> simp
  rw [State.watched, trigger]
  rfl

/-- With a record in use, or an orphan creation that waits for the one that is free, a drain goes on (R159). -/
theorem State.drainTest_goesOn (inUse : s.discs.records ≠ [] ∨ s.discs.orphanWait ≠ []) : s.drainTest = s :=
  if_neg fun ends => inUse.elim (· ends.2.1) (· ends.2.2)

/-- With none it ends, and raises DRAINED (R159). -/
theorem State.drainTest_ends (mode : s.jobs.runMode = .draining) (records : s.discs.records = [])
    (served : s.discs.orphanWait = []) : s.drainTest = (s.setRunMode .paused).raise .drained :=
  if_pos ⟨mode, records, served⟩

/-- Settles O37, by the stage and the run mode. -/
theorem runModeFollowsItsTable : Obligations.RunModeFollowsItsTable := by
  intro s
  dsimp only
  have isReady (ready : s.settings.stage = .ready) : ¬ s.ready = false := by simp [State.ready, ready]
  refine ⟨fun early => ?early, fun ready other => ?pauses, fun ready draining => ?refused, fun ready => ?resumes,
    fun ready inUse => ?drains, fun ready records served => ?ends⟩
  case early =>
    have notReady : s.ready = false := by simp [State.ready, early]
    exact ⟨if_pos notReady, if_pos notReady, if_pos notReady⟩
  case pauses => exact (if_neg (isReady ready)).trans (if_neg other)
  case refused =>
    have runs : exec .towerPause s = .next (s.answerMode 0x72 .state) := (if_neg (isReady ready)).trans (if_pos draining)
    rw [runs, State.answerMode, draining]
  case resumes =>
    have runs : exec .towerResume s = .next ((s.watched (s.setRunMode .run)).answerMode 0x73 .ok) := if_neg (isReady ready)
    rw [runs, State.watched_setRunMode_run ready]
    rfl
  case drains =>
    have runs : exec .towerDrain s = .next ((s.setRunMode .draining).drainTest.answerMode 0x74 .ok) :=
      if_neg (isReady ready)
    rw [runs, State.drainTest_goesOn (s := s.setRunMode .draining) inUse]
    rfl
  case ends =>
    have runs : exec .towerDrain s = .next ((s.setRunMode .draining).drainTest.answerMode 0x74 .ok) :=
      if_neg (isReady ready)
    rw [runs, State.drainTest_ends (s := s.setRunMode .draining) rfl records served]
    rfl

end Sys2Proof.Machine
end

/-! # Proofs: a move withdrawn (R113, R127) -/

section

namespace Sys2Proof.Machine

variable {s t u : State} {r q : MoveReq} {older younger : List MoveReq} {n m : Nat} {b : BayId}

/-! ## The one request under way, granted or interrupted -/

/-- The request `r` is under way, and no other is (R115, R129). -/
structure State.underWay (s : State) (older : List MoveReq) (r : MoveReq) (younger : List MoveReq) : Prop where
  queue : s.trans.queue = older ++ r :: younger
  own : (r.granted || r.interrupted) = true
  others : ∀ q ∈ older ++ younger, (q.granted || q.interrupted) = false

/-- A change of each request that passes a test changes the one alone that passes it. -/
theorem map_only {p : MoveReq → Prop} [DecidablePred p] (f : MoveReq → MoveReq) (own : p r)
    (others : ∀ q ∈ older ++ younger, ¬ p q) :
    ((older ++ r :: younger).map fun q => if p q then f q else q) = older ++ f r :: younger := by
  have keep : ∀ l : List MoveReq, (∀ q ∈ l, q ∈ older ++ younger) → (l.map fun q => if p q then f q else q) = l :=
    fun l hl => (List.map_congr_left fun q hq => if_neg (others q (hl q hq))).trans (List.map_id' l)
  rw [List.map_append, List.map_cons, if_pos own, keep _ fun q hq => List.mem_append_left _ hq,
    keep _ fun q hq => List.mem_append_right _ hq]

/-- The list without the one request that fails a test. -/
theorem filter_only {p : MoveReq → Bool} (own : p r = false) (others : ∀ q ∈ older ++ younger, p q = true) :
    (older ++ r :: younger).filter p = older ++ younger := by
  have keep : ∀ l : List MoveReq, (∀ q ∈ l, q ∈ older ++ younger) → l.filter p = l :=
    fun l hl => List.filter_eq_self.2 fun q hq => others q (hl q hq)
  rw [List.filter_append, List.filter_cons_of_neg (by simp [own]), keep _ fun q hq => List.mem_append_left _ hq,
    keep _ fun q hq => List.mem_append_right _ hq]

/-- The first request that passes a test, when no older one does. -/
theorem find?_only {p : MoveReq → Bool} (own : p r = true) (others : ∀ q ∈ older ++ younger, p q = false) :
    (older ++ r :: younger).find? p = some r := by
  rw [List.find?_append, List.find?_eq_none.2 fun q hq => by simp [others q (List.mem_append_left _ hq)]]
  simp [own]

theorem State.underWay.current_eq (h : s.underWay older r younger) : s.trans.current = some r := by
  rw [Transport.current, h.queue]
  exact find?_only h.own h.others

theorem State.underWay.modCurrent_trans (h : s.underWay older r younger) (f : MoveReq → MoveReq) :
    (s.modCurrent f).trans = { s.trans with queue := older ++ f r :: younger } := by
  rw [State.modCurrent, State.modTrans_trans, h.queue]
  exact congrArg (fun l => { s.trans with queue := l })
    (map_only (p := fun q => (q.granted || q.interrupted) = true) f h.own fun q hq => by simp [h.others q hq])

theorem State.underWay.of_trans (h : s.underWay older r younger) (same : t.trans.queue = s.trans.queue) :
    t.underWay older r younger := ⟨same.trans h.queue, h.own, h.others⟩

/-! ## What remains once requests have left -/

/-- The queue holds what remains, and then the posts that waited and may join it (R113, log 9). -/
def Transport.left (t : Transport) (remaining : List MoveReq) : Transport :=
  { t with queue := (postsAfter remaining t.waiting).1, waiting := (postsAfter remaining t.waiting).2 }

theorem Transport.left_leaves (t : Transport) (l : List MoveReq) : t.leaves (t.left l) l := rfl

/-- Requests have left the queue, and the posts that waited are made. -/
theorem State.postWaiting_left (s : State) (l : List MoveReq) :
    (s.modTrans fun t => { t with queue := l }).postWaiting.trans = s.trans.left l := by
  rw [State.postWaiting_trans]
  rfl

theorem State.underWay.dropCurrent_trans (h : s.underWay older r younger) :
    s.dropCurrent.trans = s.trans.left (older ++ younger) := by
  have remains : (s.trans.queue.filter fun q => !(q.granted || q.interrupted)) = older ++ younger := by
    rw [h.queue]
    exact filter_only (by simp [h.own]) fun q hq => by simp [h.others q hq]
  rw [← remains]
  exact s.postWaiting_left _

/-! ## The request that names a disc -/

theorem MoveReq.secondIs_iff (r : MoveReq) (n : Nat) : r.secondIs n = true ↔ ∃ l, r.second = some l ∧ l.disc = n := by
  unfold MoveReq.secondIs
  cases r.second <;> simp

theorem MoveReq.names_iff (r : MoveReq) (n : Nat) : (r.disc == n || r.secondIs n) = true ↔ r.names n := by
  rw [Bool.or_eq_true, beq_iff_eq, MoveReq.secondIs_iff]

theorem State.withdraw_unnamed (none_ : ∀ q ∈ s.trans.queue, ¬ q.names n) :
    s.withdraw n = s.modTrans fun t => { t with waiting := withoutDisc n t.waiting } := by
  unfold State.withdraw
  rw [List.find?_eq_none.2 fun q hq => mt (MoveReq.names_iff q n).1 (none_ q hq)]

/-- The withdrawal acts on the one request that names the disc (R127). -/
theorem State.withdraw_named (queue : s.trans.queue = older ++ r :: younger) (names : r.names n)
    (others : ∀ q ∈ older ++ younger, ¬ q.names n) : s.withdraw n =
    if r.disc = n ∨ s.trans.firstLegOver r then
      if r.granted || r.interrupted then s.withdrawCurrent r
      else (s.modTrans fun t => { t with queue := older ++ younger }).postWaiting
    else s.modTrans fun t => { t with queue := older ++ r.alone :: younger } := by
  have ne : ∀ q ∈ older ++ younger, q ≠ r := fun q hq is => others q hq (is ▸ names)
  have found : (s.trans.queue.find? fun q => q.disc == n || q.secondIs n) = some r := by
    rw [queue]
    exact find?_only ((MoveReq.names_iff r n).2 names) fun q hq =>
      Bool.eq_false_iff.2 (mt (MoveReq.names_iff q n).1 (others q hq))
  have removed : s.trans.queue.filter (· ≠ r) = older ++ younger := by
    rw [queue]
    exact filter_only (by simp) fun q hq => by simpa using ne q hq
  have single : (s.trans.queue.map fun q => if q = r then q.alone else q) = older ++ r.alone :: younger := by
    rw [queue]
    exact map_only MoveReq.alone rfl ne
  unfold State.withdraw
  rw [found]
  dsimp only [State.modTrans]
  rw [removed, single]

/-! ## The arm's block after a withdrawal -/

/-- A leg is stopped: the arm gives it up (R127). -/
theorem State.withdrawCurrent_granted (h : s.underWay older r younger) (granted : r.granted = true) :
    (s.withdrawCurrent r).trans = (s.trans.left (older ++ younger)).freed := by
  have gave : s.giveUp.trans = s.trans := by simp
  rw [State.withdrawCurrent, if_pos granted, State.armIdle_trans, (h.of_trans (by rw [gave])).dropCurrent_trans, gave]

/-- An interruption is cleared (R127). -/
theorem State.withdrawCurrent_interrupted (h : s.underWay older r younger) (granted : r.granted = false) :
    (s.withdrawCurrent r).trans =
      { s.trans.left (older ++ younger) with resume := none, handover := none, leg := .first } := by
  rw [State.withdrawCurrent, if_neg (by simp [granted]), State.modTrans_trans, h.dropCurrent_trans]

/-- The move of a disc withdrawn, as the arm's block shows it (R113, R127). -/
theorem State.withdraws_of_trans (trans : t.trans = (s.withdraw n).trans) : s.withdraws t n := by
  refine ⟨fun older r younger queue others alone => ?_, fun none_ => ?_⟩
  · have current (own : (r.granted || r.interrupted) = true) : s.underWay older r younger :=
      ⟨queue, own, fun q hq => by
        obtain ⟨granted, interrupted⟩ := alone q hq (by simpa using own)
        simp [granted, interrupted]⟩
    have isOver : s.trans.firstLegOver r = true ↔ (r.granted = true ∨ r.interrupted = true) ∧
        (s.trans.leg = .second ∨ s.trans.arm = .held ∨ s.trans.resume = some .held) := by
      simp [Transport.firstLegOver, or_assoc]
    refine ⟨fun own single => ⟨fun idle => ?waits, fun granted => ?stopped, fun granted interrupted => ?cleared⟩,
      fun l other second is => ⟨fun early => ?alone, fun late granted => ?held, fun late granted => ?kept⟩⟩
    case waits =>
      rw [State.withdraw_named queue (.inl own) others, if_pos (.inl own), if_neg (by simpa using idle),
        State.postWaiting_left] at trans
      rw [trans]
      exact ⟨Transport.left_leaves _ _, rfl⟩
    case stopped =>
      have under : (r.granted || r.interrupted) = true := by simp [granted]
      rw [State.withdraw_named queue (.inl own) others, if_pos (.inl own), if_pos under,
        State.withdrawCurrent_granted (current under) granted] at trans
      rw [trans]
      exact ⟨Transport.left_leaves _ _, rfl⟩
    case cleared =>
      have under : (r.granted || r.interrupted) = true := by simp [interrupted]
      rw [State.withdraw_named queue (.inl own) others, if_pos (.inl own), if_pos under,
        State.withdrawCurrent_interrupted (current under) granted] at trans
      rw [trans]
      exact ⟨Transport.left_leaves _ _, rfl⟩
    case alone =>
      rw [State.withdraw_named queue (.inr ⟨l, second, is⟩) others, if_neg fun h => h.elim other fun h => early (isOver.1 h)]
        at trans
      exact trans
    all_goals
      have under : (r.granted || r.interrupted) = true := by simpa using late.1
      rw [State.withdraw_named queue (.inr ⟨l, second, is⟩) others, if_pos (.inr (isOver.2 late)), if_pos under] at trans
    case held =>
      rw [State.withdrawCurrent_granted (current under) granted] at trans
      rw [trans]
      exact ⟨Transport.left_leaves _ _, rfl⟩
    case kept =>
      rw [State.withdrawCurrent_interrupted (current under) granted] at trans
      rw [trans]
      exact ⟨Transport.left_leaves _ _, rfl⟩
  · rw [State.withdraw_unnamed none_] at trans
    exact trans

end Sys2Proof.Machine
end

/-! # Proofs: a QUEUED disc's record deleted by a cancel (R22, R54, R153, R157, R159) -/

section

namespace Sys2Proof.Machine

variable {s t u v y : State} {n m : Nat} {b : BayId} {d e : Disc} {k : JobSlot} {j : Job}

/-! ## What a withdrawal leaves of the rest (R127) -/

/-- A withdrawal changes the arm's block alone, or takes requests out of the queue, the station told before and the arm freed after. -/
theorem State.withdraw_steps (s : State) (n : Nat) : (∃ f, s.withdraw n = s.modTrans f) ∨
    ∃ v l, (v = s ∨ v = s.giveUp) ∧ (s.withdraw n = (v.modTrans fun t => { t with queue := l }).postWaiting.armIdle ∨
      ∃ f, s.withdraw n = ((v.modTrans fun t => { t with queue := l }).postWaiting).modTrans f) := by
  unfold State.withdraw
  split
  · exact .inl ⟨_, rfl⟩
  · split
    · split
      · unfold State.withdrawCurrent
        split
        · exact .inr ⟨s.giveUp, _, .inr rfl, .inl rfl⟩
        · exact .inr ⟨s, _, .inl rfl, .inr ⟨_, rfl⟩⟩
      · exact .inr ⟨s, _, .inl rfl, .inr ⟨id, rfl⟩⟩
    · exact .inl ⟨_, rfl⟩

/-- The records stay, but that a post which waited and now joins the queue for a bin makes its disc TO_OUT (R4, log 9). -/
theorem State.withdraw_records (s : State) (n : Nat) :
    ∃ joined : List Nat, (∀ m ∈ joined, ∃ q ∈ s.trans.waiting, q.disc = m ∧ q.dest.isBin = true) ∧
      (s.withdraw n).discs = { s.discs with
        records := s.discs.records.map fun e => if e.number ∈ joined then { e with stage := .toOut } else e } := by
  rcases s.withdraw_steps n with ⟨f, is⟩ | ⟨v, l, from_, is⟩
  · exact ⟨[], by simp, by simp [is]⟩
  · obtain ⟨joined, posted, discs⟩ := (v.modTrans fun t => { t with queue := l }).postWaiting_records
    have trans : v.trans = s.trans := by rcases from_ with rfl | rfl <;> simp
    have records : v.discs = s.discs := by rcases from_ with rfl | rfl <;> simp
    rw [State.modTrans_trans, trans] at posted
    rw [(State.modTrans_frame v _).2.2.1, records] at discs
    refine ⟨joined, posted, ?_⟩
    rcases is with is | ⟨f, is⟩ <;> rw [is] <;> exact discs

/-- The bays and the printer stay, or the hand-over in progress is given up (R70, R146). -/
theorem State.withdraw_stations (s : State) (n : Nat) :
    ((s.withdraw n).bays = s.bays ∧ (s.withdraw n).printer = s.printer) ∨
      ((s.withdraw n).bays = s.giveUp.bays ∧ (s.withdraw n).printer = s.giveUp.printer) := by
  rcases s.withdraw_steps n with ⟨f, is⟩ | ⟨v, l, rfl | rfl, is | ⟨f, is⟩⟩ <;> simp [is]

/-- Nothing is raised. -/
theorem State.withdraw_pending (s : State) (n : Nat) : (s.withdraw n).status.pending = s.status.pending := by
  rcases s.withdraw_steps n with ⟨f, is⟩ | ⟨v, l, rfl | rfl, is | ⟨f, is⟩⟩ <;> rw [is] <;>
    simp [State.armIdle, State.setArm, State.report]

theorem State.withdraw_bay (s : State) (n : Nat) (b : BayId) : (s.withdraw n).bay b = s.bay b ∨
    (s.withdraw n).bay b = { s.bay b with out := none, susp := none } := by
  rcases s.withdraw_stations n with ⟨bays, -⟩ | ⟨bays, -⟩
  · exact .inl (State.bay_of_bays bays b)
  · rw [State.bay_of_bays bays b]
    exact s.giveUp_bay b

/-- A hand-over at a spindle has no station that is told (R70, R146). -/
theorem State.giveUp_spindle (arm : s.trans.arm = .granted)
    (spindles : ∀ r ∈ s.trans.queue, r.granted = true ∨ r.interrupted = true → ∃ i, s.trans.legSource r = .spindle i) :
    s.giveUp = s := by
  have station : s.trans.handStation = none ∨ ∃ i, s.trans.handStation = some (.spindle i) := by
    unfold Transport.handStation
    cases step : s.trans.handover with
    | none => exact .inl rfl
    | some reached =>
      cases found : s.trans.current with
      | none => exact .inl rfl
      | some r =>
        have under := List.find?_some found
        obtain ⟨i, source⟩ := spindles r (List.mem_of_find?_eq_some found) (by simpa using under)
        exact .inr ⟨i, by simp [arm, source]⟩
  unfold State.giveUp
  rcases station with none_ | ⟨i, at_⟩
  · rw [none_]
  · rw [at_]
    rfl

/-! ## A record deleted (R22, R157, R159) -/

theorem State.countJob_slots (f : Job → Job) (hj : s.job k = some j) :
    (s.countJob k f).jobs.slots = s.jobs.slots.set k.val (some (f j).settleCancel) := by
  unfold State.countJob
  simp only [hj]
  split <;> split <;> rfl

/-- The record's job no longer counts it. -/
def State.uncounts (y : State) (e : Disc) : State :=
  match e.job with
  | none => y
  | some k => y.countJob k Job.uncount

theorem State.uncounts_jobs (y : State) (e : Disc) :
    (y.uncounts e).jobs.order = y.jobs.order ∧ (y.uncounts e).jobs.runMode = y.jobs.runMode := by
  unfold State.uncounts
  split
  · exact ⟨rfl, rfl⟩
  · obtain ⟨order, mode, -⟩ := y.countJob_jobs _ Job.uncount
    exact ⟨order, mode⟩

theorem State.uncounts_discs (y : State) (e : Disc) : (y.uncounts e).discs = y.discs := by
  unfold State.uncounts
  split <;> simp

theorem State.deleteRecord_eq (he : y.disc n = some e) : y.deleteRecord n = (y.uncounts e).freeRecord n := by
  rw [State.deleteRecord, he]
  rfl

/-- The last record is the one freed. -/
theorem State.drains_iff (y : State) (n : Nat) : (y.discs.records.filter fun e => e.number != n) = [] ↔
    ∀ e ∈ y.discs.records, e.number = n := by
  simp [List.filter_eq_nil_iff]

/-- A freed record ends a drain when it is the last, and no orphan creation waits for it. -/
theorem State.freeRecord_jobs (y : State) (n : Nat) : (y.freeRecord n).jobs = { y.jobs with
    runMode := if y.jobs.runMode = .draining ∧ (∀ e ∈ y.discs.records, e.number = n) ∧ y.discs.orphanWait = []
      then .paused else y.jobs.runMode } := by
  simp only [← State.drains_iff]
  unfold State.freeRecord State.drainTest
  dsimp only
  split <;> rfl

theorem State.freeRecord_drained (mode : y.jobs.runMode = .draining) (last : ∀ e ∈ y.discs.records, e.number = n)
    (served : y.discs.orphanWait = []) : (y.freeRecord n).status.pending.getLsbD 14 = true := by
  unfold State.freeRecord State.drainTest
  rw [if_pos ⟨mode, (y.drains_iff n).2 last, served⟩]
  exact (State.raise_pending _ .drained .drained).trans (if_pos rfl)

/-- A disc withdrawn: its record goes, and a bay that awaits it is told; no other part than the bays reads of the telling. -/
theorem State.pickFailed_deletes (y : State) (b : Option BayId) (n : Nat) : let t := y.pickFailed b n
    t.discs = (y.deleteRecord n).discs ∧ t.jobs = (y.deleteRecord n).jobs ∧ t.status = (y.deleteRecord n).status ∧
      t.staging = y.staging ∧ t.governor = y.governor ∧ t.verify = y.verify := by
  unfold State.pickFailed
  dsimp only
  split
  · simp [State.discWillNotCome_stays]
  · simp

/-- A bay told that its disc will not come: the one that awaits it is EMPTY or OFFLINE, every other as it was (R54). -/
theorem State.discWillNotCome_bay (u : State) (b : BayId) (n : Nat) (c : BayId) : (u.discWillNotCome b n false).bay c =
    if c = b ∧ (u.bay b).state = .awaitDisc ∧ (u.bay b).disc = some n then (u.bay b).cleared.toIdle else u.bay c := by
  by_cases awaits : (u.bay b).state = .awaitDisc ∧ (u.bay b).disc = some n
  · rw [State.discWillNotCome, if_pos awaits]
    have told : u.awaitDiscEnd b false = (u.modBay b fun r => r.cleared.countAcceptance false).modBay b Bay.toIdle := by
      simp [State.awaitDiscEnd]
    rw [told]
    by_cases own : c = b
    · subst own
      rw [if_pos ⟨rfl, awaits⟩, State.modBay_bay, State.modBay_bay]
      rfl
    · rw [if_neg fun h => own h.1, State.modBay_bay_ne _ _ own, State.modBay_bay_ne _ _ own]
  · rw [State.discWillNotCome, if_neg awaits, if_neg fun h => awaits h.2]

theorem State.pickFailed_bay (y : State) (target : Option BayId) (n : Nat) (c : BayId) :
    (y.pickFailed target n).bay c = y.bay c ∨ (target = some c ∧ (y.bay c).state = .awaitDisc ∧
      (y.bay c).disc = some n ∧ (y.pickFailed target n).bay c = (y.bay c).cleared.toIdle) := by
  have same : (y.deleteRecord n).bay = y.bay := funext (State.bay_of_bays (by simp))
  cases target with
  | none => exact .inl (congrFun same c)
  | some b =>
    have told := (y.deleteRecord n).discWillNotCome_bay b n c
    rw [same] at told
    split at told
    · next is =>
      obtain ⟨rfl, state, disc⟩ := is
      exact .inr ⟨rfl, state, disc, told⟩
    · exact .inl told

/-! ## The whole of it (R153) -/

/-- A job under cancel no longer counts the disc, and is CANCELLED with its last one (R153, R157). -/
theorem Job.uncount_ending (ending : j.state = .cancelling ∨ j.state = .cancelled) : j.uncount.settleCancel = { j with
    started := j.started - 1, inFlight := j.inFlight - 1
    state := if j.inFlight - 1 = 0 then .cancelled else j.state } := by
  rw [Job.uncount_settleCancel]
  rcases ending with state | state <;> simp [state]

/-- The state of the Job Table and of the events once the disc's record is deleted. -/
theorem State.uncounts_ending {v : State} (of : e.job = some k) (hj : v.job k = some j)
    (ending : j.state = .cancelling ∨ j.state = .cancelled) :
    (v.uncounts e).jobs.slots = v.jobs.slots.set k.val (some { j with
      started := j.started - 1, inFlight := j.inFlight - 1
      state := if j.inFlight - 1 = 0 then .cancelled else j.state }) ∧
    (j.state = .cancelling → j.inFlight - 1 = 0 → (v.uncounts e).status.pending.getLsbD 1 = true) := by
  have counts : v.uncounts e = v.countJob k Job.uncount := by rw [State.uncounts, of]
  rw [counts, ← Job.uncount_ending ending]
  refine ⟨State.countJob_slots Job.uncount hj, fun cancelling last => ?_⟩
  have ends : j.uncount.settleCancel.state = .cancelled := by simp [Job.uncount_ending ending, last]
  exact (State.countJob_raises Job.uncount hj).1 (by simp [ends, cancelling]) (.inr ends)

theorem State.cancelQueued_frame_all (s : State) (d : Disc) :
    s.changesOnly [.jobs, .discs, .trans, .bays, .printer, .status] (s.cancelQueued d) := by
  have told := (s.withdraw d.number).pickFailed_deletes d.target d.number
  obtain ⟨-, -, -, staging, governor, verify⟩ := told
  rw [State.changesOnly_iff]
  simp [State.cancelQueued, staging, governor, verify]

/-- The bay that awaits the disc is told, whatever hand-over is given up (R54, R70). -/
theorem State.cancelQueued_told (s : State) (target : d.target = some b) : s.stopsAwaiting (s.cancelQueued d) b d.number := by
  let x := (s.withdraw d.number).deleteRecord d.number
  have tells : s.cancelQueued d = x.discWillNotCome b d.number false := by
    rw [State.cancelQueued, target]
    rfl
  have bays : x.bays = (s.withdraw d.number).bays := by simp [x]
  rw [tells]
  rcases s.withdraw_stations d.number with ⟨same, -⟩ | ⟨gave, -⟩
  · exact (x.discWillNotCome_stops b d.number).of_before (bays.trans same)
  · exact State.stopsAwaiting_of_giveUp (State.bay_of_bays (bays.trans gave) b) (x.discWillNotCome_stops b d.number)

/-- With nothing given up, the printer stays, and every bay but the one that awaits the disc. -/
theorem State.cancelQueued_others (still : s.giveUp = s) : (s.cancelQueued d).printer = s.printer ∧
    ∀ m, (d.target ≠ some m ∨ (s.bay m).state ≠ .awaitDisc ∨ (s.bay m).disc ≠ some d.number) →
      (s.cancelQueued d).bay m = s.bay m := by
  have stations : (s.withdraw d.number).bays = s.bays ∧ (s.withdraw d.number).printer = s.printer := by
    simpa only [still, or_self] using s.withdraw_stations d.number
  refine ⟨by simp [State.cancelQueued, stations.2], fun m other => ?_⟩
  have same := State.bay_of_bays stations.1 m
  rcases (s.withdraw d.number).pickFailed_bay d.target d.number m with stays | ⟨target, state, disc, -⟩
  · exact stays.trans same
  · rw [same] at state disc
    exact (other.elim (· target) (·.elim (· state) (· disc))).elim

/-- The record of a QUEUED disc is deleted, with its move, its job's count and its bay's wait. -/
theorem State.cancelQueued_deletes (hd : s.disc d.number = some d) : s.deletesQueued (s.cancelQueued d) d := by
  let v := s.withdraw d.number
  obtain ⟨joined, posted, records⟩ := s.withdraw_records d.number
  obtain ⟨e, he, job⟩ : ∃ e, v.disc d.number = some e ∧ e.job = d.job := by
    have read := State.disc_of_map (fun e => by split <;> rfl) (congrArg DiscTable.records records) d.number
    rw [hd] at read
    exact ⟨_, read, by dsimp only; split <;> rfl⟩
  have number (e : Disc) : (if e.number ∈ joined then { e with stage := .toOut } else e).number = e.number := by
    split <;> rfl
  have sameJobs : v.jobs = s.jobs := (s.withdraw_frame d.number).2.1
  obtain ⟨order, mode⟩ := v.uncounts_jobs e
  obtain ⟨discs, jobs, status, -⟩ := v.pickFailed_deletes d.target d.number
  rw [State.deleteRecord_eq he] at discs jobs status
  rw [State.freeRecord_discs, State.uncounts_discs] at discs
  rw [State.freeRecord_jobs, State.uncounts_discs] at jobs
  exact {
    move := State.withdraws_of_trans (by simp [State.cancelQueued])
    records := by
      refine ⟨joined, posted, (congrArg DiscTable.records discs).trans ?_⟩
      dsimp only [v]
      rw [records, List.filter_map]
      simp only [Function.comp_def, number]
    table := by
      rw [State.cancelQueued, discs]
      dsimp only [v]
      rw [records]
    job := fun k j of hj ending => by
      obtain ⟨slots, raised⟩ := State.uncounts_ending (v := v) (job.trans of) (by rw [State.job, sameJobs]; exact hj) ending
      refine ⟨(congrArg JobTable.slots jobs).trans (slots.trans (by rw [sameJobs])), fun cancelling last => ?_⟩
      rw [State.cancelQueued, status]
      exact (State.freeRecord_raisesNo _ _ (e := .jobDone) (by decide)).trans (raised cancelling last)
    order := (congrArg JobTable.order jobs).trans (order.trans (by rw [sameJobs]))
    runMode := by
      have last : (∀ e ∈ v.discs.records, e.number = d.number) ↔ ∀ e ∈ s.discs.records, e.number = d.number := by
        dsimp only [v]
        rw [records]
        simp only [List.forall_mem_map, number]
      have served : v.discs.orphanWait = s.discs.orphanWait := by
        dsimp only [v]
        rw [records]
      refine ⟨?_, fun ⟨draining, only, none_⟩ => ?_⟩
      · refine (congrArg JobTable.runMode jobs).trans ?_
        simp only [mode, sameJobs, last, served]
      · rw [State.cancelQueued, status]
        exact State.freeRecord_drained (by rw [mode, sameJobs, draining]) (by rw [State.uncounts_discs]; exact last.2 only)
          (by rw [State.uncounts_discs, served, none_])
    told := fun b => s.cancelQueued_told
    others := fun still => State.cancelQueued_others (still.elim State.giveUp_none fun ⟨arm, spindles⟩ =>
      State.giveUp_spindle arm spindles)
    frame := s.cancelQueued_frame_all d }

end Sys2Proof.Machine
end

/-! # Proofs: a PENDING disc on the arm turned to REJECT by a cancel (R6, R54, R70, R127, R154) -/

section

namespace Sys2Proof.Machine

variable {s t u v : State} {r : MoveReq} {older younger : List MoveReq} {n : Nat} {b : BayId} {d : Disc}

/-! ## The change of destination, whatever the arm is about (R127) -/

/-- The disc TO_OUT, its hand-over given up, the station told, and the leg turned to REJECT; the arm has not gone on yet. -/
def State.legTurned (s : State) (r : MoveReq) : State :=
  ((s.giveUp.setToOut (s.trans.legDisc r)).tellAwaiting r (s.trans.legDest r) (s.trans.legDisc r) false).modCurrent
    (MoveReq.redirect s.trans.leg (.bin .reject))

/-- How the arm goes on: at once, with a retake of the disc set on a tray, or when the interruption is over. -/
def State.legGoesOn (s : State) (r : MoveReq) : State :=
  let set := s.trans.handover.isSome && !s.sensors.pick
  if r.granted then
    if set then (if s.trans.moveTimer.isSome then (s.legTurned r).setStep .retake else (s.legTurned r).startAck .retake)
    else (s.legTurned r).depart
  else (s.legTurned r).modTrans fun t => { t with handover := if set then some .retake else none }

theorem State.changeDest_legGoesOn (current : s.trans.current = some r) : s.changeDest (s.trans.legDisc r) = s.legGoesOn r := by
  simp only [State.changeDest, current, if_true, State.legGoesOn, State.legTurned, State.modCurrent,
    State.modTrans_trans, State.tellAwaiting_frame, State.setToOut_frame, State.giveUp_frame]

/-- The leg of no disc but its own changes. -/
theorem State.changeDest_other (other : ∀ r, s.trans.current = some r → s.trans.legDisc r ≠ n) : s.changeDest n = s := by
  unfold State.changeDest
  split
  · rfl
  · next r current => exact if_neg (other r current)

/-- Only the arm's block, and not its queue, tells how the arm goes on. -/
theorem State.legGoesOn_steps (s : State) (r : MoveReq) :
    ∃ f, s.legGoesOn r = (s.legTurned r).modTrans f ∧ ∀ t, (f t).queue = t.queue := by
  unfold State.legGoesOn
  dsimp only
  split
  · split
    · split <;> exact ⟨_, rfl, fun _ => rfl⟩
    · exact ⟨_, rfl, fun _ => rfl⟩
  · exact ⟨_, rfl, fun _ => rfl⟩

theorem State.legTurned_discs (s : State) (r : MoveReq) : (s.legTurned r).discs = (s.setToOut (s.trans.legDisc r)).discs := by
  simp [State.legTurned, State.setToOut, State.modDisc]

theorem State.legTurned_keeps (s : State) (r : MoveReq) : s.changesOnly [.discs, .bays, .trans, .printer] (s.legTurned r) := by
  rw [State.changesOnly_iff]
  simp [State.legTurned, State.tellAwaiting_stays]

theorem State.legTurned_printer (s : State) (r : MoveReq) : (s.legTurned r).printer = s.giveUp.printer := by
  simp [State.legTurned]

theorem State.legTurned_trans (h : s.underWay older r younger) : (s.legTurned r).trans =
    { s.trans with queue := older ++ MoveReq.redirect s.trans.leg (.bin .reject) r :: younger } := by
  have same : ((s.giveUp.setToOut (s.trans.legDisc r)).tellAwaiting r (s.trans.legDest r) (s.trans.legDisc r) false).trans =
      s.trans := by simp
  rw [State.legTurned, (h.of_trans (by rw [same])).modCurrent_trans, same]

theorem State.legTurned_out (s : State) (r : MoveReq) (b : BayId) : ((s.legTurned r).bay b).out = (s.giveUp.bay b).out :=
  State.tellAwaiting_out (s.giveUp.setToOut (s.trans.legDisc r)) r _ _ b

/-- The station is told, whatever hand-over is given up. -/
theorem State.legTurned_tells (s : State) (r : MoveReq) : s.tellsAwaiting (s.legTurned r) r (s.trans.legDisc r) := by
  let u := s.giveUp.setToOut (s.trans.legDisc r)
  have trans : u.trans = s.trans := by simp [u]
  have told : u.tellsAwaiting (s.legTurned r) r (s.trans.legDisc r) := by
    have tells := u.tellAwaiting_tells r (s.trans.legDisc r)
    rw [trans] at tells
    exact tells.of_bays rfl
  have from_ (b : BayId) : u.stopsAwaiting (s.legTurned r) b (s.trans.legDisc r) → s.stopsAwaiting (s.legTurned r) b (s.trans.legDisc r) :=
    State.stopsAwaiting_of_giveUp rfl
  obtain ⟨bay, prn⟩ := told
  rw [trans] at bay prn
  exact ⟨fun b leads => from_ b (bay b leads), fun b leads kind of => from_ b (prn b leads kind of)⟩

/-- The hand-over in progress is given up at the end of the leg, once the pick is over (R70, R146). -/
theorem State.giveUp_dest (current : s.trans.current = some r) (step : s.trans.handover ≠ none)
    (picked : s.trans.arm ≠ .granted) : s.giveUp = s.giveUpAt (s.trans.legDest r) := by
  obtain ⟨reached, is⟩ := Option.ne_none_iff_exists'.1 step
  have station : s.trans.handStation = some (s.trans.legDest r) := by
    simp [Transport.handStation, is, current, picked]
  rw [State.giveUp, station]

/-! ## The disc of a cancelled job (R154) -/

theorem DiscTable.cancels_toOut (s : State) (n : Nat) :
    ((s.setReject n .cancelled).setToOut n).discs = s.discs.cancels n true := by
  rw [State.setReject_cancels, State.setToOut, State.modDisc]
  simp only [DiscTable.cancels, List.map_map, DiscTable.mk.injEq, and_true]
  refine List.map_congr_left fun e _ => ?_
  by_cases own : e.number = n <;> simp [own]

theorem State.cancelOnArm_eq (pending : d.disposition = .pending) :
    s.cancelOnArm d = (s.setReject d.number .cancelled).changeDest d.number := if_pos pending

/-- The arm goes on at once with no disc set on a tray (R116). -/
theorem State.legGoesOn_departs (h : s.underWay older r younger) (granted : r.granted = true)
    (free : s.trans.handover = none ∨ s.sensors.pick = true) : (s.legGoesOn r).trans = { s.trans with
      queue := older ++ MoveReq.redirect s.trans.leg (.bin .reject) r :: younger
      moveTimer := some (s.now + 12000), ackTimer := none, handover := none } := by
  have set : (s.trans.handover.isSome && !s.sensors.pick) = false := by rcases free with step | pick <;> simp [*]
  have now : (s.legTurned r).now = s.now := s.legTurned_keeps r .now (by decide)
  unfold State.legGoesOn
  rw [set, if_pos granted, if_neg Bool.false_ne_true, State.depart, State.modTrans_trans, State.legTurned_trans h, now]
  rfl

/-- A disc set on a tray is retaken there, once an arm that is still on its way back arrives (log 42, log 44). -/
theorem State.legGoesOn_retakes (h : s.underWay older r younger) (granted : r.granted = true)
    (step : s.trans.handover ≠ none) (pick : s.sensors.pick = false) : (s.legGoesOn r).trans = { s.trans with
      queue := older ++ MoveReq.redirect s.trans.leg (.bin .reject) r :: younger
      handover := some .retake
      ackTimer := if s.trans.moveTimer = none then some (s.now + s.settingNat 8) else s.trans.ackTimer } := by
  have set : (s.trans.handover.isSome && !s.sensors.pick) = true := by simp [pick, Option.isSome_iff_ne_none, step]
  have now : (s.legTurned r).now = s.now := s.legTurned_keeps r .now (by decide)
  have time : (s.legTurned r).settingNat 8 = s.settingNat 8 :=
    State.settingNat_of_settings (s.legTurned_keeps r .settings (by decide)) 8
  unfold State.legGoesOn
  rw [set, if_pos granted, if_pos rfl]
  cases timer : s.trans.moveTimer with
  | some x =>
    rw [Option.isSome_some, if_pos rfl, State.setStep, State.modTrans_trans, State.legTurned_trans h]
    simp [timer]
  | none =>
    rw [Option.isSome_none, if_neg Bool.false_ne_true, State.startAck, State.modTrans_trans, State.legTurned_trans h, now]
    simp [timer, time, Config.sGrantAck]

/-- An interrupted request waits with what it is to do (R132). -/
theorem State.legGoesOn_waits (h : s.underWay older r younger) (interrupted : r.granted = false) :
    (s.legGoesOn r).trans = { s.trans with
      queue := older ++ MoveReq.redirect s.trans.leg (.bin .reject) r :: younger
      handover := if s.trans.handover ≠ none ∧ s.sensors.pick = false then some .retake else none } := by
  unfold State.legGoesOn
  rw [if_neg (by simp [interrupted]), State.modTrans_trans, State.legTurned_trans h]
  simp [Option.isSome_iff_ne_none]

/-- The disc that the leg under way carries is turned to REJECT. -/
theorem State.cancelOnArm_turns (h : s.underWay older r younger) (own : s.trans.legDisc r = d.number)
    (pending : d.disposition = .pending) (picked : s.trans.arm ≠ .granted) :
    s.turnsOnArm (s.cancelOnArm d) older r younger d.number := by
  let v := s.setReject d.number .cancelled
  have hv : v.underWay older r younger := h.of_trans rfl
  have runs : s.cancelOnArm d = v.legGoesOn r := by
    rw [State.cancelOnArm_eq pending, ← own]
    exact State.changeDest_legGoesOn (s := s.setReject (s.trans.legDisc r) .cancelled) (h.of_trans rfl).current_eq |>.trans
      (by rw [own])
  obtain ⟨f, steps, same⟩ := v.legGoesOn_steps r
  have discs : (v.legGoesOn r).discs = s.discs.cancels d.number true := by
    rw [steps, ← DiscTable.cancels_toOut]
    exact (v.legTurned_discs r).trans (by rw [show v.trans.legDisc r = d.number from own])
  have bay (b : BayId) : (v.legGoesOn r).bay b = (v.legTurned r).bay b := by rw [steps]; rfl
  have printer : (v.legGoesOn r).printer = v.giveUp.printer := by rw [steps]; exact v.legTurned_printer r
  have only : s.changesOnly [.discs, .bays, .trans, .printer] (v.legGoesOn r) := by
    refine State.changesOnly.andThen (u := v) (by rw [State.changesOnly_iff]; simp [v]) ?_
    refine (v.legTurned_keeps r).andThen ?_
    rw [steps, State.changesOnly_iff]
    simp
  rw [runs]
  exact {
    discs := discs
    told := by
      have tells := ((v.legTurned_tells r).of_bays (t := v.legGoesOn r) (by rw [steps]; rfl)).of_before (s := s) rfl rfl
      rwa [show v.trans.legDisc r = d.number from own] at tells
    givenUp := fun step => by
      have gives : v.giveUp = v.giveUpAt (s.trans.legDest r) := State.giveUp_dest hv.current_eq step picked
      refine ⟨fun b o dest out tray => ?_, fun p dest hp => ?_⟩
      · rw [bay, State.legTurned_out, gives, dest, State.giveUpAt_bay_tray (s := v) out tray, State.portReset_bay]
      · rw [printer, gives, dest]
        exact State.giveUpAt_prn_printer hp
    queue := by
      rw [steps, State.modTrans_trans, same, State.legTurned_trans hv]
      rfl
    goes := fun granted free => by
      rw [State.legGoesOn_departs hv granted free]
      rfl
    retakes := fun granted step pick timer => by
      rw [State.legGoesOn_retakes hv granted step pick, if_pos (show v.trans.moveTimer = none from timer)]
      rfl
    returns := fun granted step pick timer => by
      rw [State.legGoesOn_retakes hv granted step pick, if_neg (show v.trans.moveTimer ≠ none from timer)]
      rfl
    waits := fun interrupted => by
      rw [State.legGoesOn_waits hv interrupted]
      rfl
    printer := fun step => by
      rw [printer, State.giveUp_none (s := v) step]
      rfl
    frame := only }

end Sys2Proof.Machine
end

/-! # Proofs: a cancel of one disc, and what it leaves of the others (R152 to R156) -/

section

namespace Sys2Proof.Machine

variable {s t u v : State} {r : MoveReq} {n m : Nat} {b c : BayId} {d e : Disc} {k : JobSlot} {i j : Job}

/-! ## The disc itself, by where it is (R153 to R156) -/

theorem Bay.worksOn_iff (r : Bay) (n : Nat) : r.worksOn n ↔ r.disc = some n ∧ r.state.working = true := by
  cases state : r.state <;> simp [Bay.worksOn, state, BayState.working]

theorem State.cancelDisc_queued (queued : d.stage = .queued) : s.cancelDisc d = s.cancelQueued d := if_pos queued

theorem State.cancelDisc_onArm (stage : d.stage ≠ .queued) (at_ : d.location = .arm) :
    s.cancelDisc d = s.cancelOnArm d := by
  rw [State.cancelDisc, if_neg stage, at_]

theorem State.cancelDisc_working (stage : d.stage ≠ .queued) (pending : d.disposition = .pending)
    (at_ : d.location = .bay b) (works : (s.bay b).worksOn d.number) : s.cancelDisc d = s.bayReject b .cancelled := by
  obtain ⟨disc, working⟩ := ((s.bay b).worksOn_iff _).1 works
  rw [State.cancelDisc, if_neg stage, at_]
  exact if_pos ⟨pending, working, disc⟩

theorem State.cancelDisc_resting (stage : d.stage ≠ .queued) (at_ : d.location = .bay b)
    (rests : ¬ (s.bay b).worksOn d.number) : s.cancelDisc d = s := by
  rw [State.cancelDisc, if_neg stage, at_]
  exact if_neg fun h => rests (((s.bay b).worksOn_iff _).2 ⟨h.2.2, h.2.1⟩)

theorem State.cancelOnArm_noLeg (pending : d.disposition = .pending)
    (other : ∀ r, s.trans.current = some r → s.trans.legDisc r ≠ d.number) :
    s.cancelOnArm d = { s with discs := s.discs.cancels d.number false } := by
  rw [State.cancelOnArm_eq pending, State.changeDest_other (s := s.setReject d.number .cancelled) other,
    State.setReject_cancels]

/-- A cancel of one disc, case by case. -/
theorem State.cancelDisc_cancels (s : State) (d : Disc) : s.cancelsDisc (s.cancelDisc d) d where
  queued := fun queued hd => by
    rw [State.cancelDisc_queued queued]
    exact State.cancelQueued_deletes hd
  goesOn := fun stage settled => s.cancelDisc_goesOn d stage settled
  inPrinter := fun stage pending at_ => s.cancelDisc_inPrinter d stage pending at_
  working := fun b stage pending at_ works => by
    rw [State.cancelDisc_working stage pending at_ works]
    exact State.bayReject_unloadsToReject .cancelled works.1
  resting := fun b stage _ at_ rests => State.cancelDisc_resting stage at_ rests
  onArm := fun older r younger stage pending at_ picked queue own others disc => by
    rw [State.cancelDisc_onArm stage at_]
    refine State.cancelOnArm_turns ⟨queue, by simpa using own, fun q hq => ?_⟩ disc pending picked
    obtain ⟨granted, interrupted⟩ := others q hq
    simp [granted, interrupted]
  onNoLeg := fun stage pending at_ others => by
    rw [State.cancelDisc_onArm stage at_]
    refine State.cancelOnArm_noLeg pending fun r current => others r (List.mem_of_find?_eq_some current) ?_
    simpa using List.find?_some current

/-! ## The records, bays and events of the other discs -/

/-- A record stays with its job and disposition, and one made anew is PENDING. -/
structure State.keepsDisc (s t : State) (m : Nat) : Prop where
  stands : ∀ e, s.disc m = some e → ∃ x, t.disc m = some x ∧ x.job = e.job ∧ x.disposition = e.disposition
  made : s.disc m = none → ∀ x, t.disc m = some x → x.disposition = .pending

theorem State.keepsDisc.of_disc (same : t.disc m = s.disc m) : s.keepsDisc t m :=
  ⟨fun e he => ⟨e, same.trans he, rfl, rfl⟩, fun none_ _ hx => nomatch hx.symm.trans (same.trans none_)⟩

theorem State.keepsDisc.of_discs (same : t.discs = s.discs) : s.keepsDisc t m := .of_disc (State.disc_of_discs same m)

theorem State.keepsDisc.andThen (first : s.keepsDisc u m) (next : u.keepsDisc t m) : s.keepsDisc t m where
  stands := fun e he => by
    obtain ⟨x, hx, job, disposition⟩ := first.stands e he
    obtain ⟨y, hy, job', disposition'⟩ := next.stands x hx
    exact ⟨y, hy, job'.trans job, disposition'.trans disposition⟩
  made := fun none_ y hy => by
    cases hu : u.disc m with
    | none => exact next.made hu y hy
    | some x =>
      obtain ⟨z, hz, -, disposition⟩ := next.stands x hu
      obtain rfl := Option.some.inj (hz.symm.trans hy)
      exact disposition.trans (first.made none_ x hu)

/-- A change of the records that keeps number, job and disposition. -/
theorem State.keepsDisc.of_map {f : Disc → Disc} (h : t.discs.records = s.discs.records.map f)
    (keeps : ∀ e, (f e).number = e.number ∧ (f e).job = e.job ∧ (f e).disposition = e.disposition) : s.keepsDisc t m := by
  have read := State.disc_of_map (fun e => (keeps e).1) h m
  refine ⟨fun e he => ⟨f e, by rw [read, he]; rfl, (keeps e).2⟩, fun none_ x hx => ?_⟩
  rw [read, none_] at hx
  exact nomatch hx

theorem State.keepsDisc.setReject (other : m ≠ n) (why : RejectReason) : s.keepsDisc (s.setReject n why) m :=
  .of_disc (State.modDisc_disc_ne s (Disc.rejected_number why) other)

theorem State.keepsDisc.setToOut (s : State) (n : Nat) : s.keepsDisc (s.setToOut n) m :=
  .of_map rfl fun e => by split <;> exact ⟨rfl, rfl, rfl⟩

theorem State.keepsDisc.postMove (s : State) (r : MoveReq) : s.keepsDisc (s.postMove r) m := by
  unfold State.postMove
  split
  · exact .andThen (u := s.joinQueue r) (.of_discs rfl) (.setToOut (s.joinQueue r) r.disc)
  · exact .of_discs rfl

theorem State.keepsDisc.postUnload (s : State) (b : BayId) (n : Nat) (at_ : Station) :
    s.keepsDisc (s.postUnload b n at_) m := by
  unfold State.postUnload
  split
  · exact .postMove s _
  · next k _ i _ =>
    refine .andThen (u := s.createDispatch k i b) ⟨fun e he => ⟨e, State.createDispatch_disc k i b he, rfl, rfl⟩,
      fun none_ x hx => ?_⟩ (.postMove _ _)
    rw [State.disc] at none_ hx
    rw [State.createDispatch_discs, DiscTable.create, List.find?_append, none_, Option.none_or, List.find?_singleton] at hx
    split at hx
    · rw [← Option.some.inj hx]
      rfl
    · exact nomatch hx

theorem State.keepsDisc.enterAwaitUnload (s : State) (b : BayId) (n : Nat) : s.keepsDisc (s.enterAwaitUnload b n) m := by
  unfold State.enterAwaitUnload
  exact .andThen (u := s.modBay b _) (.of_discs rfl) (.postUnload _ b n _)

theorem State.keepsDisc.withdraw (s : State) (n : Nat) : s.keepsDisc (s.withdraw n) m := by
  obtain ⟨joined, -, records⟩ := s.withdraw_records n
  exact .of_map (congrArg DiscTable.records records) fun e => by split <;> exact ⟨rfl, rfl, rfl⟩

/-- What the cancel of disc `n` leaves of the others: their records, the bays that work on them, and no event goes. -/
structure State.sparesOthers (s t : State) (n : Nat) : Prop where
  discs : ∀ m, m ≠ n → s.keepsDisc t m
  bays : ∀ b m, m ≠ n → ((t.bay b).worksOn m ↔ (s.bay b).worksOn m)
  events : s.pendingGrows t

theorem State.sparesOthers.refl (s : State) (n : Nat) : s.sparesOthers s n :=
  ⟨fun _ _ => .of_discs rfl, fun _ _ _ => Iff.rfl, fun _ => id⟩

/-- A bay that awaited a disc works on none, then and after. -/
theorem Bay.worksOn_told {r : Bay} (state : r.state = .awaitDisc) : r.cleared.toIdle.worksOn m ↔ r.worksOn m := by
  have idle : r.cleared.toIdle.disc = none := by
    unfold Bay.toIdle
    split <;> rfl
  simp [Bay.worksOn, idle, state]

theorem State.cancelQueued_spares (s : State) (d : Disc) : s.sparesOthers (s.cancelQueued d) d.number := by
  let v := s.withdraw d.number
  obtain ⟨discs, -, status, -⟩ := v.pickFailed_deletes d.target d.number
  refine ⟨fun m other => ?_, fun b m other => ?_, fun e he => ?_⟩
  · refine .andThen (.withdraw s d.number) ?_
    exact .of_disc ((State.disc_of_discs discs m).trans (v.deleteRecord_disc_ne other))
  · have same : (v.bay b).worksOn m ↔ (s.bay b).worksOn m := by
      rcases s.withdraw_bay d.number b with same | reset
      · rw [same]
      · rw [reset]
    rw [← same]
    rcases v.pickFailed_bay d.target d.number b with stays | ⟨-, state, -, told⟩
    · rw [State.cancelQueued, stays]
    · rw [State.cancelQueued, told]
      exact Bay.worksOn_told state
  · rw [State.cancelQueued, status]
    refine (State.signalsKept.deleteRecord (.refl v) d.number).events e ?_
    rwa [s.withdraw_pending]

/-- A station that is told changes the bay that awaits the disc, if any. -/
theorem State.tellAwaiting_bays (u : State) (r : MoveReq) (at_ : Station) (n : Nat) (c : BayId) :
    (u.tellAwaiting r at_ n false).bay c = u.bay c ∨
      ((u.bay c).state = .awaitDisc ∧ (u.tellAwaiting r at_ n false).bay c = (u.bay c).cleared.toIdle) := by
  have told (b : BayId) : (u.discWillNotCome b n false).bay c = u.bay c ∨
      ((u.bay c).state = .awaitDisc ∧ (u.discWillNotCome b n false).bay c = (u.bay c).cleared.toIdle) := by
    rw [State.discWillNotCome_bay]
    split
    · next is =>
      obtain ⟨rfl, state, -⟩ := is
      exact .inr ⟨state, rfl⟩
    · exact .inl rfl
  unfold State.tellAwaiting
  split
  · exact told _
  · split
    · exact told _
    · exact .inl rfl
  all_goals exact .inl rfl

theorem State.keepsDisc.legGoesOn (s : State) (r : MoveReq) : s.keepsDisc (s.legGoesOn r) m := by
  obtain ⟨f, steps, -⟩ := s.legGoesOn_steps r
  refine .andThen (.setToOut s (s.trans.legDisc r)) (.of_discs ?_)
  rw [steps]
  exact s.legTurned_discs r

theorem State.legGoesOn_spares (s : State) (r : MoveReq) (n : Nat) : s.sparesOthers (s.legGoesOn r) n := by
  obtain ⟨f, steps, -⟩ := s.legGoesOn_steps r
  refine ⟨fun m _ => ?_, fun b m _ => ?_, fun e he => ?_⟩
  · exact .legGoesOn s r
  · have gave : (s.giveUp.bay b).worksOn m ↔ (s.bay b).worksOn m := by
      rcases s.giveUp_bay b with same | reset
      · rw [same]
      · rw [reset]
    rw [← gave, steps]
    rcases (s.giveUp.setToOut (s.trans.legDisc r)).tellAwaiting_bays r (s.trans.legDest r) (s.trans.legDisc r) b with
      same | ⟨state, told⟩
    · exact Iff.of_eq (congrArg (Bay.worksOn · m) same)
    · exact (Iff.of_eq (congrArg (Bay.worksOn · m) told)).trans (Bay.worksOn_told state)
  · rw [steps]
    rwa [show ((s.legTurned r).modTrans f).status = s.status from s.legTurned_keeps r .status (by decide)]

theorem State.changeDest_cases (s : State) (n : Nat) :
    s.changeDest n = s ∨ ∃ r, s.trans.current = some r ∧ s.trans.legDisc r = n ∧ s.changeDest n = s.legGoesOn r := by
  by_cases own : ∃ r, s.trans.current = some r ∧ s.trans.legDisc r = n
  · obtain ⟨r, current, rfl⟩ := own
    exact .inr ⟨r, current, rfl, State.changeDest_legGoesOn current⟩
  · exact .inl (State.changeDest_other fun r current disc => own ⟨r, current, disc⟩)

theorem State.keepsDisc.changeDest (s : State) (n : Nat) : s.keepsDisc (s.changeDest n) m := by
  rcases s.changeDest_cases n with same | ⟨r, -, -, goesOn⟩
  · rw [same]
    exact .of_discs rfl
  · rw [goesOn]
    exact .legGoesOn s r

theorem State.sparesOthers.andThen (first : s.sparesOthers u n) (next : u.sparesOthers t n) : s.sparesOthers t n :=
  ⟨fun m other => (first.discs m other).andThen (next.discs m other),
    fun b m other => (next.bays b m other).trans (first.bays b m other), fun e he => next.events e (first.events e he)⟩

theorem State.setReject_spares (s : State) (n : Nat) (why : RejectReason) : s.sparesOthers (s.setReject n why) n :=
  ⟨fun _ other => .setReject other why, fun _ _ _ => Iff.rfl, fun _ => id⟩

theorem State.cancelOnArm_spares (s : State) (d : Disc) : s.sparesOthers (s.cancelOnArm d) d.number := by
  unfold State.cancelOnArm
  split
  · refine (s.setReject_spares d.number .cancelled).andThen ?_
    rcases (s.setReject d.number .cancelled).changeDest_cases d.number with same | ⟨r, -, -, goesOn⟩
    · rw [same]
      exact .refl _ _
    · rw [goesOn]
      exact State.legGoesOn_spares _ r _
  · exact .refl s _

theorem State.abandonWork_bay_ne (s : State) (other : c ≠ b) : (s.abandonWork b).bay c = s.bay c := by
  have released (u : State) : (u.releaseAllocation b).bay c = u.bay c := by
    unfold State.releaseAllocation
    split
    · rfl
    · rw [State.modGov_bay, State.modBay_bay_ne _ _ other]
  simp only [State.abandonWork, State.leaveVerify_bay, released, State.leaveImage_bay, State.leaveAdmission,
    State.modGov_bay, State.modBay_bay_ne _ _ other, State.portReset]

theorem State.bayReject_bay_ne (why : RejectReason) (holds : (s.bay b).disc = some n) (other : c ≠ b) :
    (s.bayReject b why).bay c = s.bay c := by
  rw [State.bayReject_eq why holds, State.enterAwaitUnload, State.bay_of_bays (State.postUnload_frame _ b n _).2.2.1,
    State.modBay_bay_ne _ _ other]
  exact State.abandonWork_bay_ne _ other

theorem State.bayReject_spares (why : RejectReason) (holds : (s.bay b).disc = some n) :
    s.sparesOthers (s.bayReject b why) n := by
  refine ⟨fun m other => ?_, fun c m other => ?_, (State.signalsKept.bayReject (.refl s) b why).events⟩
  · rw [State.bayReject_eq why holds]
    refine .andThen (.setReject other why) (.andThen (u := s.rejecting b n why) (.of_discs ?_) ?_)
    · simp [State.rejecting]
    · exact .enterAwaitUnload _ b n
  · by_cases own : c = b
    · subst own
      rw [State.bayReject_bay why holds]
      simp [Bay.worksOn, Bay.unloading, holds, other.symm]
    · rw [State.bayReject_bay_ne why holds own]

theorem State.cancelDisc_spares (s : State) (d : Disc) : s.sparesOthers (s.cancelDisc d) d.number := by
  unfold State.cancelDisc
  split
  · exact s.cancelQueued_spares d
  · split
    · exact s.cancelOnArm_spares d
    · unfold State.cancelInBay
      split
      · next works => exact State.bayReject_spares .cancelled works.2.2
      · exact .refl s _
    · unfold State.cancelInPrinter
      split
      · exact s.setReject_spares _ _
      · exact .refl s _
    · exact .refl s _
    · exact .refl s _

end Sys2Proof.Machine
end

/-! # Proofs: the job under cancel, and the counts of the reply (R152, R157) -/

section

namespace Sys2Proof.Machine

variable {s t u v : State} {n m : Nat} {b : BayId} {d e : Disc} {k : JobSlot} {i j : Job}

/-! ## The job under cancel (R157) -/

/-- The job is CANCELLING, or is CANCELLED with none in flight and JOB_DONE raised. -/
structure State.ending (s : State) (k : JobSlot) (j : Job) : Prop where
  job : s.job k = some j
  state : j.state = .cancelling ∨
    j.state = .cancelled ∧ j.inFlight = 0 ∧ s.status.pending.getLsbD Event.jobDone.bit = true

theorem State.ending.of_job (h : s.ending k i) (same : t.job k = s.job k) (events : s.pendingGrows t) : t.ending k i :=
  ⟨same.trans h.job, h.state.imp_right fun ⟨state, none_, raised⟩ => ⟨state, none_, events .jobDone raised⟩⟩

theorem State.ending.cancels (h : s.ending k i) : i.state = .cancelling ∨ i.state = .cancelled := h.state.imp_right And.left

/-- The job without `c` of its discs, CANCELLED when these were its last. -/
def Job.fewer (j : Job) (c : Nat) : Job :=
  { j with started := j.started - c, inFlight := j.inFlight - c
           state := if 0 < c ∧ j.inFlight - c = 0 then .cancelled else j.state }

theorem Job.fewer_zero (j : Job) : j.fewer 0 = j := by simp [Job.fewer]

theorem Job.fewer_fewer (j : Job) (a c : Nat) : (j.fewer a).fewer c = j.fewer (a + c) := by
  have last : (0 < c ∧ j.inFlight - a - c = 0) ∨ (0 < a ∧ j.inFlight - a = 0) ↔ 0 < a + c ∧ j.inFlight - (a + c) = 0 := by
    omega
  simp only [Job.fewer, ← last, Nat.sub_sub, ite_or]

/-- A record of the job deleted. -/
theorem State.ending.deleteRecord (h : s.ending k i) (he : s.disc n = some e) (of : e.job = some k) :
    (s.deleteRecord n).ending k (i.fewer 1) := by
  have counted : i.uncount.settleCancel = i.fewer 1 := by rw [Job.uncount_ending h.cancels]; simp [Job.fewer]
  refine ⟨by rw [State.deleteRecord_job he of h.job, counted], ?_⟩
  by_cases last : i.inFlight - 1 = 0
  · refine .inr ⟨by simp [Job.fewer, last], last, ?_⟩
    rcases h.state with cancelling | ⟨-, -, raised⟩
    · rw [State.deleteRecord_eq he, State.freeRecord_raisesNo _ _ (by decide)]
      exact (State.uncounts_ending of h.job h.cancels).2 cancelling last
    · exact (State.signalsKept.deleteRecord (.refl s) n).events .jobDone raised
  · refine .inl ?_
    rcases h.state with cancelling | ⟨-, none_, -⟩
    · simp [Job.fewer, last, cancelling]
    · omega

/-! ## The cancel of one disc, seen from its job -/

theorem State.cancelQueued_ending (h : s.ending k i) (he : s.disc d.number = some e) (of : e.job = some k) :
    (s.cancelQueued d).ending k (i.fewer 1) := by
  obtain ⟨x, hx, job, -⟩ := (State.keepsDisc.withdraw s d.number).stands e he
  have jobs : (s.withdraw d.number).jobs = s.jobs := (s.withdraw_frame d.number).2.1
  have withdrawn : (s.withdraw d.number).ending k i :=
    h.of_job (by rw [State.job, jobs]; rfl) fun e raised => by rwa [s.withdraw_pending]
  obtain ⟨-, jobs, status, -⟩ := (s.withdraw d.number).pickFailed_deletes d.target d.number
  refine (withdrawn.deleteRecord hx (job.trans of)).of_job ?_ fun e raised => ?_
  · rw [State.cancelQueued, State.job, jobs]
    rfl
  · rwa [State.cancelQueued, status]

/-- The job that the Dispatcher chooses is in its slot and fits. -/
theorem State.chooseFrom_fits {l : List JobSlot} {i : SpindleId} (h : s.chooseFrom l = some (k, j, i)) :
    s.job k = some j ∧ s.fitsJob j i := by
  induction l with
  | nil => exact nomatch h
  | cons slot l ih =>
    unfold State.chooseFrom at h
    split at h
    · exact ih h
    · next hj =>
      split at h
      · exact ih h
      · next fits =>
        obtain ⟨rfl, rfl, rfl⟩ : slot = k ∧ _ = j ∧ _ = i := by simpa using h
        exact ⟨hj, (s.eligible_iff _ _).1 fits⟩

theorem State.swapJob_active {i : SpindleId} (h : s.swapJob b = some (k, j, i)) : s.job k = some j ∧ j.state = .active := by
  unfold State.swapJob at h
  split at h
  · split at h
    · next chosen =>
      split at h
      · exact nomatch h
      · obtain ⟨rfl, rfl, rfl⟩ : _ = k ∧ _ = j ∧ _ = i := by simpa using h
        obtain ⟨hj, fits⟩ := State.chooseFrom_fits chosen
        exact ⟨hj, fits.active⟩
    · exact nomatch h
  · exact nomatch h

/-- An unload takes its second disc from an ACTIVE job only. -/
theorem State.postUnload_job (closed : ∀ j, s.job k = some j → j.state ≠ .active) (b : BayId) (n : Nat) (at_ : Station) :
    (s.postUnload b n at_).job k = s.job k := by
  have posted (u : State) (r : MoveReq) : (u.postMove r).job k = u.job k := by simp [State.job]
  unfold State.postUnload
  split
  · exact posted s _
  · next m j' i' swaps =>
    obtain ⟨hj, active⟩ := State.swapJob_active swaps
    have other : k ≠ m := fun is => closed j' (is ▸ hj) active
    rw [posted, State.createDispatch_eq i' b hj active, State.setJob_job_ne _ _ other]
    rfl

theorem State.bayReject_job (why : RejectReason) (holds : (s.bay b).disc = some n)
    (closed : ∀ j, s.job k = some j → j.state ≠ .active) : (s.bayReject b why).job k = s.job k := by
  have jobs : (s.rejecting b n why).jobs = s.jobs := by simp [State.rejecting]
  have same (f : Bay → Bay) : ((s.rejecting b n why).modBay b f).job k = s.job k := by
    rw [State.job, State.job, (State.modBay_frame _ b f).2.1, jobs]
  rw [State.bayReject_eq why holds, State.enterAwaitUnload, State.postUnload_job (by rwa [same]), same]

/-- One disc fewer with a record deleted, and as many else. -/
theorem State.cancelDisc_ending (h : s.ending k i) (he : s.disc d.number = some e) (of : e.job = some k) :
    (s.cancelDisc d).ending k (i.fewer (if d.stage = .queued then 1 else 0)) := by
  by_cases queued : d.stage = .queued
  · rw [if_pos queued, State.cancelDisc_queued queued]
    exact State.cancelQueued_ending h he of
  · rw [if_neg queued, Job.fewer_zero]
    refine h.of_job ?_ (s.cancelDisc_spares d).events
    rw [State.cancelDisc, if_neg queued]
    split
    · simp [State.job]
    · unfold State.cancelInBay
      split
      · next works =>
        refine State.bayReject_job .cancelled works.2.2 fun j hj => ?_
        obtain rfl := Option.some.inj (h.job.symm.trans hj)
        rcases h.cancels with state | state <;> simp [state]
      · rfl
    · unfold State.cancelInPrinter
      split <;> rfl
    · rfl
    · rfl

/-! ## The discs set CANCELLED -/

/-- The discs that a cancel sets CANCELLED, by where they are (R154 to R156). -/
abbrev State.cancelRejects (s : State) (d : Disc) : Prop := d.stage ≠ .queued ∧ d.disposition = .pending ∧
  (d.location = .arm ∨ d.location = .prn ∨ ∃ b, d.location = .bay b ∧ (s.bay b).worksOn d.number)

theorem State.sparesOthers.cancelRejects_iff (h : s.sparesOthers t n) (other : d.number ≠ n) :
    t.cancelRejects d ↔ s.cancelRejects d := by
  simp only [State.cancelRejects, h.bays _ _ other]

theorem State.nowCancelled_iff (s : State) (d : Disc) : s.nowCancelled d = true ↔
    d.disposition = .pending ∧ ∃ e, s.disc d.number = some e ∧ e.disposition = .reject .cancelled := by
  unfold State.nowCancelled
  cases s.disc d.number <;> simp

theorem State.keepsDisc.nowCancelled_iff (h : s.keepsDisc t d.number) :
    t.nowCancelled d = true ↔ s.nowCancelled d = true := by
  rw [State.nowCancelled_iff, State.nowCancelled_iff]
  refine and_congr_right fun _ => ?_
  cases he : s.disc d.number with
  | none =>
    refine iff_of_false (fun ⟨x, hx, cancelled⟩ => ?_) (by simp)
    exact nomatch cancelled.symm.trans (h.made he x hx)
  | some e =>
    obtain ⟨x, hx, -, disposition⟩ := h.stands e he
    simp [hx, disposition]

/-- A PENDING disc rejected with CANCELLED, whatever follows, is counted as such. -/
theorem State.keepsDisc.nowCancelled (h : (s.setReject d.number .cancelled).keepsDisc t d.number)
    (he : s.disc d.number = some e) (same : e.disposition = d.disposition) (pending : d.disposition = .pending) :
    t.nowCancelled d = true := by
  have rejected : (s.setReject d.number .cancelled).disc d.number = some (e.rejected .cancelled) := by
    rw [State.setReject_disc, he]
    rfl
  refine h.nowCancelled_iff.2 ((State.nowCancelled_iff _ d).2 ⟨pending, _, rejected, ?_⟩)
  rw [Disc.rejected_disposition, same, pending]
  rfl

theorem State.cancelDisc_nowCancelled_iff (he : s.disc d.number = some e) (same : e.disposition = d.disposition) :
    (s.cancelDisc d).nowCancelled d = true ↔ s.cancelRejects d := by
  by_cases queued : d.stage = .queued
  · have gone : (s.cancelDisc d).disc d.number = none := by
      obtain ⟨discs, -⟩ := (s.withdraw d.number).pickFailed_deletes d.target d.number
      rw [State.cancelDisc_queued queued]
      exact (State.disc_of_discs discs d.number).trans (State.deleteRecord_disc_self ..)
    refine iff_of_false (fun now => ?_) fun rejects => rejects.1 queued
    obtain ⟨-, x, hx, -⟩ := (State.nowCancelled_iff _ d).1 now
    exact nomatch hx.symm.trans gone
  by_cases pending : d.disposition = .pending
  · have stays : s.nowCancelled d = false := by simp [State.nowCancelled, he, same, pending]
    cases at_ : d.location with
    | arm =>
      refine iff_of_true ?_ ⟨queued, pending, .inl at_⟩
      rw [State.cancelDisc_onArm queued at_, State.cancelOnArm_eq pending]
      exact (State.keepsDisc.changeDest _ _).nowCancelled he same pending
    | prn =>
      refine iff_of_true ?_ ⟨queued, pending, .inr (.inl at_)⟩
      rw [State.cancelDisc_inPrinter s d queued pending at_, ← State.setReject_cancels]
      exact State.keepsDisc.nowCancelled (.of_disc rfl) he same pending
    | bay b =>
      by_cases works : (s.bay b).worksOn d.number
      · refine iff_of_true ?_ ⟨queued, pending, .inr (.inr ⟨b, at_, works⟩)⟩
        rw [State.cancelDisc_working queued pending at_ works, State.nowCancelled_iff]
        refine ⟨pending, _, State.bayReject_disc .cancelled works.1 he, ?_⟩
        rw [(Disc.postedFrom_keeps _ _ b).1, Disc.rejected_disposition, same, pending]
        rfl
      · rw [State.cancelDisc_resting queued at_ works]
        refine iff_of_false (by simp [stays]) fun rejects => ?_
        simp [State.cancelRejects, at_, works] at rejects
    | _ => simp [State.cancelDisc, queued, at_, stays, State.cancelRejects]
  · refine iff_of_false (fun now => pending ?_) fun rejects => pending rejects.2.1
    exact ((State.nowCancelled_iff _ d).1 now).1

/-! ## The discs of the job, one after the other (R152) -/

/-- The record of `d` still names the job, with the disposition that it had. -/
def State.hasDisc (s : State) (k : JobSlot) (d : Disc) : Prop :=
  ∃ e, s.disc d.number = some e ∧ e.job = some k ∧ e.disposition = d.disposition

theorem State.keepsDisc.hasDisc (h : s.keepsDisc t d.number) (has : s.hasDisc k d) : t.hasDisc k d := by
  obtain ⟨e, he, job, disposition⟩ := has
  obtain ⟨x, hx, job', disposition'⟩ := h.stands e he
  exact ⟨x, hx, job'.trans job, disposition'.trans disposition⟩

/-- What the discs of a list, cancelled one after the other, leave for the reply. -/
structure State.cancelsDiscs (s t : State) (k : JobSlot) (i : Job) (l : List Disc) : Prop where
  job : t.ending k (i.fewer (l.countP fun d => d.stage == .queued))
  others : ∀ m, m ∉ l.map Disc.number → s.keepsDisc t m
  rejected : ∀ d ∈ l, t.nowCancelled d = true ↔ s.cancelRejects d

theorem State.foldl_cancelDisc (l : List Disc) : ∀ {s : State} {i : Job}, s.ending k i → (∀ d ∈ l, s.hasDisc k d) →
    (l.map Disc.number).Nodup → s.cancelsDiscs (l.foldl State.cancelDisc s) k i l := by
  induction l with
  | nil =>
    intro s i job _ _
    exact ⟨by simpa [Job.fewer_zero] using job, fun m _ => .of_discs rfl, fun d hd => nomatch hd⟩
  | cons d l ih =>
    intro s i job has distinct
    obtain ⟨fresh, distinct⟩ := List.nodup_cons.1 distinct
    have other : ∀ e ∈ l, e.number ≠ d.number := fun e he is => fresh (is ▸ List.mem_map_of_mem he)
    obtain ⟨e, he, of, same⟩ := has d List.mem_cons_self
    have spares := s.cancelDisc_spares d
    obtain ⟨ends, others, rejected⟩ := ih (State.cancelDisc_ending job he of)
      (fun e he => (spares.discs _ (other e he)).hasDisc (has e (List.mem_cons_of_mem _ he))) distinct
    refine ⟨?_, fun m absent => ?_, fun e he' => ?_⟩
    · rw [Job.fewer_fewer] at ends
      simpa [List.countP_cons, Nat.add_comm] using ends
    · obtain ⟨ne, absent⟩ := not_or.1 (mt List.mem_cons.2 absent)
      exact (spares.discs m ne).andThen (others m absent)
    · rcases List.mem_cons.1 he' with rfl | he'
      · exact (others _ fresh).nowCancelled_iff.trans (State.cancelDisc_nowCancelled_iff he same)
      · exact (rejected e he').trans (spares.cancelRejects_iff (other e he'))

/-! ## The end of the job (R157) -/

theorem State.setJob_same (hj : s.job k = some j) : s.setJob k (some j) = s := by
  have same : s.jobs.slots.set k.val (some j) = s.jobs.slots := by
    rw [← hj]
    exact Vector.set_getElem_self _
  rw [State.setJob, same]

/-- A bit that is set stays as it is. -/
theorem putBit_of_getLsbD {x : BitVec 16} {a : Nat} (bound : a < 16) (set : x.getLsbD a = true) : putBit x a true = x := by
  refine BitVec.eq_of_getLsbD_eq fun c hc => (putBit_get x true bound hc).trans ?_
  split
  · next is => rw [is, set]
  · rfl

theorem Job.settleCancel_of_cancelling (cancelling : i.state = .cancelling) :
    i.settleCancel = { i with state := if i.inFlight = 0 then .cancelled else .cancelling } := by
  by_cases none_ : i.inFlight = 0
  · simp [Job.settleCancel, Job.cancelDone, cancelling, none_]
  · simp [Job.settleCancel, Job.cancelDone, ← cancelling, none_]

/-- The job with none in flight is CANCELLED and JOB_DONE raised, whether by its last record or now. -/
theorem State.ending.countJob (h : s.ending k i) : s.countJob k id = { s with
    jobs := { s.jobs with
      slots := s.jobs.slots.set k.val (some { i with state := if i.inFlight = 0 then .cancelled else .cancelling }) }
    status := { s.status with
      pending := if i.inFlight = 0 then s.status.pending ||| (1#16 <<< 1) else s.status.pending } } := by
  unfold State.countJob
  rcases h.state with cancelling | ⟨cancelled, none_, raised⟩
  · simp only [h.job, id, Job.settleCancel_of_cancelling cancelling, cancelling]
    by_cases none_ : i.inFlight = 0
    · simp only [none_, if_true]
      rfl
    · simp only [none_, if_false]
      rfl
  · have settled : i.settleCancel = { i with state := .cancelled } := by
      simp [Job.settleCancel, Job.cancelDone, ← cancelled]
    have again : s.status.pending ||| (1#16 <<< 1) = s.status.pending := putBit_of_getLsbD (by decide) raised
    simp only [h.job, id, settled, cancelled, none_, if_true, again]
    rfl

/-- A job that still has a disc in flight has not ended. -/
theorem State.ending.countJob_inFlight (h : s.ending k i) (some_ : i.inFlight ≠ 0) : s.countJob k id = s := by
  have same : i.settleCancel = i := by simp [Job.settleCancel, Job.cancelDone, some_]
  simp only [State.countJob, h.job, id, same, ne_eq, not_true, false_and, if_false, State.setJob_same h.job]

end Sys2Proof.Machine
end

/-! # Proofs: JOB CANCEL (R152 to R157) -/

section

namespace Sys2Proof.Machine

variable {s t u v : State} {b : BayId} {d e : Disc} {k : JobSlot} {i j : Job} {number : BitVec 16} {before after : List Disc}

/-! ## By number and state (R152) -/

theorem execJobCancel_noSuch (present : number ≠ 0) (absent : ∀ k j, s.job k = some j → j.number ≠ number.toNat) :
    exec (.jobCancel number) s = .next (s.answer 0x53 .noSuch .none) := by
  simp only [exec, execJobCancel, if_neg present, State.jobNamed_of_absent absent]
  rfl

theorem State.jobNamed_of_request (only : s.onlyJob k j) (named : j.number = number.toNat) :
    s.jobNamed number.toNat = some (k, j) := named ▸ State.jobNamed_of_onlyJob only

theorem execJobCancel_over (present : number ≠ 0) (only : s.onlyJob k j) (named : j.number = number.toNat)
    (ended : j.state = .complete ∨ j.state = .cancelled) : exec (.jobCancel number) s = .next (s.answer 0x53 .state .none) := by
  have found := State.jobNamed_of_request only named
  rcases ended with state | state <;> simp only [exec, execJobCancel, if_neg present, found, state] <;> rfl

/-- A job under cancel answers with what is left of it (log 15). -/
theorem execJobCancel_again (present : number ≠ 0) (only : s.onlyJob k j) (named : j.number = number.toNat)
    (state : j.state = .cancelling) :
    exec (.jobCancel number) s = .next (s.answer 0x53 .ok (.cancelled 0 0 j.inFlight)) := by
  have found := State.jobNamed_of_request only named
  simp only [exec, execJobCancel, if_neg present, found, state]
  rfl

/-- The request names a job that may be cancelled. -/
structure State.mayCancel (s : State) (number : BitVec 16) (k : JobSlot) (j : Job) : Prop where
  present : number ≠ 0
  only : s.onlyJob k j
  named : j.number = number.toNat
  live : j.state = .active ∨ j.state = .filled ∨ ∃ cause, j.state = .held cause

theorem State.mayCancel.exec_eq (h : s.mayCancel number k j) :
    exec (.jobCancel number) s = .next ((s.watched (s.cancelJob k j)).answer 0x53 .ok
      (cancelCounts (s.discsOf k) (s.watched (s.cancelJob k j)) k)) := by
  have found := State.jobNamed_of_request h.only h.named
  rcases h.live with state | state | ⟨cause, state⟩ <;>
    simp only [exec, execJobCancel, if_neg h.present, found, state] <;> rfl

/-! ## An accepted cancel (R152, R157) -/

/-- The job CANCELLING, its discs as they were. -/
def State.cancelling (s : State) (k : JobSlot) (j : Job) : State := s.setJob k (some { j with state := .cancelling })

/-- The job CANCELLING, and each of its discs handled, in the order of their creation (log 41). -/
def State.discsCancelled (s : State) (k : JobSlot) (j : Job) : State :=
  (s.discsOf k).foldl State.cancelDisc (s.cancelling k j)

theorem State.cancelJob_eq (s : State) (k : JobSlot) (j : Job) :
    s.cancelJob k j = (s.discsCancelled k j).countJob k id := rfl

/-- The number of each of the job's discs is its own. -/
structure State.ownNumbers (s : State) (k : JobSlot) : Prop where
  reads : ∀ d ∈ s.discsOf k, s.disc d.number = some d
  distinct : ((s.discsOf k).map Disc.number).Nodup

theorem State.ownNumbers_of_nodup (distinct : (s.discs.records.map Disc.number).Nodup) : s.ownNumbers k := by
  refine ⟨fun d hd => ?_, distinct.sublist (List.filter_sublist.map _)⟩
  obtain ⟨before, after, records⟩ := List.append_of_mem (List.mem_filter.1 hd).1
  refine State.disc_of_records records fun e he same => ?_
  have moved : (s.discs.records.map Disc.number).Perm (d.number :: (before ++ after).map Disc.number) := by
    rw [records, ← List.map_cons]
    exact List.perm_middle.map _
  exact (List.nodup_cons.1 (moved.nodup_iff.1 distinct)).1 (same ▸ List.mem_map_of_mem he)

theorem State.discsCancelled_cancels (own : s.ownNumbers k) :
    (s.cancelling k j).cancelsDiscs (s.discsCancelled k j) k { j with state := .cancelling } (s.discsOf k) :=
  State.foldl_cancelDisc _ ⟨State.setJob_job .., .inl rfl⟩
    (fun d hd => ⟨d, own.reads d hd, by simpa using (List.mem_filter.1 hd).2, rfl⟩) own.distinct

/-- The reply counts the discs deleted, those set CANCELLED and those left, by where each was. -/
theorem State.mayCancel.accepted (h : s.mayCancel number k j) (own : s.ownNumbers k) :
    let deleted := (s.discsOf k).countP fun d => decide (d.stage = .queued)
    (s.discsCancelled k j).ending k (Job.fewer { j with state := .cancelling } deleted) ∧
      exec (.jobCancel number) s = .next ((s.watched ((s.discsCancelled k j).countJob k id)).answer 0x53 .ok
        (.cancelled deleted ((s.discsOf k).countP fun d => decide (s.cancelRejects d)) (j.inFlight - deleted))) := by
  intro deleted
  obtain ⟨job, -, rejected⟩ := State.discsCancelled_cancels (j := j) own
  have queued : ((s.discsOf k).countP fun d => d.stage == .queued) = deleted := List.countP_congr fun d _ => by simp
  rw [queued] at job
  refine ⟨job, ?_⟩
  have now : ((s.discsOf k).countP ((s.discsCancelled k j).countJob k id).nowCancelled) =
      (s.discsOf k).countP fun d => decide (s.cancelRejects d) := by
    refine List.countP_congr fun d hd => ?_
    have same : ((s.discsCancelled k j).countJob k id).nowCancelled d = (s.discsCancelled k j).nowCancelled d := by
      rw [job.countJob]
      rfl
    rw [same, rejected d hd, decide_eq_true_eq]
    exact Iff.rfl
  have left : (((s.discsCancelled k j).countJob k id).job k).elim 0 Job.inFlight = j.inFlight - deleted := by
    rw [State.countJob_job id job.job, if_pos rfl]
    unfold Job.settleCancel
    split <;> rfl
  rw [h.exec_eq, State.cancelJob_eq]
  unfold cancelCounts
  rw [queued, State.watched_job, left, ← now]
  rfl

/-! ## A job with one disc in flight (R154 to R156) -/

/-- The job's discs, when it has one record alone. -/
theorem State.discsOf_one (records : s.discs.records = before ++ d :: after) (of : d.job = some k)
    (others : ∀ e ∈ before ++ after, e.job ≠ some k ∧ e.number ≠ d.number) : s.discsOf k = [d] := by
  have none_ : ∀ l : List Disc, (∀ e ∈ l, e ∈ before ++ after) → (l.filter fun e => e.job == some k) = [] :=
    fun l hl => List.filter_eq_nil_iff.2 fun e he => by simpa using (others e (hl e he)).1
  rw [State.discsOf, records, List.filter_append, List.filter_cons_of_pos (by simp [of]),
    none_ _ fun e he => List.mem_append_left _ he, none_ _ fun e he => List.mem_append_right _ he]
  rfl

theorem State.mayCancel.exec_one (h : s.mayCancel number k j) (inFlight : j.inFlight = 1)
    (records : s.discs.records = before ++ d :: after) (of : d.job = some k)
    (others : ∀ e ∈ before ++ after, e.job ≠ some k ∧ e.number ≠ d.number) (stage : d.stage ≠ .queued) :
    ((s.cancelling k j).cancelDisc d).job k = some { j with state := .cancelling } ∧
      exec (.jobCancel number) s = .next ((s.watched ((s.cancelling k j).cancelDisc d)).answer 0x53 .ok
        (.cancelled 0 (if s.cancelRejects d then 1 else 0) 1)) := by
  have one := State.discsOf_one records of others
  have own : s.ownNumbers k := by
    refine ⟨fun e he => ?_, by simp [one]⟩
    obtain rfl : e = d := by simpa [one] using he
    exact State.disc_of_records records fun x hx => (others x hx).2
  obtain ⟨ends, runs⟩ := h.accepted own
  have cancelled : s.discsCancelled k j = (s.cancelling k j).cancelDisc d := by rw [State.discsCancelled, one]; rfl
  simp only [one, List.countP_singleton, stage, decide_false, Bool.false_eq_true, if_false, cancelled, Job.fewer_zero,
    decide_eq_true_eq] at ends runs
  rw [ends.countJob_inFlight (by simp [inFlight]), inFlight] at runs
  exact ⟨ends.job, runs⟩

/-! ## No evaluation starts (R19) -/

theorem State.quiet.of_status (h : s.quiet t) (x : StatusUnit) : s.quiet { t with status := x } := { h with }

theorem State.quiet.of_numbers (h : s.quiet t) {x : DiscTable}
    (numbers : ∀ d ∈ s.discs.records, ∃ e ∈ x.records, e.number = d.number) : s.quiet { t with discs := x } :=
  { h with records := numbers }

/-- A job that is cancelled opens nothing up. -/
theorem State.quiet_cancel (hj : s.job k = some j) (ends : i.state = .cancelling ∨ i.state = .cancelled) :
    s.quiet (s.setJob k (some i)) := by
  refine State.quiet_setJob hj fun x is => ?_
  obtain rfl := Option.some.inj is
  rcases ends with state | state <;> rw [state] <;> cases j.state <;> rfl

/-! ## The clauses -/

/-- A job with no disc is CANCELLED at once. -/
theorem State.mayCancel.exec_none (h : s.mayCancel number k j) (none_ : ∀ d ∈ s.discs.records, d.job ≠ some k)
    (inFlight : j.inFlight = 0) : exec (.jobCancel number) s = .next ({ s with
      jobs := { s.jobs with slots := s.jobs.slots.set k.val (some { j with state := .cancelled }) }
      status := { s.status with pending := s.status.pending ||| (1#16 <<< 1) } }.answer 0x53 .ok (.cancelled 0 0 0)) := by
  have empty : s.discsOf k = [] := List.filter_eq_nil_iff.2 fun d hd => by simpa using none_ d hd
  obtain ⟨ends, runs⟩ := h.accepted ⟨by simp [empty], by simp [empty]⟩
  have cancelled : s.discsCancelled k j = s.cancelling k j := by rw [State.discsCancelled, empty]; rfl
  simp only [empty, List.countP_nil, cancelled, Job.fewer_zero, Nat.sub_zero, inFlight] at ends runs
  have ended : (s.cancelling k j).countJob k id = { s.setJob k (some { j with state := .cancelled }) with
      status := { s.status with pending := s.status.pending ||| (1#16 <<< 1) } } := by
    rw [ends.countJob]
    simp only [State.cancelling, State.setJob, Vector.set_set, inFlight, if_true]
  have quiet : s.quiet (s.setJob k (some { j with state := .cancelled })) := State.quiet_cancel h.only.1 (.inr rfl)
  rw [runs, ended, (quiet.of_status _).watched]
  rfl

/-- A disc that stays as it is: the job is CANCELLING, and that is all. -/
theorem State.mayCancel.exec_stays (h : s.mayCancel number k j) (inFlight : j.inFlight = 1)
    (records : s.discs.records = before ++ d :: after) (of : d.job = some k)
    (others : ∀ e ∈ before ++ after, e.job ≠ some k ∧ e.number ≠ d.number) (stage : d.stage ≠ .queued)
    (stays : (∃ b, d.location = .bay b ∧ ((s.bay b).state = .awaitUnload ∨ (s.bay b).state = .fault)) ∨
      d.disposition ≠ .pending) : exec (.jobCancel number) s =
      .next ((s.cancelling k j).answer 0x53 .ok (.cancelled 0 0 1)) := by
  have rests : (s.cancelling k j).cancelDisc d = s.cancelling k j ∧ ¬ s.cancelRejects d := by
    rcases stays with ⟨b, at_, state⟩ | settled
    · have idle : ¬ (s.bay b).worksOn d.number := by rcases state with state | state <;> simp [state]
      exact ⟨State.cancelDisc_resting stage at_ idle, by simp [at_, idle]⟩
    · exact ⟨State.cancelDisc_goesOn _ d stage settled, fun rejects => settled rejects.2.1⟩
  obtain ⟨-, runs⟩ := h.exec_one inFlight records of others stage
  rw [runs, rests.1, if_neg rests.2, State.cancelling, (State.quiet_cancel h.only.1 (.inl rfl)).watched]

/-- A PENDING disc in the printer's charge. -/
theorem State.mayCancel.exec_inPrinter (h : s.mayCancel number k j) (inFlight : j.inFlight = 1)
    (records : s.discs.records = before ++ d :: after) (of : d.job = some k)
    (others : ∀ e ∈ before ++ after, e.job ≠ some k ∧ e.number ≠ d.number) (stage : d.stage ≠ .queued)
    (at_ : d.location = .prn) (pending : d.disposition = .pending) : exec (.jobCancel number) s =
      .next ({ s.cancelling k j with discs := { s.discs with
        records := before ++ d.rejected .cancelled :: after } }.answer 0x53 .ok (.cancelled 0 1 1)) := by
  have cancels : (s.cancelling k j).cancelDisc d = { s.cancelling k j with
      discs := { s.discs with records := before ++ d.rejected .cancelled :: after } } := by
    have rejected := State.modDisc_records (s := s.cancelling k j) (Disc.rejected .cancelled) records fun e he => (others e he).2
    rw [State.cancelDisc_inPrinter _ d stage pending at_, ← State.setReject_cancels]
    exact congrArg (fun x => { s.cancelling k j with discs := x }) rejected
  have same : (before ++ d.rejected .cancelled :: after).map Disc.number = s.discs.records.map Disc.number := by
    simp [records, Disc.rejected_number]
  have quiet : s.quiet { s.cancelling k j with
      discs := { s.discs with records := before ++ d.rejected .cancelled :: after } } :=
    (State.quiet_cancel h.only.1 (.inl rfl)).of_numbers fun x hx => List.mem_map.1 (same ▸ List.mem_map_of_mem hx)
  obtain ⟨-, runs⟩ := h.exec_one inFlight records of others stage
  rw [runs, cancels, if_pos ⟨stage, pending, .inr (.inl at_)⟩, quiet.watched]

/-- A PENDING disc in a working bay. -/
theorem State.mayCancel.exec_working (h : s.mayCancel number k j) (inFlight : j.inFlight = 1)
    (records : s.discs.records = before ++ d :: after) (of : d.job = some k)
    (others : ∀ e ∈ before ++ after, e.job ≠ some k ∧ e.number ≠ d.number) (stage : d.stage ≠ .queued)
    (at_ : d.location = .bay b) (pending : d.disposition = .pending) (works : (s.bay b).worksOn d.number) :
    ∃ u, exec (.jobCancel number) s = .next (u.answer 0x53 .ok (.cancelled 0 1 1)) ∧
      (s.cancelling k j).unloadsToReject u b d.number .cancelled ∧ u.job k = some { j with state := .cancelling } := by
  obtain ⟨job, runs⟩ := h.exec_one inFlight records of others stage
  rw [if_pos ⟨stage, pending, .inr (.inr ⟨b, at_, works⟩)⟩] at runs
  refine ⟨_, runs, ?_, job⟩
  rw [State.cancelDisc_working (s := s.cancelling k j) stage pending at_ works]
  exact (State.bayReject_unloadsToReject (s := s.cancelling k j) .cancelled works.1).watched s

/-- The job is CANCELLED exactly when none of its discs remains in flight. -/
theorem State.mayCancel.exec_all (h : s.mayCancel number k j) (own : s.ownNumbers k) :
    let deleted := (s.discsOf k).countP fun d => decide (d.stage = .queued)
    let left := j.inFlight - deleted
    ∃ v u : State, v.cancelsAll (s.discsOf k) (s.cancelling k j) ∧
      exec (.jobCancel number) s = .next (u.answer 0x53 .ok
        (.cancelled deleted ((s.discsOf k).countP fun d => decide (s.cancelRejects d)) left)) ∧
      u = { v with
        dispatchWanted := u.dispatchWanted
        jobs := { v.jobs with slots := v.jobs.slots.set k.val (some { j with
          state := if left = 0 then .cancelled else .cancelling, started := j.started - deleted, inFlight := left }) }
        status := { v.status with
          pending := if left = 0 then v.status.pending ||| (1#16 <<< 1) else v.status.pending } } := by
  intro deleted left
  obtain ⟨ends, runs⟩ := h.accepted own
  refine ⟨s.discsCancelled k j, s.watched ((s.discsCancelled k j).countJob k id),
    State.cancelsAll_foldl _ _ fun t d _ => t.cancelDisc_cancels d, runs, ?_⟩
  rw [ends.countJob]
  rfl

/-- Settles O35: the discs are handled one after the other, each by the lemma about where it is; what each leaves of
the other records, of the bays that work on them and of the job's counters gives the reply and the end of the job. -/
theorem jobCancelEndsTheJob : Obligations.JobCancelEndsTheJob := by
  refine ⟨fun _ => rfl, fun _ _ => execJobCancel_noSuch, fun s number k j present only named => ?_⟩
  have may (live : j.state = .active ∨ j.state = .filled ∨ ∃ cause, j.state = .held cause) : s.mayCancel number k j :=
    ⟨present, only, named, live⟩
  refine ⟨execJobCancel_over present only named, execJobCancel_again present only named,
    fun live none_ inFlight => (may live).exec_none none_ inFlight,
    fun before after d live inFlight records of others stage => ⟨fun at_ pending => ?_, fun stays => ?_,
      fun b at_ pending disc working => ?_⟩, fun live distinct => ?_⟩
  · have rejected : { d with disposition := .reject .cancelled } = d.rejected .cancelled := by
      simp [Disc.rejected, pending, Disposition.isReject]
    rw [rejected]
    exact (may live).exec_inPrinter inFlight records of others stage at_ pending
  · exact (may live).exec_stays inFlight records of others stage (stays.imp_right And.right)
  · exact (may live).exec_working inFlight records of others stage at_ pending ⟨disc, working⟩
  · have same : (s.discs.records.filter fun d => d.job = some k) = s.discsOf k :=
      List.filter_congr fun d _ => Bool.eq_iff_iff.2 (by simp)
    dsimp only
    rw [same]
    exact (may live).exec_all (State.ownNumbers_of_nodup distinct)

end Sys2Proof.Machine
end

/-! # Proofs: transfers and the catalogue (R165 to R168, R174) -/

section

namespace Sys2Proof.Machine

variable {s : State} {l : Link} {b h p : List Byte} {kind : Byte} {tag : BitVec 16} {e : Entry} {fixed : Nat}

/-! ## The header of a transfer (R165) -/

/-- A little-endian field, byte by byte; bytes past the end read 0. -/
theorem fromLE_take_succ (b : List Byte) (i n : Nat) :
    fromLE ((b.drop i).take (n + 1)) = (b.getD i 0).toNat + 256 * fromLE ((b.drop (i + 1)).take n) := by
  by_cases inside : i < b.length
  · rw [List.drop_eq_getElem_cons inside, List.take_succ_cons, fromLE, List.getD_eq_getElem b 0 inside]
  · have past : b.length ≤ i := Nat.le_of_not_lt inside
    rw [List.drop_of_length_le past, List.drop_of_length_le (Nat.le_succ_of_le past),
      List.getD_eq_default b 0 past]
    simp [fromLE]

/-- The payload length that a header gives. -/
def payloadLength (b : List Byte) : Nat :=
  (b.getD 4 0).toNat + 256 * ((b.getD 5 0).toNat + 256 * ((b.getD 6 0).toNat + 256 * (b.getD 7 0).toNat))

/-- The tag that a header gives. -/
def headerTag (b : List Byte) : BitVec 16 := BitVec.ofNat 16 ((b.getD 2 0).toNat + 256 * (b.getD 3 0).toNat)

theorem wordAt_payloadLength (b : List Byte) : (wordAt b 4).toNat = payloadLength b := by
  have bytes : fromLE ((b.drop 4).take 4) = payloadLength b := by
    simp only [fromLE_take_succ, List.take_zero, fromLE, payloadLength, Nat.mul_zero, Nat.add_zero]
  rw [wordAt, bytes, BitVec.toNat_ofNat]
  refine Nat.mod_eq_of_lt ?_
  unfold payloadLength
  omega

theorem halfAt_headerTag (b : List Byte) : halfAt b 2 = headerTag b := by
  simp only [halfAt, headerTag, fromLE_take_succ, List.take_zero, fromLE, Nat.mul_zero, Nat.add_zero]

theorem oversizeHeader_iff (b : List Byte) : oversizeHeader b = true ↔ 8 ≤ b.length ∧ 65548 < payloadLength b := by
  rw [oversizeHeader, wordAt_payloadLength, Bool.and_eq_true, decide_eq_true_iff, decide_eq_true_iff]
  rfl

/-! ## A transfer judged, by the cases of the table (R166) -/

theorem malformed_eq (b : List Byte) :
    malformed b = .refused (b.getD 0 0) (if b.length < 4 then 0 else headerTag b) .malformed := by
  rw [malformed, halfAt_headerTag, byteAt]

theorem malformed_of_header (whole : 8 ≤ b.length) :
    malformed b = .refused (b.getD 0 0) (headerTag b) .malformed := by
  rw [malformed_eq, if_neg (by omega)]

/-- Every case but the last is MALFORMED: no whole header, or a length, a type or a size that does not fit. -/
theorem judge_malformed (some_ : b ≠ []) (bad : b.length < 8 ∨ 65548 < payloadLength b ∨ b.getD 1 0 ≠ 0x01#8 ∨
    b.length ≠ 8 + payloadLength b) : judge b = some (malformed b) := by
  unfold judge
  rw [if_neg some_]
  split
  · rfl
  · next whole =>
    simp only [wordAt_payloadLength]
    split
    · rfl
    · next fits =>
      split
      · rfl
      · next type =>
        refine if_pos fun size => ?_
        obtain short | long | wrong | off := bad
        · exact whole short
        · exact fits long
        · exact type wrong
        · exact off size

/-- A complete request frame goes on to the catalogue. -/
theorem judge_frame (whole : 8 ≤ b.length) (fits : payloadLength b ≤ 65548) (type : b.getD 1 0 = 0x01#8)
    (size : b.length = 8 + payloadLength b) :
    judge b = some (checkFrame (b.getD 0 0) (headerTag b) (b.drop 8)) := by
  have some_ : b ≠ [] := List.ne_nil_of_length_pos (by omega)
  unfold judge
  simp only [wordAt_payloadLength, halfAt_headerTag]
  rw [if_neg some_, if_neg (Nat.not_lt.2 whole), if_neg (show ¬ Config.maxPayload < _ from Nat.not_lt.2 fits),
    if_neg (show ¬ byteAt b 1 ≠ Config.typeRequest from not_not_intro type), if_neg (not_not_intro size)]
  rfl

/-- Only a transfer of no bytes is ignored. -/
theorem judge_isSome (some_ : b ≠ []) : (judge b).isSome = true := by
  unfold judge
  rw [if_neg some_]
  dsimp only
  (repeat' split) <;> rfl

/-! ## A frame against the catalogue (R167, R174) -/

theorem checkFrame_badKind (absent : catalogueEntry kind = none) (tag : BitVec 16) (p : List Byte) :
    checkFrame kind tag p = .refused kind tag .badKind := by
  simp only [checkFrame, absent]

theorem catalogueEntry_settingSet : catalogueEntry 0x11#8 = some (1, true) := rfl

/-- A kind that the catalogue has is accepted exactly when its payload's length fits. -/
theorem checkFrame_of_fits {variable_ : Bool} {fits : Prop} [Decidable fits]
    (listed : catalogueEntry kind = some (fixed, variable_)) (iff : lengthFits kind fixed variable_ p = true ↔ fits) :
    checkFrame kind tag p =
      if fits then .request { kind, tag, payload := p } else .refused kind tag .malformed := by
  simp only [checkFrame, listed, iff]

theorem lengthFits_fixed (other : kind ≠ Config.kSettingSet) : lengthFits kind fixed false p = true ↔ p.length = fixed := by
  rw [lengthFits, if_neg other, Bool.false_or, Bool.and_eq_true, decide_eq_true_iff, beq_iff_eq]
  omega

theorem lengthFits_variable (other : kind ≠ Config.kSettingSet) : lengthFits kind fixed true p = true ↔ fixed ≤ p.length := by
  rw [lengthFits, if_neg other, Bool.true_or, Bool.and_true, decide_eq_true_iff]

/-- SETTING SET: the pairs that its first byte counts, five bytes each. -/
theorem lengthFits_settingSet {variable_ : Bool} : lengthFits Config.kSettingSet fixed variable_ p = true ↔
    1 ≤ p.length ∧ p.length = 1 + 5 * (p.getD 0 0).toNat := by
  rw [lengthFits, if_pos rfl, Bool.and_eq_true, decide_eq_true_iff, beq_iff_eq, byteAt]

/-! ## The inbound queue and the transfers that wait for it (R168, log 13) -/

/-- Nothing waits, or there is no place. -/
theorem Link.refill_stands (stands : l.waiting = [] ∨ 4 ≤ l.inbound.length) : l.refill = l := by
  obtain none_ | full := stands
  · rw [Link.refill, none_, List.take_nil, List.drop_nil, List.filterMap_nil, List.append_nil, ← none_]
  · have places : Config.queueFrames - l.inbound.length = 0 := Nat.sub_eq_zero_of_le full
    simp [Link.refill, places]

theorem judged_length {ts : List (List Byte)} (some_ : ∀ t ∈ ts, t ≠ []) : (ts.filterMap judge).length = ts.length := by
  induction ts with
  | nil => rfl
  | cons t ts ih =>
    obtain ⟨e, he⟩ := Option.isSome_iff_exists.1 (judge_isSome (some_ t List.mem_cons_self))
    rw [List.filterMap_cons_some he, List.length_cons, List.length_cons, ih fun u hu => some_ u (List.mem_cons_of_mem _ hu)]

/-- The transfers that wait take all the places there are, so that none is left for a second time. -/
theorem Link.refill_refill (some_ : ∀ t ∈ l.waiting, t ≠ []) : l.refill.refill = l.refill := by
  have entered : l.refill.inbound.length = l.inbound.length + min (4 - l.inbound.length) l.waiting.length := by
    rw [Link.refill, List.length_append, judged_length fun t ht => some_ t (List.mem_of_mem_take ht), List.length_take]
    rfl
  have left : l.refill.waiting.length = l.waiting.length - (4 - l.inbound.length) := List.length_drop
  refine Link.refill_stands ?_
  by_cases room : l.waiting.length ≤ 4 - l.inbound.length
  · exact .inl (List.eq_nil_of_length_eq_zero (by omega))
  · exact .inr (by omega)

theorem Link.accepts_iff (l : Link) : l.accepts = true ↔ l.inbound.length < 4 ∧ l.waiting = [] := by
  rw [Link.accepts, Bool.and_eq_true, decide_eq_true_iff, beq_iff_eq]
  rfl

theorem Link.enter_accepted (accepts : l.accepts = true) (judged : judge b = some e) :
    l.enter b = { l with inbound := l.inbound ++ [e] } := by
  simp only [Link.enter, judged, if_pos accepts]

theorem Link.enter_waits (full : l.inbound.length = 4) (some_ : b ≠ []) :
    l.enter b = { l with waiting := l.waiting ++ [b] } := by
  obtain ⟨e, judged⟩ := Option.isSome_iff_exists.1 (judge_isSome some_)
  have refuses : ¬ l.accepts = true := fun accepts => by have := (l.accepts_iff.1 accepts).1; omega
  simp only [Link.enter, judged, if_neg refuses]

/-- The end of a transfer that was not judged at its byte 7. -/
theorem Link.receive_enters (other : l.assembly ≠ b.take 8 ∨ b = []) :
    l.receive b = { l.refill.enter b with assembly := [] } := by
  have fresh : ¬ (l.assembly = b.take 8 ∧ oversizeHeader b = true) := by
    rintro ⟨same, long⟩
    obtain differs | rfl := other
    · exact differs same
    · exact absurd long (by decide)
  rw [Link.receive, if_neg fresh]

/-- The end of a transfer that was judged at its byte 7 queues nothing more. -/
theorem Link.receive_discarded (same : l.assembly = b.take 8) (long : oversizeHeader b = true) :
    l.receive b = { l.refill with assembly := [] } := by
  rw [Link.receive, if_pos ⟨same, long⟩]

theorem Link.receive_refill (some_ : ∀ t ∈ l.waiting, t ≠ []) (b : List Byte) : l.refill.receive b = l.receive b := by
  rw [Link.receive, Link.refill_refill some_]
  rfl

theorem Link.oversize_refill (some_ : ∀ t ∈ l.waiting, t ≠ []) (h : List Byte) : l.refill.oversize h = l.oversize h := by
  rw [Link.oversize, Link.refill_refill some_]
  rfl

/-! ## FRAME_RECEIVED and OVERSIZE_HEADER_RECEIVED (R166, R168) -/

theorem exec_frameReceived (open_ : s.link.port = .configured) (b : List Byte) :
    exec (.frameReceived b) s = .next { s with link := s.link.receive b } :=
  congrArg Host.Outcome.next (if_pos open_)

theorem exec_oversizeHeaderReceived (open_ : s.link.port = .configured) (long : oversizeHeader h = true) :
    exec (.oversizeHeaderReceived h) s = .next { s with link := s.link.oversize h } :=
  congrArg Host.Outcome.next (if_pos ⟨open_, long⟩)

/-- With a place free, a transfer that was judged enters the queue. -/
theorem exec_frameReceived_enters (open_ : s.link.port = .configured) (other : s.link.assembly ≠ b.take 8 ∨ b = [])
    (served : s.link.waiting = []) (room : s.link.inbound.length < 4) (judged : judge b = some e) :
    exec (.frameReceived b) s =
      .next { s with link := { s.link with assembly := [], inbound := s.link.inbound ++ [e] } } := by
  rw [exec_frameReceived open_, Link.receive_enters other, Link.refill_stands (.inl served),
    Link.enter_accepted (s.link.accepts_iff.2 ⟨room, served⟩) judged]

theorem exec_frameReceived_nil (open_ : s.link.port = .configured) (served : s.link.waiting = []) :
    exec (.frameReceived []) s = .next { s with link := { s.link with assembly := [] } } := by
  rw [exec_frameReceived open_, Link.receive_enters (.inr rfl), Link.refill_stands (.inl served)]
  rfl

theorem exec_frameReceived_waits (open_ : s.link.port = .configured) (other : s.link.assembly ≠ b.take 8)
    (some_ : b ≠ []) (full : s.link.inbound.length = 4) :
    exec (.frameReceived b) s =
      .next { s with link := { s.link with assembly := [], waiting := s.link.waiting ++ [b] } } := by
  rw [exec_frameReceived open_, Link.receive_enters (.inl other), Link.refill_stands (.inr full.ge),
    Link.enter_waits full some_]

theorem exec_frameReceived_discarded (open_ : s.link.port = .configured) (same : s.link.assembly = b.take 8)
    (long : oversizeHeader b = true) (stands : s.link.waiting = [] ∨ s.link.inbound.length = 4) :
    exec (.frameReceived b) s = .next { s with link := { s.link with assembly := [] } } := by
  rw [exec_frameReceived open_, Link.receive_discarded same long, Link.refill_stands (stands.imp_right Eq.ge)]

/-- At byte 7 the oversize transfer takes its entry, and its header stands in the assembly. -/
theorem exec_oversizeHeaderReceived_enters (open_ : s.link.port = .configured) (header : h.length = 8)
    (long : 65548 < payloadLength h) (served : s.link.waiting = []) (room : s.link.inbound.length < 4) :
    exec (.oversizeHeaderReceived h) s = .next { s with link := { s.link with
      assembly := h, inbound := s.link.inbound ++ [.refused (h.getD 0 0) (headerTag h) .malformed] } } := by
  have accepts : s.link.accepts = true := s.link.accepts_iff.2 ⟨room, served⟩
  have judged := judge_malformed (List.ne_nil_of_length_pos (by omega)) (.inr (.inl long))
  rw [exec_oversizeHeaderReceived open_ ((oversizeHeader_iff h).2 ⟨header.ge, long⟩), Link.oversize,
    Link.refill_stands (.inl served), if_pos accepts, Link.enter_accepted accepts judged,
    malformed_of_header header.ge, List.take_of_length_le header.le]

theorem exec_oversizeHeaderReceived_full (open_ : s.link.port = .configured) (header : h.length = 8)
    (long : 65548 < payloadLength h) (full : s.link.inbound.length = 4) :
    exec (.oversizeHeaderReceived h) s = .next s := by
  have refuses : ¬ s.link.accepts = true := fun accepts => by have := (s.link.accepts_iff.1 accepts).1; omega
  rw [exec_oversizeHeaderReceived open_ ((oversizeHeader_iff h).2 ⟨header.ge, long⟩), Link.oversize,
    Link.refill_stands (.inr full.ge), if_neg refuses]

/-- Settles O10: the cases of the table through `judge`, the catalogue through `lengthFits`, and a refilled queue that a second refill leaves as it is. -/
theorem aTransferIsJudged : Obligations.ATransferIsJudged := by
  refine ⟨fun s b open_ other served room => ?table, fun kind tag p => ⟨?_, fun fixed listed => ?_,
      fun fixed listed other => ?_, checkFrame_of_fits catalogueEntry_settingSet lengthFits_settingSet⟩,
    fun s b => exec_frameReceived_waits, fun s h open_ header long => ⟨?_, ?_⟩,
    fun s b open_ same whole long stands => ?_, fun s c open_ some_ which => ?refilled⟩
  case table =>
    have enters {e : Entry} (judged : judge b = some e) := exec_frameReceived_enters open_ other served room judged
    have bad (some_ : 1 ≤ b.length) (reason : b.length < 8 ∨ 65548 < payloadLength b ∨ b.getD 1 0 ≠ 0x01#8 ∨
        b.length ≠ 8 + payloadLength b) :=
      enters (malformed_eq b ▸ judge_malformed (List.ne_nil_of_length_pos some_) reason)
    refine ⟨?_, fun some_ short => bad some_ (.inl (by omega)), fun whole long => bad (by omega) (.inr (.inl long)),
      fun whole type => bad (by omega) (.inr (.inr (.inl type))), fun whole size => bad (by omega) (.inr (.inr (.inr size))),
      fun whole fits type size => enters (judge_frame whole fits type size)⟩
    rintro rfl
    exact exec_frameReceived_nil open_ served
  · exact fun absent => checkFrame_badKind absent tag p
  · have other : kind ≠ 0x11#8 := by
      rintro rfl
      exact absurd (catalogueEntry_settingSet.symm.trans listed) (by simp)
    exact checkFrame_of_fits listed (lengthFits_fixed other)
  · exact checkFrame_of_fits listed (lengthFits_variable other)
  · exact exec_oversizeHeaderReceived_enters open_ header long
  · exact exec_oversizeHeaderReceived_full open_ header long
  · exact exec_frameReceived_discarded open_ same ((oversizeHeader_iff b).2 ⟨whole, long⟩) stands
  case refilled =>
    have stillOpen : s.link.refill.port = .configured := open_
    obtain ⟨b, rfl⟩ | ⟨h, rfl, header, long⟩ := which
    · rw [exec_frameReceived open_, ← Link.receive_refill some_ b]
      exact (exec_frameReceived (s := { s with link := s.link.refill }) stillOpen b).symm
    · have long := (oversizeHeader_iff h).2 ⟨header.ge, long⟩
      rw [exec_oversizeHeaderReceived open_ long, ← Link.oversize_refill some_ h]
      exact (exec_oversizeHeaderReceived (s := { s with link := s.link.refill }) stillOpen long).symm

end Sys2Proof.Machine
end

/-! # Proofs: replies, link resets and IDENT (R165, R168, R170, R173, R175, R176, R180) -/

section

namespace Sys2Proof.Machine

variable {s : State} {l : Link} {o : Owned}

/-! ## The link after a reply (R168, R170, R176) -/

/-- The head's entry is freed, and the waiting transfers are judged into the free places. -/
theorem Link.freeEntry_eq (l : Link) : l.freeEntry = { l with
    inbound := l.inbound.tail ++ (l.waiting.take (4 - l.inbound.tail.length)).filterMap judge
    waiting := l.waiting.drop (4 - l.inbound.tail.length) } := rfl

/-- The owner's reply carries the request's tag and frees its entry. -/
theorem Link.answered_owned (owned : l.owner = some o) (kept : o.discard = false) (reply : BitVec 16 → Frame) :
    l.answered o.request.kind reply = ({ l with owner := none }.place (reply o.request.tag)).freeEntry := by
  simp [Link.answered, owned, kept]

/-- A link reset has freed the entry already, and the reply is not placed. -/
theorem Link.answered_discarded (owned : l.owner = some o) (discarded : o.discard = true) (reply : BitVec 16 → Frame) :
    l.answered o.request.kind reply = { l with owner := none } := by
  simp [Link.answered, owned, discarded]

theorem Link.answered_unowned (unowned : l.owner = none) (kind : Byte) (reply : BitVec 16 → Frame) :
    l.answered kind reply = l.place (reply 0) := by
  simp only [Link.answered, unowned]

/-- The reply's summary flags are those of the state that it is formed in (R165). -/
theorem State.answer_link (s : State) (kind : Byte) (result : Result) (data : ReplyData) :
    (s.answer kind result data).link = s.link.answered kind fun tag => .reply kind tag result s.alert s.warn data := rfl

/-- Forming a reply clears the captured RESERVE_LOW and touches no other condition (R180). -/
theorem State.clearCaptured_status (s : State) :
    s.clearCaptured.status = { s.status with live := s.status.live &&& ~~~ (1#15 <<< 9) } := rfl

/-- Settles O8: the status from the clearing of RESERVE_LOW, the link by whose reply it is. -/
theorem aReplyIsPlacedAndClearsReserveLow : Obligations.AReplyIsPlacedAndClearsReserveLow := by
  intro s kind result data
  refine ⟨s.clearCaptured_status, ?frame, fun r owned named => ?_, fun r owned named => ?_, fun unowned => ?_⟩
  case frame =>
    rw [State.changesOnly_iff]
    simp
  · rw [State.answer_link, ← named, Link.answered_owned owned rfl, Link.freeEntry_eq]
    rfl
  · rw [State.answer_link, ← named, Link.answered_discarded owned rfl]
  · rw [State.answer_link, Link.answered_unowned unowned]
    rfl

/-! ## A link reset (R173, R176, R187) -/

/-- The pipes are open in CONFIGURED only, so that an offer is refused in any other state of the port. -/
theorem exec_noticeOffer_closed (closed : s.link.port ≠ .configured) : exec .noticeOffer s = .next s :=
  congrArg Host.Outcome.next (if_neg fun may => closed may.2)

/-- Settles O9: the reset's own effect, the port that it leaves, and the owner whose reply it marks. -/
theorem linkResetEmptiesTheLinkAndNothingElse : Obligations.LinkResetEmptiesTheLinkAndNothingElse := by
  intro detach s t
  refine ⟨rfl, exec_noticeOffer_closed ?port, fun o result data owned => ?reply⟩
  case port => cases detach <;> simp [t]
  case reply =>
    have marked : t.link.owner = some { request := o.request, discard := true } := by simp only [t, owned, Option.map_some]
    rw [State.answer_link, Link.answered_discarded marked rfl]

/-! ## IDENT (R175, R191) -/

/-- Settles O13: IDENT reads the straps and the stage and tests neither. -/
theorem identReportsThePart : Obligations.IdentReportsThePart := by
  intro s
  have fields : exec .ident s = .next (s.answer 0x01 .ok (.ident s.identData)) := rfl
  rw [fields]
  rfl

end Sys2Proof.Machine
end

/-! # Proofs: the link's queues, the port and its notices (R164, R168 to R170, R172, R184, R185) -/

section

namespace Sys2Proof.Machine

variable {s : State} {r : Request} {rest : List Entry} {kind : Byte} {tag : BitVec 16} {result : Result}
  {alert warn : Bool} {data : ReplyData} {frames : List Frame}

/-! ## The inbound head taken (R168, R170) -/

theorem State.canTake_iff (s : State) :
    s.canTake = true ↔ s.link.owner = none ∧ s.link.restart = none ∧ s.replies < 4 := by
  rw [State.canTake, Bool.and_eq_true, Bool.and_eq_true, Option.isNone_iff_eq_none, Option.isNone_iff_eq_none,
    decide_eq_true_iff, and_assoc]
  rfl

theorem exec_inboundTake_takes (may : s.canTake = true) :
    exec .inboundTake s = .next (State.takeEntry { s with link := s.link.refill }) :=
  congrArg Host.Outcome.next (if_pos may)

theorem exec_inboundTake_stays (not_ : ¬ s.canTake = true) : exec .inboundTake s = .next s :=
  congrArg Host.Outcome.next (if_neg not_)

/-- No transfer takes an entry before the head is taken. -/
theorem exec_inboundTake_stands (may : s.canTake = true) (stands : s.link.waiting = [] ∨ 4 ≤ s.link.inbound.length) :
    exec .inboundTake s = .next s.takeEntry := by
  rw [exec_inboundTake_takes may, Link.refill_stands stands]

theorem State.takeEntry_empty (empty : s.link.inbound = []) : s.takeEntry = s := by
  simp only [State.takeEntry, empty]

theorem State.takeEntry_request (head : s.link.inbound = .request r :: rest) :
    s.takeEntry = { s with link := { s.link with owner := some { request := r, discard := false } } } := by
  have taken : s.takeEntry = s.modLink fun l => { l with owner := some { request := r, discard := false } } := by
    simp only [State.takeEntry, head]
  exact taken

/-- A refused entry is answered with no data, and its place goes to the transfers that wait. -/
theorem State.takeEntry_refused (head : s.link.inbound = .refused kind tag result :: rest) :
    s.takeEntry = { s with
      link := { s.link with
        inbound := rest ++ (s.link.waiting.take (4 - rest.length)).filterMap judge
        waiting := s.link.waiting.drop (4 - rest.length)
        outbound := s.link.outbound ++ [.reply kind tag result s.alert s.warn .none] }
      status := { s.status with live := s.status.live &&& ~~~ (1#15 <<< 9) } } := by
  have tail : (s.link.place (s.replyFrame kind tag result .none)).inbound.tail = rest := congrArg List.tail head
  simp only [State.takeEntry, head, State.answerRefused, Link.freeEntry_eq, tail]
  rfl

/-- A second INBOUND_TAKE's refill finds nothing to do. -/
theorem exec_inboundTake_refilled (may : s.canTake = true) (some_ : ∀ t ∈ s.link.waiting, t ≠ []) :
    exec .inboundTake s = exec .inboundTake { s with link := s.link.refill } := by
  have still : State.canTake { s with link := s.link.refill } = true := may
  rw [exec_inboundTake_takes may, exec_inboundTake_takes still, Link.refill_refill some_]

/-- With nothing in the queue and nothing waiting there is no head. -/
theorem exec_inboundTake_empty (empty : s.link.inbound = []) (served : s.link.waiting = []) :
    exec .inboundTake s = .next s := by
  by_cases may : s.canTake = true
  · rw [exec_inboundTake_stands may (.inl served), State.takeEntry_empty empty]
  · exact exec_inboundTake_stays may

/-! ## An IN transfer completed (R169, R172) -/

theorem exec_inTransferComplete (open_ : s.link.port = .configured) :
    exec .inTransferComplete s = .next { s with link := s.link.sent } :=
  congrArg Host.Outcome.next (if_pos open_)

theorem Frame.isRestartOk_reply : (Frame.reply kind tag result alert warn data).isRestartOk = true ↔
    kind = 0x02#8 ∧ result = .ok := by
  rw [Frame.isRestartOk, Bool.and_eq_true, beq_iff_eq, beq_iff_eq]
  rfl

theorem exec_inTransferComplete_reply (open_ : s.link.port = .configured)
    (head : s.link.outbound = .reply kind tag result alert warn data :: frames) :
    exec .inTransferComplete s = .next { s with link := { s.link with
      outbound := frames
      restart := if kind = 0x02#8 ∧ result = .ok then
          s.link.restart.map fun w => { mode := w.mode, limit := w.limit, due := true }
        else s.link.restart } } := by
  rw [exec_inTransferComplete open_]
  simp only [Link.sent, head, Frame.isRestartOk_reply]

theorem exec_inTransferComplete_notice {pending unmasked : BitVec 16} (open_ : s.link.port = .configured)
    (head : s.link.outbound = .notice pending unmasked alert warn :: frames) :
    exec .inTransferComplete s = .next { s with link := { s.link with outbound := frames } } := by
  rw [exec_inTransferComplete open_]
  simp only [Link.sent, head]
  rfl

/-- Settles O11: the head by what it is once the waiting transfers have their entries; the frame sent by its type. -/
theorem linkQueuesAreTakenAndSent : Obligations.LinkQueuesAreTakenAndSent := by
  have may {s : State} (unowned : s.link.owner = none) (none_ : s.link.restart = none) (room : s.replies < 4) :
      s.canTake = true := s.canTake_iff.2 ⟨unowned, none_, room⟩
  refine ⟨⟨fun s r rest unowned none_ room head stands => ?request, fun s kind tag result rest unowned none_ room head
      stands => ?refused, fun s unowned none_ room some_ => ?refilled, fun s => exec_inboundTake_empty, fun s not_ => ?stays⟩,
    fun s kind tag result alert warn data frames => exec_inTransferComplete_reply,
    fun s pending unmasked alert warn frames => exec_inTransferComplete_notice⟩
  case request => rw [exec_inboundTake_stands (may unowned none_ room) stands, State.takeEntry_request head]
  case refused => rw [exec_inboundTake_stands (may unowned none_ room) stands, State.takeEntry_refused head]
  case refilled => exact exec_inboundTake_refilled (may unowned none_ room) some_
  case stays =>
    refine exec_inboundTake_stays fun can => ?_
    obtain ⟨unowned, none_, room⟩ := s.canTake_iff.1 can
    obtain owned | waits | full := not_
    · exact owned unowned
    · exact waits none_
    · exact Nat.not_lt.2 full room

/-! ## The port and its notices (R164, R184, R185) -/

theorem State.noticeDue_iff (s : State) : s.noticeDue = true ↔ s.unmasked ≠ 0 ∧ s.status.gate = .opened ∧
    s.status.gapTimer = none ∧ ∀ f ∈ s.link.outbound, f.isNotice = false := by
  simp only [State.noticeDue, Bool.and_eq_true, bne_iff_ne, beq_iff_eq, Option.isNone_iff_eq_none, Bool.not_eq_true',
    List.any_eq_false, Bool.not_eq_true, and_assoc]

theorem exec_noticeOffer_due (due : s.noticeDue = true) :
    exec .noticeOffer s = .next (if s.link.port = .configured then
      { s with link := s.link.place s.noticeFrame, status := { s.status with gate := .closed } } else s) := by
  simp only [exec, execNoticeOffer, due, true_and]

theorem exec_noticeOffer_notDue (notDue : ¬ s.noticeDue = true) : exec .noticeOffer s = .next s :=
  congrArg Host.Outcome.next (if_neg fun may => notDue may.1)

/-- Settles O12: the port's two steps, the offer by whether a NOTICE is due, and the gap timer. -/
theorem portStatesAndNotices : Obligations.PortStatesAndNotices := by
  refine ⟨⟨fun s detached => ?enumerated, fun s attached => ?configured⟩,
    fun s unmasked opened stopped none_ => ?due, fun s not_ => ?notDue, fun s => rfl⟩
  case enumerated => exact congrArg Host.Outcome.next (if_pos detached)
  case configured => exact congrArg Host.Outcome.next (if_pos attached)
  case due => exact exec_noticeOffer_due (s.noticeDue_iff.2 ⟨unmasked, opened, stopped, none_⟩)
  case notDue =>
    refine exec_noticeOffer_notDue fun due => ?_
    obtain ⟨unmasked, opened, stopped, none_⟩ := s.noticeDue_iff.1 due
    obtain masked | closed | runs | ⟨f, queued, notice⟩ := not_
    · exact unmasked masked
    · exact absurd (opened.symm.trans closed) (by decide)
    · exact runs stopped
    · exact absurd ((none_ f queued).symm.trans notice) (by decide)

end Sys2Proof.Machine
end

/-! # Proofs: the part after its blocks are reset (R25, R48, R74, R76, R109, R134, R151, R178, R187) -/

section

namespace Sys2Proof.Machine

variable {u : State} {c : Cond}

/-! ## Reports and shadows (R178, R187) -/

/-- The shadows are those of the current conditions that are true. -/
def StatusUnit.shadowed (x : StatusUnit) : Prop := x.shadow = x.live &&& 0x03FF#15

theorem shadowMask_get {i : Nat} (hi : i < 15) : (0x03FF#15).getLsbD i = decide (i < 10) := by
  interval_cases i <;> rfl

theorem StatusUnit.shadowed_iff (x : StatusUnit) :
    x.shadowed ↔ ∀ i, i < 15 → x.shadow.getLsbD i = (x.live.getLsbD i && decide (i < 10)) := by
  unfold StatusUnit.shadowed
  constructor
  · intro h i hi
    rw [h, BitVec.getLsbD_and, shadowMask_get hi]
  · refine fun h => BitVec.eq_of_getLsbD_eq fun i hi => ?_
    rw [h i hi, BitVec.getLsbD_and, shadowMask_get hi]

/-- A first report of a condition that has a shadow. -/
theorem State.report_shadowed (h : u.status.shadowed) (current : c.bit < 10) (was : u.cond c = false) (v : Bool) :
    (u.report c v).status.shadowed := by
  rw [StatusUnit.shadowed_iff] at h ⊢
  intro i hi
  cases v with
  | true =>
    simp only [State.report, if_true, putBit_get _ _ c.bit_lt hi, h i hi]
    split
    · next own => simp [own, current]
    · rfl
  | false =>
    simp only [State.report, Bool.false_eq_true, if_false, putBit_get _ _ c.bit_lt hi, h i hi]
    split
    · next own =>
      have off : u.status.live.getLsbD i = false := own ▸ was
      rw [off]
    · rfl

/-- A latched condition has no shadow of its own. -/
theorem State.latch_shadowed (h : u.status.shadowed) (latched : 10 ≤ c.bit) : (u.latch c).status.shadowed := by
  rw [StatusUnit.shadowed_iff] at h ⊢
  intro i hi
  simp only [State.latch, h i hi, putBit_get _ _ c.bit_lt hi]
  split
  · next own => simp [own, latched]
  · rfl

/-! ## What stands between the reset of the blocks and the surveys -/

/-- The Status Unit right after its reset: what the owners report, with SETTINGS_BAD the one latched condition and
SETTINGS the one event that a start-up can bring. -/
structure State.reported (u : State) : Prop where
  unit : u.status.forcedAlert = false ∧ u.status.forcedWarn = false ∧ u.status.gate = .opened ∧
    u.status.gapTimer = none
  conditions : u.conditionsHold
  reports : u.cond .bayFault = false ∧
    u.cond .printerFault = (u.settings.printerFitted && (u.sensors.ribbonOut || headTemp u.sensors == none)) ∧
    u.cond .ribbonLow = (u.settings.printerFitted && u.sensors.ribbonLow) ∧
    (u.cond .headHot = true ↔ u.settings.printerFitted = true ∧ ∃ x, headTemp u.sensors = some x ∧ 65 ≤ x) ∧
    u.cond .reserveLow = false ∧ u.cond .underrun = false ∧ u.cond .verifyFail = false ∧ u.cond .handling = false ∧
    u.cond .strapChange = false
  shadows : u.status.shadowed
  events : (∀ e, e < 15 → u.status.pending.getLsbD e = false) ∧
    u.status.pending.getLsbD 15 = u.cond .settingsBad

/-- Every block is at its after-reset values, staging memory apart, whose segment size start-up takes last. -/
structure State.blank (u : State) : Prop where
  jobs : u.jobs = .afterReset
  discs : u.discs = .afterReset
  bays : ∀ b, u.bay b = .afterReset
  governor : u.governor = .afterReset
  verify : u.verify = .afterReset
  trans : u.trans = .afterReset (spindleFrom u.sensors.emptyA) (spindleFrom u.sensors.emptyB)
  labels : u.labels = .afterReset
  printer : u.printer = if u.settings.printerFitted then
    some (.afterReset (if printerBad u.sensors then .fault else .idle)) else none
  reported : u.reported
  dispatch : u.dispatchWanted = false

theorem headIsHot_iff_some (r : Readings) : headIsHot r = true ↔ ∃ x, headTemp r = some x ∧ 65 ≤ x := by
  unfold headIsHot
  cases headTemp r with
  | none => simp
  | some x =>
    simp only [Config.headHot, Option.some.injEq, exists_eq_left']
    exact decide_eq_true_iff

theorem printerBad_eq (r : Readings) : printerBad r = (r.ribbonOut || headTemp r == none) := by
  unfold printerBad
  cases headTemp r <;> rfl

/-! ## What the owners report (R71, R144, R147, R187) -/

/-- RESERVE_LOW and the latched conditions are not among them. -/
theorem State.reportAll_cond (u : State) (other : 9 ≤ c.bit) : u.reportAll.cond c = u.cond c := by
  have skip (v : State) (d : Cond) (x : Bool) (owned : d.bit < 9) : (v.report d x).cond c = v.cond c := by
    rw [State.report_cond, if_neg]
    rintro rfl
    exact Nat.not_lt.2 other owned
  unfold State.reportAll State.reportBayFault State.reportPrinter
  repeat rw [skip _ _ _ (by decide)]

theorem State.reportAll_bayFault (u : State) :
    u.reportAll.cond .bayFault = u.bays.toList.any fun r => r.state == .fault := by
  simp [State.reportAll, State.reportPrinter, State.reportBayFault]

theorem State.reportAll_printerFault (u : State) : u.reportAll.cond .printerFault = u.printerIs .fault := by
  rw [State.reportAll, State.reportPrinter_printerFault]
  simp [State.printerIs]

theorem State.reportAll_ribbonLow (u : State) :
    u.reportAll.cond .ribbonLow = (u.printer.isSome && u.sensors.ribbonLow) := by
  rw [State.reportAll, State.reportPrinter_ribbonLow]
  simp

theorem State.reportAll_headHot (u : State) :
    u.reportAll.cond .headHot = (u.printer.isSome && headIsHot u.sensors) := by
  simp [State.reportAll, State.reportPrinter]

/-- A report changes live values and shadows alone. -/
theorem State.report_status (u : State) (d : Cond) (x : Bool) : (u.report d x).status =
    { u.status with live := (u.report d x).status.live, shadow := (u.report d x).status.shadow } := rfl

theorem State.reportAll_status (u : State) : u.reportAll.status =
    { u.status with live := u.reportAll.status.live, shadow := u.reportAll.status.shadow } := by
  unfold State.reportAll State.reportBayFault State.reportPrinter
  iterate 9 rw [State.report_status]

theorem State.reportAll_conditionsHold (u : State) : u.reportAll.conditionsHold := by
  constructor <;> simp [State.reportAll, State.reportBayFault, State.reportPrinter]

/-- With no condition live, each report is the first of its condition. -/
theorem State.reportAll_shadowed (h : u.status.shadowed) (clear : ∀ d, u.cond d = false) :
    u.reportAll.status.shadowed := by
  unfold State.reportAll State.reportBayFault State.reportPrinter
  iterate 9 refine State.report_shadowed ?_ (by decide) (by simp [clear]) _
  exact h

/-- The owners' first reports after the reset of their blocks. -/
theorem State.reportAll_reported (unit : u.status = .afterReset) (bays : ∀ b, (u.bay b).state ≠ .fault)
    (printer : u.printer = if u.settings.printerFitted then
      some (.afterReset (if printerBad u.sensors then .fault else .idle)) else none) : u.reportAll.reported := by
  have clear (d : Cond) : u.cond d = false := by simp [State.cond, unit, StatusUnit.afterReset]
  have noFault : (u.bays.toList.any fun r => r.state == .fault) = false := by
    rw [List.any_eq_false]
    intro r hr fault
    obtain ⟨m, hm, rfl⟩ := Vector.mem_iff_getElem.1 (Vector.mem_toList_iff.1 hr)
    exact bays ⟨m, hm⟩ (eq_of_beq fault)
  have isFault : u.printerIs .fault = (u.settings.printerFitted && printerBad u.sensors) := by
    unfold State.printerIs
    rw [printer]
    cases u.settings.printerFitted <;> cases printerBad u.sensors <;> rfl
  have isSome : u.printer.isSome = u.settings.printerFitted := by
    rw [printer]
    cases u.settings.printerFitted <;> rfl
  refine ⟨?unit, ?conditions, ?reports, ?shadows, ?events⟩
  case unit =>
    rw [u.reportAll_status, unit]
    exact ⟨rfl, rfl, rfl, rfl⟩
  case conditions => exact u.reportAll_conditionsHold
  case reports =>
    have rest {d : Cond} (other : 9 ≤ d.bit) : u.reportAll.cond d = false := (u.reportAll_cond other).trans (clear d)
    rw [u.reportAll_bayFault, u.reportAll_printerFault, u.reportAll_ribbonLow, u.reportAll_headHot, isFault, isSome,
      printerBad_eq, Bool.and_eq_true, headIsHot_iff_some]
    exact ⟨noFault, by simp, by simp, by simp, rest (by decide), rest (by decide), rest (by decide), rest (by decide),
      rest (by decide)⟩
  case shadows =>
    refine State.reportAll_shadowed ?_ clear
    rw [unit]
    rfl
  case events =>
    have none_ : u.reportAll.status.pending = 0#16 := by
      rw [u.reportAll_status, unit]
      rfl
    refine ⟨fun e _ => ?_, ?_⟩
    · rw [none_]
      simp
    · rw [none_, u.reportAll_cond (by decide), clear]
      rfl

theorem State.resetBlocks_bay (s : State) (b : BayId) : s.resetBlocks.bay b = .afterReset := by
  simp [State.resetBlocks, State.bay]

/-- The part at the begin of STARTING: straps as the mode has them, blocks reset, conditions reported (R191, R192). -/
def State.atStarting (s : State) (mode : RestartMode) : State :=
  ((s.strapsFor mode).resetBlocks.setStage .starting).reportAll

theorem State.atStarting_blank (s : State) (mode : RestartMode) : (s.atStarting mode).blank := by
  have bays (b : BayId) : ((s.strapsFor mode).resetBlocks.setStage .starting).bay b = .afterReset :=
    State.resetBlocks_bay (s.strapsFor mode) b
  exact ⟨rfl, rfl, bays, rfl, rfl, rfl, rfl, rfl,
    State.reportAll_reported rfl (fun b => by rw [bays b]; decide) rfl, rfl⟩

theorem State.atStarting_settingsBad (s : State) (mode : RestartMode) :
    (s.atStarting mode).cond .settingsBad = false := by
  have clear : ((s.strapsFor mode).resetBlocks.setStage .starting).cond .settingsBad = false := by
    simp [State.cond, State.resetBlocks, State.setStage, StatusUnit.afterReset]
  exact (State.reportAll_cond _ (by decide)).trans clear

/-! ## Steps that leave the blocks blank (R48, R188) -/

theorem State.reported.of_same {t : State} (h : u.reported) (status : t.status = u.status) (trans : t.trans = u.trans)
    (sensors : t.sensors = u.sensors) (fitted : t.settings.printerFitted = u.settings.printerFitted) : t.reported := by
  have cond (d : Cond) : t.cond d = u.cond d := State.cond_of_live (congrArg _ status) d
  obtain ⟨unit, conditions, reports, shadows, events⟩ := h
  refine ⟨status ▸ unit, State.conditionsHold_of conditions ?_ ?_ ?_ ?_ ?_ ?_ ?_, ?_, status ▸ shadows, ?_⟩
  · rw [status]
  · rw [trans]
  · rw [trans]
  · rw [trans]
  · rw [sensors]
  · rw [sensors]
  · rw [sensors]
  · simp only [cond, sensors, fitted]
    exact reports
  · rw [status, cond]
    exact events

theorem State.blank.modSettings (h : u.blank) {f : Settings → Settings}
    (fitted : (f u.settings).printerFitted = u.settings.printerFitted) : (u.modSettings f).blank :=
  { h with
    printer := by rw [State.modSettings_settings, fitted]; exact h.printer
    reported := h.reported.of_same rfl rfl rfl fitted }

theorem State.blank.applyBuild (h : u.blank) : u.applyBuild.blank :=
  { h with reported := h.reported.of_same rfl rfl rfl rfl }

/-- A failed check of the record brings SETTINGS_BAD and SETTINGS, and nothing else (R188). -/
theorem State.reported.badRecord (h : u.reported) : ((u.latch .settingsBad).raise .settings).reported := by
  have others (d : Cond) (other : d ≠ .settingsBad) : ((u.latch .settingsBad).raise .settings).cond d = u.cond d := by
    rw [State.raise_cond, State.latch_cond, if_neg other]
  obtain ⟨unit, conditions, reports, shadows, events⟩ := h
  refine ⟨unit, by simp [conditions], ?reports, ?shadows, ?events⟩
  case reports =>
    repeat rw [others _ (by decide)]
    exact reports
  case shadows => exact State.latch_shadowed shadows (by decide)
  case events =>
    refine ⟨fun e he => ?_, ?_⟩
    · have pending : ((u.latch .settingsBad).raise .settings).status.pending = putBit u.status.pending 15 true := rfl
      rw [pending, putBit_get _ _ (by decide) (by omega), if_neg (by omega)]
      exact events.1 e he
    · rw [State.raise_cond, State.latch_cond, if_pos rfl]
      exact (State.raise_pending _ .settings .settings).trans (if_pos rfl)

end Sys2Proof.Machine
end

/-! # Proofs: INVENTORY begins (R2, R57, R149, R192) -/

section

namespace Sys2Proof.Machine

variable {u : State} {p : Printer} {b : BayId}

/-! ## The bays (R57, R192) -/

theorem State.startSurvey_bay (blank : u.bay b = .afterReset) : (u.startSurvey b).bay b = Bay.underSurvey u.now := by
  simp only [State.startSurvey, State.issueIdentify, State.issue, State.modBay_bay, blank]
  rfl

theorem State.startSurvey_bay_ne {c : BayId} (other : c ≠ b) : (u.startSurvey b).bay c = u.bay c := by
  simp only [State.startSurvey, State.issueIdentify, State.issue, State.modBay_bay_ne _ _ other]

/-- The survey of one bay, if it is fitted. -/
def State.surveyBay (u : State) (b : BayId) : State := if u.fitted b then u.startSurvey b else u

theorem State.surveyBay_frame (u : State) (b : BayId) :
    (u.surveyBay b).settings = u.settings ∧ (u.surveyBay b).now = u.now := by
  unfold State.surveyBay
  split <;> simp

/-- The bays of a list are surveyed, each apart from the others. -/
theorem State.surveyList_bay (l : List BayId) : ∀ {u : State}, l.Nodup → (∀ c ∈ l, u.bay c = .afterReset) →
    (l.foldl State.surveyBay u).bay b = if b ∈ l ∧ u.fitted b = true then Bay.underSurvey u.now else u.bay b := by
  induction l with
  | nil => intro u _ _; simp
  | cons a l ih =>
    intro u distinct blank
    obtain ⟨fresh, distinct⟩ := List.nodup_cons.1 distinct
    obtain ⟨settings, now⟩ := u.surveyBay_frame a
    have others {c : BayId} (other : c ≠ a) : (u.surveyBay a).bay c = u.bay c := by
      unfold State.surveyBay
      split
      · exact State.startSurvey_bay_ne other
      · rfl
    have fitted : (u.surveyBay a).fitted b = u.fitted b := by simp only [State.fitted, settings]
    rw [List.foldl_cons, ih distinct fun c hc => (others fun same => fresh (same ▸ hc)).trans
      (blank c (List.mem_cons_of_mem _ hc)), fitted, now]
    by_cases own : b = a
    · subst own
      have surveyed : (u.surveyBay b).bay b = if u.fitted b = true then Bay.underSurvey u.now else u.bay b := by
        unfold State.surveyBay
        split
        · exact State.startSurvey_bay (blank b List.mem_cons_self)
        · rfl
      simp only [fresh, false_and, if_false, surveyed, List.mem_cons_self, true_and]
    · simp only [others own, List.mem_cons, own, false_or]

theorem State.surveyBays_bay (blank : ∀ b, u.bay b = .afterReset) (b : BayId) :
    u.surveyBays.bay b = if b.val < u.settings.fittedBays then Bay.underSurvey u.now else Bay.afterReset := by
  have listed := State.surveyList_bay (b := b) (List.finRange 12) (List.nodup_finRange 12) fun c _ => blank c
  have walk : u.surveyBays = (List.finRange 12).foldl State.surveyBay u := rfl
  rw [walk]
  simpa only [List.mem_finRange, true_and, State.fitted, decide_eq_true_iff, blank] using listed

/-! ## The printer's tray and the arm (R2, R149, R192) -/

theorem State.askOrphan_made (served : u.discs.orphanWait = []) (room : u.discs.records.length < 16) (w : OrphanAt) :
    u.askOrphan w =
      ({ u with discs := u.discs.create (.orphan u.discs.newNumber w.station) }, some u.discs.newNumber) := by
  refine if_neg ?_
  rintro (full | waits)
  · exact absurd (u.discs.free_eq_zero.1 full) (Nat.not_le.2 room)
  · exact waits served

/-- The table once tray and arm are surveyed: the tray's record before the arm's (log 43). -/
def DiscTable.surveyed (tray pick : Bool) : DiscTable :=
  let records := (if tray then [Disc.orphan 1 .prn] else []) ++
    (if pick then [Disc.orphan (if tray then 2 else 1) .arm] else [])
  { records, counter := records.length + 1, orphanWait := [], completions := [], dropped := 0 }

/-- The move of a disc found on the tray. -/
def trayClear : MoveReq := .posted .clear .printer .prn (.bin .reject) 1 none

/-- The printer with a disc found on its tray: an IDLE one waits for the removal. -/
def Printer.holding (p : Printer) : Printer :=
  { p with trayDisc := some 1, trayMove := true, state := if p.state = .idle then .awaitRemove else p.state }

theorem State.joinQueue_idle (idle : u.trans.queue = []) (r : MoveReq) :
    u.joinQueue r = { u with trans := { u.trans with queue := [r] } } := by
  simp [State.joinQueue, State.modTrans, State.hasMove, idle]

/-- The first record is the tray's, and its CLEAR goes into an empty queue. -/
theorem State.surveyPrinter_finds (discs : u.discs = .surveyed false false) (fitted : u.printer = some p)
    (tray : u.sensors.tray = true) (idle : u.trans.queue = []) : u.surveyPrinter = { u with
      discs := DiscTable.surveyed true false, printer := some p.holding
      trans := { u.trans with queue := [trayClear] } } := by
  have asked : u.askOrphan .prn = ({ u with discs := DiscTable.surveyed true false }, some 1) := by
    rw [State.askOrphan_made (by rw [discs]; rfl) (by rw [discs]; decide), discs]
    rfl
  have found : u.printer.isSome = true ∧ u.sensors.tray = true := ⟨by rw [fitted]; rfl, tray⟩
  have taken : u.surveyPrinter =
      ({ u with discs := DiscTable.surveyed true false, printer := some p.holding } : State).postMove trayClear := by
    rw [State.surveyPrinter, if_pos found, asked]
    simp only [State.printerTakesOrphan, fitted]
    rfl
  have toOut : ∀ d ∈ (DiscTable.surveyed true false).records, d.number = trayClear.disc → d.stage = .toOut := by
    decide
  rw [taken, State.postMove_of_toOut toOut]
  refine State.joinQueue_idle ?_ trayClear
  exact idle

theorem State.surveyPrinter_finds_none (none_ : u.printer = none ∨ u.sensors.tray = false) : u.surveyPrinter = u := by
  refine if_neg fun found => ?_
  obtain bare | empty := none_
  · exact absurd found.1 (by simp [bare])
  · exact absurd found.2 (by simp [empty])

theorem State.surveyArm_discs {tray : Bool} (discs : u.discs = DiscTable.surveyed tray false) :
    u.surveyArm.discs = DiscTable.surveyed tray u.sensors.pick := by
  unfold State.surveyArm
  split
  · next held =>
    rw [State.askOrphan_made (by rw [discs]; cases tray <;> rfl) (by rw [discs]; cases tray <;> decide), discs, held]
    cases tray <;> rfl
  · next free =>
    rw [discs, Bool.eq_false_iff.2 free]

/-! ## INVENTORY as a whole (R192) -/

theorem printerBad_iff (r : Readings) : printerBad r = true ↔ r.ribbonOut = true ∨ headTemp r = none := by
  rw [printerBad, Bool.or_eq_true, Option.isNone_iff_eq_none]

/-- The printer as the begin of INVENTORY leaves it (R149, R151). -/
theorem Printer.atInventory_eq (fitted tray : Bool) (r : Readings) :
    let reset := if fitted then some (Printer.afterReset (if printerBad r then .fault else .idle)) else none
    (if fitted && tray then reset.map Printer.holding else reset) = if fitted then some
      { state := if r.ribbonOut = true ∨ headTemp r = none then .fault else if tray then .awaitRemove else .idle
        trayDisc := if tray then some 1 else none, trayMove := tray, print := none, clampOpen := false
        dots := [] } else none := by
  simp only [← printerBad_iff]
  cases fitted <;> cases tray <;> cases printerBad r <;> rfl

/-- A fitted printer has a disc on its tray. -/
def State.trayFound (u : State) : Bool := u.settings.printerFitted && u.sensors.tray

/-- The survey of the printer, with and without a disc on its tray. -/
theorem State.surveyPrinter_eq (discs : u.discs = .surveyed false false) (idle : u.trans.queue = [])
    (fits : u.printer.isSome = u.settings.printerFitted) :
    u.surveyPrinter.discs = .surveyed u.trayFound false ∧
      u.surveyPrinter.printer = (if u.trayFound then u.printer.map Printer.holding else u.printer) ∧
      u.surveyPrinter.trans = { u.trans with queue := if u.trayFound then [trayClear] else [] } := by
  cases found : u.trayFound with
  | true =>
    obtain ⟨fitted, tray⟩ := Bool.and_eq_true_iff.1 found
    obtain ⟨p, is⟩ := Option.isSome_iff_exists.1 (fits.trans fitted)
    rw [State.surveyPrinter_finds discs is tray idle, is]
    exact ⟨rfl, rfl, rfl⟩
  | false =>
    have none_ : u.printer = none ∨ u.sensors.tray = false := (Bool.and_eq_false_iff.1 found).imp_left fun bare =>
      Option.not_isSome_iff_eq_none.1 (Bool.eq_false_iff.1 (fits.trans bare))
    rw [State.surveyPrinter_finds_none none_]
    exact ⟨discs, by simp, by simp only [Bool.false_eq_true, if_false, ← idle]⟩

/-- The stage changes, and the survey of the bays changes the bays alone. -/
theorem State.baysSurveyed_same (u : State) : let v := (u.setStage .inventory).surveyBays
    v.discs = u.discs ∧ v.printer = u.printer ∧ v.trans = u.trans ∧ v.sensors = u.sensors ∧
      v.settings = { u.settings with stage := .inventory } := by
  simp [State.setStage]

/-- What the surveys of a part with blank blocks find. -/
theorem State.blank.surveyed (h : u.blank) : u.beginInventory.discs = .surveyed u.trayFound u.sensors.pick ∧
    u.beginInventory.printer = (if u.trayFound then u.printer.map Printer.holding else u.printer) ∧
    u.beginInventory.trans = { u.trans with queue := if u.trayFound then [trayClear] else [] } ∧
    ∀ b, u.beginInventory.bay b =
      if b.val < u.settings.fittedBays then Bay.underSurvey u.now else Bay.afterReset := by
  let v := (u.setStage .inventory).surveyBays
  obtain ⟨discs, printer, trans, sensors, settings⟩ : v.discs = u.discs ∧ v.printer = u.printer ∧ v.trans = u.trans ∧
    v.sensors = u.sensors ∧ v.settings = { u.settings with stage := .inventory } := u.baysSurveyed_same
  have begins : u.beginInventory = v.surveyPrinter.surveyArm := rfl
  have found : v.trayFound = u.trayFound := by simp only [State.trayFound, settings, sensors]
  have fits : v.printer.isSome = v.settings.printerFitted := by
    rw [printer, settings, h.printer]
    cases u.settings.printerFitted <;> rfl
  have idle : v.trans.queue = [] := by
    rw [trans, h.trans]
    rfl
  obtain ⟨trayDiscs, trayPrinter, trayTrans⟩ := State.surveyPrinter_eq (discs.trans h.discs) idle fits
  rw [found] at trayDiscs trayPrinter trayTrans
  rw [begins]
  refine ⟨?_, ?_, ?_, fun b => ?_⟩
  · have same : v.surveyPrinter.sensors = v.sensors := by simp
    rw [State.surveyArm_discs trayDiscs, same, sensors]
  · rw [← printer, ← trayPrinter]
    simp
  · rw [← trans, ← trayTrans]
    simp
  · exact (State.bay_of_bays (s := v) (by simp) b).trans (State.surveyBays_bay (u := u.setStage .inventory) h.bays b)

theorem State.beginInventory_settings (u : State) :
    u.beginInventory.settings = { u.settings with stage := .inventory } := by
  simp [State.beginInventory, State.setStage]

/-- INVENTORY begins, from blank blocks and with staging memory built for the segment size in effect. -/
theorem State.blank.beginInventory (h : u.blank) (staging : u.staging = .afterReset (u.setting 0).toNat)
    (waiting : u.settings.waiting = false) : u.beginInventory.inventoryBegun := by
  obtain ⟨discs, printer, trans, bays⟩ := h.surveyed
  have settings := u.beginInventory_settings
  have fitted : u.beginInventory.settings.printerFitted = u.settings.printerFitted := by rw [settings]
  obtain ⟨-, jobs, sameStaging, governor, verify, labels, status, sensors, now, dispatch, -⟩ := u.beginInventory_frame
  have setting : u.beginInventory.setting 0 = u.setting 0 := by simp only [State.setting, settings]
  have cond (c : Cond) : u.beginInventory.cond c = u.cond c := State.cond_of_live (congrArg _ status) c
  have found : (u.beginInventory.settings.printerFitted && u.beginInventory.sensors.tray) = u.trayFound := by
    rw [fitted, sensors]
    rfl
  obtain ⟨unit, conditions, reports, shadows, events⟩ := h.reported
  refine
    { stage := by rw [settings], waiting := by rw [settings]; exact waiting, jobs := jobs.trans h.jobs
      completions := ?_, counter := ?_, records := ?_, staging := ?_, bays := ?_
      governor := governor.trans h.governor, verify := verify.trans h.verify, trans := ?_
      labels := labels.trans h.labels, printer := ?_, status := by rw [status]; exact unit
      conditions := ?_, reports := ?_, shadows := by rw [status]; exact shadows, events := ?_, dispatch := dispatch.trans h.dispatch }
  · rw [discs]
    exact ⟨rfl, rfl, rfl⟩
  · rw [discs]
    rfl
  · rw [found, discs, sensors]
    rfl
  · rw [sameStaging, staging, setting]
    rfl
  · intro b
    rw [bays, settings, now]
  · rw [found, trans, h.trans, sensors]
    rfl
  · rw [printer, fitted, sensors, h.printer, State.trayFound]
    exact Printer.atInventory_eq _ _ _
  · exact State.beginInventory_holds conditions
  · simp only [cond, fitted, sensors]
    exact reports
  · rw [status, cond]
    exact events

end Sys2Proof.Machine
end

/-! # Proofs: RESTART and its restart (R48, R172, R177, R188, R190 to R192) -/

section

namespace Sys2Proof.Machine

variable {s u : State} {m : RestartMode} {mode : Byte} {w : RestartWait}

/-! ## RESTART answered (R172) -/

theorem RestartMode.ofByte_of (named : (mode = 0 ∧ m = .keep) ∨ (mode = 1 ∧ m = .reload)) :
    RestartMode.ofByte mode = some m := by
  obtain ⟨rfl, rfl⟩ | ⟨rfl, rfl⟩ := named <;> rfl

theorem RestartMode.ofByte_of_gt (other : 1 < mode.toNat) : RestartMode.ofByte mode = none := by
  have keep : mode ≠ 0 := by rintro rfl; exact absurd other (by decide)
  have reload : mode ≠ 1 := by rintro rfl; exact absurd other (by decide)
  rw [RestartMode.ofByte, if_neg keep, if_neg reload]

/-- An accepted RESTART waits for its reply's transfer, unless that reply is discarded. -/
theorem exec_restart_accepted (named : RestartMode.ofByte mode = some m) : exec (.restart mode) s =
    .next { s.answer 0x02 .ok .none with
      link := { (s.answer 0x02 .ok .none).link with
        restart := some { mode := m, limit := s.now + 1000, due := s.replyDiscarded 0x02 } } } := by
  simp only [exec, execRestart, named]
  rfl

theorem exec_restart_refused (other : RestartMode.ofByte mode = none) :
    exec (.restart mode) s = .next (s.answer 0x02 .badField .none) := by
  simp only [exec, execRestart, other]
  rfl

theorem State.replyDiscarded_of_kept (kept : ∀ o, s.link.owner = some o → o.discard = false) (kind : Byte) :
    s.replyDiscarded kind = false := by
  unfold State.replyDiscarded
  split
  · next o owned => rw [kept o owned, Bool.and_false]
  · rfl

theorem State.replyDiscarded_of_reset {r : Request} {kind : Byte}
    (owned : s.link.owner = some { request := r, discard := true }) (own : r.kind = kind) :
    s.replyDiscarded kind = true := by
  simp only [State.replyDiscarded, owned, own, beq_self_eq_true, Bool.and_true]

/-! ## The settings that a start-up goes by (R188 to R191) -/

theorem State.loadSettings_eq_of_good (good : recordValid u.settings.flash = true) : u.loadSettings =
    u.modSettings fun g => { g with
      working := loadedValues g.flash, stored := recordValues g.flash, storedValid := true } :=
  if_pos good

theorem State.loadSettings_eq_of_bad (bad : recordValid u.settings.flash = false) : u.loadSettings =
    ((u.modSettings fun g => { g with working := Config.settingDefault, storedValid := false }).latch
      .settingsBad).raise .settings :=
  if_neg (Bool.eq_false_iff.1 bad)

/-- The stored values are the record's own, and no condition changes. -/
theorem State.loadSettings_good_spec (good : recordValid u.settings.flash = true) :
    u.loadSettings.settings = { u.settings with
      working := loadedValues u.settings.flash, stored := recordValues u.settings.flash, storedValid := true } ∧
      ∀ c, u.loadSettings.cond c = u.cond c := by
  rw [State.loadSettings_eq_of_good good]
  exact ⟨State.modSettings_settings _ _, State.cond_of_live rfl⟩

/-- The working copy is the defaults, and SETTINGS_BAD is latched. -/
theorem State.loadSettings_bad_spec (bad : recordValid u.settings.flash = false) :
    u.loadSettings.settings = { u.settings with working := Config.settingDefault, storedValid := false } ∧
      u.loadSettings.cond .settingsBad = true := by
  rw [State.loadSettings_eq_of_bad bad]
  exact ⟨by simp, by rw [State.raise_cond, State.latch_cond, if_pos rfl]⟩

theorem recordValues_get (flash : List Byte) (n : SettingId) : (recordValues flash)[n.val] = recordValue flash n.val := by
  simp [recordValues]

theorem State.blank.loadSettings (h : u.blank) : u.loadSettings.blank := by
  cases check : recordValid u.settings.flash with
  | true =>
    rw [State.loadSettings_eq_of_good check]
    exact h.modSettings rfl
  | false =>
    have loaded : (u.modSettings fun g => { g with working := Config.settingDefault, storedValid := false }).blank :=
      h.modSettings rfl
    rw [State.loadSettings_eq_of_bad check]
    exact { loaded with reported := loaded.reported.badRecord }

/-- The flash is read for RELOAD only (R192). -/
def State.loadedFor (u : State) : RestartMode → State
  | .reload => u.loadSettings
  | .keep => u

theorem State.blank.loadedFor (h : u.blank) (m : RestartMode) : (u.loadedFor m).blank :=
  match m with
  | .reload => h.loadSettings
  | .keep => h

theorem State.finishStarting_eq (u : State) (m : RestartMode) : u.finishStarting m =
    ((u.loadedFor m).modSettings fun g => { g with waiting := false }).applyBuild.beginInventory := by
  cases m <;> rfl

theorem State.finishStarting_settings (u : State) (m : RestartMode) : (u.finishStarting m).settings =
    { (u.loadedFor m).settings with stage := .inventory, waiting := false } := by
  rw [State.finishStarting_eq, State.beginInventory_settings]
  rfl

theorem State.finishStarting_cond (u : State) (m : RestartMode) (c : Cond) :
    (u.finishStarting m).cond c = (u.loadedFor m).cond c := by
  refine State.cond_of_live (congrArg _ ?_) c
  rw [State.finishStarting_eq]
  simp

/-- STARTING ends with the segment size in effect, from the working copy as loaded (R48, R192). -/
theorem State.blank.finishStarting (h : u.blank) (m : RestartMode) : (u.finishStarting m).inventoryBegun := by
  rw [State.finishStarting_eq]
  exact (State.blank.modSettings (h.loadedFor m) rfl).applyBuild.beginInventory rfl rfl

/-! ## Start-up, with and without a wait for the flash (R190 to R192, log 23) -/

theorem State.atStarting_saving (s : State) (m : RestartMode) :
    (s.atStarting m).settings.saving = s.settings.saving := by
  cases m <;> rfl

theorem State.startup_finishes (reads : m = .keep ∨ s.settings.saving = none) :
    s.startup m = (s.atStarting m).finishStarting m := by
  refine if_neg fun waits => ?_
  obtain ⟨reload, saving⟩ := waits
  obtain keep | idle := reads
  · exact absurd (keep.symm.trans reload) (by decide)
  · have none_ : (s.atStarting m).settings.saving.isSome = false := by rw [s.atStarting_saving, idle]; rfl
    exact absurd (none_.symm.trans saving) (by decide)

theorem State.startup_waits (saving : s.settings.saving ≠ none) :
    s.startup .reload = (s.atStarting .reload).modSettings fun g => { g with waiting := true } :=
  if_pos ⟨rfl, Option.isSome_iff_ne_none.2 saving⟩

theorem State.atStarting_reload_settings (s : State) : (s.atStarting .reload).settings = { s.settings with
    stage := .starting, fittedBays := Config.bayCount s.sensors.baysCode, printerFitted := s.sensors.printerStrap } :=
  rfl

/-! ## The restart (R172, R177, R192) -/

/-- A restart with KEEP reads neither straps nor flash. -/
theorem State.startup_keep (s : State) : (s.startup .keep).inventoryBegun ∧ (s.startup .keep).cond .settingsBad = false ∧
    (s.startup .keep).settings = { s.settings with stage := .inventory, waiting := false } := by
  rw [State.startup_finishes (.inl rfl)]
  refine ⟨(s.atStarting_blank .keep).finishStarting .keep, ?_, ?_⟩
  · rw [State.finishStarting_cond]
    exact s.atStarting_settingsBad .keep
  · rw [State.finishStarting_settings]
    rfl

/-- A restart with RELOAD that finds no flash write under way. -/
theorem State.startup_reload (idle : s.settings.saving = none) : let t := s.startup .reload
    t.inventoryBegun ∧ t.settings.fittedBays = Config.bayCount s.sensors.baysCode ∧
      t.settings.printerFitted = s.sensors.printerStrap ∧
      (recordValid s.settings.flash = true → t.settings.working = loadedValues s.settings.flash ∧
        t.settings.storedValid = true ∧ t.cond .settingsBad = false ∧
        ∀ n : SettingId, t.settings.stored[n.val] = recordValue s.settings.flash n.val) ∧
      (recordValid s.settings.flash = false → t.settings.working = Config.settingDefault ∧
        t.settings.storedValid = false ∧ t.cond .settingsBad = true) := by
  intro t
  have runs : t = (s.atStarting .reload).finishStarting .reload := State.startup_finishes (.inr idle)
  have starts := s.atStarting_reload_settings
  have clear := s.atStarting_settingsBad .reload
  have begun : t.inventoryBegun := by
    rw [runs]
    exact (s.atStarting_blank .reload).finishStarting .reload
  generalize s.atStarting .reload = u at runs starts clear
  have settings : t.settings = { u.loadSettings.settings with stage := .inventory, waiting := false } := by
    rw [runs]
    exact u.finishStarting_settings .reload
  have cond : t.cond .settingsBad = u.loadSettings.cond .settingsBad := by
    rw [runs]
    exact u.finishStarting_cond .reload _
  clear_value t
  have flash : u.settings.flash = s.settings.flash := by rw [starts]
  cases check : recordValid s.settings.flash with
  | true =>
    obtain ⟨loaded, same⟩ := State.loadSettings_good_spec (u := u) (by rw [flash, check])
    rw [loaded, starts] at settings
    refine ⟨begun, by rw [settings], by rw [settings], fun _ => ⟨by rw [settings], by rw [settings], ?_, fun n => ?_⟩,
      fun bad => absurd bad.symm Bool.false_ne_true⟩
    · rw [cond, same, clear]
    · rw [settings]
      exact recordValues_get _ n
  | false =>
    obtain ⟨loaded, latched⟩ := State.loadSettings_bad_spec (u := u) (by rw [flash, check])
    rw [loaded, starts] at settings
    exact ⟨begun, by rw [settings], by rw [settings], fun good => absurd good Bool.false_ne_true,
      fun _ => ⟨by rw [settings], by rw [settings], by rw [cond, latched]⟩⟩

/-- A restart with RELOAD during a flash write: the blocks are reset and their conditions reported, and STARTING waits. -/
theorem State.startup_reload_waits (saving : s.settings.saving ≠ none) : let t := s.startup .reload
    t.settings = { s.settings with
        stage := .starting, waiting := true, fittedBays := Config.bayCount s.sensors.baysCode
        printerFitted := s.sensors.printerStrap } ∧
      (∀ b, t.bay b = Bay.afterReset) ∧ t.discs.records = [] ∧ t.conditionsHold ∧
      t.trans = Transport.afterReset (if s.sensors.emptyA then .empty else .ready)
        (if s.sensors.emptyB then .empty else .ready) ∧
      t.printer = (if s.sensors.printerStrap then
        some { state := if s.sensors.ribbonOut = true ∨ headTemp s.sensors = none then .fault else .idle
               trayDisc := none, trayMove := false, print := none, clampOpen := false, dots := [] } else none) ∧
      t.staging.segmentSize = (s.setting 0).toNat := by
  intro t
  have waits : t = (s.atStarting .reload).modSettings fun g => { g with waiting := true } := State.startup_waits saving
  have blank : ((s.atStarting .reload).modSettings fun g => { g with waiting := true }).blank :=
    (s.atStarting_blank .reload).modSettings rfl
  have settings : t.settings = { s.settings with
      stage := .starting, waiting := true, fittedBays := Config.bayCount s.sensors.baysCode
      printerFitted := s.sensors.printerStrap } := by
    rw [waits, State.modSettings_settings, s.atStarting_reload_settings]
  rw [← waits] at blank
  obtain ⟨-, sensors, -⟩ : _ ∧ t.sensors = s.sensors ∧ _ := s.startup_frame .reload
  have staging : t.staging = .afterReset (s.settingNat 0) := by
    rw [waits]
    rfl
  refine ⟨settings, blank.bays, by rw [blank.discs]; rfl, blank.reported.conditions, ?trans, ?printer,
    by rw [staging]; rfl⟩
  case trans =>
    rw [blank.trans, sensors]
    rfl
  case printer =>
    rw [blank.printer, settings, sensors]
    simp only [printerBad_iff]
    rfl

/-! ## The statement -/

theorem exec_restartBegin (waits : s.link.restart = some w) :
    exec .restartBegin s = .next (State.startup { s with link := s.link.restarted } w.mode) := by
  simp only [exec, execRestartBegin, waits]

/-- Settles O14: RESTART by its mode and by whose reply it is; its restart by the mode that waits, and for RELOAD by
whether a flash write goes on. -/
theorem restartIsAnsweredThenBegins : Obligations.RestartIsAnsweredThenBegins := by
  refine ⟨fun s mode => ⟨fun m named kept => ?accepted, fun m r named owned kind => ?discarded, fun other => ?refused⟩,
    fun s w waits => ?restart⟩
  case accepted =>
    rw [exec_restart_accepted (RestartMode.ofByte_of named), State.replyDiscarded_of_kept kept]
  case discarded =>
    rw [exec_restart_accepted (RestartMode.ofByte_of named), State.replyDiscarded_of_reset (kind := 0x02) owned kind]
  case refused => exact exec_restart_refused (RestartMode.ofByte_of_gt other)
  case restart =>
    let v : State := { s with link := s.link.restarted }
    obtain ⟨link, sensors, -⟩ := v.startup_frame w.mode
    refine ⟨v.startup w.mode, exec_restartBegin waits, sensors, link, fun keep => ?_, fun reload idle => ?_,
      fun reload saving => ?_⟩
    · rw [keep]
      exact v.startup_keep
    · rw [reload]
      exact State.startup_reload idle
    · rw [reload]
      exact State.startup_reload_waits saving

end Sys2Proof.Machine
end
